-- ==== Sys2Proof/Word.lean ====
section
/-!
DEFINITION. The words of the control address space (R4) and the unit numbers of the device (R12).
-/
namespace Sys2Proof

/-- One word of the control address space: 40 bits (R4). -/
abbrev Word := BitVec 40

/-- One byte: a management-port or flash byte, or a 4+4-bit complex sample. -/
abbrev Byte := BitVec 8

/-- A word address of the control address space: 28 bits (R4). -/
abbrev WAddr := BitVec 28

/-- A lane index: 0-63 arrivals, 64-79 departures, 80-83 coupling lanes (R24). -/
abbrev LaneId := Fin 84

/-- An HBM stack (R12). -/
abbrev StackId := Fin 8

/-- A master of the Interlocking (Table 11.1). -/
abbrev Master := Fin 16

/-- A core: 0-7 the Dispatchers D0-D7, 8 the Signal Box (R243). -/
abbrev CoreId := Fin 9

/-- A data register W0-W15, or an address, offset or length register index. -/
abbrev WReg := Fin 16

/-- A coarse or fine sample index (48 bits, R18), carried as a natural number. -/
abbrev Index := Nat

end Sys2Proof
end

