-- ==== Sys2Proof/Config.lean ====
section
/-!
DEFINITION. What the spec leaves open as a value: free values (constants without a body). Nothing in
Lean can prove what they are, so every claim holds for each of their values. Logged in
notes/assumptions/5.md.
-/
namespace Sys2Proof.Config

/-- DESIGN CHOICE. The debug nonce the Depot draws "afresh from its random source at each full reset"
(R406); the argument is the free-value counter of State. -/
opaque freeNonce : Nat → BitVec 64

/-- DESIGN CHOICE. Whether a RESET_N low level of 1 to 10 microseconds is taken as a reset: "left open"
by R423, which allows only a complete reset or none. -/
opaque resetGlitch : Nat → Bool

/-- DESIGN CHOICE. The random salt of 32 bytes of an attestation's RSASSA-PSS signature (R390, R405); the argument is
the free-value counter of State. -/
opaque pssSalt : Nat → BitVec 256

/-- DESIGN CHOICE. The bits that the scan chain of a domain shifts out under JTAG scope while it takes in the bits of
the last argument: R407 names no order of the chain. The other arguments are the free-value counter, the domain and the
registers it holds. -/
opaque scanOut : Nat → Nat → List (Nat × Word) → List Bool → List Bool

/-- DESIGN CHOICE. The registers of the domain after that shift. -/
opaque scanIn : Nat → Nat → List (Nat × Word) → List Bool → List (Nat × Word)

/-- DESIGN CHOICE. Which bits of a stored word are wrong in a block or memory word that its code cannot
correct: the spec gives the number of wrong symbols, never their values. -/
opaque errorMask : Nat → Word

/-- DESIGN CHOICE. What a feed parity error (R156) adds to an interval sum of a cell at or beyond the
district that reported it: the manual gives no value for the sample that the cell received. The
arguments are the dwell counter, the boundary and the cell. -/
opaque feedError : Nat → Nat → Nat → Int × Int

/-- DESIGN CHOICE. A byte of the flash whose value the manual does not state: at an address beyond the
flash's density, or in the range of a program or erase that failed (R408). -/
opaque flashByte : Nat → Nat → Byte

/-- DESIGN CHOICE. The CRC-32 of the host-setting record in the crash record (CONSIST word 36): the layout
of that record is the Signal Box firmware's (R269, R303). -/
opaque settingsCrc : List (Nat × List Word) → BitVec 32

/-- DESIGN CHOICE. Whether a word of a timed-out write took effect at its target: "may or may not" (R282). -/
opaque timedOut : Nat → Bool

/-- DESIGN CHOICE. How many beats of a write had been transferred when its master was reset (R286). -/
opaque cutBeats : Nat → Nat

/-- DESIGN CHOICE. Whether a quotient that is no whole number is stored as the whole number above it, where the
manual names no rounding: the pacing interval of JCT_PACE (R172). The arguments are the numerator and the
denominator. -/
opaque roundsUp : Nat → Nat → Bool

/-- DESIGN CHOICE. The 257 bits of a group of alignment markers of the Ethernet personality: Table 3.9 names them by
their clause and does not state them. -/
opaque alignmentGroup : Nat → BitVec 257

/-- DESIGN CHOICE. A word whose value the manual does not state; the argument is the free-value counter
of State. -/
opaque freeWord : Nat → Word

end Sys2Proof.Config
end

