-- ==== Sys2Proof/Machine/Codes.lean ====
section
/-!
DEFINITION. The codes the manual names: Reed-Solomon parity over GF(2^10) (R55) and GF(2^8) (R118,
R163), the PRBS-31 scrambler (R56), the PAM4 mapping and precoder (R28, R29), CRC-32 of IEEE 802.3,
SHA-256 and the RSASSA-PSS verification of RFC 8017 (R390). PRESUMED: the constants and steps of
CRC-32, SHA-256 and RSASSA-PSS are those of the standards the manual names; log entry 6.
-/
namespace Sys2Proof.Machine

/-- A 32-bit word of SHA-256. -/
abbrev Word32 := BitVec 32

/-- Cut a list into pieces of `k`; `n` bounds how many. -/
def chunks {α : Type} (k : Nat) : Nat → List α → List (List α)
  | 0, _ => []
  | _ + 1, [] => []
  | n + 1, l => l.take k :: chunks k n (l.drop k)

/-! ### Reed-Solomon -/

/-- Product in GF(2^w) modulo the polynomial `poly` (its x^w term included), `n` bits of `b` left. -/
def gfMulAux (w poly : Nat) : Nat → Nat → Nat → Nat → Nat
  | 0, _, _, acc => acc
  | n + 1, a, b, acc =>
    let acc' := if b % 2 = 1 then acc ^^^ a else acc
    let a2 := 2 * a
    let a' := if a2 < 2 ^ w then a2 else a2 ^^^ poly
    gfMulAux w poly n a' (b / 2) acc'

def gfMul (w poly a b : Nat) : Nat := gfMulAux w poly w a b 0

/-- Coefficients of `p(x) (x - r)`, highest power first; `prev` is the coefficient above. -/
def rsTimes (w poly r : Nat) : Nat → List Nat → List Nat
  | prev, [] => [gfMul w poly prev r]
  | prev, c :: t => (c ^^^ gfMul w poly prev r) :: rsTimes w poly r c t

/-- The generator (x - α^0) … (x - α^(n-1)) without its leading 1, highest power first. -/
def rsGen (w poly : Nat) : Nat → Nat → List Nat → List Nat
  | 0, _, g => g
  | n + 1, r, g =>
    let g' := match g with
      | [] => [r]
      | c :: t => (c ^^^ r) :: rsTimes w poly r c t
    rsGen w poly n (gfMul w poly r 2) g'

def xorWith (f : Nat → Nat) : List Nat → List Nat → List Nat
  | [], gs => gs.map f
  | r :: rs, g :: gs => (r ^^^ f g) :: xorWith f rs gs
  | rs, [] => rs

/-- The remainder of message(x) x^n divided by the generator `g` (n = its length). -/
def rsParity (w poly : Nat) (g : List Nat) (msg : List Nat) : List Nat :=
  msg.foldl (fun reg m =>
    match reg with
    | [] => []
    | r0 :: rs =>
      let fb := m ^^^ r0
      xorWith (fun c => gfMul w poly fb c) (rs ++ [0]) g) (List.replicate g.length 0)

/-- `a` to the power `k`. -/
def gfPow (w poly a : Nat) : Nat → Nat
  | 0 => 1
  | n + 1 => gfMul w poly a (gfPow w poly a n)

/-- The inverse of a non-zero element: its power 2^w - 2, the product of a^2, a^4, .... -/
def gfInv (w poly a : Nat) : Nat :=
  ((List.range (w - 1)).foldl (fun (acc, x) _ =>
    let x := gfMul w poly x x
    (gfMul w poly acc x, x)) (1, a)).1

/-- The value at `x` of a polynomial with its highest coefficient first. -/
def gfEval (w poly x : Nat) (cs : List Nat) : Nat := cs.foldl (fun a c => gfMul w poly a x ^^^ c) 0

/-- α^0, α^1, … α^(n-1). -/
def gfPowers (w poly : Nat) : Nat → Nat → List Nat
  | 0, _ => []
  | n + 1, x => x :: gfPowers w poly n (gfMul w poly x 2)

/-- The sum of two polynomials, lowest coefficient first. -/
def polyAdd : List Nat → List Nat → List Nat
  | [], q => q
  | p, [] => p
  | a :: p, b :: q => (a ^^^ b) :: polyAdd p q

/-- Massey's shift-register synthesis over syndromes: the newest syndrome first in `seen`, the connection
polynomial `c` of length `l`, the last one that failed `b` (already shifted) with its discrepancy `db`. -/
def connect (w poly : Nat) : List Nat → List Nat → List Nat → Nat → List Nat → Nat → List Nat × Nat
  | [], _, c, l, _, _ => (c, l)
  | sy :: rest, seen, c, l, b, db =>
    let seen := sy :: seen
    let d := (List.zipWith (gfMul w poly) c seen).foldl (· ^^^ ·) 0
    let b := 0 :: b
    if d = 0 then connect w poly rest seen c l b db
    else
      let q := gfMul w poly d (gfInv w poly db)
      let c' := polyAdd c (b.map (gfMul w poly q))
      if 2 * l < seen.length then connect w poly rest seen c' (seen.length - l) c d
      else connect w poly rest seen c' l b db

/-- The error of weight at most `t` with these syndromes in a codeword of `len` symbols, as symbols to add;
none when there is no such error (Forney's formula for roots that begin with α^0). -/
def rsError (w poly t len : Nat) (syn : List Nat) : Option (List Nat) :=
  let (c, l) := connect w poly syn [] [1] 0 [1] 1
  let om := (List.range l).map fun k =>
    (List.zipWith (gfMul w poly) (c.take (k + 1)) (syn.take (k + 1)).reverse).foldl (· ^^^ ·) 0
  let odd := c.mapIdx fun k x => if k % 2 = 1 then x else 0
  let es := (gfPowers w poly len 1).reverse.map fun x =>
    let y := gfInv w poly x
    if gfEval w poly y c.reverse = 0 then
      gfMul w poly (gfEval w poly y om.reverse) (gfInv w poly (gfEval w poly y odd.reverse))
    else 0
  if l ≤ t ∧ es.countP (· ≠ 0) = l then some es else none

/-- Decoding (R55, R118, R163): the message and how many symbols were corrected, for `n` check symbols and a
corrector of `t` symbols; none when no error of weight `t` or less explains the codeword. -/
def rsDecode (w poly n t : Nat) (cw : List Nat) : Option (List Nat × Nat) :=
  let k := cw.length - n
  if rsParity w poly (rsGen w poly n 1 []) (cw.take k) = cw.drop k then some (cw.take k, 0)
  else
    let syn := (gfPowers w poly n 1).map fun x => gfEval w poly x cw
    match rsError w poly t cw.length syn with
    | none => none
    | some es =>
      let fixed := List.zipWith (· ^^^ ·) cw es
      if (gfPowers w poly n 1).all (fun x => gfEval w poly x fixed == 0) then
        some (fixed.take k, es.countP (· ≠ 0)) else none

/-- The 16 check symbols of a train (R55): GF(2^10) with x^10 + x^3 + 1. -/
def trainParity (msg : List Nat) : List Nat := rsParity 10 0x409 (rsGen 10 0x409 16 1 []) msg

/-- Parity over GF(2^8) with x^8 + x^4 + x^3 + x^2 + 1 and `n` check symbols. -/
def byteParity (n : Nat) (msg : List Nat) : List Nat := rsParity 8 0x11D (rsGen 8 0x11D n 1 []) msg

/-! ### Codewords over GF(2^8): S-shape RS(32,25) (R118), Y-shape RS(26,20) (R163) -/

/-- `n` most significant digits first of `x` in base 2^k. -/
def digits (k : Nat) : Nat → Nat → List Nat
  | 0, _ => []
  | n + 1, x => x / 2 ^ (k * n) % 2 ^ k :: digits k n x

/-- Big-endian value of bytes. -/
def bytesNat (bs : List Nat) : Nat := bs.foldl (fun a b => a * 256 + b) 0

/-- Five bytes in a word, most significant first (R6). -/
def packBytes (bs : List Nat) : Word := BitVec.ofNat 40 (bytesNat bs)

/-- A word's bytes, most significant first (R6). -/
def wordBytes (w : Word) : List Nat := digits 8 5 w.toNat

def wordsBytes (ws : List Word) : List Nat := ws.flatMap wordBytes

/-- The codeword of data words: their bytes, then `n` check bytes. -/
def codeword (n : Nat) (ws : List Word) : List Nat := wordsBytes ws ++ byteParity n (wordsBytes ws)

/-- Symbols in error under an error pattern on a codeword of `len` bytes, its first byte most significant. -/
def wrongSymbols (len mask : Nat) : Nat := (digits 8 len mask).countP (· ≠ 0)

/-- What the decoder answers for the codeword of `ws` under an error pattern: up to three wrong symbols are
corrected and up to `sure` are found; more are what the code makes of them. -/
def codeRead (n sure : Nat) (ws : List Word) (mask : Nat) : Option (List Word) :=
  let cw := codeword n ws
  let e := wrongSymbols (5 * ws.length + n) mask
  if e ≤ 3 then some ws
  else if e ≤ sure then none
  else (rsDecode 8 0x11D n 3 (List.zipWith (· ^^^ ·) cw (digits 8 cw.length mask))).map fun r =>
    (chunks 5 ws.length r.1).map packBytes

/-- The data words as they stand in the memory under an error pattern. -/
def codeStored (n : Nat) (ws : List Word) (mask : Nat) : List Word :=
  List.zipWith (fun w e => w ^^^ BitVec.ofNat 40 e) ws (digits 40 ws.length (mask / 2 ^ (8 * n)))

/-- An error pattern of `k` neighbouring symbols in a codeword of `len` bytes. Which symbols, and their values, are free
values drawn from `c` on: the spec gives the number alone. -/
def symbolErrors (len k c : Nat) : Nat :=
  (List.range k).foldl (fun m x => m ^^^ (1 + (Config.errorMask (c + x + 1)).toNat % 255)
    * 2 ^ (8 * (((Config.errorMask c).toNat + x) % len))) 0

/-! ### Trains on the line -/

/-- `n` bits of the PRBS-31 from state `s`: the bits as a number, first bit most significant, and the
state after them (R56). -/
def prbs31 : Nat → Nat → Nat → Nat × Nat
  | 0, s, acc => (acc, s)
  | n + 1, s, acc =>
    let b := (s / 2 ^ 30 + s / 2 ^ 27) % 2
    prbs31 n ((2 * s + b) % 2 ^ 31) (2 * acc + b)

/-- The additive scrambler over the cars of a train (R56). -/
def scramble : Nat → List Word → List Word
  | _, [] => []
  | s, c :: t => let r := prbs31 40 s 0; (c ^^^ BitVec.ofNat 40 r.1) :: scramble r.2 t

/-- The scrambler's state at a train's first car bit: SEQ << 19 or 0x5_3A6D. -/
def scrambleSeed (seq : Nat) : Nat := seq % 4096 * 2 ^ 19 ||| 0x53A6D

/-- The 520 payload symbols of R54 for an 80-bit header and (scrambled) cars. -/
def trainSymbols (header : Nat) (cars : List Word) : List Nat :=
  digits 10 8 header ++ cars.flatMap (fun c => digits 10 4 c.toNat)

/-- Gray code to symbol value (Table 2.2). -/
def gray (b : Nat) : BitVec 2 := match b with | 0 => 0#2 | 1 => 1#2 | 3 => 2#2 | _ => 3#2

/-- The 1/(1+D) precoder (R29): P(j) = (G(j) - P(j-1)) mod 4. -/
def precode : BitVec 2 → List (BitVec 2) → List (BitVec 2)
  | _, [] => []
  | p, g :: t => (g - p) :: precode (g - p) t

/-- The receive side of the precoder (R29): G(j) = (P(j) + P(j-1)) mod 4. -/
def unprecode : BitVec 2 → List (BitVec 2) → List (BitVec 2)
  | _, [] => []
  | p, x :: t => (x + p) :: unprecode x t

/-- Symbol value to Gray code (Table 2.2). -/
def ungray (x : BitVec 2) : Nat := match x.toNat with | 0 => 0 | 1 => 1 | 2 => 3 | _ => 2

/-- The number whose digits in base 2^k are given, most significant first. -/
def undigits (k : Nat) (ds : List Nat) : Nat := ds.foldl (fun a d => a * 2 ^ k + d) 0

/-- The comma (R33): ten symbols at +3, ten at -3. -/
def comma : List (BitVec 2) := List.replicate 10 3#2 ++ List.replicate 10 0#2

/-- A comma match: 20 levels that agree with the comma in at least 18 positions (R33). -/
def commaMatch (x : List (BitVec 2)) : Bool :=
  x.length == 20 && 18 ≤ (List.zipWith (fun a b => b2nat (a == b)) x comma).foldl (· + ·) 0
where b2nat (b : Bool) : Nat := if b then 1 else 0

/-- Polarity inversion swaps levels +v and -v (R30). -/
def invert (pol : Bool) (x : List (BitVec 2)) : List (BitVec 2) := if pol then x.map (3#2 - ·) else x

/-- The level of a symbol value (Table 2.2). -/
def level (x : BitVec 2) : Int := 2 * (x.toNat : Int) - 3

/-- The transmit FFE (R32): a_k MAIN - a_(k+1) PRE - a_(k-1) POST, in units of which 63 are full swing
times the level. -/
def ffe (pre main post : Nat) (aPrev a aNext : Int) : Int := a * main - aNext * pre - aPrev * post

/-! ### Test patterns (R46, R47): PRBS13Q and PRBS31Q -/

/-- Length of the pattern's shift register: GEN or CHK 1 is PRBS13Q, 2 is PRBS31Q. -/
def prbsLen (k : Nat) : Nat := if k = 1 then 13 else 31

/-- The next bit of the shift register: x^13 + x^12 + x^2 + x + 1, or x^31 + x^28 + 1. PRESUMED: log entry 77. -/
def prbsNext (k st : Nat) : Nat :=
  (if k = 1 then [12, 11, 1, 0] else [30, 27]).foldl (fun b i => (b + st / 2 ^ i) % 2) 0

/-- The register with bit `b` shifted in. -/
def prbsShift (k st b : Nat) : Nat := (2 * st + b) % 2 ^ prbsLen k

/-- The next Gray pair of a pattern and the register after it. PRBS31 is sent inverted. -/
def prbsPair (k st : Nat) : Nat × Nat :=
  let b1 := prbsNext k st
  let st := prbsShift k st b1
  let b0 := prbsNext k st
  ((2 * b1 + b0) ^^^ (if k = 1 then 0 else 3), prbsShift k st b0)

/-- The next `n` symbols of a pattern, and the register after them. -/
def prbsSymbols (k : Nat) : Nat → Nat → List (BitVec 2) × Nat
  | 0, st => ([], st)
  | n + 1, st =>
    let p := prbsPair k st
    let r := prbsSymbols k n p.2
    (gray p.1 :: r.1, r.2)

/-! ### CRC-32 (IEEE 802.3) -/

def crcBit (c : Nat) : Nat := if c % 2 = 1 then c / 2 ^^^ 0xEDB88320 else c / 2

def crcByte (c b : Nat) : Nat :=
  let x := c ^^^ b
  crcBit (crcBit (crcBit (crcBit (crcBit (crcBit (crcBit (crcBit x)))))))

def crc32 (bytes : List Nat) : Nat := (bytes.foldl crcByte 0xFFFFFFFF) ^^^ 0xFFFFFFFF

/-! ### SHA-256 -/

/-- The largest `r` below `acc + 2^n` with `r^k ≤ x`, found bit by bit from `acc`. -/
def rootBits (k x : Nat) : Nat → Nat → Nat
  | 0, acc => acc
  | n + 1, acc => rootBits k x n (if (acc + 2 ^ n) ^ k ≤ x then acc + 2 ^ n else acc)

/-- The first 32 bits of the fractional part of the k-th root of `p`. -/
def rootFrac (k p : Nat) : Nat := rootBits k (p * 2 ^ (32 * k)) 40 0 % 2 ^ 32

/-- The first `n` primes: trial division by the primes found so far. -/
def firstPrimes (n : Nat) : List Nat :=
  (List.range 312).foldl (fun ps x =>
    if 2 ≤ x ∧ ps.length < n ∧ ps.all (fun p => x % p ≠ 0) then ps ++ [x] else ps) []

/-- The round constants: cube roots of the first 64 primes. -/
def shaK : List Word32 := (firstPrimes 64).map fun p => BitVec.ofNat 32 (rootFrac 3 p)

/-- The initial hash: square roots of the first 8 primes. -/
def shaInit : List Word32 := (firstPrimes 8).map fun p => BitVec.ofNat 32 (rootFrac 2 p)

/-- The exclusive or of `x` rotated right by each of `ns`. -/
def rotXor (ns : List Nat) (x : Word32) : Word32 := (ns.map fun n => x.rotateRight n).foldl (· ^^^ ·) 0

/-- `n` more words of the message schedule, which is kept newest word first. -/
def shaExpand : Nat → List Word32 → List Word32
  | 0, w => w
  | n + 1, w =>
    let near := w.getD 1 0
    let far := w.getD 14 0
    let fresh := [w.getD 6 0, w.getD 15 0, rotXor [17, 19] near ^^^ near >>> 10, rotXor [7, 18] far ^^^ far >>> 3]
    shaExpand n (fresh.foldl (· + ·) 0 :: w)

/-- One round: the eight working variables as a list, with the round's constant and schedule word. -/
def shaStep (v : List Word32) (kw : Word32 × Word32) : List Word32 :=
  match v with
  | [a, b, c, d, e, f, g, h] =>
    let choice := g ^^^ (e &&& (f ^^^ g))
    let major := (a &&& (b ||| c)) ||| (b &&& c)
    let t := h + rotXor [6, 11, 25] e + choice + kw.1 + kw.2
    [t + rotXor [2, 13, 22] a + major, a, b, c, d + t, e, f, g]
  | _ => v

/-- The hash value after one block of 16 words. -/
def shaBlock (v ws : List Word32) : List Word32 :=
  List.zipWith (· + ·) v ((shaK.zip (shaExpand 48 ws.reverse).reverse).foldl shaStep v)

def shaPad (bs : List Nat) : List Nat :=
  let n := bs.length
  bs ++ [0x80] ++ List.replicate ((119 - n % 64) % 64) 0 ++ digits 8 8 (8 * n)

/-- SHA-256 of bytes, as 32 bytes. -/
def sha256 (bs : List Nat) : List Nat :=
  let p := shaPad bs
  let v := (chunks 64 p.length p).foldl
    (fun v blk => shaBlock v ((chunks 4 16 blk).map fun b => BitVec.ofNat 32 (bytesNat b))) shaInit
  v.flatMap fun x => digits 8 4 x.toNat

/-- A SHA-256 packed in 7 words as VHASH (Table 16.3): bits [255:240], then 40 bits per word. -/
def packHash (h : List Nat) : List Word :=
  let n := bytesNat h
  BitVec.ofNat 40 (n / 2 ^ 240) :: (digits 40 6 (n % 2 ^ 240)).map (BitVec.ofNat 40)

/-! ### RSASSA-PSS (R390): SHA-256, MGF1 with SHA-256, salt of 32 bytes, trailer 0xBC -/

/-- x^65537 mod n. -/
def powE (x n : Nat) : Nat :=
  let y := (List.range 16).foldl (fun y _ => y * y % n) (x % n)
  y * (x % n) % n

def mgf1 (seed : List Nat) (blocks : Nat) : List Nat :=
  (List.range blocks).flatMap fun i => sha256 (seed ++ digits 8 4 i)

/-- EM of 384 bytes for a modulus of 3,072 bits: emBits = 3,071. -/
def pssVerify (modulus : Nat) (msg sig : List Nat) : Bool :=
  let s := bytesNat sig
  let em := digits 8 384 (powE s modulus)
  let maskedDB := em.take 351
  let h := (em.drop 351).take 32
  let mask := (mgf1 h 11).take 351
  let db := (List.zipWith (· ^^^ ·) maskedDB mask)
  let db := match db with | [] => [] | b :: t => b % 128 :: t
  let salt := db.drop 319
  s < modulus && sig.length == 384 && em.getLast? == some 0xBC && maskedDB.headD 0 < 128
    && db.take 318 == List.replicate 318 0 && db.getD 318 0 == 1
    && sha256 (List.replicate 8 0 ++ sha256 msg ++ salt) == h

/-- x^d mod n, for a d of 3,072 bits, from its highest bit on. -/
def powMod (x d n : Nat) : Nat :=
  if n = 0 then 0
  else (List.range 3072).foldl (fun y k => let z := y * y % n; if d / 2 ^ (3071 - k) % 2 = 1 then z * x % n else z) (1 % n)

/-- The signature of 384 bytes that the private exponent `d` of a modulus makes under a salt of 32 bytes. -/
def pssSign (modulus d : Nat) (msg salt : List Nat) : List Nat :=
  let h := sha256 (List.replicate 8 0 ++ sha256 msg ++ salt)
  let db := List.replicate 318 0 ++ [1] ++ salt
  let masked := match List.zipWith (· ^^^ ·) db ((mgf1 h 11).take 351) with | [] => [] | b :: t => b % 128 :: t
  digits 8 384 (powMod (bytesNat (masked ++ h ++ [0xBC])) d modulus)

/-! ### Rounding -/

/-- Round half to even of x / d. -/
def rne (x : Int) (d : Nat) : Int :=
  let q := x / (d : Int)
  let r := x % (d : Int)
  if 2 * r < d then q else if 2 * r = d then (if q % 2 = 0 then q else q + 1) else q + 1

def clampI (lo hi x : Int) : Int := max lo (min hi x)

/-- The signed value of a component of `w` bits. -/
def sx (w : Nat) (v : Nat) : Int :=
  let v := v % 2 ^ w
  if v < 2 ^ (w - 1) then (v : Int) else (v : Int) - (2 ^ w : Nat)

/-- The two's-complement field of `w` bits of a signed value. -/
def fieldOf (w : Nat) (v : Int) : Nat := (v % ((2 ^ w : Nat) : Int)).toNat

end Sys2Proof.Machine
end

