-- ==== Sys2Proof/Machine/Regs.lean ====
section
/-!
DEFINITION. The register map: word addresses (namespace `R`) and fields (namespace `F`) of every
register table of spec/, under the manual's names. A numbered register takes its number; a register
described as several words (a LO/HI pair, words +0, +1, ...) has one base address, and its fields
name the word they lie in.
-/
namespace Sys2Proof.Machine

/-- A field of a register: the word it lies in (an offset from the base), its lowest bit, its width. -/
structure Fld where
  sub : Nat
  lo  : Nat
  w   : Nat
  deriving DecidableEq, Repr

namespace R

/-- TRK_CTRL at base + 0x000, 02_tracks.md. -/
def TRK_CTRL (i : Nat) : Nat := 0x2000000 + 0x1000 * i
/-- TRK_EQ at base + 0x001, 02_tracks.md. -/
def TRK_EQ (i : Nat) : Nat := 0x2000001 + 0x1000 * i
/-- TRK_LINKID at base + 0x002, 02_tracks.md. -/
def TRK_LINKID (i : Nat) : Nat := 0x2000002 + 0x1000 * i
/-- TRK_STATE at base + 0x003, 02_tracks.md. -/
def TRK_STATE (i : Nat) : Nat := 0x2000003 + 0x1000 * i
/-- TRK_PEER at base + 0x004, 02_tracks.md. -/
def TRK_PEER (i : Nat) : Nat := 0x2000004 + 0x1000 * i
/-- TRK_STATUS at base + 0x005, 02_tracks.md. -/
def TRK_STATUS (i : Nat) : Nat := 0x2000005 + 0x1000 * i
/-- TRK_TEST at base + 0x006, 02_tracks.md. -/
def TRK_TEST (i : Nat) : Nat := 0x2000006 + 0x1000 * i
/-- TRK_PERR_LO, TRK_PERR_HI at base + 0x007, 0x008, 02_tracks.md. -/
def TRK_PERR (i : Nat) : Nat := 0x2000007 + 0x1000 * i
/-- TRK_PCMP_LO, TRK_PCMP_HI at base + 0x009, 0x00A, 02_tracks.md. -/
def TRK_PCMP (i : Nat) : Nat := 0x2000009 + 0x1000 * i
/-- TRK_RXQ at base + 0x00B, 02_tracks.md. -/
def TRK_RXQ (i : Nat) : Nat := 0x200000B + 0x1000 * i
/-- TRK_QUADq at 0x20F_0000 + q, q = 0-3, 02_tracks.md. -/
def TRK_QUAD (i : Nat) : Nat := 0x20F0000 + 0x1 * i
/-- PTS_FRSTAT at base + 0x0, 03_trains.md. -/
def PTS_FRSTAT (i : Nat) : Nat := 0x30F0000 + 0x10 * i
/-- PTS_FRTRN at base + 0x1, 03_trains.md. -/
def PTS_FRTRN (i : Nat) : Nat := 0x30F0001 + 0x10 * i
/-- PTS_FRCSYM at base + 0x2, 03_trains.md. -/
def PTS_FRCSYM (i : Nat) : Nat := 0x30F0002 + 0x10 * i
/-- PTS_FRUNC at base + 0x3, 03_trains.md. -/
def PTS_FRUNC (i : Nat) : Nat := 0x30F0003 + 0x10 * i
/-- PTS_FRLATE at base + 0x4, 03_trains.md. -/
def PTS_FRLATE (i : Nat) : Nat := 0x30F0004 + 0x10 * i
/-- PTS_FRLOST at base + 0x5, 03_trains.md. -/
def PTS_FRLOST (i : Nat) : Nat := 0x30F0005 + 0x10 * i
/-- PTS_FRCTL at base + 0x6, 03_trains.md. -/
def PTS_FRCTL (i : Nat) : Nat := 0x30F0006 + 0x10 * i
/-- PTS_ARRCFG at 0x30F_0800, 03_trains.md. -/
def PTS_ARRCFG : Nat := 0x30F0800
/-- PTS_TTSER at 0x30F_0801, 03_trains.md. -/
def PTS_TTSER : Nat := 0x30F0801
/-- PTS_FRONT_LO, PTS_FRONT_HI at 0x30F_0802, 0x30F_0803, 03_trains.md. -/
def PTS_FRONT : Nat := 0x30F0802
/-- PTS_CFG at 0x300_0000, 04_points_gauges.md. -/
def PTS_CFG : Nat := 0x3000000
/-- PTS_CTRL at 0x300_0001, 04_points_gauges.md. -/
def PTS_CTRL : Nat := 0x3000001
/-- PTS_FC at 0x300_0002, 04_points_gauges.md. -/
def PTS_FC : Nat := 0x3000002
/-- PTS_SEGCFG at 0x300_0003, 04_points_gauges.md. -/
def PTS_SEGCFG : Nat := 0x3000003
/-- PTS_DLYCFG at 0x300_0004, 04_points_gauges.md. -/
def PTS_DLYCFG : Nat := 0x3000004
/-- PTS_BANKS at 0x300_0005, 04_points_gauges.md. -/
def PTS_BANKS : Nat := 0x3000005
/-- PTS_PSEG at 0x300_0006, 04_points_gauges.md. -/
def PTS_PSEG : Nat := 0x3000006
/-- PTS_PSEG_SIG at 0x300_0007, 04_points_gauges.md. -/
def PTS_PSEG_SIG : Nat := 0x3000007
/-- PTS_PSEG_CHK at 0x300_0008, 04_points_gauges.md. -/
def PTS_PSEG_CHK : Nat := 0x3000008
/-- PTS_GCTL at 0x300_0009, 04_points_gauges.md. -/
def PTS_GCTL : Nat := 0x3000009
/-- PTS_AUTOLEAD at 0x300_000A, 04_points_gauges.md. -/
def PTS_AUTOLEAD : Nat := 0x300000A
/-- PTS_STATUS at 0x300_000B, 04_points_gauges.md. -/
def PTS_STATUS : Nat := 0x300000B
/-- PTS_DSET0, PTS_DSET1 at 0x300_000C, 0x300_000D, 04_points_gauges.md. -/
def PTS_DSET (i : Nat) : Nat := 0x300000C + 0x1 * i
/-- PTS_GPAGE at 0x300_000E, 04_points_gauges.md. -/
def PTS_GPAGE : Nat := 0x300000E
/-- PTS_CHANc at 0x300_0100 + c, c = 0-63, 04_points_gauges.md. -/
def PTS_CHAN (i : Nat) : Nat := 0x3000100 + 0x1 * i
/-- PTS_BPk at 0x300_0200 + k, k = 0-63, 04_points_gauges.md. -/
def PTS_BP (i : Nat) : Nat := 0x3000200 + 0x1 * i
/-- GAU_CFG at 0x310_0000, 04_points_gauges.md. -/
def GAU_CFG : Nat := 0x3100000
/-- GAU_SNAP at 0x310_0001, 04_points_gauges.md. -/
def GAU_SNAP : Nat := 0x3100001
/-- GAU_SNAPIDX_LO, GAU_SNAPIDX_HI at 0x310_0002, 0x310_0003, 04_points_gauges.md. -/
def GAU_SNAPIDX : Nat := 0x3100002
/-- GAU_HALT at 0x310_0004, 04_points_gauges.md. -/
def GAU_HALT : Nat := 0x3100004
/-- GAU_SPAGE at 0x310_0005, 04_points_gauges.md. -/
def GAU_SPAGE : Nat := 0x3100005
/-- GAU_PROFp at 0x310_0010 + 4p, p = 0-7, 04_points_gauges.md. -/
def GAU_PROF (i : Nat) : Nat := 0x3100010 + 0x4 * i
/-- GAU_GRPg at 0x310_0100 + g, g = 0-63, 04_points_gauges.md. -/
def GAU_GRP (i : Nat) : Nat := 0x3100100 + 0x1 * i
/-- GAU_GEVTg at 0x310_0200 + 2g, g = 0-63, 04_points_gauges.md. -/
def GAU_GEVT (i : Nat) : Nat := 0x3100200 + 0x2 * i
/-- GAU_STAT window at 0x311_0000 .. 0x311_FFFF, 04_points_gauges.md. -/
def GAU_STAT : Nat := 0x3110000
/-- SDG_CTRL at 0x400_0000, 05_sidings.md. -/
def SDG_CTRL : Nat := 0x4000000
/-- SDG_PLEN at 0x400_0001, 05_sidings.md. -/
def SDG_PLEN : Nat := 0x4000001
/-- SDG_ORIGIN_LO, SDG_ORIGIN_HI at 0x400_0002, 0x400_0003, 05_sidings.md. -/
def SDG_ORIGIN : Nat := 0x4000002
/-- SDG_PERIOD at 0x400_0004, 05_sidings.md. -/
def SDG_PERIOD : Nat := 0x4000004
/-- SDG_STACKS at 0x400_0005, 05_sidings.md. -/
def SDG_STACKS : Nat := 0x4000005
/-- SDG_PASR at 0x400_0006, 05_sidings.md. -/
def SDG_PASR : Nat := 0x4000006
/-- SDG_TEMP at 0x400_0007, 05_sidings.md. -/
def SDG_TEMP : Nat := 0x4000007
/-- SDG_SCRUB at 0x400_0008, 05_sidings.md. -/
def SDG_SCRUB : Nat := 0x4000008
/-- SDG_SCRUBPOS at 0x400_0009, 05_sidings.md. -/
def SDG_SCRUBPOS : Nat := 0x4000009
/-- SDG_ECCTH at 0x400_000A, 05_sidings.md. -/
def SDG_ECCTH : Nat := 0x400000A
/-- SDG_APAGE at 0x400_000B, 05_sidings.md. -/
def SDG_APAGE : Nat := 0x400000B
/-- SDG_STATUS at 0x400_000C, 05_sidings.md. -/
def SDG_STATUS : Nat := 0x400000C
/-- SDG_STKs at 0x400_0010 + s, s = 0-7, 05_sidings.md. -/
def SDG_STK (i : Nat) : Nat := 0x4000010 + 0x1 * i
/-- SDG_PORTp at 0x400_0020 + p, p = 0-4, 05_sidings.md. -/
def SDG_PORT (i : Nat) : Nat := 0x4000020 + 0x1 * i
/-- SDG_CAPc at 0x400_0040 + 4c, c = 0-3, 05_sidings.md. -/
def SDG_CAP (i : Nat) : Nat := 0x4000040 + 0x4 * i
/-- SDG_OHTAGe at 0x400_0080 + e, e = 0-15, 05_sidings.md. -/
def SDG_OHTAG (i : Nat) : Nat := 0x4000080 + 0x1 * i
/-- JCT_CTRL at 0x500_0000, 06_junction.md. -/
def JCT_CTRL : Nat := 0x5000000
/-- JCT_STATE at 0x500_0001, 06_junction.md. -/
def JCT_STATE : Nat := 0x5000001
/-- JCT_DWELL_LO, JCT_DWELL_HI at 0x500_0002, 0x500_0003, 06_junction.md. -/
def JCT_DWELL : Nat := 0x5000002
/-- JCT_PACE at 0x500_0004, 06_junction.md. -/
def JCT_PACE : Nat := 0x5000004
/-- JCT_DISTRICT at 0x500_0005, 06_junction.md. -/
def JCT_DISTRICT : Nat := 0x5000005
/-- JCT_STATUS at 0x500_0006, 06_junction.md. -/
def JCT_STATUS : Nat := 0x5000006
/-- JCT_RAKEg at 0x500_0010 + 4g, g = 0-7, 06_junction.md. -/
def JCT_RAKE (i : Nat) : Nat := 0x5000010 + 0x4 * i
/-- JCT_ORDER at 0x500_0100 + k, k = 0-35, 06_junction.md. -/
def JCT_ORDER (i : Nat) : Nat := 0x5000100 + 0x1 * i
/-- JCT_RMASK window at 0x500_1000 .. 0x500_13FF, 06_junction.md. -/
def JCT_RMASK (i : Nat) : Nat := 0x5001000 + 0x1 * i
/-- YRD_CFG at 0x500_2000, 06_junction.md. -/
def YRD_CFG : Nat := 0x5002000
/-- YRD_POISON at 0x500_2001, 06_junction.md. -/
def YRD_POISON : Nat := 0x5002001
/-- YRD_ECC window at 0x500_2100 .. 0x500_217F, 06_junction.md. -/
def YRD_ECC : Nat := 0x5002100
/-- TMN_CTRL at 0x600_0000, 07_terminus.md. -/
def TMN_CTRL : Nat := 0x6000000
/-- TMN_ID at 0x600_0001, 07_terminus.md. -/
def TMN_ID : Nat := 0x6000001
/-- TMN_STATUS at 0x600_0002, 07_terminus.md. -/
def TMN_STATUS : Nat := 0x6000002
/-- TMN_BUF at 0x600_0003, 07_terminus.md. -/
def TMN_BUF : Nat := 0x6000003
/-- TMN_CAPNUM at 0x600_0004, 07_terminus.md. -/
def TMN_CAPNUM : Nat := 0x6000004
/-- TMN_MHEAD at 0x600_0005, 07_terminus.md. -/
def TMN_MHEAD : Nat := 0x6000005
/-- TMN_ROUTEr at 0x600_0100 + 8r, r = 0-15, 07_terminus.md. -/
def TMN_ROUTE (i : Nat) : Nat := 0x6000100 + 0x8 * i
/-- TMN_DEPd at 0x600_0200 + 4d, d = 0-15, 07_terminus.md. -/
def TMN_DEP (i : Nat) : Nat := 0x6000200 + 0x4 * i
/-- TBL_CTRL at 0x320_0000, 08_turntable.md. -/
def TBL_CTRL : Nat := 0x3200000
/-- TBL_CFG at 0x320_0001, 08_turntable.md. -/
def TBL_CFG : Nat := 0x3200001
/-- TBL_BANKS at 0x320_0002, 08_turntable.md. -/
def TBL_BANKS : Nat := 0x3200002
/-- TBL_DTAG at 0x320_0003, 08_turntable.md. -/
def TBL_DTAG : Nat := 0x3200003
/-- TBL_DSIG at 0x320_0004, 08_turntable.md. -/
def TBL_DSIG : Nat := 0x3200004
/-- TBL_DCHK at 0x320_0005, 08_turntable.md. -/
def TBL_DCHK : Nat := 0x3200005
/-- TBL_STATUS at 0x320_0006, 08_turntable.md. -/
def TBL_STATUS : Nat := 0x3200006
/-- TBL_STORE at 0x320_0007, 08_turntable.md. -/
def TBL_STORE : Nat := 0x3200007
/-- TBL_BEAMb at 0x320_0100 + 2b, b = 0-127, 08_turntable.md. -/
def TBL_BEAM (i : Nat) : Nat := 0x3200100 + 0x2 * i
/-- TTB_CLKCFG at 0x100_0000, 09_timetable.md. -/
def TTB_CLKCFG : Nat := 0x1000000
/-- TTB_STATUS at 0x100_0001, 09_timetable.md. -/
def TTB_STATUS : Nat := 0x1000001
/-- TTB_STATE at 0x100_0002, 09_timetable.md. -/
def TTB_STATE : Nat := 0x1000002
/-- TTB_TICK_LO, TTB_TICK_HI at 0x100_0003, 0x100_0004, 09_timetable.md. -/
def TTB_TICK : Nat := 0x1000003
/-- TTB_PPSTICK_LO, TTB_PPSTICK_HI at 0x100_0005, 0x100_0006, 09_timetable.md. -/
def TTB_PPSTICK : Nat := 0x1000005
/-- TTB_PPSCNT at 0x100_0007, 09_timetable.md. -/
def TTB_PPSCNT : Nat := 0x1000007
/-- TTB_LEAD at 0x100_0008, 09_timetable.md. -/
def TTB_LEAD : Nat := 0x1000008
/-- TTB_EPOCH at 0x100_0009 .. 0x100_000E, 09_timetable.md. -/
def TTB_EPOCH : Nat := 0x1000009
/-- TTB_NOMRATE at 0x100_000F, 09_timetable.md. -/
def TTB_NOMRATE : Nat := 0x100000F
/-- TTB_EPOCHTOL at 0x100_0010, 09_timetable.md. -/
def TTB_EPOCHTOL : Nat := 0x1000010
/-- TTB_SNAP at 0x100_0030 .. 0x100_0032, 09_timetable.md. -/
def TTB_SNAP : Nat := 0x1000030
/-- TTB_MARK at 0x100_0033, 09_timetable.md. -/
def TTB_MARK : Nat := 0x1000033
/-- TTB_DPR_LO, TTB_DPR_HI at 0x100_0034, 0x100_0035, 09_timetable.md. -/
def TTB_DPR : Nat := 0x1000034
/-- TTB_ENQs at 0x100_0040 + 4s, s = 0-9, 09_timetable.md. -/
def TTB_ENQ (i : Nat) : Nat := 0x1000040 + 0x4 * i
/-- DSPn_CTRL at base + 0x00, 10_dispatchers.md. -/
def DSP_CTRL (i : Nat) : Nat := 0xF00000 + 0x100 * i
/-- DSPn_STATE at base + 0x01, 10_dispatchers.md. -/
def DSP_STATE (i : Nat) : Nat := 0xF00001 + 0x100 * i
/-- DSPn_IEN at base + 0x02, 10_dispatchers.md. -/
def DSP_IEN (i : Nat) : Nat := 0xF00002 + 0x100 * i
/-- DSPn_IPEND at base + 0x03, 10_dispatchers.md. -/
def DSP_IPEND (i : Nat) : Nat := 0xF00003 + 0x100 * i
/-- DSPn_DOOR at base + 0x04, 10_dispatchers.md. -/
def DSP_DOOR (i : Nat) : Nat := 0xF00004 + 0x100 * i
/-- DSPn_TIMER at base + 0x05, 10_dispatchers.md. -/
def DSP_TIMER (i : Nat) : Nat := 0xF00005 + 0x100 * i
/-- DSPn_FCMP_LO, DSPn_FCMP_HI at base + 0x06, 0x07, 10_dispatchers.md. -/
def DSP_FCMP (i : Nat) : Nat := 0xF00006 + 0x100 * i
/-- DSPn_WDOG at base + 0x08, 10_dispatchers.md. -/
def DSP_WDOG (i : Nat) : Nat := 0xF00008 + 0x100 * i
/-- DSPn_MEMERR at base + 0x09, 10_dispatchers.md. -/
def DSP_MEMERR (i : Nat) : Nat := 0xF00009 + 0x100 * i
/-- ILK_CTRL at 0x102_0000, 11_interlocking_events.md. -/
def ILK_CTRL : Nat := 0x1020000
/-- ILK_STATUS at 0x102_0001, 11_interlocking_events.md. -/
def ILK_STATUS : Nat := 0x1020001
/-- ILK_ERR at 0x102_0002, 11_interlocking_events.md. -/
def ILK_ERR : Nat := 0x1020002
/-- ILK_MSTm at 0x102_0010 + m, m = 0-15, 11_interlocking_events.md. -/
def ILK_MST (i : Nat) : Nat := 0x1020010 + 0x1 * i
/-- ILK_SHNs at 0x102_0020 + 4s, s = 0-3, 11_interlocking_events.md. -/
def ILK_SHN (i : Nat) : Nat := 0x1020020 + 0x4 * i
/-- BEL_CTRL at 0x101_0000, 11_interlocking_events.md. -/
def BEL_CTRL : Nat := 0x1010000
/-- BEL_LOGPOS at 0x101_0001, 11_interlocking_events.md. -/
def BEL_LOGPOS : Nat := 0x1010001
/-- BEL_STSw at 0x101_0100 + w, w = 0-31, 11_interlocking_events.md. -/
def BEL_STS (i : Nat) : Nat := 0x1010100 + 0x1 * i
/-- BEL_Qc at 0x101_0200 + c, c = 0-8, 11_interlocking_events.md. -/
def BEL_Q (i : Nat) : Nat := 0x1010200 + 0x1 * i
/-- BEL_SRCe at 0x101_1000 + e, e = 0-1,023, 11_interlocking_events.md. -/
def BEL_SRC (i : Nat) : Nat := 0x1011000 + 0x1 * i
/-- BEL_LOG window at 0x101_2000 .. 0x101_23FF, 11_interlocking_events.md. -/
def BEL_LOG : Nat := 0x1012000
/-- MGT_CFG at 0x103_0000, 11_interlocking_events.md. -/
def MGT_CFG : Nat := 0x1030000
/-- MGT_STATUS at 0x103_0001, 11_interlocking_events.md. -/
def MGT_STATUS : Nat := 0x1030001
/-- MGT_CNT at 0x103_0002, 11_interlocking_events.md. -/
def MGT_CNT : Nat := 0x1030002
/-- MGT_CSEQ at 0x103_0003, 11_interlocking_events.md. -/
def MGT_CSEQ : Nat := 0x1030003
/-- INS_CTRL at 0x508_0000, 12_fault_coverage.md. -/
def INS_CTRL : Nat := 0x5080000
/-- INS_STATE at 0x508_0001, 12_fault_coverage.md. -/
def INS_STATE : Nat := 0x5080001
/-- INS_STATUS at 0x508_0002, 12_fault_coverage.md. -/
def INS_STATUS : Nat := 0x5080002
/-- INS_COUNT at 0x508_0003, 12_fault_coverage.md. -/
def INS_COUNT : Nat := 0x5080003
/-- INS_BUSERR at 0x508_0004, 12_fault_coverage.md. -/
def INS_BUSERR : Nat := 0x5080004
/-- INS_LOGPOS at 0x508_0005, 12_fault_coverage.md. -/
def INS_LOGPOS : Nat := 0x5080005
/-- INS_COLMAPs at 0x508_0010 + s, s = 0-7, 12_fault_coverage.md. -/
def INS_COLMAP (i : Nat) : Nat := 0x5080010 + 0x1 * i
/-- INS_ROWMAPs at 0x508_0018 + s, s = 0-3, 12_fault_coverage.md. -/
def INS_ROWMAP (i : Nat) : Nat := 0x5080018 + 0x1 * i
/-- INS_INJ at 0x508_0020 .. 0x508_0022, 12_fault_coverage.md. -/
def INS_INJ : Nat := 0x5080020
/-- INS_CLKMONc at 0x508_0040 + c, c = 0-6, 12_fault_coverage.md. -/
def INS_CLKMON (i : Nat) : Nat := 0x5080040 + 0x1 * i
/-- INS_LOG window at 0x508_0100 .. 0x508_013F, 12_fault_coverage.md. -/
def INS_LOG : Nat := 0x5080100
/-- CPL_CTRL at 0x107_0000, 13_twins.md. -/
def CPL_CTRL : Nat := 0x1070000
/-- CPL_ID at 0x107_0001, 13_twins.md. -/
def CPL_ID : Nat := 0x1070001
/-- CPL_STATE at 0x107_0002, 13_twins.md. -/
def CPL_STATE : Nat := 0x1070002
/-- CPL_PEER at 0x107_0003, 13_twins.md. -/
def CPL_PEER : Nat := 0x1070003
/-- CPL_STATUS at 0x107_0004, 13_twins.md. -/
def CPL_STATUS : Nat := 0x1070004
/-- CPL_MIRROR at 0x107_0005, 13_twins.md. -/
def CPL_MIRROR : Nat := 0x1070005
/-- CPL_JOIN_LO, CPL_JOIN_HI at 0x107_0006, 0x107_0007, 13_twins.md. -/
def CPL_JOIN : Nat := 0x1070006
/-- CPL_JSTART_LO, CPL_JSTART_HI at 0x107_0008, 0x107_0009, 13_twins.md. -/
def CPL_JSTART : Nat := 0x1070008
/-- CPL_HBCNT at 0x107_000A, 13_twins.md. -/
def CPL_HBCNT : Nat := 0x107000A
/-- CPL_CNT at 0x107_000B, 13_twins.md. -/
def CPL_CNT : Nat := 0x107000B
/-- SUB_CTRL at 0x106_0000, 14_power_states_resets.md. -/
def SUB_CTRL : Nat := 0x1060000
/-- SUB_STATE at 0x106_0001, 14_power_states_resets.md. -/
def SUB_STATE : Nat := 0x1060001
/-- SUB_HEADWAY at 0x106_0002, 14_power_states_resets.md. -/
def SUB_HEADWAY : Nat := 0x1060002
/-- SUB_WAKETMO at 0x106_0003, 14_power_states_resets.md. -/
def SUB_WAKETMO : Nat := 0x1060003
/-- SUB_STATUS at 0x106_0004, 14_power_states_resets.md. -/
def SUB_STATUS : Nat := 0x1060004
/-- SUB_RETFAIL at 0x106_0005, 14_power_states_resets.md. -/
def SUB_RETFAIL : Nat := 0x1060005
/-- SUB_RETCNT at 0x106_0006, 14_power_states_resets.md. -/
def SUB_RETCNT : Nat := 0x1060006
/-- SUB_REGr at 0x106_0010 + r, r = 0-3, 14_power_states_resets.md. -/
def SUB_REG (i : Nat) : Nat := 0x1060010 + 0x1 * i
/-- SUB_DOMd at 0x106_0100 + d, d = 0-34, 14_power_states_resets.md. -/
def SUB_DOM (i : Nat) : Nat := 0x1060100 + 0x1 * i
/-- LMP_WATCH at 0x105_0000, 14_power_states_resets.md. -/
def LMP_WATCH : Nat := 0x1050000
/-- LMP_WAKEEN at 0x105_0001, 14_power_states_resets.md. -/
def LMP_WAKEEN : Nat := 0x1050001
/-- LMP_ALARM_LO, LMP_ALARM_HI at 0x105_0002, 0x105_0003, 14_power_states_resets.md. -/
def LMP_ALARM : Nat := 0x1050002
/-- LMP_LCNT_LO, LMP_LCNT_HI at 0x105_0004, 0x105_0005, 14_power_states_resets.md. -/
def LMP_LCNT : Nat := 0x1050004
/-- LMP_RSTREC at 0x105_0006, 14_power_states_resets.md. -/
def LMP_RSTREC : Nat := 0x1050006
/-- LMP_WAKEREC at 0x105_0007, 14_power_states_resets.md. -/
def LMP_WAKEREC : Nat := 0x1050007
/-- LMP_WATCHCNT at 0x105_0008, 14_power_states_resets.md. -/
def LMP_WATCHCNT : Nat := 0x1050008
/-- LMP_SCRATCHs at 0x105_0010 + s, s = 0-3, 14_power_states_resets.md. -/
def LMP_SCRATCH (i : Nat) : Nat := 0x1050010 + 0x1 * i
/-- AOU_CTRLn at 0x106_1000 + 0x10 x n, n = 0-3, 15_substation_outputs.md. -/
def AOU_CTRL (i : Nat) : Nat := 0x1061000 + 0x10 * i
/-- AOU_TARGETn at base + 0x1, 15_substation_outputs.md. -/
def AOU_TARGET (i : Nat) : Nat := 0x1061001 + 0x10 * i
/-- AOU_DRIVENn at base + 0x2, 15_substation_outputs.md. -/
def AOU_DRIVEN (i : Nat) : Nat := 0x1061002 + 0x10 * i
/-- AOU_SLEWn at base + 0x3, 15_substation_outputs.md. -/
def AOU_SLEW (i : Nat) : Nat := 0x1061003 + 0x10 * i
/-- AOU_LIMn at base + 0x4, 15_substation_outputs.md. -/
def AOU_LIM (i : Nat) : Nat := 0x1061004 + 0x10 * i
/-- AOU_TRIMn at base + 0x5, 15_substation_outputs.md. -/
def AOU_TRIM (i : Nat) : Nat := 0x1061005 + 0x10 * i
/-- AOU_METERn at base + 0x6 .. 0x7, 15_substation_outputs.md. -/
def AOU_METER (i : Nat) : Nat := 0x1061006 + 0x10 * i
/-- AOU_STATn at base + 0x8, 15_substation_outputs.md. -/
def AOU_STAT (i : Nat) : Nat := 0x1061008 + 0x10 * i
/-- MON_CTRL at 0x106_2000, 15_substation_outputs.md. -/
def MON_CTRL : Nat := 0x1062000
/-- MON_STATUS at 0x106_2001, 15_substation_outputs.md. -/
def MON_STATUS : Nat := 0x1062001
/-- MON_RESc at 0x106_2100 + c, c = 0-35, 15_substation_outputs.md. -/
def MON_RES (i : Nat) : Nat := 0x1062100 + 0x1 * i
/-- MON_THc at 0x106_2200 + 2c, c = 0-35, 15_substation_outputs.md. -/
def MON_TH (i : Nat) : Nat := 0x1062200 + 0x2 * i
/-- DEP_STATE at 0x104_0000, 16_depot_security.md. -/
def DEP_STATE : Nat := 0x1040000
/-- DEP_STATUS at 0x104_0001, 16_depot_security.md. -/
def DEP_STATUS : Nat := 0x1040001
/-- DEP_SLOT0, DEP_SLOT1 at 0x104_0002, 0x104_0003, 16_depot_security.md. -/
def DEP_SLOT (i : Nat) : Nat := 0x1040002 + 0x1 * i
/-- DEP_PLAN at 0x104_0004, 16_depot_security.md. -/
def DEP_PLAN : Nat := 0x1040004
/-- DEP_BOARD at 0x104_0005, 16_depot_security.md. -/
def DEP_BOARD : Nat := 0x1040005
/-- DEP_DBG at 0x104_0006, 16_depot_security.md. -/
def DEP_DBG : Nat := 0x1040006
/-- DEP_DBGNONCE_LO, DEP_DBGNONCE_HI at 0x104_0007, 0x104_0008, 16_depot_security.md. -/
def DEP_DBGNONCE : Nat := 0x1040007
/-- DEP_FLCTRL at 0x104_0009, 16_depot_security.md. -/
def DEP_FLCTRL : Nat := 0x1040009
/-- DEP_FLCMD at 0x104_000A, 16_depot_security.md. -/
def DEP_FLCMD : Nat := 0x104000A
/-- DEP_FLADDR at 0x104_000B, 16_depot_security.md. -/
def DEP_FLADDR : Nat := 0x104000B
/-- DEP_FLLEN at 0x104_000C, 16_depot_security.md. -/
def DEP_FLLEN : Nat := 0x104000C

end R

namespace F

def TRK_CTRL_EN : Fld := ⟨0, 0, 1⟩
def TRK_CTRL_PERS : Fld := ⟨0, 1, 1⟩
def TRK_CTRL_HSK_MODE : Fld := ⟨0, 2, 1⟩
def TRK_CTRL_PREC_TX : Fld := ⟨0, 3, 1⟩
def TRK_CTRL_PREC_RX : Fld := ⟨0, 4, 1⟩
def TRK_CTRL_POL_TX : Fld := ⟨0, 5, 1⟩
def TRK_CTRL_POL_RX : Fld := ⟨0, 6, 1⟩
def TRK_CTRL_LPBK : Fld := ⟨0, 7, 1⟩
def TRK_CTRL_WATCH : Fld := ⟨0, 8, 1⟩
def TRK_CTRL_TRST : Fld := ⟨0, 9, 1⟩
def TRK_EQ_PRE : Fld := ⟨0, 0, 4⟩
def TRK_EQ_MAIN : Fld := ⟨0, 4, 6⟩
def TRK_EQ_POST : Fld := ⟨0, 10, 5⟩
def TRK_EQ_CTLE : Fld := ⟨0, 15, 4⟩
def TRK_EQ_DFE : Fld := ⟨0, 19, 6⟩
def TRK_LINKID_OWN_ID : Fld := ⟨0, 0, 16⟩
def TRK_LINKID_PEER_ID : Fld := ⟨0, 16, 16⟩
def TRK_STATE_STATE : Fld := ⟨0, 0, 3⟩
def TRK_STATE_CAUSE : Fld := ⟨0, 3, 4⟩
def TRK_STATE_HOLDOFF : Fld := ⟨0, 7, 1⟩
def TRK_STATE_RATE_PEND : Fld := ⟨0, 8, 1⟩
def TRK_STATE_RXLINK : Fld := ⟨0, 9, 1⟩
def TRK_STATE_QLOCK : Fld := ⟨0, 10, 1⟩
def TRK_STATE_PARKED : Fld := ⟨0, 11, 1⟩
def TRK_STATE_TRANS : Fld := ⟨0, 12, 16⟩
def TRK_PEER_LINK_ID : Fld := ⟨0, 0, 16⟩
def TRK_PEER_STAGE : Fld := ⟨0, 16, 2⟩
def TRK_PEER_ANY : Fld := ⟨0, 18, 1⟩
def TRK_STATUS_ENERGY_LOST : Fld := ⟨0, 0, 1⟩
def TRK_STATUS_CDR_FAIL : Fld := ⟨0, 1, 1⟩
def TRK_STATUS_COMMA_FAIL : Fld := ⟨0, 2, 1⟩
def TRK_STATUS_FRAME_FAIL : Fld := ⟨0, 3, 1⟩
def TRK_STATUS_HSK_FAIL : Fld := ⟨0, 4, 1⟩
def TRK_STATUS_IDENTITY : Fld := ⟨0, 5, 1⟩
def TRK_STATUS_TOKEN_LOSS : Fld := ⟨0, 6, 1⟩
def TRK_STATUS_RATE_ABORT : Fld := ⟨0, 7, 1⟩
def TRK_STATUS_EQ_REJ : Fld := ⟨0, 8, 1⟩
def TRK_STATUS_QPLL_LOST : Fld := ⟨0, 9, 1⟩
def TRK_STATUS_PEER_RESTART : Fld := ⟨0, 10, 1⟩
def TRK_STATUS_PRBS_LOSS : Fld := ⟨0, 11, 1⟩
def TRK_TEST_GEN : Fld := ⟨0, 0, 2⟩
def TRK_TEST_CHK : Fld := ⟨0, 2, 2⟩
def TRK_TEST_CHK_LOCK : Fld := ⟨0, 4, 1⟩
def TRK_TEST_CLR : Fld := ⟨0, 5, 1⟩
def TRK_PERR_ERR_LO : Fld := ⟨0, 0, 40⟩
def TRK_PERR_ERR_HI : Fld := ⟨1, 0, 8⟩
def TRK_PCMP_CMP_LO : Fld := ⟨0, 0, 40⟩
def TRK_PCMP_CMP_HI : Fld := ⟨1, 0, 8⟩
def TRK_RXQ_SNR : Fld := ⟨0, 0, 16⟩
def TRK_RXQ_VALID : Fld := ⟨0, 16, 1⟩
def TRK_QUAD_PLL180_LOCK : Fld := ⟨0, 0, 1⟩
def TRK_QUAD_PLL170_LOCK : Fld := ⟨0, 1, 1⟩
def TRK_QUAD_PLL170_RUN : Fld := ⟨0, 2, 1⟩
def TRK_QUAD_LREF_PRESENT : Fld := ⟨0, 3, 1⟩
def TRK_QUAD_LOSS_COUNT : Fld := ⟨0, 4, 16⟩
def PTS_FRSTAT_UNCORR : Fld := ⟨0, 0, 1⟩
def PTS_FRSTAT_SEQ_GAP : Fld := ⟨0, 1, 1⟩
def PTS_FRSTAT_BAD_TYPE : Fld := ⟨0, 2, 1⟩
def PTS_FRSTAT_BAD_STREAM : Fld := ⟨0, 3, 1⟩
def PTS_FRSTAT_BAD_INDEX : Fld := ⟨0, 4, 1⟩
def PTS_FRSTAT_BAD_CCHAN : Fld := ⟨0, 5, 1⟩
def PTS_FRSTAT_LATE : Fld := ⟨0, 6, 1⟩
def PTS_FRSTAT_OVERFLOW : Fld := ⟨0, 7, 1⟩
def PTS_FRSTAT_FILLER_MISS : Fld := ⟨0, 8, 1⟩
def PTS_FRSTAT_TT_GAP : Fld := ⟨0, 9, 1⟩
def PTS_FRSTAT_TT_FORMAT : Fld := ⟨0, 10, 1⟩
def PTS_FRSTAT_TEST_ERR : Fld := ⟨0, 11, 1⟩
def PTS_FRTRN_COUNT : Fld := ⟨0, 0, 40⟩
def PTS_FRCSYM_COUNT : Fld := ⟨0, 0, 40⟩
def PTS_FRUNC_COUNT : Fld := ⟨0, 0, 40⟩
def PTS_FRLATE_COUNT : Fld := ⟨0, 0, 40⟩
def PTS_FRLOST_COUNT : Fld := ⟨0, 0, 40⟩
def PTS_FRCTL_TT_EN : Fld := ⟨0, 0, 1⟩
def PTS_FRCTL_CLR : Fld := ⟨0, 1, 1⟩
def PTS_ARRCFG_SKEW : Fld := ⟨0, 0, 8⟩
def PTS_ARRCFG_TT_STREAM : Fld := ⟨0, 8, 16⟩
def PTS_TTSER_LAST : Fld := ⟨0, 0, 24⟩
def PTS_TTSER_VALID : Fld := ⟨0, 24, 1⟩
def PTS_FRONT_F_LO : Fld := ⟨0, 0, 40⟩
def PTS_FRONT_F_HI : Fld := ⟨1, 0, 8⟩
def PTS_FRONT_VALID : Fld := ⟨1, 8, 1⟩
def PTS_CFG_N : Fld := ⟨0, 0, 14⟩
def PTS_CFG_C : Fld := ⟨0, 14, 7⟩
def PTS_CFG_PLOG : Fld := ⟨0, 21, 3⟩
def PTS_CFG_INV_LIM : Fld := ⟨0, 24, 10⟩
def PTS_CTRL_EN : Fld := ⟨0, 0, 1⟩
def PTS_CTRL_CBANK : Fld := ⟨0, 1, 1⟩
def PTS_CTRL_GBANK : Fld := ⟨0, 2, 1⟩
def PTS_CTRL_PBANK : Fld := ⟨0, 3, 1⟩
def PTS_CTRL_CLRCNT : Fld := ⟨0, 4, 1⟩
def PTS_FC_FC : Fld := ⟨0, 0, 32⟩
def PTS_SEGCFG_SEGLEN : Fld := ⟨0, 0, 32⟩
def PTS_DLYCFG_DREF : Fld := ⟨0, 0, 11⟩
def PTS_BANKS_CRDY : Fld := ⟨0, 0, 1⟩
def PTS_BANKS_GRDY : Fld := ⟨0, 1, 1⟩
def PTS_BANKS_CMISS : Fld := ⟨0, 2, 8⟩
def PTS_BANKS_GMISS : Fld := ⟨0, 10, 8⟩
def PTS_PSEG_TAG : Fld := ⟨0, 0, 16⟩
def PTS_PSEG_READY : Fld := ⟨0, 16, 1⟩
def PTS_PSEG_SIG_SIG : Fld := ⟨0, 0, 32⟩
def PTS_PSEG_CHK_CHK : Fld := ⟨0, 0, 32⟩
def PTS_GCTL_MODE : Fld := ⟨0, 0, 2⟩
def PTS_GCTL_TARGET : Fld := ⟨0, 2, 16⟩
def PTS_AUTOLEAD_LEAD : Fld := ⟨0, 0, 40⟩
def PTS_STATUS_BANK_MISS : Fld := ⟨0, 0, 1⟩
def PTS_STATUS_MODEL_MISSING : Fld := ⟨0, 1, 1⟩
def PTS_STATUS_SEG_LATE : Fld := ⟨0, 2, 1⟩
def PTS_STATUS_DSET_MISMATCH : Fld := ⟨0, 3, 1⟩
def PTS_STATUS_DELAY_RANGE : Fld := ⟨0, 4, 1⟩
def PTS_STATUS_DSET_REJECT : Fld := ⟨0, 5, 1⟩
def PTS_STATUS_SWAP_DUP : Fld := ⟨0, 6, 1⟩
def PTS_STATUS_OVERRUN : Fld := ⟨0, 7, 1⟩
def PTS_STATUS_AUTO_HOLD : Fld := ⟨0, 8, 1⟩
def PTS_STATUS_ENGINE_ERR : Fld := ⟨0, 9, 16⟩
def PTS_DSET_SET : Fld := ⟨0, 0, 8⟩
def PTS_DSET_RCVD : Fld := ⟨0, 8, 14⟩
def PTS_DSET_COUNT : Fld := ⟨0, 22, 14⟩
def PTS_DSET_VALID : Fld := ⟨0, 36, 1⟩
def PTS_DSET_COMPLETE : Fld := ⟨0, 37, 1⟩
def PTS_GPAGE_BANK : Fld := ⟨0, 0, 1⟩
def PTS_GPAGE_HALF : Fld := ⟨0, 1, 1⟩
def PTS_CHAN_NUC : Fld := ⟨0, 0, 24⟩
def PTS_BP_BP : Fld := ⟨0, 0, 16⟩
def GAU_CFG_EN : Fld := ⟨0, 0, 1⟩
def GAU_CFG_ATT : Fld := ⟨0, 1, 4⟩
def GAU_CFG_DEC : Fld := ⟨0, 5, 5⟩
def GAU_CFG_SKLOG : Fld := ⟨0, 10, 4⟩
def GAU_SNAP_PERIOD64 : Fld := ⟨0, 0, 32⟩
def GAU_SNAPIDX_IDX_LO : Fld := ⟨0, 0, 40⟩
def GAU_SNAPIDX_IDX_HI : Fld := ⟨1, 0, 8⟩
def GAU_HALT_ENGINE : Fld := ⟨0, 0, 4⟩
def GAU_HALT_MBLK : Fld := ⟨0, 4, 11⟩
def GAU_SPAGE_GROUP : Fld := ⟨0, 0, 6⟩
def GAU_PROF_FAST_HI : Fld := ⟨0, 0, 16⟩
def GAU_PROF_FAST_LO : Fld := ⟨0, 16, 16⟩
def GAU_PROF_EXC_FAST : Fld := ⟨0, 32, 1⟩
def GAU_PROF_EXC_ENV : Fld := ⟨0, 33, 1⟩
def GAU_PROF_EVT : Fld := ⟨0, 34, 1⟩
def GAU_PROF_WAKE : Fld := ⟨0, 35, 1⟩
def GAU_PROF_ENV_HI : Fld := ⟨1, 0, 16⟩
def GAU_PROF_CLIP_MAX : Fld := ⟨1, 16, 7⟩
def GAU_PROF_PRE : Fld := ⟨1, 23, 6⟩
def GAU_PROF_HANG : Fld := ⟨1, 29, 8⟩
def GAU_PROF_K_HI : Fld := ⟨2, 0, 16⟩
def GAU_PROF_K_LO : Fld := ⟨2, 16, 16⟩
def GAU_PROF_ABS_HI : Fld := ⟨3, 0, 13⟩
def GAU_GRP_PROF : Fld := ⟨0, 0, 3⟩
def GAU_GRP_EN : Fld := ⟨0, 3, 1⟩
def GAU_GEVT_INPUT : Fld := ⟨0, 0, 13⟩
def GAU_GEVT_CCHAN : Fld := ⟨0, 13, 6⟩
def GAU_GEVT_COND : Fld := ⟨0, 19, 3⟩
def GAU_GEVT_VALID : Fld := ⟨0, 22, 1⟩
def GAU_GEVT_INDEX : Fld := ⟨1, 0, 40⟩
def GAU_STAT_FAST : Fld := ⟨0, 0, 13⟩
def GAU_STAT_V : Fld := ⟨0, 13, 7⟩
def GAU_STAT_SLOW : Fld := ⟨1, 0, 40⟩
def GAU_STAT_ENV : Fld := ⟨2, 0, 24⟩
def GAU_STAT_PEAK : Fld := ⟨2, 24, 3⟩
def GAU_STAT_SLOW_OK : Fld := ⟨2, 27, 1⟩
def GAU_STAT_CLIP : Fld := ⟨3, 0, 32⟩
def GAU_STAT_SNAP_SLOW : Fld := ⟨4, 0, 40⟩
def GAU_STAT_SNAP_CLIP : Fld := ⟨5, 0, 32⟩
def GAU_STAT_SNAP_PEAK : Fld := ⟨5, 32, 3⟩
def GAU_STAT_SK_S1 : Fld := ⟨6, 0, 40⟩
def GAU_STAT_SK_S2 : Fld := ⟨7, 0, 40⟩
def SDG_CTRL_EN : Fld := ⟨0, 0, 1⟩
def SDG_CTRL_RATE : Fld := ⟨0, 1, 2⟩
def SDG_CTRL_SCRUB_EN : Fld := ⟨0, 3, 1⟩
def SDG_CTRL_PLAT_CHECK : Fld := ⟨0, 4, 1⟩
def SDG_CTRL_PASR_REQ : Fld := ⟨0, 5, 1⟩
def SDG_CTRL_DBG : Fld := ⟨0, 6, 1⟩
def SDG_PLEN_PLEN : Fld := ⟨0, 0, 32⟩
def SDG_ORIGIN_JP_LO : Fld := ⟨0, 0, 40⟩
def SDG_ORIGIN_JP_HI : Fld := ⟨1, 0, 8⟩
def SDG_PERIOD_M : Fld := ⟨0, 0, 40⟩
def SDG_STACKS_WORK : Fld := ⟨0, 0, 8⟩
def SDG_STACKS_FAILED : Fld := ⟨0, 8, 8⟩
def SDG_STACKS_K : Fld := ⟨0, 16, 4⟩
def SDG_STACKS_HOME : Fld := ⟨0, 20, 3⟩
def SDG_STACKS_RATE_PEND : Fld := ⟨0, 23, 1⟩
def SDG_PASR_KEEP : Fld := ⟨0, 0, 8⟩
def SDG_PASR_KEPT : Fld := ⟨0, 8, 8⟩
def SDG_PASR_ACTIVE : Fld := ⟨0, 16, 1⟩
def SDG_TEMP_LIMIT : Fld := ⟨0, 0, 8⟩
def SDG_SCRUB_PERIOD : Fld := ⟨0, 0, 12⟩
def SDG_SCRUBPOS_BLOCK : Fld := ⟨0, 0, 28⟩
def SDG_SCRUBPOS_PASSES : Fld := ⟨0, 28, 12⟩
def SDG_ECCTH_CORR_LIM : Fld := ⟨0, 0, 16⟩
def SDG_APAGE_PAGE : Fld := ⟨0, 0, 8⟩
def SDG_APAGE_SPACE : Fld := ⟨0, 8, 1⟩
def SDG_STATUS_CAP_REJECT : Fld := ⟨0, 0, 1⟩
def SDG_STATUS_CAP_TRUNC : Fld := ⟨0, 1, 1⟩
def SDG_STATUS_CAP_CLIPPED : Fld := ⟨0, 2, 1⟩
def SDG_STATUS_HOLD_SUPPRESS : Fld := ⟨0, 3, 1⟩
def SDG_STATUS_OFFSET_HIST : Fld := ⟨0, 4, 1⟩
def SDG_STATUS_APERTURE_ERR : Fld := ⟨0, 5, 1⟩
def SDG_STATUS_PLAN_CHANGE : Fld := ⟨0, 6, 1⟩
def SDG_STATUS_RATE_REJ : Fld := ⟨0, 7, 1⟩
def SDG_STATUS_RATE_DONE : Fld := ⟨0, 8, 1⟩
def SDG_STK_STATE : Fld := ⟨0, 0, 3⟩
def SDG_STK_ATTEMPTS : Fld := ⟨0, 3, 2⟩
def SDG_STK_STEP : Fld := ⟨0, 5, 3⟩
def SDG_STK_TEMP : Fld := ⟨0, 8, 8⟩
def SDG_STK_RETRAIN : Fld := ⟨0, 16, 16⟩
def SDG_PORT_TARGET : Fld := ⟨0, 0, 16⟩
def SDG_PORT_AGE : Fld := ⟨0, 16, 16⟩
def SDG_CAP_DESC : Fld := ⟨0, 0, 8⟩
def SDG_CAP_STATE : Fld := ⟨0, 8, 2⟩
def SDG_CAP_WSTART : Fld := ⟨1, 0, 40⟩
def SDG_CAP_RELEASE : Fld := ⟨2, 0, 40⟩
def SDG_CAP_SENT : Fld := ⟨3, 0, 40⟩
def SDG_OHTAG_SEG : Fld := ⟨0, 0, 32⟩
def SDG_OHTAG_VALID : Fld := ⟨0, 32, 1⟩
def JCT_CTRL_EN : Fld := ⟨0, 0, 1⟩
def JCT_CTRL_FORCE : Fld := ⟨0, 1, 1⟩
def JCT_STATE_NB : Fld := ⟨0, 0, 4⟩
def JCT_STATE_TILES : Fld := ⟨0, 4, 6⟩
def JCT_STATE_ROAD : Fld := ⟨0, 10, 1⟩
def JCT_STATE_BUSY : Fld := ⟨0, 11, 1⟩
def JCT_STATE_DRAINING : Fld := ⟨0, 12, 1⟩
def JCT_STATE_TILE : Fld := ⟨0, 13, 6⟩
def JCT_STATE_FCH : Fld := ⟨0, 19, 12⟩
def JCT_STATE_RAKE : Fld := ⟨0, 31, 3⟩
def JCT_DWELL_G_LO : Fld := ⟨0, 0, 40⟩
def JCT_DWELL_G_HI : Fld := ⟨1, 0, 8⟩
def JCT_PACE_SLOT : Fld := ⟨0, 0, 40⟩
def JCT_DISTRICT_NEEDED : Fld := ⟨0, 0, 16⟩
def JCT_DISTRICT_READY : Fld := ⟨0, 16, 16⟩
def JCT_STATUS_OVERRUN : Fld := ⟨0, 0, 1⟩
def JCT_STATUS_DRAIN_LATE : Fld := ⟨0, 1, 1⟩
def JCT_STATUS_FORCED : Fld := ⟨0, 2, 1⟩
def JCT_STATUS_RAKE_REJECT : Fld := ⟨0, 3, 1⟩
def JCT_STATUS_VIS_SAT : Fld := ⟨0, 4, 1⟩
def JCT_STATUS_SUSPECT : Fld := ⟨0, 5, 1⟩
def JCT_STATUS_PARITY : Fld := ⟨0, 6, 1⟩
def JCT_STATUS_YARD_UNCORR : Fld := ⟨0, 7, 1⟩
def JCT_RAKE_DEF : Fld := ⟨0, 0, 1⟩
def JCT_RAKE_AUTO : Fld := ⟨0, 1, 1⟩
def JCT_RAKE_FMT : Fld := ⟨0, 2, 1⟩
def JCT_RAKE_ROUTE : Fld := ⟨0, 3, 4⟩
def JCT_RAKE_OPEN : Fld := ⟨0, 7, 1⟩
def JCT_RAKE_NCH : Fld := ⟨0, 8, 13⟩
def JCT_RAKE_DLEN : Fld := ⟨1, 0, 32⟩
def JCT_RAKE_JOPEN : Fld := ⟨2, 0, 40⟩
def JCT_RAKE_DUMPS : Fld := ⟨3, 0, 40⟩
def JCT_ORDER_A : Fld := ⟨0, 0, 3⟩
def JCT_ORDER_B : Fld := ⟨0, 3, 3⟩
def JCT_ORDER_DIAG : Fld := ⟨0, 6, 1⟩
def JCT_RMASK_MASK : Fld := ⟨0, 0, 32⟩
def YRD_CFG_CORR_LIM : Fld := ⟨0, 0, 16⟩
def YRD_CFG_DBG : Fld := ⟨0, 16, 1⟩
def YRD_POISON_COUNT : Fld := ⟨0, 0, 21⟩
def YRD_ECC_CORR : Fld := ⟨0, 0, 40⟩
def YRD_ECC_UNCORR : Fld := ⟨1, 0, 40⟩
def TMN_CTRL_EN : Fld := ⟨0, 0, 1⟩
def TMN_CTRL_CLRCNT : Fld := ⟨0, 1, 1⟩
def TMN_ID_TWIN_ID : Fld := ⟨0, 0, 16⟩
def TMN_STATUS_BUF_FULL : Fld := ⟨0, 0, 1⟩
def TMN_STATUS_LANE_SKIP : Fld := ⟨0, 1, 1⟩
def TMN_STATUS_BEAM_DROP : Fld := ⟨0, 2, 1⟩
def TMN_STATUS_CAP_DONE : Fld := ⟨0, 3, 1⟩
def TMN_STATUS_DROP : Fld := ⟨0, 4, 1⟩
def TMN_BUF_OCC : Fld := ⟨0, 0, 16⟩
def TMN_BUF_PEAK : Fld := ⟨0, 16, 16⟩
def TMN_CAPNUM_NEXT : Fld := ⟨0, 0, 16⟩
def TMN_MHEAD_NEWEST : Fld := ⟨0, 0, 4⟩
def TMN_MHEAD_FORMED : Fld := ⟨0, 4, 36⟩
def TMN_ROUTE_EN : Fld := ⟨0, 0, 1⟩
def TMN_ROUTE_PERS : Fld := ⟨0, 1, 1⟩
def TMN_ROUTE_LANES : Fld := ⟨0, 2, 16⟩
def TMN_ROUTE_CVIS : Fld := ⟨1, 0, 19⟩
def TMN_ROUTE_CBLK : Fld := ⟨1, 19, 13⟩
def TMN_ROUTE_DMAC_HI : Fld := ⟨2, 0, 40⟩
def TMN_ROUTE_DMAC_LO : Fld := ⟨3, 32, 8⟩
def TMN_ROUTE_DIP : Fld := ⟨3, 0, 32⟩
def TMN_ROUTE_DPORT : Fld := ⟨4, 0, 16⟩
def TMN_ROUTE_DSCP : Fld := ⟨4, 16, 6⟩
def TMN_ROUTE_TTL : Fld := ⟨4, 22, 8⟩
def TMN_ROUTE_SENT : Fld := ⟨5, 0, 40⟩
def TMN_ROUTE_DROPPED : Fld := ⟨6, 0, 40⟩
def TMN_ROUTE_DROPF : Fld := ⟨7, 0, 1⟩
def TMN_DEP_SMAC_HI : Fld := ⟨0, 0, 40⟩
def TMN_DEP_SMAC_LO : Fld := ⟨1, 32, 8⟩
def TMN_DEP_SIP : Fld := ⟨1, 0, 32⟩
def TMN_DEP_SPORT : Fld := ⟨2, 0, 16⟩
def TMN_DEP_SENT : Fld := ⟨3, 0, 40⟩
def TBL_CTRL_EN : Fld := ⟨0, 0, 1⟩
def TBL_CTRL_GBANK : Fld := ⟨0, 1, 1⟩
def TBL_CTRL_DBANK : Fld := ⟨0, 2, 1⟩
def TBL_CTRL_CLRCNT : Fld := ⟨0, 3, 1⟩
def TBL_CFG_ROUTE : Fld := ⟨0, 0, 4⟩
def TBL_CFG_BDEPTH : Fld := ⟨0, 4, 7⟩
def TBL_CFG_BOFF : Fld := ⟨0, 11, 11⟩
def TBL_BANKS_GRDY : Fld := ⟨0, 0, 1⟩
def TBL_BANKS_GMISS : Fld := ⟨0, 1, 8⟩
def TBL_BANKS_DMISS : Fld := ⟨0, 9, 8⟩
def TBL_DTAG_TAG : Fld := ⟨0, 0, 16⟩
def TBL_DTAG_READY : Fld := ⟨0, 16, 1⟩
def TBL_DSIG_SIG : Fld := ⟨0, 0, 32⟩
def TBL_DCHK_CHK : Fld := ⟨0, 0, 32⟩
def TBL_STATUS_BSWAP_MISS : Fld := ⟨0, 0, 1⟩
def TBL_STATUS_BDLY_MISMATCH : Fld := ⟨0, 1, 1⟩
def TBL_STATUS_ECLIP : Fld := ⟨0, 2, 1⟩
def TBL_STATUS_BSAT : Fld := ⟨0, 3, 1⟩
def TBL_STATUS_BCFG : Fld := ⟨0, 4, 1⟩
def TBL_STORE_OCC : Fld := ⟨0, 0, 16⟩
def TBL_STORE_PEAK : Fld := ⟨0, 16, 16⟩
def TBL_STORE_BDROP : Fld := ⟨0, 32, 8⟩
def TBL_BEAM_MODE : Fld := ⟨0, 0, 3⟩
def TBL_BEAM_SEL : Fld := ⟨0, 3, 2⟩
def TBL_BEAM_VSHIFT : Fld := ⟨0, 5, 5⟩
def TBL_BEAM_PSHIFT : Fld := ⟨0, 10, 5⟩
def TBL_BEAM_OSHIFT : Fld := ⟨0, 15, 6⟩
def TBL_BEAM_M : Fld := ⟨1, 0, 17⟩
def TBL_BEAM_NFR : Fld := ⟨1, 17, 13⟩
def TTB_CLKCFG_TREF_SEL : Fld := ⟨0, 0, 1⟩
def TTB_CLKCFG_PPS_EN : Fld := ⟨0, 1, 1⟩
def TTB_CLKCFG_PPS_EDGE : Fld := ⟨0, 2, 1⟩
def TTB_CLKCFG_PPS_TOL : Fld := ⟨0, 3, 10⟩
def TTB_STATUS_EVT : Fld := ⟨0, 0, 15⟩
def TTB_STATE_TCLK_LOCK : Fld := ⟨0, 0, 1⟩
def TTB_STATE_HOLDOVER : Fld := ⟨0, 1, 1⟩
def TTB_STATE_FRONT_VALID : Fld := ⟨0, 2, 1⟩
def TTB_STATE_EPOCH_VALID : Fld := ⟨0, 3, 1⟩
def TTB_STATE_QIN : Fld := ⟨0, 4, 6⟩
def TTB_STATE_QLOC : Fld := ⟨0, 10, 5⟩
def TTB_STATE_DPR_PEND : Fld := ⟨0, 15, 1⟩
def TTB_TICK_TICK_LO : Fld := ⟨0, 0, 40⟩
def TTB_TICK_TICK_HI : Fld := ⟨1, 0, 24⟩
def TTB_PPSTICK_PPS_LO : Fld := ⟨0, 0, 40⟩
def TTB_PPSTICK_PPS_HI : Fld := ⟨1, 0, 24⟩
def TTB_PPSCNT_COUNT : Fld := ⟨0, 0, 32⟩
def TTB_LEAD_LEAD : Fld := ⟨0, 0, 40⟩
def TTB_EPOCH_SEC : Fld := ⟨0, 0, 40⟩
def TTB_EPOCH_N48_LO : Fld := ⟨1, 0, 40⟩
def TTB_EPOCH_N48_HI : Fld := ⟨2, 0, 8⟩
def TTB_EPOCH_ETICK_OK : Fld := ⟨2, 8, 1⟩
def TTB_EPOCH_FRAC : Fld := ⟨3, 0, 32⟩
def TTB_EPOCH_ETICK_LO : Fld := ⟨4, 0, 40⟩
def TTB_EPOCH_ETICK_HI : Fld := ⟨5, 0, 24⟩
def TTB_NOMRATE_RATE : Fld := ⟨0, 0, 32⟩
def TTB_NOMRATE_SRC : Fld := ⟨0, 32, 1⟩
def TTB_EPOCHTOL_TOL : Fld := ⟨0, 0, 24⟩
def TTB_SNAP_TAG : Fld := ⟨0, 0, 32⟩
def TTB_SNAP_COUNT : Fld := ⟨0, 32, 8⟩
def TTB_SNAP_KEY_LO : Fld := ⟨1, 0, 40⟩
def TTB_SNAP_KEY_HI : Fld := ⟨2, 0, 8⟩
def TTB_SNAP_BUSY : Fld := ⟨2, 8, 1⟩
def TTB_MARK_VALUE : Fld := ⟨0, 0, 32⟩
def TTB_MARK_COUNT : Fld := ⟨0, 32, 8⟩
def TTB_DPR_KEY_LO : Fld := ⟨0, 0, 40⟩
def TTB_DPR_KEY_HI : Fld := ⟨1, 0, 8⟩
def TTB_ENQ_KEY_LO : Fld := ⟨0, 0, 40⟩
def TTB_ENQ_KEY_HI : Fld := ⟨1, 0, 8⟩
def TTB_ENQ_ARG : Fld := ⟨2, 0, 40⟩
def TTB_ENQ_CODE : Fld := ⟨3, 0, 8⟩
def TTB_ENQ_GO : Fld := ⟨3, 8, 1⟩
def TTB_ENQ_RESULT : Fld := ⟨3, 9, 3⟩
def DSP_CTRL_RUN : Fld := ⟨0, 0, 1⟩
def DSP_CTRL_RST : Fld := ⟨0, 1, 1⟩
def DSP_CTRL_BETRAP : Fld := ⟨0, 2, 1⟩
def DSP_CTRL_QOS : Fld := ⟨0, 3, 4⟩
def DSP_CTRL_RESTART : Fld := ⟨0, 7, 1⟩
def DSP_STATE_STATE : Fld := ⟨0, 0, 3⟩
def DSP_STATE_CAUSE : Fld := ⟨0, 3, 4⟩
def DSP_STATE_PC : Fld := ⟨0, 7, 18⟩
def DSP_STATE_LSCOUNT : Fld := ⟨0, 25, 8⟩
def DSP_STATE_RESTARTS : Fld := ⟨0, 33, 7⟩
def DSP_IEN_EN : Fld := ⟨0, 0, 5⟩
def DSP_IPEND_PEND : Fld := ⟨0, 0, 5⟩
def DSP_DOOR_MSG : Fld := ⟨0, 0, 32⟩
def DSP_TIMER_PERIOD : Fld := ⟨0, 0, 32⟩
def DSP_FCMP_IDX_LO : Fld := ⟨0, 0, 40⟩
def DSP_FCMP_IDX_HI : Fld := ⟨1, 0, 8⟩
def DSP_FCMP_ARM : Fld := ⟨1, 8, 1⟩
def DSP_WDOG_TIMEOUT : Fld := ⟨0, 0, 24⟩
def DSP_WDOG_KICK : Fld := ⟨0, 24, 1⟩
def DSP_MEMERR_CORR : Fld := ⟨0, 0, 20⟩
def DSP_MEMERR_UNCORR : Fld := ⟨0, 20, 20⟩
def ILK_CTRL_TMO : Fld := ⟨0, 0, 16⟩
def ILK_CTRL_AGELIM : Fld := ⟨0, 16, 12⟩
def ILK_STATUS_DECERR : Fld := ⟨0, 0, 1⟩
def ILK_STATUS_ASLEEP : Fld := ⟨0, 1, 1⟩
def ILK_STATUS_TIMEOUT : Fld := ⟨0, 2, 1⟩
def ILK_STATUS_HELD : Fld := ⟨0, 3, 1⟩
def ILK_STATUS_MRST_CUT : Fld := ⟨0, 4, 1⟩
def ILK_STATUS_SHN_ERR : Fld := ⟨0, 5, 1⟩
def ILK_ERR_ADDR : Fld := ⟨0, 0, 28⟩
def ILK_ERR_MASTER : Fld := ⟨0, 28, 4⟩
def ILK_ERR_KIND : Fld := ⟨0, 32, 2⟩
def ILK_ERR_WRITE : Fld := ⟨0, 34, 1⟩
def ILK_ERR_VALID : Fld := ⟨0, 35, 1⟩
def ILK_MST_QOS : Fld := ⟨0, 0, 4⟩
def ILK_MST_OUT : Fld := ⟨0, 4, 4⟩
def ILK_MST_COUNT : Fld := ⟨0, 8, 32⟩
def ILK_SHN_GO : Fld := ⟨0, 0, 1⟩
def ILK_SHN_STOP : Fld := ⟨0, 1, 1⟩
def ILK_SHN_BUSY : Fld := ⟨0, 2, 1⟩
def ILK_SHN_RESULT : Fld := ⟨0, 3, 2⟩
def ILK_SHN_DESC : Fld := ⟨1, 0, 28⟩
def ILK_SHN_CUR : Fld := ⟨2, 0, 28⟩
def ILK_SHN_ERRADDR : Fld := ⟨3, 0, 28⟩
def ILK_SHN_ERRRESP : Fld := ⟨3, 28, 2⟩
def BEL_CTRL_IRQ_EN : Fld := ⟨0, 0, 1⟩
def BEL_CTRL_LOG_EN : Fld := ⟨0, 1, 1⟩
def BEL_CTRL_TWIN_EN : Fld := ⟨0, 2, 1⟩
def BEL_LOGPOS_NEXT : Fld := ⟨0, 0, 16⟩
def BEL_STS_STS : Fld := ⟨0, 0, 32⟩
def BEL_Q_EVENT : Fld := ⟨0, 0, 10⟩
def BEL_Q_VALID : Fld := ⟨0, 10, 1⟩
def BEL_Q_INJ : Fld := ⟨0, 11, 1⟩
def BEL_SRC_EN : Fld := ⟨0, 0, 1⟩
def BEL_SRC_R_SBX : Fld := ⟨0, 1, 1⟩
def BEL_SRC_R_DSP : Fld := ⟨0, 2, 1⟩
def BEL_SRC_R_IRQ : Fld := ⟨0, 3, 1⟩
def BEL_SRC_R_LOG : Fld := ⟨0, 4, 1⟩
def BEL_SRC_R_TWIN : Fld := ⟨0, 5, 1⟩
def BEL_SRC_DSEL : Fld := ⟨0, 6, 3⟩
def BEL_SRC_STS : Fld := ⟨0, 9, 1⟩
def BEL_SRC_INJ : Fld := ⟨0, 10, 1⟩
def BEL_SRC_COUNT : Fld := ⟨0, 11, 8⟩
def BEL_LOG_EVENT : Fld := ⟨0, 0, 10⟩
def BEL_LOG_INJ : Fld := ⟨0, 10, 1⟩
def BEL_LOG_TWIN : Fld := ⟨0, 11, 1⟩
def BEL_LOG_SEQ : Fld := ⟨0, 12, 16⟩
def BEL_LOG_TICK : Fld := ⟨1, 0, 40⟩
def MGT_CFG_MODE : Fld := ⟨0, 0, 1⟩
def MGT_CFG_ADR : Fld := ⟨0, 1, 2⟩
def MGT_CFG_WRITE_EN : Fld := ⟨0, 3, 1⟩
def MGT_STATUS_FRAME : Fld := ⟨0, 0, 1⟩
def MGT_STATUS_DENIED : Fld := ⟨0, 1, 1⟩
def MGT_STATUS_OVERRUN : Fld := ⟨0, 2, 1⟩
def MGT_STATUS_CFGW : Fld := ⟨0, 3, 1⟩
def MGT_STATUS_RESET : Fld := ⟨0, 4, 1⟩
def MGT_CNT_ACCEPTED : Fld := ⟨0, 0, 20⟩
def MGT_CNT_DISCARDED : Fld := ⟨0, 20, 20⟩
def MGT_CSEQ_CSEQ : Fld := ⟨0, 0, 16⟩
def MGT_CSEQ_LAST_TAG : Fld := ⟨0, 16, 8⟩
def INS_CTRL_EN : Fld := ⟨0, 0, 1⟩
def INS_CTRL_AUTO_RETIRE : Fld := ⟨0, 1, 1⟩
def INS_CTRL_INJ_EN : Fld := ⟨0, 2, 1⟩
def INS_STATE_INROT : Fld := ⟨0, 0, 4⟩
def INS_STATE_PERIOD : Fld := ⟨0, 4, 11⟩
def INS_STATE_RECHECK : Fld := ⟨0, 15, 2⟩
def INS_STATE_SCOL : Fld := ⟨0, 17, 3⟩
def INS_STATE_SROW : Fld := ⟨0, 20, 3⟩
def INS_STATE_PEND : Fld := ⟨0, 23, 3⟩
def INS_STATUS_EVT : Fld := ⟨0, 0, 12⟩
def INS_STATUS_CLK : Fld := ⟨0, 16, 7⟩
def INS_COUNT_MISMATCH : Fld := ⟨0, 0, 16⟩
def INS_COUNT_TRANSIENT : Fld := ⟨0, 16, 16⟩
def INS_COUNT_AMBIG : Fld := ⟨0, 32, 8⟩
def INS_BUSERR_CORR : Fld := ⟨0, 0, 24⟩
def INS_BUSERR_UNCORR : Fld := ⟨0, 24, 16⟩
def INS_LOGPOS_NEXT : Fld := ⟨0, 0, 16⟩
def INS_COLMAP_INDEX : Fld := ⟨0, 0, 10⟩
def INS_COLMAP_USED : Fld := ⟨0, 10, 1⟩
def INS_COLMAP_TRIAL : Fld := ⟨0, 11, 1⟩
def INS_ROWMAP_INDEX : Fld := ⟨0, 0, 10⟩
def INS_ROWMAP_USED : Fld := ⟨0, 10, 1⟩
def INS_ROWMAP_TRIAL : Fld := ⟨0, 11, 1⟩
def INS_INJ_CODE : Fld := ⟨0, 0, 8⟩
def INS_INJ_GO : Fld := ⟨0, 8, 1⟩
def INS_INJ_BUSY : Fld := ⟨0, 9, 1⟩
def INS_INJ_RESULT : Fld := ⟨0, 10, 2⟩
def INS_INJ_UNIT : Fld := ⟨1, 0, 28⟩
def INS_INJ_ARG : Fld := ⟨2, 0, 40⟩
def INS_CLKMON_LO_PPM : Fld := ⟨0, 0, 16⟩
def INS_CLKMON_HI_PPM : Fld := ⟨0, 16, 16⟩
def INS_CLKMON_EN : Fld := ⟨0, 32, 1⟩
def INS_CLKMON_FAIL : Fld := ⟨0, 33, 1⟩
def INS_LOG_KIND : Fld := ⟨0, 0, 4⟩
def INS_LOG_LINE : Fld := ⟨0, 4, 10⟩
def INS_LOG_ROW : Fld := ⟨0, 14, 10⟩
def INS_LOG_INSP : Fld := ⟨0, 24, 2⟩
def INS_LOG_INJ : Fld := ⟨0, 26, 1⟩
def INS_LOG_DETECT : Fld := ⟨1, 0, 40⟩
def INS_LOG_LASTCLEAN : Fld := ⟨2, 0, 40⟩
def INS_LOG_SEQ : Fld := ⟨3, 0, 16⟩
def CPL_CTRL_EN : Fld := ⟨0, 0, 1⟩
def CPL_CTRL_PROMOTE : Fld := ⟨0, 1, 1⟩
def CPL_CTRL_FORCE : Fld := ⟨0, 2, 1⟩
def CPL_CTRL_RESIGN : Fld := ⟨0, 3, 1⟩
def CPL_CTRL_JOIN : Fld := ⟨0, 4, 1⟩
def CPL_ID_PAIR_ID : Fld := ⟨0, 0, 16⟩
def CPL_ID_BOOT_ROLE : Fld := ⟨0, 16, 1⟩
def CPL_STATE_ROLE : Fld := ⟨0, 0, 2⟩
def CPL_STATE_COUPLED : Fld := ⟨0, 2, 1⟩
def CPL_STATE_JSTATE : Fld := ⟨0, 3, 3⟩
def CPL_STATE_LANES : Fld := ⟨0, 6, 4⟩
def CPL_STATE_TERM : Fld := ⟨0, 10, 24⟩
def CPL_PEER_TWIN_ID : Fld := ⟨0, 0, 16⟩
def CPL_PEER_ROLE : Fld := ⟨0, 16, 2⟩
def CPL_PEER_JSTATE : Fld := ⟨0, 18, 3⟩
def CPL_PEER_CSEQ : Fld := ⟨0, 21, 16⟩
def CPL_PEER_CFG_MATCH : Fld := ⟨0, 37, 1⟩
def CPL_PEER_FW_MATCH : Fld := ⟨0, 38, 1⟩
def CPL_STATUS_EVT : Fld := ⟨0, 0, 14⟩
def CPL_MIRROR_SENT : Fld := ⟨0, 0, 16⟩
def CPL_MIRROR_ACKED : Fld := ⟨0, 16, 16⟩
def CPL_MIRROR_RESULT : Fld := ⟨0, 32, 2⟩
def CPL_MIRROR_PENDING : Fld := ⟨0, 34, 1⟩
def CPL_JOIN_J_LO : Fld := ⟨0, 0, 40⟩
def CPL_JOIN_J_HI : Fld := ⟨1, 0, 8⟩
def CPL_JSTART_JS_LO : Fld := ⟨0, 0, 40⟩
def CPL_JSTART_JS_HI : Fld := ⟨1, 0, 8⟩
def CPL_HBCNT_COUNT : Fld := ⟨0, 0, 40⟩
def CPL_CNT_LOSSES : Fld := ⟨0, 0, 16⟩
def CPL_CNT_JOINS : Fld := ⟨0, 16, 16⟩
def CPL_CNT_FAILS : Fld := ⟨0, 32, 8⟩
def SUB_CTRL_TARGET : Fld := ⟨0, 0, 3⟩
def SUB_CTRL_AUTO_RUN : Fld := ⟨0, 3, 1⟩
def SUB_CTRL_WAKE_RUN : Fld := ⟨0, 4, 1⟩
def SUB_STATE_STATE : Fld := ⟨0, 0, 3⟩
def SUB_STATE_PEND : Fld := ⟨0, 3, 3⟩
def SUB_STATE_STEP : Fld := ⟨0, 6, 3⟩
def SUB_STATE_BUSY : Fld := ⟨0, 9, 1⟩
def SUB_HEADWAY_INTERVAL : Fld := ⟨0, 0, 10⟩
def SUB_HEADWAY_QLEN : Fld := ⟨0, 10, 6⟩
def SUB_HEADWAY_WAITS : Fld := ⟨0, 16, 16⟩
def SUB_WAKETMO_REG : Fld := ⟨0, 0, 11⟩
def SUB_WAKETMO_PLL : Fld := ⟨0, 11, 10⟩
def SUB_WAKETMO_TRIES : Fld := ⟨0, 21, 2⟩
def SUB_STATUS_EVT : Fld := ⟨0, 0, 9⟩
def SUB_RETFAIL_BANK : Fld := ⟨0, 0, 29⟩
def SUB_RETCNT_CHECKS : Fld := ⟨0, 0, 20⟩
def SUB_RETCNT_FAILS : Fld := ⟨0, 20, 20⟩
def SUB_REG_EN : Fld := ⟨0, 0, 1⟩
def SUB_REG_RET_CODE : Fld := ⟨0, 1, 16⟩
def SUB_REG_PG : Fld := ⟨0, 17, 1⟩
def SUB_DOM_STATE : Fld := ⟨0, 0, 2⟩
def SUB_DOM_FAILED : Fld := ⟨0, 2, 1⟩
def SUB_DOM_RDY_TMO : Fld := ⟨0, 3, 7⟩
def SUB_DOM_UPS : Fld := ⟨0, 10, 16⟩
def LMP_WATCH_PERIOD : Fld := ⟨0, 0, 14⟩
def LMP_WAKEEN_GAUGE : Fld := ⟨0, 0, 1⟩
def LMP_WAKEEN_WAKE_N : Fld := ⟨0, 1, 1⟩
def LMP_WAKEEN_ALARM : Fld := ⟨0, 2, 1⟩
def LMP_ALARM_CNT_LO : Fld := ⟨0, 0, 40⟩
def LMP_ALARM_CNT_HI : Fld := ⟨1, 0, 8⟩
def LMP_ALARM_ARM : Fld := ⟨1, 8, 1⟩
def LMP_LCNT_CNT_LO : Fld := ⟨0, 0, 40⟩
def LMP_LCNT_CNT_HI : Fld := ⟨1, 0, 8⟩
def LMP_RSTREC_CAUSE : Fld := ⟨0, 0, 3⟩
def LMP_RSTREC_COUNT : Fld := ⟨0, 3, 16⟩
def LMP_WAKEREC_CAUSE : Fld := ⟨0, 0, 8⟩
def LMP_WAKEREC_WAKES : Fld := ⟨0, 8, 16⟩
def LMP_WAKEREC_FAILED : Fld := ⟨0, 24, 1⟩
def LMP_WAKEREC_TRY : Fld := ⟨0, 25, 2⟩
def LMP_WATCHCNT_WATCHES : Fld := ⟨0, 0, 32⟩
def LMP_WATCHCNT_LONG : Fld := ⟨0, 32, 8⟩
def LMP_SCRATCH_VALUE : Fld := ⟨0, 0, 40⟩
def AOU_CTRL_ROLE : Fld := ⟨0, 0, 2⟩
def AOU_CTRL_MODE : Fld := ⟨0, 2, 1⟩
def AOU_CTRL_GAIN : Fld := ⟨0, 3, 1⟩
def AOU_CTRL_FFORCE : Fld := ⟨0, 4, 1⟩
def AOU_CTRL_CLRFAULT : Fld := ⟨0, 5, 1⟩
def AOU_TARGET_TARGET : Fld := ⟨0, 0, 16⟩
def AOU_DRIVEN_C : Fld := ⟨0, 0, 16⟩
def AOU_DRIVEN_PHASE : Fld := ⟨0, 16, 2⟩
def AOU_SLEW_STEP : Fld := ⟨0, 0, 16⟩
def AOU_SLEW_PERIOD : Fld := ⟨0, 16, 10⟩
def AOU_LIM_LO : Fld := ⟨0, 0, 16⟩
def AOU_LIM_HI : Fld := ⟨0, 16, 16⟩
def AOU_LIM_RBTOL : Fld := ⟨0, 32, 8⟩
def AOU_TRIM_OFS : Fld := ⟨0, 0, 12⟩
def AOU_TRIM_GTRIM : Fld := ⟨0, 12, 16⟩
def AOU_METER_SRC : Fld := ⟨0, 0, 6⟩
def AOU_METER_ZERO : Fld := ⟨0, 6, 12⟩
def AOU_METER_SLOPE : Fld := ⟨0, 18, 16⟩
def AOU_METER_BASE : Fld := ⟨1, 0, 16⟩
def AOU_STAT_FAULT : Fld := ⟨0, 0, 1⟩
def AOU_STAT_OPEN : Fld := ⟨0, 1, 1⟩
def AOU_STAT_RBERR : Fld := ⟨0, 2, 1⟩
def AOU_STAT_REJ : Fld := ⟨0, 3, 1⟩
def AOU_STAT_PU : Fld := ⟨0, 4, 16⟩
def AOU_STAT_FCODE : Fld := ⟨0, 20, 16⟩
def MON_CTRL_EN : Fld := ⟨0, 0, 1⟩
def MON_CTRL_ROUNDS : Fld := ⟨0, 1, 31⟩
def MON_STATUS_ACTIVE : Fld := ⟨0, 0, 36⟩
def MON_RES_RAW : Fld := ⟨0, 0, 12⟩
def MON_RES_FILT : Fld := ⟨0, 12, 12⟩
def MON_RES_HI : Fld := ⟨0, 24, 1⟩
def MON_TH_HI : Fld := ⟨0, 0, 12⟩
def MON_TH_LO : Fld := ⟨0, 12, 12⟩
def MON_TH_HYST : Fld := ⟨0, 24, 8⟩
def MON_TH_EVT : Fld := ⟨1, 0, 1⟩
def MON_TH_FMASK : Fld := ⟨1, 1, 4⟩
def MON_TH_STAND : Fld := ⟨1, 5, 1⟩
def MON_TH_WAKE : Fld := ⟨1, 6, 1⟩
def MON_TH_FSHIFT : Fld := ⟨1, 7, 4⟩
def MON_TH_OFS : Fld := ⟨1, 11, 12⟩
def DEP_STATE_STEP : Fld := ⟨0, 0, 4⟩
def DEP_STATE_SLOT : Fld := ⟨0, 4, 1⟩
def DEP_STATE_SEALED : Fld := ⟨0, 5, 1⟩
def DEP_STATE_RECOVERY : Fld := ⟨0, 6, 1⟩
def DEP_STATE_BOARD_OK : Fld := ⟨0, 7, 1⟩
def DEP_STATE_KEYSEL : Fld := ⟨0, 8, 2⟩
def DEP_STATUS_EVT : Fld := ⟨0, 0, 18⟩
def DEP_SLOT_VERSION : Fld := ⟨0, 0, 32⟩
def DEP_SLOT_CAUSE : Fld := ⟨0, 32, 4⟩
def DEP_PLAN_ACTIVE : Fld := ⟨0, 0, 4⟩
def DEP_PLAN_PLAN_ID : Fld := ⟨0, 4, 8⟩
def DEP_PLAN_VALID : Fld := ⟨0, 12, 1⟩
def DEP_PLAN_PASS : Fld := ⟨0, 13, 16⟩
def DEP_BOARD_CALVER : Fld := ⟨0, 0, 32⟩
def DEP_DBG_SCOPE : Fld := ⟨0, 0, 3⟩
def DEP_DBGNONCE_NONCE_LO : Fld := ⟨0, 0, 40⟩
def DEP_DBGNONCE_NONCE_HI : Fld := ⟨1, 0, 24⟩
def DEP_FLCTRL_SLOT_WE : Fld := ⟨0, 0, 1⟩
def DEP_FLCTRL_BOARD_WE : Fld := ⟨0, 1, 1⟩
def DEP_FLCTRL_MODE : Fld := ⟨0, 2, 2⟩
def DEP_FLCTRL_MHZ : Fld := ⟨0, 4, 7⟩
def DEP_FLCTRL_DENSITY : Fld := ⟨0, 11, 6⟩
def DEP_FLCMD_OP : Fld := ⟨0, 0, 2⟩
def DEP_FLCMD_GO : Fld := ⟨0, 2, 1⟩
def DEP_FLCMD_BUSY : Fld := ⟨0, 3, 1⟩
def DEP_FLCMD_RESULT : Fld := ⟨0, 4, 2⟩
def DEP_FLADDR_ADDR : Fld := ⟨0, 0, 32⟩
def DEP_FLLEN_LEN : Fld := ⟨0, 0, 11⟩

end F

end Sys2Proof.Machine
end

