-- ==== Sys2Proof/Machine/RegTable.lean ====
section
/-!
DEFINITION. The Access and Reset columns of every register table of spec/ (R7, R8, R9): which word
addresses hold registers, the access type of each field, whether it rejects zero and which of its
values lie outside the range or set that its Meaning column states.
-/
namespace Sys2Proof.Machine

/-- The access types of Table 0.6. -/
inductive Acc where
  | rw | ro | wo | w1c | rwl
  deriving DecidableEq, Repr

/-- The range or set of values a Meaning column states (R9); `any` states none beyond the width. -/
inductive Rule where
  | any
  | le (n : Nat)
  | between (a b : Nat)
  | segLen   -- a multiple of 40 and of P
  | plen     -- a multiple of 25 and at least 2,075
  | dlen     -- a multiple of 25, at least 2,075, dividing SDG_PLEN
  | cvis     -- a multiple of 16 in 512 .. 262,144
  | apage    -- a reserved page 0-5, or a pseudo-channel, by SPACE
  | rakeDef  -- 1 only while DLEN, in the next word, is not 0
  | nfr      -- VOLT: a multiple of 5 in 5 .. 8,190; otherwise 1 .. 4,096
  deriving DecidableEq, Repr

/-- One row of a register table. -/
structure FieldDef where
  fld  : Fld
  acc  : Acc
  zrej : Bool          -- the Meaning column says '0 rejected'
  rule : Rule
  deriving DecidableEq, Repr

/-- One register word: `count` instances from `base`, `stride` apart. -/
structure WordDef where
  base   : Nat
  stride : Nat
  count  : Nat
  fields : List FieldDef
  deriving DecidableEq, Repr

def WordDef.holds (d : WordDef) (a : Nat) : Bool :=
  d.base ≤ a && (a - d.base) % d.stride == 0 && (a - d.base) / d.stride < d.count

def regs0F0 : List WordDef := [
  ⟨0xF00000, 0x100, 9, [⟨F.DSP_CTRL_RUN, .rw, false, .any⟩,
    ⟨F.DSP_CTRL_RST, .wo, false, .any⟩,
    ⟨F.DSP_CTRL_BETRAP, .rw, false, .any⟩,
    ⟨F.DSP_CTRL_QOS, .rw, false, .any⟩,
    ⟨F.DSP_CTRL_RESTART, .wo, false, .any⟩]⟩,
  ⟨0xF00001, 0x100, 9, [⟨F.DSP_STATE_STATE, .ro, false, .any⟩,
    ⟨F.DSP_STATE_CAUSE, .ro, false, .any⟩,
    ⟨F.DSP_STATE_PC, .ro, false, .any⟩,
    ⟨F.DSP_STATE_LSCOUNT, .ro, false, .any⟩,
    ⟨F.DSP_STATE_RESTARTS, .ro, false, .any⟩]⟩,
  ⟨0xF00002, 0x100, 9, [⟨F.DSP_IEN_EN, .rw, false, .any⟩]⟩,
  ⟨0xF00003, 0x100, 9, [⟨F.DSP_IPEND_PEND, .w1c, false, .any⟩]⟩,
  ⟨0xF00004, 0x100, 9, [⟨F.DSP_DOOR_MSG, .rw, false, .any⟩]⟩,
  ⟨0xF00005, 0x100, 9, [⟨F.DSP_TIMER_PERIOD, .rw, false, .any⟩]⟩,
  ⟨0xF00006, 0x100, 9, [⟨F.DSP_FCMP_IDX_LO, .rw, false, .any⟩]⟩,
  ⟨0xF00007, 0x100, 9, [⟨F.DSP_FCMP_IDX_HI, .rw, false, .any⟩,
    ⟨F.DSP_FCMP_ARM, .rw, false, .any⟩]⟩,
  ⟨0xF00008, 0x100, 9, [⟨F.DSP_WDOG_TIMEOUT, .rw, false, .any⟩,
    ⟨F.DSP_WDOG_KICK, .wo, false, .any⟩]⟩,
  ⟨0xF00009, 0x100, 9, [⟨F.DSP_MEMERR_CORR, .ro, false, .any⟩,
    ⟨F.DSP_MEMERR_UNCORR, .ro, false, .any⟩]⟩]

def regs100a : List WordDef := [
  ⟨0x1000000, 0x1, 1, [⟨F.TTB_CLKCFG_TREF_SEL, .rwl, false, .any⟩,
    ⟨F.TTB_CLKCFG_PPS_EN, .rwl, false, .any⟩,
    ⟨F.TTB_CLKCFG_PPS_EDGE, .rwl, false, .any⟩,
    ⟨F.TTB_CLKCFG_PPS_TOL, .rwl, true, .le 1000⟩]⟩,
  ⟨0x1000001, 0x1, 1, [⟨F.TTB_STATUS_EVT, .w1c, false, .any⟩]⟩,
  ⟨0x1000002, 0x1, 1, [⟨F.TTB_STATE_TCLK_LOCK, .ro, false, .any⟩,
    ⟨F.TTB_STATE_HOLDOVER, .ro, false, .any⟩,
    ⟨F.TTB_STATE_FRONT_VALID, .ro, false, .any⟩,
    ⟨F.TTB_STATE_EPOCH_VALID, .ro, false, .any⟩,
    ⟨F.TTB_STATE_QIN, .ro, false, .any⟩,
    ⟨F.TTB_STATE_QLOC, .ro, false, .any⟩,
    ⟨F.TTB_STATE_DPR_PEND, .ro, false, .any⟩]⟩,
  ⟨0x1000003, 0x1, 1, [⟨F.TTB_TICK_TICK_LO, .ro, false, .any⟩]⟩,
  ⟨0x1000004, 0x1, 1, [⟨F.TTB_TICK_TICK_HI, .ro, false, .any⟩]⟩,
  ⟨0x1000005, 0x1, 1, [⟨F.TTB_PPSTICK_PPS_LO, .ro, false, .any⟩]⟩,
  ⟨0x1000006, 0x1, 1, [⟨F.TTB_PPSTICK_PPS_HI, .ro, false, .any⟩]⟩,
  ⟨0x1000007, 0x1, 1, [⟨F.TTB_PPSCNT_COUNT, .ro, false, .any⟩]⟩,
  ⟨0x1000008, 0x1, 1, [⟨F.TTB_LEAD_LEAD, .rwl, true, .any⟩]⟩,
  ⟨0x1000009, 0x1, 1, [⟨F.TTB_EPOCH_SEC, .ro, false, .any⟩]⟩,
  ⟨0x100000A, 0x1, 1, [⟨F.TTB_EPOCH_N48_LO, .ro, false, .any⟩]⟩,
  ⟨0x100000B, 0x1, 1, [⟨F.TTB_EPOCH_N48_HI, .ro, false, .any⟩,
    ⟨F.TTB_EPOCH_ETICK_OK, .ro, false, .any⟩]⟩]

def regs100b : List WordDef := [
  ⟨0x100000C, 0x1, 1, [⟨F.TTB_EPOCH_FRAC, .ro, false, .any⟩]⟩,
  ⟨0x100000D, 0x1, 1, [⟨F.TTB_EPOCH_ETICK_LO, .ro, false, .any⟩]⟩,
  ⟨0x100000E, 0x1, 1, [⟨F.TTB_EPOCH_ETICK_HI, .ro, false, .any⟩]⟩,
  ⟨0x100000F, 0x1, 1, [⟨F.TTB_NOMRATE_RATE, .ro, false, .any⟩,
    ⟨F.TTB_NOMRATE_SRC, .ro, false, .any⟩]⟩,
  ⟨0x1000010, 0x1, 1, [⟨F.TTB_EPOCHTOL_TOL, .rwl, false, .any⟩]⟩,
  ⟨0x1000030, 0x1, 1, [⟨F.TTB_SNAP_TAG, .ro, false, .any⟩,
    ⟨F.TTB_SNAP_COUNT, .ro, false, .any⟩]⟩,
  ⟨0x1000031, 0x1, 1, [⟨F.TTB_SNAP_KEY_LO, .ro, false, .any⟩]⟩,
  ⟨0x1000032, 0x1, 1, [⟨F.TTB_SNAP_KEY_HI, .ro, false, .any⟩,
    ⟨F.TTB_SNAP_BUSY, .ro, false, .any⟩]⟩,
  ⟨0x1000033, 0x1, 1, [⟨F.TTB_MARK_VALUE, .ro, false, .any⟩,
    ⟨F.TTB_MARK_COUNT, .ro, false, .any⟩]⟩,
  ⟨0x1000034, 0x1, 1, [⟨F.TTB_DPR_KEY_LO, .ro, false, .any⟩]⟩,
  ⟨0x1000035, 0x1, 1, [⟨F.TTB_DPR_KEY_HI, .ro, false, .any⟩]⟩,
  ⟨0x1000040, 0x4, 10, [⟨F.TTB_ENQ_KEY_LO, .rw, false, .any⟩]⟩]

def regs100c : List WordDef := [
  ⟨0x1000041, 0x4, 10, [⟨F.TTB_ENQ_KEY_HI, .rw, false, .any⟩]⟩,
  ⟨0x1000042, 0x4, 10, [⟨F.TTB_ENQ_ARG, .rw, false, .any⟩]⟩,
  ⟨0x1000043, 0x4, 10, [⟨F.TTB_ENQ_CODE, .rw, false, .any⟩,
    ⟨F.TTB_ENQ_GO, .wo, false, .any⟩,
    ⟨F.TTB_ENQ_RESULT, .ro, false, .any⟩]⟩]

def regs101 : List WordDef := [
  ⟨0x1010000, 0x1, 1, [⟨F.BEL_CTRL_IRQ_EN, .rw, false, .any⟩,
    ⟨F.BEL_CTRL_LOG_EN, .rw, false, .any⟩,
    ⟨F.BEL_CTRL_TWIN_EN, .rw, false, .any⟩]⟩,
  ⟨0x1010001, 0x1, 1, [⟨F.BEL_LOGPOS_NEXT, .ro, false, .any⟩]⟩,
  ⟨0x1010100, 0x1, 32, [⟨F.BEL_STS_STS, .w1c, false, .any⟩]⟩,
  ⟨0x1010200, 0x1, 9, [⟨F.BEL_Q_EVENT, .ro, false, .any⟩,
    ⟨F.BEL_Q_VALID, .ro, false, .any⟩,
    ⟨F.BEL_Q_INJ, .ro, false, .any⟩]⟩,
  ⟨0x1011000, 0x1, 1024, [⟨F.BEL_SRC_EN, .rw, false, .any⟩,
    ⟨F.BEL_SRC_R_SBX, .rw, false, .any⟩,
    ⟨F.BEL_SRC_R_DSP, .rw, false, .any⟩,
    ⟨F.BEL_SRC_R_IRQ, .rw, false, .any⟩,
    ⟨F.BEL_SRC_R_LOG, .rw, false, .any⟩,
    ⟨F.BEL_SRC_R_TWIN, .rw, false, .any⟩,
    ⟨F.BEL_SRC_DSEL, .rw, false, .any⟩,
    ⟨F.BEL_SRC_STS, .w1c, false, .any⟩,
    ⟨F.BEL_SRC_INJ, .wo, false, .any⟩,
    ⟨F.BEL_SRC_COUNT, .ro, false, .any⟩]⟩]

def regs102 : List WordDef := [
  ⟨0x1020000, 0x1, 1, [⟨F.ILK_CTRL_TMO, .rw, true, .any⟩,
    ⟨F.ILK_CTRL_AGELIM, .rw, false, .any⟩]⟩,
  ⟨0x1020001, 0x1, 1, [⟨F.ILK_STATUS_DECERR, .w1c, false, .any⟩,
    ⟨F.ILK_STATUS_ASLEEP, .w1c, false, .any⟩,
    ⟨F.ILK_STATUS_TIMEOUT, .w1c, false, .any⟩,
    ⟨F.ILK_STATUS_HELD, .w1c, false, .any⟩,
    ⟨F.ILK_STATUS_MRST_CUT, .w1c, false, .any⟩,
    ⟨F.ILK_STATUS_SHN_ERR, .w1c, false, .any⟩]⟩,
  ⟨0x1020002, 0x1, 1, [⟨F.ILK_ERR_ADDR, .ro, false, .any⟩,
    ⟨F.ILK_ERR_MASTER, .ro, false, .any⟩,
    ⟨F.ILK_ERR_KIND, .ro, false, .any⟩,
    ⟨F.ILK_ERR_WRITE, .ro, false, .any⟩,
    ⟨F.ILK_ERR_VALID, .w1c, false, .any⟩]⟩,
  ⟨0x1020010, 0x1, 16, [⟨F.ILK_MST_QOS, .rw, false, .any⟩,
    ⟨F.ILK_MST_OUT, .ro, false, .any⟩,
    ⟨F.ILK_MST_COUNT, .ro, false, .any⟩]⟩,
  ⟨0x1020020, 0x4, 4, [⟨F.ILK_SHN_GO, .wo, false, .any⟩,
    ⟨F.ILK_SHN_STOP, .wo, false, .any⟩,
    ⟨F.ILK_SHN_BUSY, .ro, false, .any⟩,
    ⟨F.ILK_SHN_RESULT, .ro, false, .any⟩]⟩,
  ⟨0x1020021, 0x4, 4, [⟨F.ILK_SHN_DESC, .rw, false, .any⟩]⟩,
  ⟨0x1020022, 0x4, 4, [⟨F.ILK_SHN_CUR, .ro, false, .any⟩]⟩,
  ⟨0x1020023, 0x4, 4, [⟨F.ILK_SHN_ERRADDR, .ro, false, .any⟩,
    ⟨F.ILK_SHN_ERRRESP, .ro, false, .any⟩]⟩]

def regs103 : List WordDef := [
  ⟨0x1030000, 0x1, 1, [⟨F.MGT_CFG_MODE, .ro, false, .any⟩,
    ⟨F.MGT_CFG_ADR, .ro, false, .any⟩,
    ⟨F.MGT_CFG_WRITE_EN, .rwl, false, .any⟩]⟩,
  ⟨0x1030001, 0x1, 1, [⟨F.MGT_STATUS_FRAME, .w1c, false, .any⟩,
    ⟨F.MGT_STATUS_DENIED, .w1c, false, .any⟩,
    ⟨F.MGT_STATUS_OVERRUN, .w1c, false, .any⟩,
    ⟨F.MGT_STATUS_CFGW, .w1c, false, .any⟩,
    ⟨F.MGT_STATUS_RESET, .w1c, false, .any⟩]⟩,
  ⟨0x1030002, 0x1, 1, [⟨F.MGT_CNT_ACCEPTED, .ro, false, .any⟩,
    ⟨F.MGT_CNT_DISCARDED, .ro, false, .any⟩]⟩,
  ⟨0x1030003, 0x1, 1, [⟨F.MGT_CSEQ_CSEQ, .ro, false, .any⟩,
    ⟨F.MGT_CSEQ_LAST_TAG, .ro, false, .any⟩]⟩]

def regs104 : List WordDef := [
  ⟨0x1040000, 0x1, 1, [⟨F.DEP_STATE_STEP, .ro, false, .any⟩,
    ⟨F.DEP_STATE_SLOT, .ro, false, .any⟩,
    ⟨F.DEP_STATE_SEALED, .ro, false, .any⟩,
    ⟨F.DEP_STATE_RECOVERY, .ro, false, .any⟩,
    ⟨F.DEP_STATE_BOARD_OK, .ro, false, .any⟩,
    ⟨F.DEP_STATE_KEYSEL, .ro, false, .any⟩]⟩,
  ⟨0x1040001, 0x1, 1, [⟨F.DEP_STATUS_EVT, .w1c, false, .any⟩]⟩,
  ⟨0x1040002, 0x1, 2, [⟨F.DEP_SLOT_VERSION, .ro, false, .any⟩,
    ⟨F.DEP_SLOT_CAUSE, .ro, false, .any⟩]⟩,
  ⟨0x1040004, 0x1, 1, [⟨F.DEP_PLAN_ACTIVE, .ro, false, .any⟩,
    ⟨F.DEP_PLAN_PLAN_ID, .ro, false, .any⟩,
    ⟨F.DEP_PLAN_VALID, .ro, false, .any⟩,
    ⟨F.DEP_PLAN_PASS, .ro, false, .any⟩]⟩,
  ⟨0x1040005, 0x1, 1, [⟨F.DEP_BOARD_CALVER, .ro, false, .any⟩]⟩,
  ⟨0x1040006, 0x1, 1, [⟨F.DEP_DBG_SCOPE, .ro, false, .any⟩]⟩,
  ⟨0x1040007, 0x1, 1, [⟨F.DEP_DBGNONCE_NONCE_LO, .ro, false, .any⟩]⟩,
  ⟨0x1040008, 0x1, 1, [⟨F.DEP_DBGNONCE_NONCE_HI, .ro, false, .any⟩]⟩,
  ⟨0x1040009, 0x1, 1, [⟨F.DEP_FLCTRL_SLOT_WE, .rwl, false, .any⟩,
    ⟨F.DEP_FLCTRL_BOARD_WE, .rwl, false, .any⟩,
    ⟨F.DEP_FLCTRL_MODE, .ro, false, .any⟩,
    ⟨F.DEP_FLCTRL_MHZ, .ro, false, .any⟩,
    ⟨F.DEP_FLCTRL_DENSITY, .ro, false, .any⟩]⟩,
  ⟨0x104000A, 0x1, 1, [⟨F.DEP_FLCMD_OP, .rw, false, .any⟩,
    ⟨F.DEP_FLCMD_GO, .wo, false, .any⟩,
    ⟨F.DEP_FLCMD_BUSY, .ro, false, .any⟩,
    ⟨F.DEP_FLCMD_RESULT, .ro, false, .any⟩]⟩,
  ⟨0x104000B, 0x1, 1, [⟨F.DEP_FLADDR_ADDR, .rw, false, .any⟩]⟩,
  ⟨0x104000C, 0x1, 1, [⟨F.DEP_FLLEN_LEN, .rw, true, .le 1280⟩]⟩]

def regs105 : List WordDef := [
  ⟨0x1050000, 0x1, 1, [⟨F.LMP_WATCH_PERIOD, .rw, true, .le 10000⟩]⟩,
  ⟨0x1050001, 0x1, 1, [⟨F.LMP_WAKEEN_GAUGE, .rw, false, .any⟩,
    ⟨F.LMP_WAKEEN_WAKE_N, .rw, false, .any⟩,
    ⟨F.LMP_WAKEEN_ALARM, .rw, false, .any⟩]⟩,
  ⟨0x1050002, 0x1, 1, [⟨F.LMP_ALARM_CNT_LO, .rw, false, .any⟩]⟩,
  ⟨0x1050003, 0x1, 1, [⟨F.LMP_ALARM_CNT_HI, .rw, false, .any⟩,
    ⟨F.LMP_ALARM_ARM, .rw, false, .any⟩]⟩,
  ⟨0x1050004, 0x1, 1, [⟨F.LMP_LCNT_CNT_LO, .ro, false, .any⟩]⟩,
  ⟨0x1050005, 0x1, 1, [⟨F.LMP_LCNT_CNT_HI, .ro, false, .any⟩]⟩,
  ⟨0x1050006, 0x1, 1, [⟨F.LMP_RSTREC_CAUSE, .ro, false, .any⟩,
    ⟨F.LMP_RSTREC_COUNT, .ro, false, .any⟩]⟩,
  ⟨0x1050007, 0x1, 1, [⟨F.LMP_WAKEREC_CAUSE, .ro, false, .any⟩,
    ⟨F.LMP_WAKEREC_WAKES, .ro, false, .any⟩,
    ⟨F.LMP_WAKEREC_FAILED, .ro, false, .any⟩,
    ⟨F.LMP_WAKEREC_TRY, .ro, false, .any⟩]⟩,
  ⟨0x1050008, 0x1, 1, [⟨F.LMP_WATCHCNT_WATCHES, .ro, false, .any⟩,
    ⟨F.LMP_WATCHCNT_LONG, .ro, false, .any⟩]⟩,
  ⟨0x1050010, 0x1, 4, [⟨F.LMP_SCRATCH_VALUE, .rw, false, .any⟩]⟩]

def regs106a : List WordDef := [
  ⟨0x1060000, 0x1, 1, [⟨F.SUB_CTRL_TARGET, .rw, false, .any⟩,
    ⟨F.SUB_CTRL_AUTO_RUN, .rwl, false, .any⟩,
    ⟨F.SUB_CTRL_WAKE_RUN, .rwl, false, .any⟩]⟩,
  ⟨0x1060001, 0x1, 1, [⟨F.SUB_STATE_STATE, .ro, false, .any⟩,
    ⟨F.SUB_STATE_PEND, .ro, false, .any⟩,
    ⟨F.SUB_STATE_STEP, .ro, false, .any⟩,
    ⟨F.SUB_STATE_BUSY, .ro, false, .any⟩]⟩,
  ⟨0x1060002, 0x1, 1, [⟨F.SUB_HEADWAY_INTERVAL, .rwl, true, .between 5 1000⟩,
    ⟨F.SUB_HEADWAY_QLEN, .ro, false, .any⟩,
    ⟨F.SUB_HEADWAY_WAITS, .ro, false, .any⟩]⟩,
  ⟨0x1060003, 0x1, 1, [⟨F.SUB_WAKETMO_REG, .rwl, true, .le 2000⟩,
    ⟨F.SUB_WAKETMO_PLL, .rwl, true, .le 1000⟩,
    ⟨F.SUB_WAKETMO_TRIES, .rwl, true, .any⟩]⟩,
  ⟨0x1060004, 0x1, 1, [⟨F.SUB_STATUS_EVT, .w1c, false, .any⟩]⟩,
  ⟨0x1060005, 0x1, 1, [⟨F.SUB_RETFAIL_BANK, .w1c, false, .any⟩]⟩,
  ⟨0x1060006, 0x1, 1, [⟨F.SUB_RETCNT_CHECKS, .ro, false, .any⟩,
    ⟨F.SUB_RETCNT_FAILS, .ro, false, .any⟩]⟩,
  ⟨0x1060010, 0x1, 4, [⟨F.SUB_REG_EN, .rwl, false, .any⟩,
    ⟨F.SUB_REG_RET_CODE, .rwl, false, .any⟩,
    ⟨F.SUB_REG_PG, .ro, false, .any⟩]⟩,
  ⟨0x1060100, 0x1, 35, [⟨F.SUB_DOM_STATE, .ro, false, .any⟩,
    ⟨F.SUB_DOM_FAILED, .ro, false, .any⟩,
    ⟨F.SUB_DOM_RDY_TMO, .rwl, true, .any⟩,
    ⟨F.SUB_DOM_UPS, .ro, false, .any⟩]⟩,
  ⟨0x1061000, 0x10, 4, [⟨F.AOU_CTRL_ROLE, .rwl, false, .le 3⟩,
    ⟨F.AOU_CTRL_MODE, .rw, false, .any⟩,
    ⟨F.AOU_CTRL_GAIN, .rw, false, .any⟩,
    ⟨F.AOU_CTRL_FFORCE, .wo, false, .any⟩,
    ⟨F.AOU_CTRL_CLRFAULT, .wo, false, .any⟩]⟩,
  ⟨0x1061001, 0x10, 4, [⟨F.AOU_TARGET_TARGET, .rw, false, .any⟩]⟩,
  ⟨0x1061002, 0x10, 4, [⟨F.AOU_DRIVEN_C, .ro, false, .any⟩,
    ⟨F.AOU_DRIVEN_PHASE, .ro, false, .any⟩]⟩]

def regs106b : List WordDef := [
  ⟨0x1061003, 0x10, 4, [⟨F.AOU_SLEW_STEP, .rwl, false, .any⟩,
    ⟨F.AOU_SLEW_PERIOD, .rwl, true, .any⟩]⟩,
  ⟨0x1061004, 0x10, 4, [⟨F.AOU_LIM_LO, .rwl, false, .any⟩,
    ⟨F.AOU_LIM_HI, .rwl, false, .any⟩,
    ⟨F.AOU_LIM_RBTOL, .rwl, false, .any⟩]⟩,
  ⟨0x1061005, 0x10, 4, [⟨F.AOU_TRIM_OFS, .rwl, false, .any⟩,
    ⟨F.AOU_TRIM_GTRIM, .rwl, false, .any⟩]⟩,
  ⟨0x1061006, 0x10, 4, [⟨F.AOU_METER_SRC, .rwl, false, .le 35⟩,
    ⟨F.AOU_METER_ZERO, .rwl, false, .any⟩,
    ⟨F.AOU_METER_SLOPE, .rwl, false, .any⟩]⟩,
  ⟨0x1061007, 0x10, 4, [⟨F.AOU_METER_BASE, .rwl, false, .any⟩]⟩,
  ⟨0x1061008, 0x10, 4, [⟨F.AOU_STAT_FAULT, .ro, false, .any⟩,
    ⟨F.AOU_STAT_OPEN, .ro, false, .any⟩,
    ⟨F.AOU_STAT_RBERR, .w1c, false, .any⟩,
    ⟨F.AOU_STAT_REJ, .w1c, false, .any⟩,
    ⟨F.AOU_STAT_PU, .ro, false, .any⟩,
    ⟨F.AOU_STAT_FCODE, .ro, false, .any⟩]⟩,
  ⟨0x1062000, 0x1, 1, [⟨F.MON_CTRL_EN, .rw, false, .any⟩,
    ⟨F.MON_CTRL_ROUNDS, .ro, false, .any⟩]⟩,
  ⟨0x1062001, 0x1, 1, [⟨F.MON_STATUS_ACTIVE, .ro, false, .any⟩]⟩,
  ⟨0x1062100, 0x1, 36, [⟨F.MON_RES_RAW, .ro, false, .any⟩,
    ⟨F.MON_RES_FILT, .ro, false, .any⟩,
    ⟨F.MON_RES_HI, .ro, false, .any⟩]⟩,
  ⟨0x1062200, 0x2, 36, [⟨F.MON_TH_HI, .rwl, false, .any⟩,
    ⟨F.MON_TH_LO, .rwl, false, .any⟩,
    ⟨F.MON_TH_HYST, .rwl, false, .any⟩]⟩,
  ⟨0x1062201, 0x2, 36, [⟨F.MON_TH_EVT, .rwl, false, .any⟩,
    ⟨F.MON_TH_FMASK, .rwl, false, .any⟩,
    ⟨F.MON_TH_STAND, .rwl, false, .any⟩,
    ⟨F.MON_TH_WAKE, .rwl, false, .any⟩,
    ⟨F.MON_TH_FSHIFT, .rwl, false, .any⟩,
    ⟨F.MON_TH_OFS, .rwl, false, .any⟩]⟩]

def regs107 : List WordDef := [
  ⟨0x1070000, 0x1, 1, [⟨F.CPL_CTRL_EN, .rwl, false, .any⟩,
    ⟨F.CPL_CTRL_PROMOTE, .wo, false, .any⟩,
    ⟨F.CPL_CTRL_FORCE, .wo, false, .any⟩,
    ⟨F.CPL_CTRL_RESIGN, .wo, false, .any⟩,
    ⟨F.CPL_CTRL_JOIN, .wo, false, .any⟩]⟩,
  ⟨0x1070001, 0x1, 1, [⟨F.CPL_ID_PAIR_ID, .rwl, false, .any⟩,
    ⟨F.CPL_ID_BOOT_ROLE, .rwl, false, .any⟩]⟩,
  ⟨0x1070002, 0x1, 1, [⟨F.CPL_STATE_ROLE, .ro, false, .any⟩,
    ⟨F.CPL_STATE_COUPLED, .ro, false, .any⟩,
    ⟨F.CPL_STATE_JSTATE, .ro, false, .any⟩,
    ⟨F.CPL_STATE_LANES, .ro, false, .any⟩,
    ⟨F.CPL_STATE_TERM, .ro, false, .any⟩]⟩,
  ⟨0x1070003, 0x1, 1, [⟨F.CPL_PEER_TWIN_ID, .ro, false, .any⟩,
    ⟨F.CPL_PEER_ROLE, .ro, false, .any⟩,
    ⟨F.CPL_PEER_JSTATE, .ro, false, .any⟩,
    ⟨F.CPL_PEER_CSEQ, .ro, false, .any⟩,
    ⟨F.CPL_PEER_CFG_MATCH, .ro, false, .any⟩,
    ⟨F.CPL_PEER_FW_MATCH, .ro, false, .any⟩]⟩,
  ⟨0x1070004, 0x1, 1, [⟨F.CPL_STATUS_EVT, .w1c, false, .any⟩]⟩,
  ⟨0x1070005, 0x1, 1, [⟨F.CPL_MIRROR_SENT, .ro, false, .any⟩,
    ⟨F.CPL_MIRROR_ACKED, .ro, false, .any⟩,
    ⟨F.CPL_MIRROR_RESULT, .ro, false, .any⟩,
    ⟨F.CPL_MIRROR_PENDING, .ro, false, .any⟩]⟩,
  ⟨0x1070006, 0x1, 1, [⟨F.CPL_JOIN_J_LO, .ro, false, .any⟩]⟩,
  ⟨0x1070007, 0x1, 1, [⟨F.CPL_JOIN_J_HI, .ro, false, .any⟩]⟩,
  ⟨0x1070008, 0x1, 1, [⟨F.CPL_JSTART_JS_LO, .ro, false, .any⟩]⟩,
  ⟨0x1070009, 0x1, 1, [⟨F.CPL_JSTART_JS_HI, .ro, false, .any⟩]⟩,
  ⟨0x107000A, 0x1, 1, [⟨F.CPL_HBCNT_COUNT, .ro, false, .any⟩]⟩,
  ⟨0x107000B, 0x1, 1, [⟨F.CPL_CNT_LOSSES, .ro, false, .any⟩,
    ⟨F.CPL_CNT_JOINS, .ro, false, .any⟩,
    ⟨F.CPL_CNT_FAILS, .ro, false, .any⟩]⟩]

def regs200 : List WordDef := [
  ⟨0x2000000, 0x1000, 84, [⟨F.TRK_CTRL_EN, .rw, false, .any⟩,
    ⟨F.TRK_CTRL_PERS, .rw, false, .any⟩,
    ⟨F.TRK_CTRL_HSK_MODE, .rw, false, .any⟩,
    ⟨F.TRK_CTRL_PREC_TX, .rwl, false, .any⟩,
    ⟨F.TRK_CTRL_PREC_RX, .rwl, false, .any⟩,
    ⟨F.TRK_CTRL_POL_TX, .rwl, false, .any⟩,
    ⟨F.TRK_CTRL_POL_RX, .rwl, false, .any⟩,
    ⟨F.TRK_CTRL_LPBK, .rw, false, .any⟩,
    ⟨F.TRK_CTRL_WATCH, .rw, false, .any⟩,
    ⟨F.TRK_CTRL_TRST, .wo, false, .any⟩]⟩,
  ⟨0x2000001, 0x1000, 84, [⟨F.TRK_EQ_PRE, .rwl, false, .any⟩,
    ⟨F.TRK_EQ_MAIN, .rwl, false, .any⟩,
    ⟨F.TRK_EQ_POST, .rwl, false, .any⟩,
    ⟨F.TRK_EQ_CTLE, .rwl, false, .any⟩,
    ⟨F.TRK_EQ_DFE, .rwl, false, .any⟩]⟩,
  ⟨0x2000002, 0x1000, 84, [⟨F.TRK_LINKID_OWN_ID, .rwl, false, .any⟩,
    ⟨F.TRK_LINKID_PEER_ID, .rwl, false, .any⟩]⟩,
  ⟨0x2000003, 0x1000, 84, [⟨F.TRK_STATE_STATE, .ro, false, .any⟩,
    ⟨F.TRK_STATE_CAUSE, .ro, false, .any⟩,
    ⟨F.TRK_STATE_HOLDOFF, .ro, false, .any⟩,
    ⟨F.TRK_STATE_RATE_PEND, .ro, false, .any⟩,
    ⟨F.TRK_STATE_RXLINK, .ro, false, .any⟩,
    ⟨F.TRK_STATE_QLOCK, .ro, false, .any⟩,
    ⟨F.TRK_STATE_PARKED, .ro, false, .any⟩,
    ⟨F.TRK_STATE_TRANS, .ro, false, .any⟩]⟩,
  ⟨0x2000004, 0x1000, 84, [⟨F.TRK_PEER_LINK_ID, .ro, false, .any⟩,
    ⟨F.TRK_PEER_STAGE, .ro, false, .any⟩,
    ⟨F.TRK_PEER_ANY, .ro, false, .any⟩]⟩,
  ⟨0x2000005, 0x1000, 84, [⟨F.TRK_STATUS_ENERGY_LOST, .w1c, false, .any⟩,
    ⟨F.TRK_STATUS_CDR_FAIL, .w1c, false, .any⟩,
    ⟨F.TRK_STATUS_COMMA_FAIL, .w1c, false, .any⟩,
    ⟨F.TRK_STATUS_FRAME_FAIL, .w1c, false, .any⟩,
    ⟨F.TRK_STATUS_HSK_FAIL, .w1c, false, .any⟩,
    ⟨F.TRK_STATUS_IDENTITY, .w1c, false, .any⟩,
    ⟨F.TRK_STATUS_TOKEN_LOSS, .w1c, false, .any⟩,
    ⟨F.TRK_STATUS_RATE_ABORT, .w1c, false, .any⟩,
    ⟨F.TRK_STATUS_EQ_REJ, .w1c, false, .any⟩,
    ⟨F.TRK_STATUS_QPLL_LOST, .w1c, false, .any⟩,
    ⟨F.TRK_STATUS_PEER_RESTART, .w1c, false, .any⟩,
    ⟨F.TRK_STATUS_PRBS_LOSS, .w1c, false, .any⟩]⟩,
  ⟨0x2000006, 0x1000, 84, [⟨F.TRK_TEST_GEN, .rw, false, .le 2⟩,
    ⟨F.TRK_TEST_CHK, .rw, false, .le 2⟩,
    ⟨F.TRK_TEST_CHK_LOCK, .ro, false, .any⟩,
    ⟨F.TRK_TEST_CLR, .wo, false, .any⟩]⟩,
  ⟨0x2000007, 0x1000, 84, [⟨F.TRK_PERR_ERR_LO, .ro, false, .any⟩]⟩,
  ⟨0x2000008, 0x1000, 84, [⟨F.TRK_PERR_ERR_HI, .ro, false, .any⟩]⟩,
  ⟨0x2000009, 0x1000, 84, [⟨F.TRK_PCMP_CMP_LO, .ro, false, .any⟩]⟩,
  ⟨0x200000A, 0x1000, 84, [⟨F.TRK_PCMP_CMP_HI, .ro, false, .any⟩]⟩,
  ⟨0x200000B, 0x1000, 84, [⟨F.TRK_RXQ_SNR, .ro, false, .any⟩,
    ⟨F.TRK_RXQ_VALID, .ro, false, .any⟩]⟩]

def regs20F : List WordDef := [
  ⟨0x20F0000, 0x1, 4, [⟨F.TRK_QUAD_PLL180_LOCK, .ro, false, .any⟩,
    ⟨F.TRK_QUAD_PLL170_LOCK, .ro, false, .any⟩,
    ⟨F.TRK_QUAD_PLL170_RUN, .ro, false, .any⟩,
    ⟨F.TRK_QUAD_LREF_PRESENT, .ro, false, .any⟩,
    ⟨F.TRK_QUAD_LOSS_COUNT, .ro, false, .any⟩]⟩]

def regs300a : List WordDef := [
  ⟨0x3000000, 0x1, 1, [⟨F.PTS_CFG_N, .rwl, true, .le 8192⟩,
    ⟨F.PTS_CFG_C, .rwl, true, .le 64⟩,
    ⟨F.PTS_CFG_PLOG, .rwl, false, .le 6⟩,
    ⟨F.PTS_CFG_INV_LIM, .rwl, true, .le 512⟩]⟩,
  ⟨0x3000001, 0x1, 1, [⟨F.PTS_CTRL_EN, .rw, false, .any⟩,
    ⟨F.PTS_CTRL_CBANK, .ro, false, .any⟩,
    ⟨F.PTS_CTRL_GBANK, .ro, false, .any⟩,
    ⟨F.PTS_CTRL_PBANK, .ro, false, .any⟩,
    ⟨F.PTS_CTRL_CLRCNT, .wo, false, .any⟩]⟩,
  ⟨0x3000002, 0x1, 1, [⟨F.PTS_FC_FC, .rwl, true, .any⟩]⟩,
  ⟨0x3000003, 0x1, 1, [⟨F.PTS_SEGCFG_SEGLEN, .rwl, true, .segLen⟩]⟩,
  ⟨0x3000004, 0x1, 1, [⟨F.PTS_DLYCFG_DREF, .rwl, false, .any⟩]⟩,
  ⟨0x3000005, 0x1, 1, [⟨F.PTS_BANKS_CRDY, .rw, false, .any⟩,
    ⟨F.PTS_BANKS_GRDY, .rw, false, .any⟩,
    ⟨F.PTS_BANKS_CMISS, .ro, false, .any⟩,
    ⟨F.PTS_BANKS_GMISS, .ro, false, .any⟩]⟩,
  ⟨0x3000006, 0x1, 1, [⟨F.PTS_PSEG_TAG, .rw, false, .any⟩,
    ⟨F.PTS_PSEG_READY, .ro, false, .any⟩]⟩,
  ⟨0x3000007, 0x1, 1, [⟨F.PTS_PSEG_SIG_SIG, .ro, false, .any⟩]⟩,
  ⟨0x3000008, 0x1, 1, [⟨F.PTS_PSEG_CHK_CHK, .rw, false, .any⟩]⟩,
  ⟨0x3000009, 0x1, 1, [⟨F.PTS_GCTL_MODE, .rwl, false, .le 2⟩,
    ⟨F.PTS_GCTL_TARGET, .rwl, true, .any⟩]⟩,
  ⟨0x300000A, 0x1, 1, [⟨F.PTS_AUTOLEAD_LEAD, .rwl, true, .any⟩]⟩,
  ⟨0x300000B, 0x1, 1, [⟨F.PTS_STATUS_BANK_MISS, .w1c, false, .any⟩,
    ⟨F.PTS_STATUS_MODEL_MISSING, .w1c, false, .any⟩,
    ⟨F.PTS_STATUS_SEG_LATE, .w1c, false, .any⟩,
    ⟨F.PTS_STATUS_DSET_MISMATCH, .w1c, false, .any⟩,
    ⟨F.PTS_STATUS_DELAY_RANGE, .w1c, false, .any⟩,
    ⟨F.PTS_STATUS_DSET_REJECT, .w1c, false, .any⟩,
    ⟨F.PTS_STATUS_SWAP_DUP, .w1c, false, .any⟩,
    ⟨F.PTS_STATUS_OVERRUN, .w1c, false, .any⟩,
    ⟨F.PTS_STATUS_AUTO_HOLD, .w1c, false, .any⟩,
    ⟨F.PTS_STATUS_ENGINE_ERR, .w1c, false, .any⟩]⟩]

def regs300b : List WordDef := [
  ⟨0x300000C, 0x1, 2, [⟨F.PTS_DSET_SET, .ro, false, .any⟩,
    ⟨F.PTS_DSET_RCVD, .ro, false, .any⟩,
    ⟨F.PTS_DSET_COUNT, .ro, false, .any⟩,
    ⟨F.PTS_DSET_VALID, .ro, false, .any⟩,
    ⟨F.PTS_DSET_COMPLETE, .ro, false, .any⟩]⟩,
  ⟨0x300000E, 0x1, 1, [⟨F.PTS_GPAGE_BANK, .rw, false, .any⟩,
    ⟨F.PTS_GPAGE_HALF, .rw, false, .any⟩]⟩,
  ⟨0x3000100, 0x1, 64, [⟨F.PTS_CHAN_NUC, .rwl, false, .any⟩]⟩,
  ⟨0x3000200, 0x1, 64, [⟨F.PTS_BP_BP, .rwl, true, .any⟩]⟩]

def regs30F : List WordDef := [
  ⟨0x30F0000, 0x10, 84, [⟨F.PTS_FRSTAT_UNCORR, .w1c, false, .any⟩,
    ⟨F.PTS_FRSTAT_SEQ_GAP, .w1c, false, .any⟩,
    ⟨F.PTS_FRSTAT_BAD_TYPE, .w1c, false, .any⟩,
    ⟨F.PTS_FRSTAT_BAD_STREAM, .w1c, false, .any⟩,
    ⟨F.PTS_FRSTAT_BAD_INDEX, .w1c, false, .any⟩,
    ⟨F.PTS_FRSTAT_BAD_CCHAN, .w1c, false, .any⟩,
    ⟨F.PTS_FRSTAT_LATE, .w1c, false, .any⟩,
    ⟨F.PTS_FRSTAT_OVERFLOW, .w1c, false, .any⟩,
    ⟨F.PTS_FRSTAT_FILLER_MISS, .w1c, false, .any⟩,
    ⟨F.PTS_FRSTAT_TT_GAP, .w1c, false, .any⟩,
    ⟨F.PTS_FRSTAT_TT_FORMAT, .w1c, false, .any⟩,
    ⟨F.PTS_FRSTAT_TEST_ERR, .w1c, false, .any⟩]⟩,
  ⟨0x30F0001, 0x10, 84, [⟨F.PTS_FRTRN_COUNT, .ro, false, .any⟩]⟩,
  ⟨0x30F0002, 0x10, 84, [⟨F.PTS_FRCSYM_COUNT, .ro, false, .any⟩]⟩,
  ⟨0x30F0003, 0x10, 84, [⟨F.PTS_FRUNC_COUNT, .ro, false, .any⟩]⟩,
  ⟨0x30F0004, 0x10, 84, [⟨F.PTS_FRLATE_COUNT, .ro, false, .any⟩]⟩,
  ⟨0x30F0005, 0x10, 84, [⟨F.PTS_FRLOST_COUNT, .ro, false, .any⟩]⟩,
  ⟨0x30F0006, 0x10, 84, [⟨F.PTS_FRCTL_TT_EN, .rwl, false, .any⟩,
    ⟨F.PTS_FRCTL_CLR, .wo, false, .any⟩]⟩,
  ⟨0x30F0800, 0x1, 1, [⟨F.PTS_ARRCFG_SKEW, .rwl, true, .le 192⟩,
    ⟨F.PTS_ARRCFG_TT_STREAM, .rwl, false, .any⟩]⟩,
  ⟨0x30F0801, 0x1, 1, [⟨F.PTS_TTSER_LAST, .ro, false, .any⟩,
    ⟨F.PTS_TTSER_VALID, .ro, false, .any⟩]⟩,
  ⟨0x30F0802, 0x1, 1, [⟨F.PTS_FRONT_F_LO, .ro, false, .any⟩]⟩,
  ⟨0x30F0803, 0x1, 1, [⟨F.PTS_FRONT_F_HI, .ro, false, .any⟩,
    ⟨F.PTS_FRONT_VALID, .ro, false, .any⟩]⟩]

def regs310a : List WordDef := [
  ⟨0x3100000, 0x1, 1, [⟨F.GAU_CFG_EN, .rw, false, .any⟩,
    ⟨F.GAU_CFG_ATT, .rwl, false, .any⟩,
    ⟨F.GAU_CFG_DEC, .rwl, false, .any⟩,
    ⟨F.GAU_CFG_SKLOG, .rwl, false, .le 10⟩]⟩,
  ⟨0x3100001, 0x1, 1, [⟨F.GAU_SNAP_PERIOD64, .rwl, false, .any⟩]⟩,
  ⟨0x3100002, 0x1, 1, [⟨F.GAU_SNAPIDX_IDX_LO, .ro, false, .any⟩]⟩,
  ⟨0x3100003, 0x1, 1, [⟨F.GAU_SNAPIDX_IDX_HI, .ro, false, .any⟩]⟩,
  ⟨0x3100004, 0x1, 1, [⟨F.GAU_HALT_ENGINE, .rwl, false, .any⟩,
    ⟨F.GAU_HALT_MBLK, .rwl, true, .le 1024⟩]⟩,
  ⟨0x3100005, 0x1, 1, [⟨F.GAU_SPAGE_GROUP, .rw, false, .any⟩]⟩,
  ⟨0x3100010, 0x4, 8, [⟨F.GAU_PROF_FAST_HI, .rwl, false, .any⟩,
    ⟨F.GAU_PROF_FAST_LO, .rwl, false, .any⟩,
    ⟨F.GAU_PROF_EXC_FAST, .rwl, false, .any⟩,
    ⟨F.GAU_PROF_EXC_ENV, .rwl, false, .any⟩,
    ⟨F.GAU_PROF_EVT, .rwl, false, .any⟩,
    ⟨F.GAU_PROF_WAKE, .rwl, false, .any⟩]⟩,
  ⟨0x3100011, 0x4, 8, [⟨F.GAU_PROF_ENV_HI, .rwl, false, .any⟩,
    ⟨F.GAU_PROF_CLIP_MAX, .rwl, false, .le 64⟩,
    ⟨F.GAU_PROF_PRE, .rwl, false, .any⟩,
    ⟨F.GAU_PROF_HANG, .rwl, false, .any⟩]⟩,
  ⟨0x3100012, 0x4, 8, [⟨F.GAU_PROF_K_HI, .rwl, false, .any⟩,
    ⟨F.GAU_PROF_K_LO, .rwl, false, .any⟩]⟩,
  ⟨0x3100013, 0x4, 8, [⟨F.GAU_PROF_ABS_HI, .rwl, false, .any⟩]⟩,
  ⟨0x3100100, 0x1, 64, [⟨F.GAU_GRP_PROF, .rwl, false, .any⟩,
    ⟨F.GAU_GRP_EN, .rwl, false, .any⟩]⟩,
  ⟨0x3100200, 0x2, 64, [⟨F.GAU_GEVT_INPUT, .ro, false, .any⟩,
    ⟨F.GAU_GEVT_CCHAN, .ro, false, .any⟩,
    ⟨F.GAU_GEVT_COND, .ro, false, .any⟩,
    ⟨F.GAU_GEVT_VALID, .w1c, false, .any⟩]⟩]

def regs310b : List WordDef := [
  ⟨0x3100201, 0x2, 64, [⟨F.GAU_GEVT_INDEX, .ro, false, .any⟩]⟩]

def regs320 : List WordDef := [
  ⟨0x3200000, 0x1, 1, [⟨F.TBL_CTRL_EN, .rw, false, .any⟩,
    ⟨F.TBL_CTRL_GBANK, .ro, false, .any⟩,
    ⟨F.TBL_CTRL_DBANK, .ro, false, .any⟩,
    ⟨F.TBL_CTRL_CLRCNT, .wo, false, .any⟩]⟩,
  ⟨0x3200001, 0x1, 1, [⟨F.TBL_CFG_ROUTE, .rwl, false, .any⟩,
    ⟨F.TBL_CFG_BDEPTH, .rwl, true, .le 64⟩,
    ⟨F.TBL_CFG_BOFF, .rwl, false, .any⟩]⟩,
  ⟨0x3200002, 0x1, 1, [⟨F.TBL_BANKS_GRDY, .rw, false, .any⟩,
    ⟨F.TBL_BANKS_GMISS, .ro, false, .any⟩,
    ⟨F.TBL_BANKS_DMISS, .ro, false, .any⟩]⟩,
  ⟨0x3200003, 0x1, 1, [⟨F.TBL_DTAG_TAG, .rw, false, .any⟩,
    ⟨F.TBL_DTAG_READY, .ro, false, .any⟩]⟩,
  ⟨0x3200004, 0x1, 1, [⟨F.TBL_DSIG_SIG, .ro, false, .any⟩]⟩,
  ⟨0x3200005, 0x1, 1, [⟨F.TBL_DCHK_CHK, .rw, false, .any⟩]⟩,
  ⟨0x3200006, 0x1, 1, [⟨F.TBL_STATUS_BSWAP_MISS, .w1c, false, .any⟩,
    ⟨F.TBL_STATUS_BDLY_MISMATCH, .w1c, false, .any⟩,
    ⟨F.TBL_STATUS_ECLIP, .w1c, false, .any⟩,
    ⟨F.TBL_STATUS_BSAT, .w1c, false, .any⟩,
    ⟨F.TBL_STATUS_BCFG, .w1c, false, .any⟩]⟩,
  ⟨0x3200007, 0x1, 1, [⟨F.TBL_STORE_OCC, .ro, false, .any⟩,
    ⟨F.TBL_STORE_PEAK, .ro, false, .any⟩,
    ⟨F.TBL_STORE_BDROP, .ro, false, .any⟩]⟩,
  ⟨0x3200100, 0x2, 128, [⟨F.TBL_BEAM_MODE, .rwl, false, .le 5⟩,
    ⟨F.TBL_BEAM_SEL, .rwl, false, .le 2⟩,
    ⟨F.TBL_BEAM_VSHIFT, .rwl, false, .le 24⟩,
    ⟨F.TBL_BEAM_PSHIFT, .rwl, false, .le 24⟩,
    ⟨F.TBL_BEAM_OSHIFT, .rwl, false, .le 48⟩]⟩,
  ⟨0x3200101, 0x2, 128, [⟨F.TBL_BEAM_M, .rwl, true, .le 65536⟩,
    ⟨F.TBL_BEAM_NFR, .rwl, true, .nfr⟩]⟩]

def regs400a : List WordDef := [
  ⟨0x4000000, 0x1, 1, [⟨F.SDG_CTRL_EN, .rw, false, .any⟩,
    ⟨F.SDG_CTRL_RATE, .rw, false, .le 2⟩,
    ⟨F.SDG_CTRL_SCRUB_EN, .rw, false, .any⟩,
    ⟨F.SDG_CTRL_PLAT_CHECK, .rw, false, .any⟩,
    ⟨F.SDG_CTRL_PASR_REQ, .rw, false, .any⟩,
    ⟨F.SDG_CTRL_DBG, .ro, false, .any⟩]⟩,
  ⟨0x4000001, 0x1, 1, [⟨F.SDG_PLEN_PLEN, .rwl, true, .plen⟩]⟩,
  ⟨0x4000002, 0x1, 1, [⟨F.SDG_ORIGIN_JP_LO, .ro, false, .any⟩]⟩,
  ⟨0x4000003, 0x1, 1, [⟨F.SDG_ORIGIN_JP_HI, .ro, false, .any⟩]⟩,
  ⟨0x4000004, 0x1, 1, [⟨F.SDG_PERIOD_M, .ro, false, .any⟩]⟩,
  ⟨0x4000005, 0x1, 1, [⟨F.SDG_STACKS_WORK, .ro, false, .any⟩,
    ⟨F.SDG_STACKS_FAILED, .ro, false, .any⟩,
    ⟨F.SDG_STACKS_K, .ro, false, .any⟩,
    ⟨F.SDG_STACKS_HOME, .ro, false, .any⟩,
    ⟨F.SDG_STACKS_RATE_PEND, .ro, false, .any⟩]⟩,
  ⟨0x4000006, 0x1, 1, [⟨F.SDG_PASR_KEEP, .rw, false, .any⟩,
    ⟨F.SDG_PASR_KEPT, .ro, false, .any⟩,
    ⟨F.SDG_PASR_ACTIVE, .ro, false, .any⟩]⟩,
  ⟨0x4000007, 0x1, 1, [⟨F.SDG_TEMP_LIMIT, .rwl, false, .any⟩]⟩,
  ⟨0x4000008, 0x1, 1, [⟨F.SDG_SCRUB_PERIOD, .rwl, true, .le 3600⟩]⟩,
  ⟨0x4000009, 0x1, 1, [⟨F.SDG_SCRUBPOS_BLOCK, .ro, false, .any⟩,
    ⟨F.SDG_SCRUBPOS_PASSES, .ro, false, .any⟩]⟩,
  ⟨0x400000A, 0x1, 1, [⟨F.SDG_ECCTH_CORR_LIM, .rw, false, .any⟩]⟩,
  ⟨0x400000B, 0x1, 1, [⟨F.SDG_APAGE_PAGE, .rw, false, .apage⟩,
    ⟨F.SDG_APAGE_SPACE, .rw, false, .any⟩]⟩]

def regs400b : List WordDef := [
  ⟨0x400000C, 0x1, 1, [⟨F.SDG_STATUS_CAP_REJECT, .w1c, false, .any⟩,
    ⟨F.SDG_STATUS_CAP_TRUNC, .w1c, false, .any⟩,
    ⟨F.SDG_STATUS_CAP_CLIPPED, .w1c, false, .any⟩,
    ⟨F.SDG_STATUS_HOLD_SUPPRESS, .w1c, false, .any⟩,
    ⟨F.SDG_STATUS_OFFSET_HIST, .w1c, false, .any⟩,
    ⟨F.SDG_STATUS_APERTURE_ERR, .w1c, false, .any⟩,
    ⟨F.SDG_STATUS_PLAN_CHANGE, .w1c, false, .any⟩,
    ⟨F.SDG_STATUS_RATE_REJ, .w1c, false, .any⟩,
    ⟨F.SDG_STATUS_RATE_DONE, .w1c, false, .any⟩]⟩,
  ⟨0x4000010, 0x1, 8, [⟨F.SDG_STK_STATE, .ro, false, .any⟩,
    ⟨F.SDG_STK_ATTEMPTS, .ro, false, .any⟩,
    ⟨F.SDG_STK_STEP, .ro, false, .any⟩,
    ⟨F.SDG_STK_TEMP, .ro, false, .any⟩,
    ⟨F.SDG_STK_RETRAIN, .ro, false, .any⟩]⟩,
  ⟨0x4000020, 0x1, 5, [⟨F.SDG_PORT_TARGET, .rw, false, .any⟩,
    ⟨F.SDG_PORT_AGE, .rw, false, .any⟩]⟩,
  ⟨0x4000040, 0x4, 4, [⟨F.SDG_CAP_DESC, .ro, false, .any⟩,
    ⟨F.SDG_CAP_STATE, .ro, false, .any⟩]⟩,
  ⟨0x4000041, 0x4, 4, [⟨F.SDG_CAP_WSTART, .ro, false, .any⟩]⟩,
  ⟨0x4000042, 0x4, 4, [⟨F.SDG_CAP_RELEASE, .ro, false, .any⟩]⟩,
  ⟨0x4000043, 0x4, 4, [⟨F.SDG_CAP_SENT, .ro, false, .any⟩]⟩,
  ⟨0x4000080, 0x1, 16, [⟨F.SDG_OHTAG_SEG, .ro, false, .any⟩,
    ⟨F.SDG_OHTAG_VALID, .ro, false, .any⟩]⟩]

def regs500a : List WordDef := [
  ⟨0x5000000, 0x1, 1, [⟨F.JCT_CTRL_EN, .rw, false, .any⟩,
    ⟨F.JCT_CTRL_FORCE, .wo, false, .any⟩]⟩,
  ⟨0x5000001, 0x1, 1, [⟨F.JCT_STATE_NB, .ro, false, .any⟩,
    ⟨F.JCT_STATE_TILES, .ro, false, .any⟩,
    ⟨F.JCT_STATE_ROAD, .ro, false, .any⟩,
    ⟨F.JCT_STATE_BUSY, .ro, false, .any⟩,
    ⟨F.JCT_STATE_DRAINING, .ro, false, .any⟩,
    ⟨F.JCT_STATE_TILE, .ro, false, .any⟩,
    ⟨F.JCT_STATE_FCH, .ro, false, .any⟩,
    ⟨F.JCT_STATE_RAKE, .ro, false, .any⟩]⟩,
  ⟨0x5000002, 0x1, 1, [⟨F.JCT_DWELL_G_LO, .ro, false, .any⟩]⟩,
  ⟨0x5000003, 0x1, 1, [⟨F.JCT_DWELL_G_HI, .ro, false, .any⟩]⟩,
  ⟨0x5000004, 0x1, 1, [⟨F.JCT_PACE_SLOT, .rwl, false, .any⟩]⟩,
  ⟨0x5000005, 0x1, 1, [⟨F.JCT_DISTRICT_NEEDED, .ro, false, .any⟩,
    ⟨F.JCT_DISTRICT_READY, .ro, false, .any⟩]⟩,
  ⟨0x5000006, 0x1, 1, [⟨F.JCT_STATUS_OVERRUN, .w1c, false, .any⟩,
    ⟨F.JCT_STATUS_DRAIN_LATE, .w1c, false, .any⟩,
    ⟨F.JCT_STATUS_FORCED, .w1c, false, .any⟩,
    ⟨F.JCT_STATUS_RAKE_REJECT, .w1c, false, .any⟩,
    ⟨F.JCT_STATUS_VIS_SAT, .w1c, false, .any⟩,
    ⟨F.JCT_STATUS_SUSPECT, .w1c, false, .any⟩,
    ⟨F.JCT_STATUS_PARITY, .w1c, false, .any⟩,
    ⟨F.JCT_STATUS_YARD_UNCORR, .w1c, false, .any⟩]⟩,
  ⟨0x5000010, 0x4, 8, [⟨F.JCT_RAKE_DEF, .rwl, false, .rakeDef⟩,
    ⟨F.JCT_RAKE_AUTO, .rwl, false, .any⟩,
    ⟨F.JCT_RAKE_FMT, .rwl, false, .any⟩,
    ⟨F.JCT_RAKE_ROUTE, .rwl, false, .any⟩,
    ⟨F.JCT_RAKE_OPEN, .ro, false, .any⟩,
    ⟨F.JCT_RAKE_NCH, .ro, false, .any⟩]⟩,
  ⟨0x5000011, 0x4, 8, [⟨F.JCT_RAKE_DLEN, .rwl, true, .dlen⟩]⟩,
  ⟨0x5000012, 0x4, 8, [⟨F.JCT_RAKE_JOPEN, .ro, false, .any⟩]⟩,
  ⟨0x5000013, 0x4, 8, [⟨F.JCT_RAKE_DUMPS, .ro, false, .any⟩]⟩,
  ⟨0x5000100, 0x1, 36, [⟨F.JCT_ORDER_A, .ro, false, .any⟩,
    ⟨F.JCT_ORDER_B, .ro, false, .any⟩,
    ⟨F.JCT_ORDER_DIAG, .ro, false, .any⟩]⟩]

def regs500b : List WordDef := [
  ⟨0x5001000, 0x1, 1024, [⟨F.JCT_RMASK_MASK, .rwl, false, .any⟩]⟩,
  ⟨0x5002000, 0x1, 1, [⟨F.YRD_CFG_CORR_LIM, .rw, false, .any⟩,
    ⟨F.YRD_CFG_DBG, .ro, false, .any⟩]⟩,
  ⟨0x5002001, 0x1, 1, [⟨F.YRD_POISON_COUNT, .ro, false, .any⟩]⟩]

def regs508 : List WordDef := [
  ⟨0x5080000, 0x1, 1, [⟨F.INS_CTRL_EN, .rw, false, .any⟩,
    ⟨F.INS_CTRL_AUTO_RETIRE, .rwl, false, .any⟩,
    ⟨F.INS_CTRL_INJ_EN, .rwl, false, .any⟩]⟩,
  ⟨0x5080001, 0x1, 1, [⟨F.INS_STATE_INROT, .ro, false, .any⟩,
    ⟨F.INS_STATE_PERIOD, .ro, false, .any⟩,
    ⟨F.INS_STATE_RECHECK, .ro, false, .any⟩,
    ⟨F.INS_STATE_SCOL, .ro, false, .any⟩,
    ⟨F.INS_STATE_SROW, .ro, false, .any⟩,
    ⟨F.INS_STATE_PEND, .ro, false, .any⟩]⟩,
  ⟨0x5080002, 0x1, 1, [⟨F.INS_STATUS_EVT, .w1c, false, .any⟩,
    ⟨F.INS_STATUS_CLK, .w1c, false, .any⟩]⟩,
  ⟨0x5080003, 0x1, 1, [⟨F.INS_COUNT_MISMATCH, .ro, false, .any⟩,
    ⟨F.INS_COUNT_TRANSIENT, .ro, false, .any⟩,
    ⟨F.INS_COUNT_AMBIG, .ro, false, .any⟩]⟩,
  ⟨0x5080004, 0x1, 1, [⟨F.INS_BUSERR_CORR, .ro, false, .any⟩,
    ⟨F.INS_BUSERR_UNCORR, .ro, false, .any⟩]⟩,
  ⟨0x5080005, 0x1, 1, [⟨F.INS_LOGPOS_NEXT, .ro, false, .any⟩]⟩,
  ⟨0x5080010, 0x1, 8, [⟨F.INS_COLMAP_INDEX, .rwl, false, .any⟩,
    ⟨F.INS_COLMAP_USED, .rwl, false, .any⟩,
    ⟨F.INS_COLMAP_TRIAL, .ro, false, .any⟩]⟩,
  ⟨0x5080018, 0x1, 4, [⟨F.INS_ROWMAP_INDEX, .rwl, false, .any⟩,
    ⟨F.INS_ROWMAP_USED, .rwl, false, .any⟩,
    ⟨F.INS_ROWMAP_TRIAL, .ro, false, .any⟩]⟩,
  ⟨0x5080020, 0x1, 1, [⟨F.INS_INJ_CODE, .rw, false, .any⟩,
    ⟨F.INS_INJ_GO, .wo, false, .any⟩,
    ⟨F.INS_INJ_BUSY, .ro, false, .any⟩,
    ⟨F.INS_INJ_RESULT, .ro, false, .any⟩]⟩,
  ⟨0x5080021, 0x1, 1, [⟨F.INS_INJ_UNIT, .rw, false, .any⟩]⟩,
  ⟨0x5080022, 0x1, 1, [⟨F.INS_INJ_ARG, .rw, false, .any⟩]⟩,
  ⟨0x5080040, 0x1, 7, [⟨F.INS_CLKMON_LO_PPM, .rwl, false, .any⟩,
    ⟨F.INS_CLKMON_HI_PPM, .rwl, false, .any⟩,
    ⟨F.INS_CLKMON_EN, .rw, false, .any⟩,
    ⟨F.INS_CLKMON_FAIL, .ro, false, .any⟩]⟩]

def regs600a : List WordDef := [
  ⟨0x6000000, 0x1, 1, [⟨F.TMN_CTRL_EN, .rw, false, .any⟩,
    ⟨F.TMN_CTRL_CLRCNT, .wo, false, .any⟩]⟩,
  ⟨0x6000001, 0x1, 1, [⟨F.TMN_ID_TWIN_ID, .rwl, false, .any⟩]⟩,
  ⟨0x6000002, 0x1, 1, [⟨F.TMN_STATUS_BUF_FULL, .w1c, false, .any⟩,
    ⟨F.TMN_STATUS_LANE_SKIP, .w1c, false, .any⟩,
    ⟨F.TMN_STATUS_BEAM_DROP, .w1c, false, .any⟩,
    ⟨F.TMN_STATUS_CAP_DONE, .w1c, false, .any⟩,
    ⟨F.TMN_STATUS_DROP, .w1c, false, .any⟩]⟩,
  ⟨0x6000003, 0x1, 1, [⟨F.TMN_BUF_OCC, .ro, false, .any⟩,
    ⟨F.TMN_BUF_PEAK, .ro, false, .any⟩]⟩,
  ⟨0x6000004, 0x1, 1, [⟨F.TMN_CAPNUM_NEXT, .ro, false, .any⟩]⟩,
  ⟨0x6000005, 0x1, 1, [⟨F.TMN_MHEAD_NEWEST, .ro, false, .any⟩,
    ⟨F.TMN_MHEAD_FORMED, .ro, false, .any⟩]⟩,
  ⟨0x6000100, 0x8, 16, [⟨F.TMN_ROUTE_EN, .rwl, false, .any⟩,
    ⟨F.TMN_ROUTE_PERS, .rwl, false, .any⟩,
    ⟨F.TMN_ROUTE_LANES, .rwl, false, .any⟩]⟩,
  ⟨0x6000101, 0x8, 16, [⟨F.TMN_ROUTE_CVIS, .rwl, true, .cvis⟩,
    ⟨F.TMN_ROUTE_CBLK, .rwl, true, .le 4096⟩]⟩,
  ⟨0x6000102, 0x8, 16, [⟨F.TMN_ROUTE_DMAC_HI, .rwl, false, .any⟩]⟩,
  ⟨0x6000103, 0x8, 16, [⟨F.TMN_ROUTE_DMAC_LO, .rwl, false, .any⟩,
    ⟨F.TMN_ROUTE_DIP, .rwl, false, .any⟩]⟩,
  ⟨0x6000104, 0x8, 16, [⟨F.TMN_ROUTE_DPORT, .rwl, false, .any⟩,
    ⟨F.TMN_ROUTE_DSCP, .rwl, false, .any⟩,
    ⟨F.TMN_ROUTE_TTL, .rwl, true, .any⟩]⟩,
  ⟨0x6000105, 0x8, 16, [⟨F.TMN_ROUTE_SENT, .ro, false, .any⟩]⟩]

def regs600b : List WordDef := [
  ⟨0x6000106, 0x8, 16, [⟨F.TMN_ROUTE_DROPPED, .ro, false, .any⟩]⟩,
  ⟨0x6000107, 0x8, 16, [⟨F.TMN_ROUTE_DROPF, .w1c, false, .any⟩]⟩,
  ⟨0x6000200, 0x4, 16, [⟨F.TMN_DEP_SMAC_HI, .rwl, false, .any⟩]⟩,
  ⟨0x6000201, 0x4, 16, [⟨F.TMN_DEP_SMAC_LO, .rwl, false, .any⟩,
    ⟨F.TMN_DEP_SIP, .rwl, false, .any⟩]⟩,
  ⟨0x6000202, 0x4, 16, [⟨F.TMN_DEP_SPORT, .rwl, false, .any⟩]⟩,
  ⟨0x6000203, 0x4, 16, [⟨F.TMN_DEP_SENT, .ro, false, .any⟩]⟩]

/-- The register words near address `a`: by 64 Ki-word blocks of Table 11.3. -/
def regBlock (a : Nat) : List WordDef :=
  match a / 0x10000 with
  | 0xF0 => regs0F0
  | 0x100 => regs100a ++ regs100b ++ regs100c
  | 0x101 => regs101
  | 0x102 => regs102
  | 0x103 => regs103
  | 0x104 => regs104
  | 0x105 => regs105
  | 0x106 => regs106a ++ regs106b
  | 0x107 => regs107
  | 0x20F => regs20F
  | 0x300 => regs300a ++ regs300b
  | 0x30F => regs30F
  | 0x310 => regs310a ++ regs310b
  | 0x320 => regs320
  | 0x400 => regs400a ++ regs400b
  | 0x500 => regs500a ++ regs500b
  | 0x508 => regs508
  | 0x600 => regs600a ++ regs600b
  | b => if 0x200 ≤ b ∧ b ≤ 0x205 then regs200 else []

/-- The table row of the word at `a`; none where `a` is RSV or a window. -/
def regDef (a : Nat) : Option WordDef := (regBlock a).find? (·.holds a)

/-- The nonzero Reset values of the register tables, word by word: base, stride, count, value. -/
def resetRows0 : List (Nat × Nat × Nat × Nat) := [
  (0xF00000, 0x100, 9, 0x40),
  (0x1000000, 0x1, 1, 0x7D2),
  (0x1000008, 0x1, 1, 0x20F580),
  (0x1000010, 0x1, 1, 0x3E8),
  (0x1010000, 0x1, 1, 0x2),
  (0x1020000, 0x1, 1, 0x400FFFF),
  (0x1020010, 0x1, 16, 0x8),
  (0x1030000, 0x1, 1, 0x8),
  (0x1040009, 0x1, 1, 0x1),
  (0x104000C, 0x1, 1, 0x500),
  (0x1050000, 0x1, 1, 0x3E8),
  (0x1050001, 0x1, 1, 0x3),
  (0x1050006, 0x1, 1, 0x1),
  (0x1050007, 0x1, 1, 0x1),
  (0x1060000, 0x1, 1, 0x2),
  (0x1060002, 0x1, 1, 0x14),
  (0x1060003, 0x1, 1, 0x6FA3E8),
  (0x1060100, 0x1, 35, 0x320),
  (0x1061003, 0x10, 4, 0x10000),
  (0x1062000, 0x1, 1, 0x1)]

def resetRows1 : List (Nat × Nat × Nat × Nat) := [
  (0x2000000, 0x1000, 84, 0x18),
  (0x2000001, 0x1000, 84, 0x3F0),
  (0x3000000, 0x1, 1, 0x1006000),
  (0x3000002, 0x1, 1, 0x41EB00),
  (0x3000003, 0x1, 1, 0x69780),
  (0x3000004, 0x1, 1, 0x400),
  (0x3000009, 0x1, 1, 0x9998),
  (0x300000A, 0x1, 1, 0x20F580),
  (0x3000200, 0x1, 64, 0x4000),
  (0x30F0800, 0x1, 1, 0xFFFF20),
  (0x3100000, 0x1, 1, 0x1184),
  (0x3100004, 0x1, 1, 0x100),
  (0x3200001, 0x1, 1, 0x1F8200),
  (0x3200101, 0x2, 128, 0x3E80001),
  (0x4000000, 0x1, 1, 0x8),
  (0x4000001, 0x1, 1, 0x20F58),
  (0x4000007, 0x1, 1, 0x5F),
  (0x4000008, 0x1, 1, 0xA),
  (0x4000020, 0x1, 1, 0x7D0),
  (0x4000021, 0x1, 1, 0x3E8)]

def resetRows2 : List (Nat × Nat × Nat × Nat) := [
  (0x4000022, 0x1, 1, 0x644E20),
  (0x4000023, 0x1, 1, 0x322710),
  (0x4000024, 0x1, 1, 0x13880000),
  (0x5080000, 0x1, 1, 0x3),
  (0x5080001, 0x1, 1, 0x100F),
  (0x5080040, 0x1, 1, 0x107D02710),
  (0x5080041, 0x1, 1, 0x107D02710),
  (0x5080042, 0x1, 1, 0x107D02710),
  (0x5080043, 0x1, 1, 0x107D007D0),
  (0x5080044, 0x1, 1, 0x107D007D0),
  (0x5080045, 0x1, 1, 0x103E803E8),
  (0x5080046, 0x1, 1, 0x103E803E8),
  (0x6000101, 0x8, 16, 0xB201000),
  (0x6000104, 0x8, 16, 0x10000000)]

/-- The Reset column of the word at address `a` (R8); zero where no table gives one. -/
def resetWord (a : Nat) : Word :=
  match (resetRows0 ++ resetRows1 ++ resetRows2).find? (fun r =>
      r.1 ≤ a && (a - r.1) % r.2.1 == 0 && (a - r.1) / r.2.1 < r.2.2.1) with
  | some r => BitVec.ofNat 40 r.2.2.2
  | none => 0#40

end Sys2Proof.Machine
end

