-- ==== Sys2Proof/Machine/Store.lean ====
section
/-!
DEFINITION. Sparse storage: a list of (key, value) pairs in one canonical form, keys strictly rising
and no entry equal to what an unlisted key reads as (`d`). Equal stores are equal data.
-/
namespace Sys2Proof.Machine

/-- Sparse storage by key. -/
abbrev Store (α : Type) := List (Nat × α)

/-- What key `k` reads as; `d` gives what an unlisted key reads as. -/
def Store.get {α : Type} (d : Nat → α) : Store α → Nat → α
  | [], k => d k
  | (k', v) :: t, k => if k = k' then v else Store.get d t k

/-- The store without key `k`. -/
def Store.erase {α : Type} (k : Nat) : Store α → Store α
  | [] => []
  | (k', v) :: t => if k = k' then Store.erase k t else (k', v) :: Store.erase k t

/-- Key `k` put in its place in rising order. -/
def Store.insert {α : Type} (k : Nat) (v : α) : Store α → Store α
  | [] => [(k, v)]
  | (k', v') :: t => if k < k' then (k, v) :: (k', v') :: t else (k', v') :: Store.insert k v t

/-- A write: writing what an unlisted key reads as removes the entry. -/
def Store.set {α : Type} [DecidableEq α] (d : Nat → α) (m : Store α) (k : Nat) (v : α) : Store α :=
  if v = d k then Store.erase k m else Store.insert k v (Store.erase k m)

/-- Every key is above `b`, keys rise strictly and no entry equals `d` of its key. -/
def Store.wfFrom {α : Type} [DecidableEq α] (d : Nat → α) : Option Nat → Store α → Bool
  | _, [] => true
  | b, (k, v) :: t =>
    (match b with | none => true | some x => decide (x < k)) && decide (v ≠ d k) && Store.wfFrom d (some k) t

/-- The canonical form. -/
def Store.wf {α : Type} [DecidableEq α] (d : Nat → α) (m : Store α) : Bool := Store.wfFrom d none m

/-- Keep the entries that `p` keeps. -/
def Store.keep {α : Type} (p : Nat → Bool) : Store α → Store α
  | [] => []
  | (k, v) :: t => if p k then (k, v) :: Store.keep p t else Store.keep p t

end Sys2Proof.Machine
end

