-- ==== Sys2Proof/Syntax.lean ====
section
/-!
DEFINITION. The commands of the device: one constructor of `Instr` for each row of
spec/opcode_table.json, in the table's order, and the operand records they carry. A command reports
one whole step of the device (95_what_each_step_holds.md): a write by a master, a received train or
record, a condition on a lane, a timer of the spec that has run out, or the next act of one of the
device's own engines.
-/
namespace Sys2Proof

/-- A decoded train: the 80-bit header of Table 3.2 and the 128 cars of R54, descrambled. -/
structure Train where
  typ    : BitVec 4
  seq    : BitVec 12
  stream : BitVec 16
  cchan  : BitVec 12
  fmt    : BitVec 4
  flags  : BitVec 8
  tlow   : BitVec 24
  cars   : List Word
  deriving DecidableEq, Repr, Inhabited

/-- A load descriptor of the dual-load format (R267): destination, address register, offset register
and mode of Table 10.4. -/
structure LoadDesc where
  wd   : Fin 16
  ai   : Fin 8
  mj   : Fin 8
  mode : Fin 4
  deriving DecidableEq, Repr, Inhabited

/-- A fault that strikes one interval of the correlation array or one Yard codeword while a sweep runs
(Table 12.1): a flipped accumulator bit of a physical cell, flipped bits of the codeword just written (bit 0 the
first stored, R163), or a promotion adder whose residue disagrees in one of the codeword's four components. -/
inductive ArrayUpset where
  | cell    (row col : Nat) (imag : Bool) (bit : Fin 20)
  | yard    (row q : Nat) (bits : List (Fin 208))
  | residue (row q : Nat) (part : Fin 4)
  deriving DecidableEq, Repr

/-- The HBM coordinates of a burst within a pseudo-channel (R122). -/
structure HbmAt where
  row  : Nat
  sid  : Fin 3
  bg   : Fin 4
  bank : Fin 4
  col  : Fin 32
  deriving DecidableEq, Repr, Inhabited

/-- One request to the Interlocking (R278): 1 to 16 words at consecutive addresses. -/
structure Req where
  master : Fin 16
  tid    : Fin 8
  addr   : BitVec 28
  count  : Nat
  write  : Option (List Word)
  deriving DecidableEq, Repr

/-- A ROLE record of a COUPLING train (Table 13.3) with the header fields it travels under
(Table 13.3a). -/
structure RoleRec where
  pairId    : BitVec 16
  role      : Fin 4
  jstate    : Fin 8
  uncoupled : Bool
  twinId    : BitVec 16
  term      : BitVec 24
  cfgTag    : BitVec 40
  fwTag     : BitVec 16
  cseq      : BitVec 16
  deriving DecidableEq, Repr, Inhabited

/-- What the Lamp room meets as it becomes ready (R370, R386, R414): the levels of the straps MGT_MODE and MGT_ADR, and
the keepsake words with an uncorrectable error. -/
structure PowerEnv where
  mode   : Bool
  adr    : Fin 4
  kpsBad : List (Fin 128) := []
  deriving DecidableEq, Repr, Inhabited

/-- What the Depot meets at a boot: what SFDP reports of the flash (R383) and which stacks came up
(R136). -/
structure BootEnv where
  sfdpOk    : Bool
  density   : Nat            -- log2 of the size in bytes
  has888    : Bool
  has144    : Bool
  has114    : Bool
  pageSize  : Nat
  eraseUnit : Nat            -- smallest erase unit of at least 4 KiB
  readErrors : BitVec 3       -- reads that fail: bit 0 the board block, bits 1 and 2 the slots
  disagree  : BitVec 3 := 0#3 -- verifications whose two passes disagree (R390), numbered alike
  kpsBad    : List (Fin 128) -- keepsake words with an uncorrectable error (R386)
  trained   : BitVec 8       -- the stacks whose training succeeds
  missed    : List (Fin 5)   -- by stack, the training step that a failing attempt misses
  badHeaders : BitVec 2 := 0#2 -- slots whose header cannot be read (R399)
  deriving DecidableEq, Repr, Inhabited

/-- A JTAG instruction (R407). -/
inductive JtagOp where
  | bypass | idcode | samplePreload | extest | extestPulse | extestTrain | clamp | highz
  | privateScan (domain : Fin 35) (tdi : List Bool)   -- the bits shifted in
  | privateRead (addr : BitVec 28)
  | privateWrite (addr : BitVec 28) (w : Word)
  | other
  deriving DecidableEq, Repr

/-- The commands. -/
inductive Instr where
  -- writes and reads of registers and tables
  | registerWrite (m : Master) (addr : WAddr) (w : Word)
  | loWordLatchRead (m : Master) (addr : WAddr)
  | tableWindowWrite (m : Master) (addr : WAddr) (w : Word)
  -- Junction, Yard, Terminus drain
  | dwellStart
  | promotionSweep (ups : List ArrayUpset)
  | flushComplete
  | drainRow (cycle : Nat)
  | platformSwitch
  | forceDrain (m : Master)
  | feedParityError (k : Fin 16) (isRow : Bool) (off : Fin 256)
  | yardDebugRead (m : Master) (addr : WAddr)
  | workingSetChange
  | districtReady (k : Fin 16)
  | districtReadyTimeout (k : Fin 16)
  -- Tracks
  | trkEnSet (m : Master) (i : LaneId)
  | trkEnClear (m : Master) (i : LaneId)
  | trkTrst (m : Master) (i : LaneId)
  | trkPersWrite (m : Master) (i : LaneId) (pers : Bool)
  | trkEqWrite (m : Master) (i : LaneId) (w : Word)
  | trkTestWrite (m : Master) (i : LaneId) (gen chk : Fin 4)
  | prbsClear (m : Master) (i : LaneId)
  | prbsLock (i : LaneId) (syms : List (BitVec 2))
  | prbsLoss (i : LaneId) (syms : List (BitVec 2))
  | energyPresent (i : LaneId)
  | cdrLock (i : LaneId)
  | signalTimeout (i : LaneId)
  | commaReceive (i : LaneId) (spacing : Nat) (levels : List (BitVec 2))
  | commaTimeout (i : LaneId)
  | alignmentLoss (i : LaneId) (windows : List (List (BitVec 2)))
  | frameAcquired (i : LaneId) (seqs : List (BitVec 12))
  | frameTimeout (i : LaneId)
  | handshakeTimeout (i : LaneId)
  | tokenLoss (i : LaneId)
  | energyLost (i : LaneId)
  | retryHoldoffEnd (i : LaneId)
  | rateAbort (i : LaneId)
  | qpllLost (q : Fin 4) (x170 : Bool)
  | qpllRelock (q : Fin 4) (x170 : Bool)
  | rxlinkChange (i : LaneId) (up : Bool)
  | uncorrRunLimit (i : LaneId)
  -- Trains
  | trainTransmit (i : LaneId)
  | dataTrainReceive (i : LaneId) (syms : List (BitVec 2))
  | fillerReceive (i : LaneId) (syms : List (BitVec 2))
  | fillerMiss (i : LaneId)
  | timetableTrainReceive (i : LaneId) (syms : List (BitVec 2))
  | testTrainReceive (i : LaneId) (syms : List (BitVec 2))
  | couplingTrainReceive (i : LaneId) (syms : List (BitVec 2))
  | uncorrectableTrain (i : LaneId)
  -- release and timetable trains
  | blockRelease
  | arrSkewExpiry
  | nominalRelease
  | timetableTrainProcess
  | epoch (sec : BitVec 40) (n48 : BitVec 48) (frac : BitVec 32)
  | action (sigma : Nat) (code : BitVec 8) (key : BitVec 48) (arg : BitVec 32) (zero : BitVec 24)
  | trigger (sigma : Nat) (desc : BitVec 8) (key : BitVec 48) (len : BitVec 32)
  | sethdr (i : LaneId) (set : BitVec 8) (count : BitVec 14) (t0 : BitVec 48) (span : BitVec 32)
  | delay (set : BitVec 8) (input : BitVec 13) (coefs : List Word)
  -- Points
  | pointsBlockFilter (bad : List (Fin 16 × Nat × Nat)) (full : List StackId) (bus : List (Nat × Nat))
  | busCorrReport
  | psegBankWrite (m : Master) (addr : WAddr) (w : Word)
  | psegTagWrite (m : Master) (tag : BitVec 16)
  | psegChkWrite (m : Master) (chk : BitVec 32)
  | coefReadyMark (m : Master)
  | gainReadyMark (m : Master)
  | ptsIcntClear (m : Master)
  | framingCounterClear (m : Master) (i : LaneId)
  -- Gauges
  | fastBlockEnd
  | kurtosisBlockEnd
  | gaugeSnapshot
  -- Sidings
  | hbmReadComplete (port : Fin 5) (pc : Fin 256) (at_ : HbmAt) (flips : List (Fin 32 × Fin 8)) (empty : Bool)
  | refresh (s : StackId)
  | stackTrainingStart (s : StackId)
  | trainingStepTimeout (s : StackId) (step : Fin 5)
  | trainingComplete (s : StackId)
  | phyLockLoss (s : StackId)
  | caParityError (s : StackId)
  | caParityLimit (s : StackId)
  | sdgRateWrite (m : Master) (rate : Fin 4)
  | sdgRateAbort
  | pasrRequest (m : Master)
  | pasrRelease (m : Master)
  | apertureAccess (m : Master) (addr : WAddr) (w : Option Word)
  | srExitTimeout (s : StackId)
  | captureStreamStart (c : Fin 4)
  | capturePieceRead (c : Fin 4)
  | captureRelease (c : Fin 4)
  | scrubRead
  | stackTempRead (s : StackId) (temp : BitVec 8)
  -- Terminus
  | consignmentBoundary (d : Fin 16) (bus : List (Nat × Nat))
  | tmnCounterClear (m : Master)
  -- Turntable
  | beamSampleForm (bad : List (Fin 128))
  | integrationEnd (b : Fin 128) (f : Fin 4096)
  | beamFrameEmit (b : Fin 128) (f : Fin 4096)
  | beamDelayBankWrite (m : Master) (addr : WAddr) (w : Word)
  | beamDtagWrite (m : Master) (tag : BitVec 16)
  | beamDchkWrite (m : Master) (chk : BitVec 32)
  | beamGainReadyMark (m : Master)
  | tblCounterClear (m : Master)
  -- actions that become due
  | ptsCswap (key : BitVec 48)
  | ptsGswap (key : BitVec 48)
  | tblGswap (key : BitVec 48)
  | tblDswap (key : BitVec 48)
  | rakeOpen (g : Fin 8) (key : BitVec 48)
  | rakeClose (g : Fin 8) (key : BitVec 48)
  | capture (desc : BitVec 8) (len : BitVec 32) (key : BitVec 48)
  | snapshot (tag : BitVec 32) (key : BitVec 48)
  | mark (val : BitVec 32) (key : BitVec 48)
  | dpReset (key : BitVec 48)
  | dprBackHalf
  | snapshotCopyDone
  -- Timetable
  | enqueueSubmit (m : Master) (set : Fin 10)
  | trefLoss
  | trefReturn
  | ppsEdge (rising : Bool)
  | ppsTimeout
  -- core instructions: control group
  | nop (n : CoreId)
  | idle (n : CoreId)
  | idleWake (n : CoreId)
  | halt (n : CoreId)
  | rti (n : CoreId)
  | sync (n : CoreId)
  | trap (n : CoreId)
  | bxclr (n : CoreId)
  -- ALU
  | add (n : CoreId) (d a b : WReg)
  | addc (n : CoreId) (d a b : WReg)
  | sub (n : CoreId) (d a b : WReg)
  | subb (n : CoreId) (d a b : WReg)
  | and (n : CoreId) (d a b : WReg)
  | or (n : CoreId) (d a b : WReg)
  | xor (n : CoreId) (d a b : WReg)
  | andn (n : CoreId) (d a b : WReg)
  | shl (n : CoreId) (d a b : WReg)
  | shr (n : CoreId) (d a b : WReg)
  | shrl (n : CoreId) (d a b : WReg)
  | min (n : CoreId) (d a b : WReg)
  | max (n : CoreId) (d a b : WReg)
  | minu (n : CoreId) (d a b : WReg)
  | maxu (n : CoreId) (d a b : WReg)
  | cmp (n : CoreId) (a b : WReg)
  | mull (n : CoreId) (d a b : WReg)
  | mulh (n : CoreId) (d a b : WReg)
  | mulhu (n : CoreId) (d a b : WReg)
  | neg (n : CoreId) (d a : WReg)
  | not (n : CoreId) (d a : WReg)
  | abs (n : CoreId) (d a : WReg)
  | clz (n : CoreId) (d a : WReg)
  -- ALU immediate
  | addi (n : CoreId) (d a : WReg) (imm : BitVec 24)
  | andi (n : CoreId) (d a : WReg) (imm : BitVec 24)
  | ori (n : CoreId) (d a : WReg) (imm : BitVec 24)
  | xori (n : CoreId) (d a : WReg) (imm : BitVec 24)
  | cmpi (n : CoreId) (a : WReg) (imm : BitVec 24)
  | shli (n : CoreId) (d a : WReg) (amt : BitVec 6)
  | shri (n : CoreId) (d a : WReg) (amt : BitVec 6)
  | shrli (n : CoreId) (d a : WReg) (amt : BitVec 6)
  | movk (n : CoreId) (d : WReg) (high : Bool) (imm : BitVec 24)
  -- complex
  | cadd (n : CoreId) (d a b : WReg)
  | csub (n : CoreId) (d a b : WReg)
  | cmulr (n : CoreId) (d a b : WReg)
  | cmulj (n : CoreId) (d a b : WReg)
  | cneg (n : CoreId) (d a : WReg)
  | cconj (n : CoreId) (d a : WReg)
  | cswap (n : CoreId) (d a : WReg)
  | cshr (n : CoreId) (d a b : WReg)
  | cmag2 (n : CoreId) (d a : WReg)
  -- moves
  | mva (n : CoreId) (d : WReg) (accB clr : Bool)
  | movx (n : CoreId) (dst src : Fin 64)
  | mova (n : CoreId) (dst : Fin 64) (imm : BitVec 28)
  -- loads and stores
  | ld (n : CoreId) (w : WReg) (ai mj : Fin 8) (mode : Fin 4)
  | st (n : CoreId) (w : WReg) (ai mj : Fin 8) (mode : Fin 4)
  -- branches and loops
  | br (n : CoreId) (cond : Fin 16) (target : BitVec 18)
  | call (n : CoreId) (cond : Fin 16) (target : BitVec 18)
  | jr (n : CoreId) (cond : Fin 16) (a : WReg)
  | loopi (n : CoreId) (count : BitVec 12) (endA : BitVec 18)
  | loopr (n : CoreId) (c : WReg) (endA : BitVec 18)
  -- multiply-accumulate and dual loads
  | macl (n : CoreId) (accB conj neg : Bool) (a b : WReg) (l1 l2 : LoadDesc)
  | mpyl (n : CoreId) (accB conj neg : Bool) (a b : WReg) (l1 l2 : LoadDesc)
  | ldd (n : CoreId) (l1 l2 : LoadDesc)
  -- core events
  | interruptEntry (n : CoreId)
  | trapEntry (n : CoreId)
  | farLoadResponse (n : CoreId) (resp : Fin 4) (w : Word)
  | farStoreResponse (n : CoreId) (resp : Fin 4)
  | fetchUncorrectable (n : CoreId)
  | coreRunSet (m : Master) (n : Fin 8)
  | coreRunClear (m : Master) (n : Fin 8)
  | coreReset (m : Master) (n : Fin 8)
  | sbxRestart (m : Master)
  | lockstepMismatch
  | doorbellWrite (m : Master) (n : CoreId) (msg : BitVec 32)
  | coreTimerExpiry (n : CoreId)
  | dispatcherWatchdog (n : Fin 8)
  | sbxWatchdog
  | watchdogKick (m : Master) (n : CoreId)
  | codeMemoryWrite (m : Master) (addr : WAddr) (w : Word)
  | coreRegsAccess (m : Master) (n : CoreId) (r : Fin 64) (w : Option Word)
  | corePatrolRead (n : CoreId) (code : Bool) (off : BitVec 18)
  -- Interlocking and Shunters
  | transactionAdmit (r : Req)
  | transactionResponse (m : Master) (tid : Fin 8)
  | transactionTimeout (m : Master) (tid : Fin 8)
  | shunterGo (m : Master) (s : Fin 4)
  | shunterStop (m : Master) (s : Fin 4)
  | shunterDescriptorRead (s : Fin 4)
  | shunterBurstComplete (s : Fin 4)
  -- Block Bell and management port
  | eventQueueRead (m : Master) (c : Fin 9)
  | eventInject (m : Master) (e : Fin 1024)
  | requestFrameWrite (bytes : List Byte)
  | statusSelector
  | responseRead (n : Nat)
  | read (late : Option Nat)
  | write (late : Option Nat)
  | configWrite (late : Option Nat)
  | status
  | setState
  | consist
  | attest
  | debugCert
  | fullReset
  | dataPlaneReset
  | trackReset
  | sbxWaitTimeout
  -- fault injection and clock monitors
  | injClear (m : Master) (unit : BitVec 28) (arg : Word)
  | injTrainCodeword (m : Master) (unit : BitVec 28) (arg : Word)
  | injPointsResidue (m : Master) (unit : BitVec 28) (arg : Word)
  | injSShape (m : Master) (unit : BitVec 28) (arg : Word)
  | injHbmParity (m : Master) (unit : BitVec 28) (arg : Word)
  | injRowParity (m : Master) (unit : BitVec 28) (arg : Word)
  | injColumnParity (m : Master) (unit : BitVec 28) (arg : Word)
  | injCellAccumulator (m : Master) (unit : BitVec 28) (arg : Word)
  | injYardCodeword (m : Master) (unit : BitVec 28) (arg : Word)
  | injPromotionResidue (m : Master) (unit : BitVec 28) (arg : Word)
  | injTurntableResidue (m : Master) (unit : BitVec 28) (arg : Word)
  | injBusCode (m : Master) (unit : BitVec 28) (arg : Word)
  | injCoreMemory (m : Master) (unit : BitVec 28) (arg : Word)
  | injLockstep (m : Master) (unit : BitVec 28) (arg : Word)
  | injClockMonitor (m : Master) (unit : BitVec 28) (arg : Word)
  | injRetentionSignature (m : Master) (unit : BitVec 28) (arg : Word)
  | injMirrorCrc (m : Master) (unit : BitVec 28) (arg : Word)
  | injectionApply
  | injectionExpire
  | clockMonitorWindow (c : Fin 7) (count : Nat)
  -- Coupling
  | role (c : Fin 4) (r : RoleRec)
  | health (event : Fin 1024) (tick : Word)
  | mdata (cseq : BitVec 16) (addr : WAddr) (words : List Word)
  | mcommit (cseq : BitVec 16) (tag : BitVec 8) (crc : BitVec 32) (count : BitVec 24)
  | mack (cseq : BitVec 16) (result : Fin 4)
  | mackTimeout
  | jreq
  | jgrant (j jp : BitVec 48)
  | jdata (run : BitVec 16) (addr : WAddr) (words : List Word)
  | jcommit (cseq : BitVec 16) (crc : BitVec 32) (count : BitVec 24)
  | jcommitTimeout
  | jreqRetry
  | resign
  | takeover (term : BitVec 24)
  | couplingTrainSend (c : Fin 4)
  | couplingLoss
  | bootRoleTimeout
  | cplPromote (m : Master) (force : Bool)
  | cplResign (m : Master)
  | cplJoin (m : Master)
  -- Substation and Lamp room
  | targetWrite (m : Master) (target : Fin 8)
  | notchingUp
  | runningToStanding
  | haltEntry
  | laidUpEntry
  | offEntry
  | wakeToStanding (cause : Fin 10) (upsets : List (Nat × Word))
  | loadStepStart
  | regulatorTimeout
  | pllLockTimeout
  | subpgxTimeout
  | domainReadyTimeout (d : Fin 35)
  | wakeRetry
  | watchStart
  | watchEnd
  | wakeNLow (ms : Nat) (edges : Nat) (env : PowerEnv)
  | lampAlarm
  | resetNLow (ns : Nat) (env : PowerEnv)
  | powerOnReset (env : PowerEnv)
  | offExit (env : PowerEnv)
  | crystalSwitch
  | crystalTimeout
  -- analogue outputs and monitoring
  | aoTargetWrite (m : Master) (n : Fin 4) (target : BitVec 16)
  | aoRangeChange (m : Master) (n : Fin 4) (mode gain : Bool)
  | aoRangeSettle (n : Fin 4)
  | aoFaultForce (m : Master) (n : Fin 4)
  | aoClearFault (m : Master) (n : Fin 4)
  | aoSlewTick (n : Fin 4)
  | aoHeadroomCheck (n : Fin 4) (good : Bool)
  | monConversion (x : BitVec 12)
  -- Depot
  | boot (env : BootEnv)
  | flashRead (m : Master)
  | flashProgram (m : Master)
  | flashErase (m : Master)
  | flashOpComplete
  | flashTimeout
  | sbxRestarted
  | vaonLoss
  | jtagInstruction (op : JtagOp)
  deriving DecidableEq, Repr

end Sys2Proof
end

