-- ==== Sys2Proof/Machine/State.lean ====
section
/-!
DEFINITION. The state of the device as plain data: the whole control address space as words (every
register, table window and core memory the manual gives an address), the memories and queues behind
it, and the queue of waiting commands.
-/
namespace Sys2Proof.Machine

/-- The reasons a step can stop with a fault. -/
inductive Fault where
  /-- No command raises it: the spec gives the block no condition that stops it. Safe. -/
  | none
  deriving DecidableEq, Repr

/-- The reasons a step can refuse a command. -/
inductive Refusal where
  /-- The dispatch table, for a command that has no meaning yet. Safe: the model stops. -/
  | notModelled (mnemonic : String)
  deriving DecidableEq, Repr

/-- A consignment formed by the Terminus (R186): its route, whether it comes from the beam store, its
words, header first, the window start of its capture when it belongs to one, and its first sample index
(R338, R343). -/
structure Consig where
  route : Nat
  beam  : Bool
  words : List Word
  cap   : Option Nat
  first : Nat
  deriving DecidableEq, Repr, Inhabited

/-- A train held in an arrival FIFO (R62): a DATA train with the extended index of its first sample
and the place its samples go to (R64, R66), or a TIMETABLE train (`tt`) with its stamp (R231). -/
structure ArrTrain where
  tt    : Bool
  n     : Nat            -- coarse index of the first sample; the stamp of a TIMETABLE train
  fmt   : Nat
  first : Nat            -- first input
  chan  : Nat            -- device coarse channel
  bad   : Bool
  cars  : List Word
  deriving DecidableEq, Repr, Inhabited

/-- The PRBS checker of a lane (R47): its shift register, how many received bits have seeded it, error-free symbols
since, and the bit errors of up to 127 symbols, newest first. -/
structure PrbsChk where
  reg  : Nat := 0
  fill : Nat := 0
  good : Nat := 0
  errs : List Nat := []
  deriving DecidableEq, Repr, Inhabited

/-- The Ethernet transmitter and receiver of a departure (R80): octets of the frame in transmission, whether one is
open, octets of inter-packet gap still owed, the 64B/66B scrambler, codewords sent modulo 1,024, and the last
precoded symbol of either direction. -/
structure Eth where
  left  : List Byte := []
  open_ : Bool := false
  gap   : Nat := 0
  scram : Nat := 0
  cw    : Nat := 0
  txP   : BitVec 2 := 0
  rxP   : BitVec 2 := 0
  deriving DecidableEq, Repr, Inhabited

/-- What a lane holds beside its registers (02, 03, 07). -/
structure Lane where
  energy    : Bool := false   -- energy present continuously for 1.0 ms (R34)
  rate170   : Bool := false   -- the lane runs at the x170 rate (R42)
  ratePers  : Bool := false   -- the deferred personality (R42)
  sendSeen  : Bool := false   -- HANDSHAKE sends SEEN (R38)
  wrongId   : Bool := false   -- a wrong-identity token in this HANDSHAKE (Table 2.4)
  gotValid  : Bool := false   -- a valid token in this HANDSHAKE (Table 2.4)
  rxValid   : Bool := false   -- a decodable SEQ has been received (R58)
  commas    : Nat := 0        -- matches at exact spacing (R33)
  tokAny    : Nat := 0        -- consecutive valid tokens (R38)
  tokSeen   : Nat := 0        -- consecutive valid tokens of stage SEEN or OPEN (R38)
  rxSeq     : Nat := 0        -- the last decodable SEQ (R58)
  uncSince  : Nat := 0        -- uncorrectable codewords since then (R58)
  nonFill   : Nat := 0        -- consecutive non-filler trains decoded (R62)
  txSeq     : Nat := 0        -- SEQ of the next train sent (R58)
  sinceFill : Nat := 0        -- trains sent since the last filler (R61)
  parks     : Nat := 0        -- PARKED fillers still to send (R50)
  leftDark  : Nat := 0        -- tick at which the lane last left DARK (R36)
  clkFrom   : Nat := 0        -- tick from which the lane clock runs after EN was set (R45)
  gen       : Nat := 0        -- the test pattern generator's shift register (R46)
  chk       : PrbsChk := {}   -- the test pattern checker (R47)
  eth       : Eth := {}       -- Ethernet personality (R80)
  liveFrom  : Nat := 0        -- first coarse index from which the lane's pairs are live (R70)
  hiBlock   : Option Nat := none -- highest release block of the DATA trains accepted (R231)
  fifo      : List ArrTrain := []           -- arrival FIFO (R62)
  txq       : List Consig := []             -- consignments of the departure buffer (R202)
  beamq     : List Consig := []             -- beam consignments (R202)
  bus       : List (Nat × Nat) := []        -- error patterns in the codewords of its next consignment (R316)
  cur       : Option (Consig × Nat) := none -- the consignment in transmission, words sent
  lastTx    : Option Train := none          -- the last train sent, before scrambling
  line      : List (BitVec 2) := []         -- the symbol values last driven: a train, codeword or test pattern (R28-R30)
  frame     : List Byte := []               -- the last Ethernet frame sent (R81)
  deriving DecidableEq, Repr, Inhabited

/-- A stream-map entry (Table 3.5). -/
structure StreamEntry where
  stream : Nat
  lane   : Nat
  fmt    : Nat
  first  : Nat
  base   : Nat
  ccount : Nat
  dev    : Nat
  deriving DecidableEq, Repr, Inhabited

/-- The arrival side (R66-R71). -/
structure Arrival where
  streams : List StreamEntry := []
  base    : Nat := 0          -- the front set at the last data-plane reset or join (R69)
  top     : Nat := 0          -- end of the highest block that a DATA train written into a FIFO covers (R68)
  deriving DecidableEq, Repr, Inhabited

/-- The open fast and kurtosis blocks of one pair (R108). -/
structure PairAcc where
  fast  : Nat := 0
  v     : Nat := 0
  clips : Nat := 0
  s1    : Nat := 0
  s2    : Nat := 0
  kv    : Nat := 0       -- valid samples of the kurtosis block
  whole : Bool := false  -- watch: the fast block held has been watched from its start (R360)
  kwhole : Bool := false -- watch: the kurtosis block held has been watched from its start
  blk   : Option Nat := none -- watch: the first index of the fast block held (R114)
  kblk  : Option Nat := none -- watch: the first index of the kurtosis block held
  deriving DecidableEq, Repr, Inhabited

/-- A fast or kurtosis block that ended in a watch and waits to be evaluated (R114, R360). -/
structure WatchBlock where
  input : Nat
  chan  : Nat
  n0    : Nat
  acc   : PairAcc
  deriving DecidableEq, Repr, Inhabited

/-- The Gauges (R108-R114): samples are observed up to `pos`, released up to `limit`; at a block end
the acts of `acts` come first (0 fast, 1 kurtosis, 2 snapshot). -/
structure Gauge where
  pos    : Nat := 0
  limit  : Nat := 0
  acts   : List Nat := []
  acc    : Store PairAcc := []
  wacc   : Store PairAcc := []          -- the same during a Halt watch
  wfast  : List WatchBlock := []
  wkurt  : List WatchBlock := []
  wcount : Store Nat := []              -- fast blocks completed per pair in this watch (R360)
  deriving DecidableEq, Repr, Inhabited

/-- The swaps of a table (R107, R215): the fine samples at which committed swaps take effect, and the fine sample of
the last swap decided, committed or dropped. -/
structure Swap where
  at_  : List Nat := []
  last : Option Nat := none
  deriving DecidableEq, Repr, Inhabited

/-- The Points (R84-R107). -/
structure Points where
  nextJ   : Nat := 0                      -- the next fine sample to form
  blocks  : Nat := 0                      -- the coarse index up to which blocks have been filtered
  base    : Nat := 0                      -- the front last established by an EPOCH or a join (R94)
  coarse  : Store Byte := []              -- released coarse samples, key pair × 2^48 + n; default invalid
  exc     : List (Nat × Nat × Nat) := []  -- excised spans: pair, first, last (R112)
  cswap   : Swap := {}
  gswap   : Swap := {}
  tagNew  : Bool := false                 -- PTS_PSEG.TAG written since the last swap (R100)
  chkNew  : Bool := false                 -- PTS_PSEG_CHK written since the last swap
  segBytes : List Nat := []               -- bytes written to the inactive bank since the last swap (R100)
  allNoModel : Bool := true               -- no segment has begun, or the present one started late (R101)
  slotAge : Nat := 0                      -- the slot whose set was assigned earlier (R97)
  setT0   : Store Nat := []               -- T0 of each delay-set slot
  setSpan : Store Nat := []               -- SPAN of each delay-set slot
  deriving DecidableEq, Repr, Inhabited

/-- An entry of the action queue (R233). -/
structure Entry where
  slot   : Nat         -- TTB_QUEUE entry number
  key    : Nat
  code   : Nat
  arg    : Nat
  source : Nat         -- TTB_QUEUE SOURCE
  sigma  : Nat         -- in-band only
  prov   : Bool        -- local entry accepted while F is invalid (R234)
  turn   : Nat         -- releases gone by when it was accepted (R235)
  since  : Nat         -- in-band only: the front from which it counts as held (R231)
  deriving DecidableEq, Repr, Inhabited

/-- A timetable train ready to be processed (R231). -/
structure TTrain where
  sigma : Option Nat
  lane  : Nat
  ttser : Nat
  cars  : List Word
  deriving DecidableEq, Repr, Inhabited

/-- A timetable record waiting to be applied (Table 3.7): stamp, lane, KIND, head [31:0], body. -/
structure TRec where
  sigma : Option Nat
  lane  : Nat
  kind  : Nat
  head  : Nat
  body  : List Word
  deriving DecidableEq, Repr, Inhabited

/-- The Timetable (R225-R240). -/
structure Timetable where
  turn     : Nat := 0                       -- releases, and fronts established, so far (R235)
  ready    : List TTrain := []
  recs     : List TRec := []
  queue    : List Entry := []               -- in acceptance order
  gone     : List (Nat × Nat) := []         -- in-band entries that became due: front from which they were held, front they were due at (R231)
  newFront : Bool := true                   -- no EPOCH since the last data-plane reset (R228)
  marks    : Option (Nat × Nat) := none     -- N48 and ETICK of the mark before the present one (R230)
  ppsLast  : Option Nat := none             -- tick of the last edge, for the spacing check (R226)
  snapJ    : Option Nat := none             -- a snapshot waits for this fine sample (R240)
  snapB    : Option Nat := none             -- and for this coarse index
  lastSub  : Store (Option Nat) := []       -- per enqueue set: queue slot of its last submission (R234)
  deriving DecidableEq, Repr, Inhabited

/-- A capture in force (R145-R147): the window's fine channels, inputs and blocks of period `m`, what
the stream has sent. -/
structure Capture where
  m      : Nat := 0
  jp     : Nat := 0      -- the platform origin of period m
  f0     : Nat := 0
  fn     : Nat := 0
  i0     : Nat := 0
  inN    : Nat := 0
  t0     : Nat := 0      -- first block of the window in its period
  tn     : Nat := 0      -- blocks per (fine channel, input)
  wstart : Nat := 0
  rel    : Nat := 0
  route  : Nat := 0
  number : Nat := 0
  pieces : Nat := 0      -- CAPTURE consignments formed
  pos    : Nat := 0      -- blocks read, in stream order
  sent   : Nat := 0
  bad    : Nat := 0      -- uncorrectable blocks sent
  trunc  : Bool := false
  rate   : Nat := 0      -- RATE of the descriptor, in 0.1 Gbit/s
  from_  : Nat := 0      -- tick at which streaming began (R147)
  suppressed : Bool := false  -- a write has been discarded for it (R146)
  deriving DecidableEq, Repr, Inhabited

/-- The Sidings (R116-R150). -/
structure Siding where
  floor    : Nat := 0            -- stored samples below it are delivered as -8 (R340)
  asm      : Store Byte := []    -- assembly buffer, key (f × 8192 + i) × 2^48 + j; default invalid
  jpOld    : Nat := 0            -- the platform origin before the last keyed reset (R238)
  ohNext   : Nat := 0            -- the next offset-history entry to replace (R124)
  disc     : List (Nat × Nat × Nat × Nat) := []   -- discarded writes: first sample of the period, f, i, block
  caps     : Store Capture := []
  readable : Option Nat := none  -- first sample of the readable Platform (R128)
  nextSwitch : Nat := 0          -- first sample of the period whose end is the next Platform switch
  corr     : Store Nat := []     -- corrected blocks per group this period (R150)
  corrEvt  : List Nat := []      -- groups whose corrections have raised their event this period (R150)
  rateTo   : Nat := 0            -- the deferred rate (R139)
  lost     : Nat := 0            -- stacks being retrained in place (R137)
  restart  : Bool := false       -- a changed working set waits for WORKING_SET_CHANGE (R138)
  scrubTop : Nat := 0            -- blocks checked in this patrol pass
  rateRun  : Bool := false       -- a rate change's retraining is running (R139)
  heldWork : Nat := 0            -- the working set under which a full reset kept the reserved region (R364)
  late     : List (Nat × Word) := []  -- host settings whose write waits for a stack that trains (R137, R269)
  handed   : Store (List Word) := []   -- the last burst handed to each port (R148)
  deriving DecidableEq, Repr, Inhabited

/-- A beam frame in assembly (R217): frame number `e`, its items so far, samples covered, the open
integration's sums and count, and what its header will say. -/
structure Frame where
  e      : Int := 0
  open_  : Bool := false
  items  : List Nat := []      -- VOLT: 16-bit samples; power: payload words
  n      : Nat := 0            -- samples covered
  sums   : List Int := []      -- sums of the open integration
  cnt    : Nat := 0            -- valid samples of the open integration
  ints   : Nat := 0            -- integrations ended
  total  : Nat := 0            -- valid samples of the frame
  bsat   : Bool := false
  binval : Bool := false
  eclip  : Bool := false
  deriving DecidableEq, Repr, Inhabited

/-- The Turntable (R208-R224). -/
structure Turntable where
  next    : Nat := 0                -- the next beam sample
  resetAt : Option Nat := none      -- a keyed reset takes effect at this beam sample (R238)
  line    : Store Byte := []        -- delay line, key (f × 8192 + i) × 2^48 + sample; default invalid
  gswap   : Swap := {}
  dswap   : Swap := {}
  tagNew  : Bool := false           -- TBL_DTAG.TAG written since the last swap (R216)
  chkNew  : Bool := false
  bytes   : List Nat := []          -- bytes written to the inactive delay bank since the last swap
  frames  : Store Frame := []       -- key beam × 4096 + fine channel
  held    : Nat := 0                -- words of the frames in assembly (R222)
  deriving DecidableEq, Repr, Inhabited

/-- An injection (R319): CODE, UNIT, ARG. -/
structure Inj where
  code : Nat
  unit : Nat
  arg  : Nat
  deriving DecidableEq, Repr, Inhabited

/-- Fault checks that no other block owns (R315-R319): `busy` is the accepted injection, which waits for its opportunity;
`force` holds a persistent one that has been applied. -/
structure Check where
  busy   : Option Inj := none
  force  : List Inj := []
  busCorr : Bool := false       -- a corrected bus codeword in this second (R316)
  clkRun : Store Int := []      -- consecutive failing (+) or passing (-) windows (R318)
  deriving DecidableEq, Repr, Inhabited

/-- A dwell of the schedule (R171): fine channel, rake, tile position and blocks, first sample, steps,
dump index, first sample of its Platform period; `last` when it is its dump's last dwell. -/
structure Slot where
  ch   : Nat
  rake : Nat
  k    : Nat
  a    : Nat
  b    : Nat
  j0   : Nat
  d    : Nat
  m    : Nat
  per  : Nat
  last : Bool
  deriving DecidableEq, Repr, Inhabited

/-- A drain record (Table 6.5): its road, or none when it carries no visibilities. -/
structure Rec where
  slot    : Slot
  road    : Option Nat
  count   : Nat
  partial_ : Bool
  suspect : Bool
  visSat  : Bool
  capture : Bool
  counts  : List (Nat × Nat)
  deriving DecidableEq, Repr, Inhabited

/-- A dwell from its start until its record is handed over: `done` steps have been swept. `errs` are the
lines with a parity error (row?, line), `fresh` those of the open interval with their district; `then_` holds the
records without visibilities that follow it (R17). -/
structure Dwell where
  slot    : Slot
  g       : Nat
  road    : Nat
  done    : Nat
  partial_ : Bool := false
  suspect : Bool := false
  visSat  : Bool := false
  counts  : List (Nat × Nat) := []
  errs    : List (Bool × Nat) := []
  fresh   : List (Bool × Nat × Nat) := []
  then_   : List Rec := []
  deriving DecidableEq, Repr, Inhabited

/-- The Junction and the Yard (R151-R185). -/
structure Junction where
  waitPlat : List Nat := []          -- readable Platforms whose schedule waits for the back half (R238), oldest first
  t0      : Nat := 0                 -- tick at which the Platform became readable (R16)
  idx     : Nat := 0                 -- dwells of this Platform taken from the schedule
  todo    : List Slot := []          -- dwells of this Platform not yet started
  g       : Nat := 0                 -- the global dwell counter of the next dwell
  cur     : Option Dwell := none     -- the dwell in progress
  flush   : List Dwell := []         -- dwells whose last step has entered, oldest first (R161)
  recs    : List Rec := []           -- records handed to the Terminus, oldest first
  row     : Nat := 0                 -- next drain row of the oldest record
  v       : Nat := 0                 -- its visibilities handed over
  open_   : List (Int × Int) := []   -- its open piece
  held    : Nat := 0                 -- departure-buffer words of the open piece
  spans   : Store (List (Nat × Option Nat)) := []   -- per rake: j_open and the index it closed at
  force   : Bool := false            -- a forced drain waits for the next boundary (R179)
  late    : Bool := false            -- the next dwell is being held for its road (R169)
  cycles  : List Nat := []           -- drain reads of the dwell in progress, in cycles from c0 (R168)
  carry   : List (Nat × Nat × Nat) := []            -- carried promotions: boundary, row, bank
  shadow  : Store (Int × Int) := []  -- shadows not consumed, key 1024 r + c
  yard    : Store (Int × Int) := []  -- visibilities, key 2^20 road + 1024 r + c
  yardErr : Store Nat := []          -- error patterns of codewords (208 bits, byte 0 most significant), key 2^19 road + 512 r + q
  poison  : Store Bool := []         -- poisoned codewords
  corr    : Store Nat := []          -- corrected codewords per bank group in this dwell
  corrEvt : List Nat := []           -- bank groups whose corrections have raised their event in this dwell
  deriving DecidableEq, Repr, Inhabited

/-- A recheck (R310): suspect active column, the inspection column that found it, its lowest disagreeing
row, and how many ambiguous outcomes it has had. -/
structure Recheck where
  col  : Nat
  insp : Nat
  row  : Nat
  tries : Nat
  pair : Option (Nat × Nat) := none   -- the inspection columns of a repeat
  deriving DecidableEq, Repr, Inhabited

/-- A substitution that waits for the tile-switch gap (R312): row or column, substitute, line, trial. -/
structure Subst where
  isRow : Bool
  spare : Nat
  line  : Nat
  trial : Bool
  deriving DecidableEq, Repr, Inhabited

/-- The Inspection car (R307-R314). -/
structure Inspection where
  pos     : Store Nat := []                -- position counters of the inspection columns
  wait    : List Recheck := []             -- rechecks that wait
  run     : List (Recheck × Nat × Nat) := []  -- rechecks of this dwell, with their two columns
  shadow  : List (Nat × Nat) := []         -- what each inspection column in rotation shadows in this dwell (R308)
  raised  : List (Nat × Nat) := []         -- pairs that have disagreed in this dwell
  lastClean : Store Nat := []              -- per active column, g of the last clean comparison
  parBad  : List (Bool × Nat) := []        -- lines whose last fed dwell had a parity error (R311)
  subst   : List Subst := []
  worn    : List (Bool × Nat × Bool) := [] -- lines that must be retired and have no substitute, with TRIAL
  since   : List (Bool × Nat × Nat) := []  -- substituted lines, with g of the first dwell that had the substitute
  restore : Bool := false                  -- trial retirements end at the next gap (R320)
  deriving DecidableEq, Repr, Inhabited

/-- A mirror transaction of the Lead (R334). -/
structure MirrorTx where
  cseq  : Nat
  tag   : Nat
  addr  : Nat
  words : List Word
  tries : Nat
  deriving DecidableEq, Repr, Inhabited

/-- A coupling record that waits to be sent: the lane it must travel on, the transaction it belongs to
(0 none, 1 mirror, 2 join), its words. -/
structure OutRec where
  lane  : Option Nat
  txn   : Nat
  words : List Word
  deriving DecidableEq, Repr, Inhabited

/-- A commit received, with its data: CSEQ, TAG, runs of words. -/
structure Commit where
  cseq : Nat
  tag  : Nat
  runs : List (Nat × List Word)
  deriving DecidableEq, Repr, Inhabited

/-- An item of the join log (R342): a timetable record accepted, or a queue entry that became due. -/
inductive LogItem where
  | record (r : TRec) | due (code key arg : Nat)
  deriving DecidableEq, Repr, Inhabited

/-- The Coupling engine (R322-R345). -/
structure Coupling where
  cfgTag   : Nat := 0                  -- own CFGTAG (Table 13.3)
  fwTag    : Nat := 0                  -- own FWTAG
  peerTerm : Nat := 0                  -- TERM of the peer's last ROLE record
  hb       : Nat := 0                  -- heartbeats sent
  heard    : Store Nat := []           -- per coupling lane: tick of its last valid ROLE record, plus 1
  leadSeen : Bool := false             -- a Lead's ROLE record has arrived since the seal (R324)
  asked    : Bool := false             -- a JREQ is queued and has not left
  retry    : Bool := false             -- a join failed, and the next JREQ waits for JREQ_RETRY (R344)
  stopped  : Bool := false             -- mirroring stopped until the next coupling (R334)
  outq     : List OutRec := []
  tx       : Option MirrorTx := none   -- the transaction that awaits MACK
  txq      : List MirrorTx := []
  stageSeq : Nat := 0                  -- CSEQ of the staged MDATA
  stage    : List (Nat × List Word) := []
  stageCars : List Word := []
  waitq    : List Commit := []         -- commits that wait for the join or for the Signal Box
  join     : Option Nat := none        -- Banker: the join index J that the front has not reached
  anchor   : Option Nat := none        -- Lead: the join index J granted, at which it re-anchors (R340, R344)
  commitIn : Option (Nat × Nat) := none  -- CRC and count of a JCOMMIT that came before this front reached J
  grantJp  : Nat := 0                  -- the Lead's j_P of the grant
  cutRecs  : List (List Word) := []    -- the Lead's join record as sent
  logOn    : Bool := false             -- the Banker keeps a join log (R342)
  log      : List LogItem := []        -- what has happened since J
  cut      : List (Nat × List Word) := []   -- JDATA runs received
  cutCars  : List Word := []
  sendFrom : Nat := 0                  -- but for captures, what starts below this index is not sent (R343)
  capFrom  : Nat := 0                  -- captures whose window starts below it are not sent (R343)
  ownFrom  : Nat := 0                  -- after a forced promotion nothing that starts below it is sent (R338)
  deriving DecidableEq, Repr, Inhabited

/-- What the Signal Box keeps in the crash record (Table 5.7, R269, R302, R324): the TERM, and the
host-originated settings in order. -/
structure Crash where
  term     : Option Nat := none
  settings : List (Nat × List Word) := []
  deriving DecidableEq, Repr, Inhabited

/-- What a master's last access answered: the response (Table 11.2), the words read, and the words that
completed before an error. -/
structure Answer where
  code : Nat := 0
  data : List Word := []
  good : Nat := 0
  deriving DecidableEq, Repr, Inhabited

/-- An analogue output beside its registers (15): the range change in progress (0 none, 1 ramp-down,
2 switched and settling, 3 ramp-back) with its new range, the METER goal, the inputs whose crossing
caused the fault, the counts of R377 and R379, and a ROLE that waits for the ramp-back (R371). -/
structure Output where
  range  : Nat := 0
  mode   : Bool := false
  gain   : Bool := false
  meter  : Option Nat := none   -- a METER output's goal, from the first result of its source on (R375)
  causes : List Nat := []
  low    : Nat := 0            -- consecutive headroom checks below 0.8 V
  good   : Nat := 0            -- consecutive good ones
  steady : Nat := 0            -- microseconds for which the driven code has equalled its goal
  rbMiss : Nat := 0            -- consecutive read-back misses
  role   : Option Nat := none
  deriving DecidableEq, Repr, Inhabited

/-- A load step (R353): a domain powers up or down, or a stack leaves self-refresh, to READY or to training. -/
inductive LoadStep where
  | up (d : Nat) | down (d : Nat) | ret (d : Nat) | exit (k : Nat) | retrain (k : Nat)
  deriving DecidableEq, Repr, Inhabited

/-- The Substation's sequencer beside its registers (14). -/
structure Power where
  queue   : List LoadStep := []   -- headway queue (R353)
  busy    : Bool := false         -- the headway interval of the last load step runs
  notching : Bool := false        -- Standing to Running in progress (R355)
  falling : Bool := false         -- Running to Standing in progress
  tries   : Nat := 0              -- failed attempts of this wake (R357)
  aborted : Bool := false         -- an aborted wake waits for WAKE_RETRY
  watch   : Bool := false         -- a watch runs (R360)
  late    : Bool := false         -- the next watch waits for the end of this one (R361)
  lost    : Bool := false         -- a domain failed in this wake, so R23 runs at its end (R358)
  sigs    : Store Nat := []       -- retention signature plus 1, by bank (R359)
  corrupt : List Nat := []        -- banks whose stored signature an injection changed (Table 12.4)
  crystal : Nat := 0              -- LCLK source: 0 RC oscillator, 1 crystal, 2 no crystal (R418)
  monSlot : Nat := 0              -- the slot of the monitoring ADC's sequence that converts next (R378)
  monActs : List Nat := []        -- channels 32-35 crossed in this round, whose actions come after those of 28-31 (R380)
  deriving DecidableEq, Repr, Inhabited

/-- A result of an issued core instruction that is not yet visible (R256, R258): a register, a complex
result, an accumulator operation (ACB or ACA, replacing or adding), a part of an accumulator. -/
inductive CoreWr where
  | reg (r : Nat) (v : Word)
  | cplx (r : Nat) (re im : Int)
  | mac (accB replace : Bool) (re im : Int)
  | part (r : Nat) (v : Word)
  deriving DecidableEq, Repr, Inhabited

/-- What a core holds beside its registers (10): its state (0 RESET, 1 RUNNING, 2 IDLE, 3 HALTED, 4
FAULT), results in flight with the slots they still wait, delay slots left and the branch target, the
trap that is due, a SYNC that stalls, the loads of a stalled instruction (none = not yet answered), far
loads abandoned by a halt whose responses have not come, posted stores outstanding, and the tick of the last
watchdog kick. -/
structure Core where
  mode     : Nat := 0
  inflight : List (Nat × CoreWr) := []
  delay    : Nat := 0
  target   : Option Nat := none
  trap     : Option Nat := none
  sync     : Bool := false
  loads    : List (Nat × Option Word) := []
  stale    : Nat := 0
  posts    : Nat := 0
  kick     : Nat := 0
  deriving DecidableEq, Repr, Inhabited

/-- The Interlocking (11): requests that wait at their master's port, transactions outstanding, responses
not yet taken by a core or a Shunter, and the transferred beats of writes whose master was reset (R286). -/
structure Ilk where
  wait : List Req := []
  out  : List Req := []
  done : List (Req × Answer) := []
  cut  : List Req := []
  deriving DecidableEq, Repr, Inhabited

/-- A Shunter (R288): the descriptor read, words copied, a STOP that waits for the burst to end, and a read
error (response, address) whose earlier words are still to be written. -/
structure Shunter where
  desc : List Word := []
  pos  : Nat := 0
  stop : Bool := false
  err  : Option (Nat × Nat) := none
  deriving DecidableEq, Repr, Inhabited

/-- The management port (11): the accepted request frame while it is being executed (BUSY), the response
frame that waits (RDY), FERR, and the bytes the host last read. -/
structure Mgmt where
  req  : Option (List Word) := none
  resp : Option (List Word) := none
  ferr : Bool := false
  out  : List Byte := []
  deriving DecidableEq, Repr, Inhabited

/-- What the Depot holds beside its registers (16): the flash command that runs (OP, ADDR, and its bytes: those to
be written, or as many as will be read or erased), what SFDP
reported, whether flash commands run (R384), the rollback index and version of the running image, the JTAG
data last shifted out, and the keepsake words that hold an uncorrectable error. -/
structure Depot where
  run     : Option (Nat × Nat × List Byte) := none
  page    : Nat := 256
  unit    : Nat := 4096
  flashOk : Bool := false
  rbidx   : Nat := 0
  version : Nat := 0
  tdo     : List Bool := []
  kpsBad  : List Nat := []        -- keepsake words with an uncorrectable error (R386)
  idKey   : Nat := 0              -- the identity private key, in the keepsake's private region (R386, R388)
  revoked : Nat := 0              -- REVOKED as the boot began (R404)
  ahead   : Bool := false         -- an ATTEST or DEBUG_CERT that came before the flash command is to be served first (R405)
  deriving DecidableEq, Repr, Inhabited

/-- The machine. -/
structure State where
  regs    : Store Word := []         -- the control address space, by word address
  latches : Store (Option Word) := []  -- LO/HI read latches, by master and address; none before the first LO read (R285)
  lanes   : Store Lane := []
  bellq   : Store (List (Nat × Bool)) := []   -- event queues by core: event, injected (R290)
  arr     : Arrival := {}
  hbm     : Store Word := []         -- HBM words, key pseudo-channel × 117187500 + 5 × block + word
  hbmErr  : Store Nat := []          -- error patterns of HBM codewords (256 bits, byte 0 most significant), by pseudo-channel × 23437500 + block
  sdg     : Siding := {}
  chk     : Check := {}
  tbl     : Turntable := {}
  gau     : Gauge := {}
  pts     : Points := {}
  jct     : Junction := {}
  ins     : Inspection := {}
  cpl     : Coupling := {}
  crash   : Crash := {}
  ans     : Store Answer := []       -- by master
  ttb     : Timetable := {}
  outs    : Store Output := []       -- analogue outputs
  pow     : Power := {}
  cores   : Store Core := []         -- 0-7 = D0-D7, 8 = Signal Box
  memErr  : Store Nat := []          -- wrong bits held in a core memory word, by address (R247)
  lockTimes : List Nat := []         -- ticks at which the last lockstep restarts began (R270)
  ilk     : Ilk := {}
  shunters : Store Shunter := []
  mgt     : Mgmt := {}
  dep     : Depot := {}
  flash   : Store Byte := []         -- the attached flash, by byte address; unlisted bytes are 0xFF (erased)
  wakeReq : Option Nat := none       -- a wake cause that waits (R352, R360)
  tmnHeld : Nat := 0                 -- words held in the departure buffer (R202)
  beamHeld : Nat := 0                -- words of complete consignments in the beam store (R222)
  health  : List (Nat × Word) := []  -- raises waiting to travel to the twin (R293)
  phase   : Nat := 0                 -- 256ths of a tick since the last LCLK period began (R362)
  frac    : Nat := 0                 -- the fraction of the tick counter that Laid-up keeps, in 256ths (R362)
  free    : Nat := 0                 -- the model's own: how many free values have been drawn
  pending : List Instr := []         -- the commands that are waiting, first in, first out
  deriving DecidableEq, Repr

/-- The machine right after reset. -/
def State.reset : State := {}

end Sys2Proof.Machine
end

