-- ==== Sys2Proof/Machine/Ops.lean ====
section
/-!
DEFINITION. The operations every family uses: words and fields of the control address space, 48-bit
pairs, saturating and wrapping counters, the Block Bell's raise (R289, R290), and flags that raise
their event when they change from 0 to 1.
-/
namespace Sys2Proof.Machine

/-- The three outcomes of a command. -/
abbrev Out := Host.Outcome State Fault Refusal

/-! ### Words and fields -/

/-- The word at address `a`. -/
def rd (a : Nat) (s : State) : Word := s.regs.get resetWord a

/-- The state with word `v` at address `a`. -/
def wr (a : Nat) (v : Word) (s : State) : State := { s with regs := s.regs.set resetWord a v }

/-- Bits [lo + w - 1 : lo] of `x`. -/
def bitsOf (x : Word) (lo w : Nat) : Nat := x.toNat / 2 ^ lo % 2 ^ w

/-- `x` with bits [lo + w - 1 : lo] replaced by `v` (modulo 2^w). -/
def putBits (x : Word) (lo w v : Nat) : Word :=
  BitVec.ofNat 40 (x.toNat / 2 ^ (lo + w) * 2 ^ (lo + w) + v % 2 ^ w * 2 ^ lo + x.toNat % 2 ^ lo)

/-- Field `f` of the register at `base`. -/
def getF (base : Nat) (f : Fld) (s : State) : Nat := bitsOf (rd (base + f.sub) s) f.lo f.w

/-- The register at `base` with field `f` set to `v` (modulo the field's width). -/
def setF (base : Nat) (f : Fld) (v : Nat) (s : State) : State :=
  wr (base + f.sub) (putBits (rd (base + f.sub) s) f.lo f.w v) s

/-- Bit `b` of field `f`. -/
def getBit (base : Nat) (f : Fld) (b : Nat) (s : State) : Bool := getF base f s / 2 ^ b % 2 == 1

/-- Field `f` with its bit `b` set to `v`. -/
def setBit (base : Nat) (f : Fld) (b : Nat) (v : Bool) (s : State) : State :=
  setF base ⟨f.sub, f.lo + b, 1⟩ (if v then 1 else 0) s

def b2n (b : Bool) : Nat := if b then 1 else 0

/-- Whether field `f` is non-zero. -/
def isSet (base : Nat) (f : Fld) (s : State) : Bool := getF base f s != 0

/-- A counter that wraps modulo its width. -/
def incF (base : Nat) (f : Fld) (k : Nat) (s : State) : State := setF base f (getF base f s + k) s

/-- A counter that saturates at its width. -/
def satF (base : Nat) (f : Fld) (k : Nat) (s : State) : State :=
  setF base f (Nat.min (getF base f s + k) (2 ^ f.w - 1)) s

/-- A pair of registers, LO at `base` and HI at `base + 1`: the value of `lo` and `hi` joined. -/
def get2 (base : Nat) (lo hi : Fld) (s : State) : Nat := getF base lo s + getF base hi s * 2 ^ lo.w

def set2 (base : Nat) (lo hi : Fld) (v : Nat) (s : State) : State :=
  setF base hi (v / 2 ^ lo.w) (setF base lo v s)

def sat2 (base : Nat) (lo hi : Fld) (k : Nat) (s : State) : State :=
  set2 base lo hi (Nat.min (get2 base lo hi s + k) (2 ^ (lo.w + hi.w) - 1)) s

/-! ### The keepsake -/

/-- A keepsake public word (Table 16.3). One with an uncorrectable error reads as all ones, an AO entry as
zero (R386). -/
def kps (k : Nat) (s : State) : Word :=
  if s.dep.kpsBad.contains k then (if 32 ≤ k ∧ k < 36 then 0#40 else BitVec.allOnes 40) else rd (0x1048000 + k) s

/-! ### Lanes -/

def laneOf (i : Nat) (s : State) : Lane := s.lanes.get (fun _ => {}) i

def setLane (i : Nat) (l : Lane) (s : State) : State :=
  { s with lanes := s.lanes.set (fun _ => {}) i l }

def modLane (i : Nat) (f : Lane → Lane) (s : State) : State := setLane i (f (laneOf i s)) s

/-! ### The Block Bell -/

/-- The TCLK tick counter (R225). -/
def tickNow (s : State) : Nat := get2 R.TTB_TICK F.TTB_TICK_TICK_LO F.TTB_TICK_TICK_HI s

/-- Event number of class:index (R289). -/
def ev (cls idx : Nat) : Nat := 64 * cls + idx

/-- The event queue of core `c` (0-7 = D0-D7, 8 = Signal Box). -/
def queueOf (c : Nat) (s : State) : List (Nat × Bool) := s.bellq.get (fun _ => []) c

def setQueue (c : Nat) (q : List (Nat × Bool)) (s : State) : State :=
  { s with bellq := s.bellq.set (fun _ => []) c q }

/-- A raise is queued unless its source waits there already (R290). -/
def enqueueEvent (c e : Nat) (inj : Bool) (s : State) : State :=
  if (queueOf c s).any (·.1 == e) then s else setQueue c (queueOf c s ++ [(e, inj)]) s

/-- One record of the host log (R292): the newest overwrites the record 512 before it. -/
def logEvent (e : Nat) (inj twin : Bool) (tick : Nat) (s : State) : State :=
  if isSet R.BEL_CTRL F.BEL_CTRL_LOG_EN s then
    let q := getF R.BEL_LOGPOS F.BEL_LOGPOS_NEXT s
    let a := R.BEL_LOG + 2 * (q % 512)
    s |> wr a (BitVec.ofNat 40 (e + b2n inj * 2 ^ 10 + b2n twin * 2 ^ 11 + q * 2 ^ 12))
      |> wr (a + 1) (BitVec.ofNat 40 tick)
      |> setF R.BEL_LOGPOS F.BEL_LOGPOS_NEXT (q + 1)
  else s

/-- Delivery of a raise to one route: `q` is the route bit. -/
def when (c : Bool) (f : State → State) (s : State) : State := if c then f s else s

/-- The delivery of event `e` to its enabled routes (R290); health records go from the Lead to the Banker only (R333). -/
def deliver (e : Nat) (inj : Bool) (s : State) : State :=
  let src := R.BEL_SRC e
  s |> when (isSet src F.BEL_SRC_R_SBX s) (enqueueEvent 8 e inj)
    |> when (isSet src F.BEL_SRC_R_DSP s) (enqueueEvent (getF src F.BEL_SRC_DSEL s) e inj)
    |> when (isSet src F.BEL_SRC_R_LOG s) (logEvent e inj false (tickNow s))
    |> when (isSet src F.BEL_SRC_R_TWIN s && isSet R.BEL_CTRL F.BEL_CTRL_TWIN_EN s
              && isSet R.CPL_STATE F.CPL_STATE_COUPLED s && getF R.CPL_STATE F.CPL_STATE_ROLE s == 1)
        (fun s => { s with health := s.health ++ [(e, BitVec.ofNat 40 (tickNow s))] })

/-- A raise of event `e` (R289, R290): STS is set, COUNT increments, and the raise is delivered when
the source is enabled. -/
def raiseInj (e : Nat) (inj : Bool) (s : State) : State :=
  s |> setF (R.BEL_SRC e) F.BEL_SRC_STS 1
    |> satF (R.BEL_SRC e) F.BEL_SRC_COUNT 1
    |> when (isSet (R.BEL_SRC e) F.BEL_SRC_EN s) (deliver e inj)

def raise (e : Nat) (s : State) : State := raiseInj e false s

/-- A sticky bit `b` of field `f` that raises event `e` each time it changes from 0 to 1. -/
def flagEvt (base : Nat) (f : Fld) (b e : Nat) (s : State) : State :=
  if getBit base f b s then s else raise e (setBit base f b true s)

/-- A sticky bit that raises its event on every occurrence. -/
def flagAll (base : Nat) (f : Fld) (b e : Nat) (s : State) : State :=
  raise e (setBit base f b true s)

/-- IRQ_N is asserted (R291): low while an enabled, IRQ-routed source has STS set, in every power
state but Off. -/
def irqAsserted (s : State) : Bool :=
  isSet R.BEL_CTRL F.BEL_CTRL_IRQ_EN s && getF R.SUB_STATE F.SUB_STATE_STATE s != 5 &&
  (List.range 1024).any fun e =>
    isSet (R.BEL_SRC e) F.BEL_SRC_EN s && isSet (R.BEL_SRC e) F.BEL_SRC_R_IRQ s
      && isSet (R.BEL_SRC e) F.BEL_SRC_STS s

/-! ### Power states (Table 14.2) -/

def pstate (s : State) : Nat := getF R.SUB_STATE F.SUB_STATE_STATE s

def running (s : State) : Bool := pstate s == 1

end Sys2Proof.Machine
end

