-- ==== Sys2Proof/Machine/Ethernet.lean ====
section
/-!
DEFINITION. The IEEE 802.3 layers of an Ethernet departure (R28, R29, R43, R80, Table 3.9): 64B/66B blocks, the
scrambler, 256B/257B transcoding, RS(544,514) and the PAM4 mapping of one lane. PRESUMED: what the manual takes
from clauses 133 to 135 by reference follows those clauses; log entry 79. The group of alignment markers is a free
value: the manual does not state its bits.
-/
namespace Sys2Proof.Machine

/-- Octets as a number, the first one lowest. -/
def octetsLE (bs : List Byte) : Nat := bs.foldr (fun b a => b.toNat + 256 * a) 0

/-- Block type of a block that ends a frame after `k` data octets (clause 82). -/
def endType (k : Nat) : Nat := [0x87, 0x99, 0xAA, 0xB4, 0xCC, 0xD2, 0xE1, 0xFF].getD k 0

/-- What precedes a frame: preamble and SFD, 8 octets (Table 3.9). -/
def preamble : List Byte := List.replicate 7 0x55 ++ [0xD5]

/-- The frame in transmission is cut off (R204, R205). -/
def cutFrame (e : Eth) : Eth := { e with left := [], open_ := false }

/-- The next 66-bit block of the PCS: control or data, and its 64 payload bits. A frame starts and ends in control
blocks; between frames at least 12 octets pass, and idle blocks fill every other place (R45, Table 3.9). -/
def ethBlock (e : Eth) : (Bool × Nat) × Eth :=
  if e.open_ then
    if 8 ≤ e.left.length then ((false, octetsLE (e.left.take 8)), { e with left := e.left.drop 8 })
    else ((true, endType e.left.length + 256 * octetsLE e.left),
      { e with left := [], open_ := false, gap := 4 + e.left.length })
  else if e.left = [] ∨ 0 < e.gap then ((true, 0x1E), { e with gap := e.gap - 8 })
  else ((true, 0x78 + 256 * octetsLE ((e.left.drop 1).take 7)), { e with left := e.left.drop 8, open_ := true })

/-- The self-synchronous scrambler x^58 + x^39 + 1 over `n` bits, the lowest first: the scrambled bits and the state
after them. -/
def ethScramble : Nat → Nat → Nat → Nat × Nat
  | 0, _, st => (0, st)
  | n + 1, x, st =>
    let b := (x + st / 2 ^ 38 + st / 2 ^ 57) % 2
    let r := ethScramble n (x / 2) ((2 * st + b) % 2 ^ 58)
    (b + 2 * r.1, r.2)

/-- The next block with its payload scrambled. -/
def ethNext (e : Eth) : (Bool × Nat) × Eth :=
  let (blk, e) := ethBlock e
  let r := ethScramble 64 blk.2 e.scram
  ((blk.1, r.1), { e with scram := r.2 })

/-- Four 66-bit blocks as one group of 257 bits, the lowest first. A group with a control block carries the blocks'
kinds in its head and omits four bits of the first control block's type; five bits of the head are then scrambled. -/
def transcode (bs : List (Bool × Nat)) : Nat :=
  let body := bs.foldr (fun b a => b.2 + 2 ^ 64 * a) 0
  let x := match bs.findIdx? (·.1) with
    | none => 1 + 2 * body
    | some c =>
      let kinds := bs.foldr (fun b a => b2n (!b.1) + 2 * a) 0
      let cut := 2 ^ (64 * c + 4)
      2 * kinds + 32 * (body % cut + body / (16 * cut) * cut)
  x ^^^ (x / 2 ^ 8 % 32)

/-- The 514 message symbols of 20 groups, the first bit sent lowest in the first symbol. -/
def fecMessage (groups : List Nat) : List Nat :=
  let n := groups.foldr (fun g a => g + 2 ^ 257 * a) 0
  (List.range 514).map fun k => n / 2 ^ (10 * k) % 1024

/-- RS(544,514) (R80): 30 check symbols, 15 symbols corrected. -/
def fecEncode (msg : List Nat) : List Nat := msg ++ rsParity 10 0x409 (rsGen 10 0x409 30 1 []) msg

def fecDecode (cw : List Nat) : Option (List Nat × Nat) := rsDecode 10 0x409 30 15 cw

/-- Two FEC lanes, which take the codeword's symbols in turn, multiplexed bit by bit onto one PAM4 lane. -/
def fecSymbols : List Nat → List (BitVec 2)
  | a :: b :: t => (List.range 10).map (fun j => gray (a / 2 ^ j % 2 * 2 + b / 2 ^ j % 2)) ++ fecSymbols t
  | _ => []

/-- The codeword that 2,720 symbols carry. -/
def symbolsFec (syms : List (BitVec 2)) : List Nat :=
  (chunks 10 272 (syms.map ungray)).flatMap fun c =>
    [c.foldr (fun x a => x / 2 + 2 * a) 0, c.foldr (fun x a => x % 2 + 2 * a) 0]

/-- The symbols of one codeword on the line: precoded when PREC_TX is set (without a comma there is no restart),
inverted when POL_TX is set (R29, R30); with the transmitter after them. -/
def ethLine (prec pol : Bool) (groups : List Nat) (e : Eth) : List (BitVec 2) × Eth :=
  let gs := fecSymbols (fecEncode (fecMessage groups))
  let ps := if prec then precode e.txP gs else gs
  (invert pol ps, { e with txP := ps.getLastD 0#2, cw := (e.cw + 1) % 1024 })

/-- The codeword received: symbols after the polarity, the receive precoder undone when `prec` is set. -/
def ethCodeword (prec : Bool) (syms : List (BitVec 2)) (e : Eth) : List Nat :=
  symbolsFec (if prec then unprecode e.rxP syms else syms)

end Sys2Proof.Machine
end

