-- ==== Sys2Proof/Machine/Tracks.lean ====
section
/-!
DEFINITION. Tracks (02): the lane state machine (R34-R38), rate changes (R42), per-track reset (R49),
quadrant PLLs (R27), test patterns (R46-R48), and the loss of a departure (R204).
-/
namespace Sys2Proof.Machine

/-! ### Lanes and their events (R24, Table 2.7, R83) -/

def isArrival (i : Nat) : Bool := i < 64
def isDeparture (i : Nat) : Bool := 64 ≤ i && i < 80

/-- The quadrant of a lane (R12). -/
def quadOf (i : Nat) : Nat := if i < 64 then i / 16 else if i < 80 then (i - 64) / 4 else i - 80

/-- The state event of a lane (R37). -/
def laneEvent (i : Nat) : Nat := if i < 64 then ev 0 i else ev 2 (i - 64)

/-- The error event of a lane (Table 2.7). -/
def laneErrEvent (i : Nat) : Nat := if i < 64 then ev 1 i else ev 2 (20 + (i - 64))

/-- The framing event of a lane (R83). -/
def frameEvent (i : Nat) : Nat := if i < 64 then ev 1 i else ev 2 (44 + (i - 64))

def laneState (i : Nat) (s : State) : Nat := getF (R.TRK_STATE i) F.TRK_STATE_STATE s
def laneEn (i : Nat) (s : State) : Bool := isSet (R.TRK_CTRL i) F.TRK_CTRL_EN s

/-- One-way mode (R41); coupling lanes support full mode only. -/
def oneWay (i : Nat) (s : State) : Bool := i < 80 && isSet (R.TRK_CTRL i) F.TRK_CTRL_HSK_MODE s

/-- A departure that transmits regardless of its receiver: one-way (R41) or Ethernet (R44). -/
def deaf (i : Nat) (s : State) : Bool :=
  isDeparture i && (oneWay i s || (laneOf i s).rate170)

/-- The PLL of the lane's current rate is locked. -/
def pllLocked (i : Nat) (s : State) : Bool :=
  if (laneOf i s).rate170 then isSet (R.TRK_QUAD (quadOf i)) F.TRK_QUAD_PLL170_LOCK s
  else isSet (R.TRK_QUAD (quadOf i)) F.TRK_QUAD_PLL180_LOCK s

/-! ### Consignments dropped (R200, R204) -/

/-- Occupancy in kbit of a number of words. -/
def kbit (words : Nat) : Nat := words * 40 / 1000

def putTmnHeld (n : Nat) (s : State) : State :=
  { s with tmnHeld := n }
    |> setF R.TMN_BUF F.TMN_BUF_OCC (kbit n)
    |> when (decide (getF R.TMN_BUF F.TMN_BUF_PEAK s < kbit n)) (setF R.TMN_BUF F.TMN_BUF_PEAK (kbit n))

/-- The beam store: the frames in assembly and the complete consignments (R222). -/
def showStore (s : State) : State :=
  let k := kbit (s.beamHeld + s.tbl.held)
  s |> setF R.TBL_STORE F.TBL_STORE_OCC k
    |> when (decide (getF R.TBL_STORE F.TBL_STORE_PEAK s < k)) (setF R.TBL_STORE F.TBL_STORE_PEAK k)

def putBeamHeld (n : Nat) (s : State) : State := showStore { s with beamHeld := n }

/-- The space of a consignment is freed. -/
def freeConsig (c : Consig) (s : State) : State :=
  if c.beam then putBeamHeld (s.beamHeld - c.words.length) s
  else putTmnHeld (s.tmnHeld - c.words.length) s

/-- A consignment is discarded and counted in its route's DROPPED (R200, R207). -/
def countDrop (route : Nat) (s : State) : State :=
  let r := route % 16
  s |> satF (R.TMN_ROUTE r) F.TMN_ROUTE_DROPPED 1
    |> setF R.TMN_STATUS F.TMN_STATUS_DROP 1
    |> flagEvt (R.TMN_ROUTE r) F.TMN_ROUTE_DROPF 0 (ev 10 r)

def dropConsig (c : Consig) (s : State) : State := countDrop c.route (freeConsig c s)

/-- What the lane still holds of consignments: cut off, queued, and waiting beams. -/
def laneConsigs (l : Lane) : List Consig := (l.cur.map (·.1)).toList ++ l.txq ++ l.beamq

/-- The lane gives up the consignments that `p` names; a frame of one of them that is in transmission is cut off. -/
def forgetConsigs (p : Consig → Bool) (l : Lane) : Lane :=
  { l with txq := l.txq.filter (!p ·), beamq := l.beamq.filter (!p ·), cur := l.cur.filter fun x => !p x.1
           eth := if l.cur.any fun x => p x.1 then cutFrame l.eth else l.eth }

/-- A departure leaves OPEN (R204): the consignment cut off and every queued one are discarded. -/
def departureLoss (i : Nat) (s : State) : State :=
  (laneConsigs (laneOf i s)).foldl (fun s c => dropConsig c s) (modLane i (forgetConsigs fun _ => true) s)

/-! ### Gauges of the lane's pairs (R109) -/

/-- Key of word `k` of GAU_STAT of the pair (input, coarse channel): group g holds inputs
128g .. 128g + 127; the pair index within the store is 64 × input + channel. -/
def gauKey (input chan k : Nat) : Nat := 0x11000000 + 8 * (64 * input + chan) + k

/-- The streams of a lane. -/
def laneStreams (i : Nat) (s : State) : List StreamEntry := s.arr.streams.filter (·.lane == i)

def formatInputs (fmt : Nat) : Nat := 16 * 2 ^ fmt
def formatTimes (fmt : Nat) : Nat := 40 / 2 ^ fmt

/-- The pairs (input, device coarse channel) of a stream-map entry. -/
def streamPairs (e : StreamEntry) : List (Nat × Nat) :=
  (List.range (formatInputs e.fmt)).flatMap fun x =>
    (List.range e.ccount).map fun c => (e.first + x, e.dev + c)

/-- SLOW of a pair becomes invalid (R109). -/
def slowInvalid (p : Nat × Nat) (s : State) : State := setF (gauKey p.1 p.2 0) F.GAU_STAT_SLOW_OK 0 s

/-! ### State changes (R36, R37) -/

/-- The TRK_STATUS bit of a cause (R37, TRK_STATUS). -/
def causeFlag : Nat → Option Fld
  | 1 => some F.TRK_STATUS_QPLL_LOST
  | 3 => some F.TRK_STATUS_RATE_ABORT
  | 4 => some F.TRK_STATUS_ENERGY_LOST
  | 5 => some F.TRK_STATUS_CDR_FAIL
  | 6 => some F.TRK_STATUS_COMMA_FAIL
  | 7 => some F.TRK_STATUS_FRAME_FAIL
  | 8 => some F.TRK_STATUS_IDENTITY
  | 9 => some F.TRK_STATUS_HSK_FAIL
  | 10 => some F.TRK_STATUS_TOKEN_LOSS
  | 11 => some F.TRK_STATUS_PEER_RESTART
  | _ => none

def setStatusFlag (i : Nat) (c : Nat) (s : State) : State :=
  match causeFlag c with | some f => setF (R.TRK_STATUS i) f 1 s | none => s

/-- What entering a state does inside the lane. -/
def enterState (i st : Nat) (s : State) : State :=
  match st with
  | 0 => modLane i (fun l => { l with txSeq := 0, commas := 0, sendSeen := false }) s
          |> setF (R.TRK_STATE i) F.TRK_STATE_PARKED 0
  | 6 => modLane i (fun l => { l with gen := 2 ^ 31 - 1, chk := {} }) s
  | 2 => modLane i (fun l => { l with commas := 0 }) s
  | 4 => modLane i (fun l => { l with sendSeen := false, wrongId := false, gotValid := false,
                                       tokAny := 0, tokSeen := 0 }) s
          |> setF (R.TRK_STATE i) F.TRK_STATE_PARKED 0
  | 5 => if isArrival i then
           (laneStreams i s).foldl (fun s e => (streamPairs e).foldl (fun s p => slowInvalid p s) s)
             (modLane i (fun l => { l with
                liveFrom := get2 R.PTS_FRONT F.PTS_FRONT_F_LO F.PTS_FRONT_F_HI s, hiBlock := none }) s)
         else s
  | _ => s

/-- A coupling lane leaves OPEN: the records of a transaction that it has not sent have lost their lane (R328). -/
def unpin (i : Nat) (s : State) : State :=
  { s with cpl := { s.cpl with outq := s.cpl.outq.map fun r =>
      if r.txn ≠ 0 ∧ r.lane.map (80 + ·) = some i then { r with lane := none } else r } }

/-- What leaving a state does: a departure leaving OPEN loses its consignments (R204); TRK_PEER.ANY
counts tokens since the lane last left DARK, and the retry holdoff runs from then (R36); the checker stops with
TEST. -/
def leaveState (i : Nat) (s : State) : State :=
  match laneState i s with
  | 0 => modLane i (fun l => { l with leftDark := tickNow s }) (setF (R.TRK_PEER i) F.TRK_PEER_ANY 0 s)
  | 6 => setF (R.TRK_TEST i) F.TRK_TEST_CHK_LOCK 0 s
  | 5 => if isDeparture i then departureLoss i s else unpin i s
  | _ => s

/-- A state change of lane `i` to `st` with cause `c` (R37): the state event once, TRANS, CAUSE. -/
def laneChange (i st c : Nat) (s : State) : State :=
  s |> leaveState i
    |> setF (R.TRK_STATE i) F.TRK_STATE_STATE st
    |> setF (R.TRK_STATE i) F.TRK_STATE_CAUSE c
    |> incF (R.TRK_STATE i) F.TRK_STATE_TRANS 1
    |> setStatusFlag i c
    |> enterState i st
    |> raise (laneEvent i)

/-! ### Rates (R26, R42) -/

/-- A departure of the quadrant has the Ethernet personality (R26). DESIGN CHOICE: a personality whose write is
deferred does not count as selected before it is in force; log entry 74. -/
def wants170 (q : Nat) (s : State) : Bool :=
  (List.range 4).any fun k => (laneOf (64 + 4 * q + k) s).rate170

/-- PLL170_RUN follows the personalities in force; a stopped PLL is not locked (R26). -/
def settleQuad (q : Nat) (s : State) : State :=
  if wants170 q s then setF (R.TRK_QUAD q) F.TRK_QUAD_PLL170_RUN 1 s
  else s |> setF (R.TRK_QUAD q) F.TRK_QUAD_PLL170_RUN 0 |> setF (R.TRK_QUAD q) F.TRK_QUAD_PLL170_LOCK 0

def settleQlock (i : Nat) (s : State) : State :=
  setF (R.TRK_STATE i) F.TRK_STATE_QLOCK (b2n (pllLocked i s)) s

/-- RXLINK takes the value `up`; each change raises the lane's error event (R44). -/
def putRxlink (i : Nat) (up : Bool) (s : State) : State :=
  if isSet (R.TRK_STATE i) F.TRK_STATE_RXLINK s = up then s
  else s |> setF (R.TRK_STATE i) F.TRK_STATE_RXLINK (b2n up) |> raise (laneErrEvent i)

/-- A personality takes effect on the lane; RXLINK reads 0 outside the Ethernet personality. -/
def applyRate (i : Nat) (pers : Bool) (s : State) : State :=
  s |> modLane i (fun l => { l with rate170 := pers, eth := {} })
    |> setF (R.TRK_STATE i) F.TRK_STATE_RATE_PEND 0
    |> when (!pers) (putRxlink i false)
    |> settleQuad (quadOf i)
    |> settleQlock i

def ratePend (i : Nat) (s : State) : Bool := isSet (R.TRK_STATE i) F.TRK_STATE_RATE_PEND s

/-- A deferred change is applied where the lane reaches DARK (R42). -/
def applyPending (i : Nat) (s : State) : State :=
  if ratePend i s then applyRate i (laneOf i s).ratePers s else s

/-- The test fields ask for TEST (R46). -/
def testOn (i : Nat) (s : State) : Bool :=
  isSet (R.TRK_TEST i) F.TRK_TEST_GEN s || isSet (R.TRK_TEST i) F.TRK_TEST_CHK s

/-- The states a lane takes without its partner: TEST while a test field is set (R46), OPEN for a
departure that does not depend on its receiver (R41, R44). DESIGN CHOICE: a retry holdoff that runs in DARK does not
keep the lane from them, and goes on; log entry 100. -/
def settleOnce (i : Nat) (s : State) : State :=
  if laneEn i s && pllLocked i s && (pstate s ≤ 2 || pstate s == 6) then
    if testOn i s then (if laneState i s = 6 then s else laneChange i 6 13 s)
    else if deaf i s && laneState i s != 5 then laneChange i 5 12 s
    else s
  else s

/-- 1 s in ticks: the retry holdoff (R36). -/
def holdoffTicks : Nat := 250000000

/-- The retry holdoff still runs: 1 s has not gone by since the lane last left DARK (R36). -/
def holdoffRuns (i : Nat) (s : State) : Bool := decide (tickNow s < (laneOf i s).leftDark + holdoffTicks)

/-- The lane reaches DARK with cause `c`; `h` tells whether the cause starts a holdoff (R36). A deferred rate is applied
(R42); a lane already in DARK makes no state change (R49). -/
def darken (i c : Nat) (h : Bool) (s : State) : State :=
  s |> when (laneState i s != 0) (laneChange i 0 c)
    |> setF (R.TRK_STATE i) F.TRK_STATE_HOLDOFF (b2n (h && holdoffRuns i s))
    |> applyPending i

/-- To DARK, as `darken` says; a departure whose deferred rate was applied and that then depends on no receiver opens
at once (R41, R44). DESIGN CHOICE: the 1.0 ms of energy for the next attempt is counted afresh, log entry 76. -/
def toDark (i c : Nat) (h : Bool) (s : State) : State :=
  when (ratePend i s) (settleOnce i) (darken i c h s)

/-- In OPEN with a change pending, the lane applies it and restarts in DARK (R42). -/
def applyAtOpen (i : Nat) (s : State) : State :=
  if laneState i s = 5 ∧ ratePend i s then settleOnce i (toDark i 14 false s) else s

/-- The states a lane takes without its partner, and a change that waits for OPEN. -/
def settleLane (i : Nat) (s : State) : State := applyAtOpen i (settleOnce i s)

/-- To OPEN by normal progress; a pending personality change is applied there (R42). -/
def toOpen (i : Nat) (s : State) : State := applyAtOpen i (laneChange i 5 12 s)

/-- A per-track reset, or EN = 0 (R49). -/
def trackReset (i : Nat) (s : State) : State :=
  s |> toDark i 2 false
    |> when (isDeparture i) (departureLoss i)
    |> modLane i (fun l => { l with fifo := [], hiBlock := none })

/-! ### Handshake tokens (R38) -/

/-- The first three validity conditions of R38. -/
def tokenForm (car : Word) : Bool := bitsOf car 32 8 == 0x5A && bitsOf car 16 14 == 0

def peerOk (i : Nat) (car : Word) (s : State) : Bool :=
  getF (R.TRK_LINKID i) F.TRK_LINKID_PEER_ID s == 0 ||
    bitsOf car 0 16 == getF (R.TRK_LINKID i) F.TRK_LINKID_PEER_ID s

/-- What a lane's token counts become with one more token. -/
def countToken (valid wrong : Bool) (stage : Nat) (l : Lane) : Lane :=
  if valid then
    let any := Nat.min (l.tokAny + 1) 3
    let seen := if l.sendSeen && (stage == 1 || stage == 2) then Nat.min (l.tokSeen + 1) 3 else 0
    { l with gotValid := true, tokAny := any, tokSeen := seen, sendSeen := l.sendSeen || any == 3 }
  else { l with tokAny := 0, tokSeen := 0, wrongId := l.wrongId || wrong }

/-- A token from a decodable filler (R38, R35). DESIGN CHOICE: only a valid token of stage HELLO or PARKED restarts the
handshake of a lane in OPEN; log entry 102. -/
def tokenReceive (i : Nat) (car : Word) (s : State) : State :=
  if deaf i s || oneWay i s then s else
  let stage := bitsOf car 30 2
  let valid := tokenForm car && peerOk i car s
  let s := when valid (fun s => s
    |> setF (R.TRK_PEER i) F.TRK_PEER_LINK_ID (bitsOf car 0 16)
    |> setF (R.TRK_PEER i) F.TRK_PEER_STAGE stage
    |> setF (R.TRK_PEER i) F.TRK_PEER_ANY 1) s
  match laneState i s with
  | 4 =>
    let s := modLane i (countToken valid (tokenForm car && !peerOk i car s) stage) s
    if (laneOf i s).tokSeen = 3 then toOpen i s else s
  | 5 => if valid && (stage == 0 || stage == 3) then laneChange i 4 11 s else s
  | _ => s

/-! ### Meanings of the Tracks' own commands -/

/-- What the receiver of lane `i` gets: the lane's own transmit signal in near-end loopback (TRK_CTRL.LPBK), else the
symbols on its pins; with POL_RX inverted (R30). -/
def received (i : Nat) (syms : List (BitVec 2)) (s : State) : List (BitVec 2) :=
  invert (isSet (R.TRK_CTRL i) F.TRK_CTRL_POL_RX s)
    (if isSet (R.TRK_CTRL i) F.TRK_CTRL_LPBK s then (laneOf i s).line else syms)

/-- Bit errors between two Gray pairs. -/
def pairErrors (a b : Nat) : Nat := (a ^^^ b) % 2 + (a ^^^ b) / 2 % 2

/-- The unlocked checker takes one Gray pair: it seeds its register from the received bits and counts error-free
symbols from then on. -/
def prbsSeed (k x : Nat) (c : PrbsChk) : PrbsChk :=
  let raw := x ^^^ (if k = 1 then 0 else 3)
  let ok := decide (prbsLen k ≤ c.fill) && (prbsPair k c.reg).1 == x
  { c with reg := prbsShift k (prbsShift k c.reg (raw / 2)) (raw % 2), fill := Nat.min (c.fill + 2) 31,
           good := if ok then c.good + 1 else 0 }

/-- One received symbol of a test pattern (R47). Locked after 64 consecutive error-free symbols, the checker counts
bit errors and compared bits; 16 bit errors within 128 symbols lose the lock, and it reseeds. -/
def prbsSymbol (i : Nat) (s : State) (sym : BitVec 2) : State :=
  let k := getF (R.TRK_TEST i) F.TRK_TEST_CHK s
  let c := (laneOf i s).chk
  let x := ungray sym
  if !isSet (R.TRK_TEST i) F.TRK_TEST_CHK_LOCK s then
    let c := prbsSeed k x c
    let s := modLane i (fun l => { l with chk := c }) s
    if 64 ≤ c.good then setF (R.TRK_TEST i) F.TRK_TEST_CHK_LOCK 1 s else s
  else
    let p := prbsPair k c.reg
    let errs := (pairErrors p.1 x :: c.errs).take 128
    let s := s |> sat2 (R.TRK_PERR i) F.TRK_PERR_ERR_LO F.TRK_PERR_ERR_HI (pairErrors p.1 x)
      |> sat2 (R.TRK_PCMP i) F.TRK_PCMP_CMP_LO F.TRK_PCMP_CMP_HI 2
    if 16 ≤ errs.foldl (· + ·) 0 then
      s |> modLane i (fun l => { l with chk := {} })
        |> setF (R.TRK_TEST i) F.TRK_TEST_CHK_LOCK 0
        |> setF (R.TRK_STATUS i) F.TRK_STATUS_PRBS_LOSS 1
        |> raise (laneErrEvent i)
    else modLane i (fun l => { l with chk := { c with reg := p.2, errs := errs } }) s

/-- Symbols received in TEST with a checker pattern selected (R46, R47). -/
def prbsReceive (i : Nat) (syms : List (BitVec 2)) (s : State) : State :=
  if laneState i s = 6 ∧ getF (R.TRK_TEST i) F.TRK_TEST_CHK s ≠ 0 then
    (received i syms s).foldl (prbsSymbol i) s else s

def prbsClear (i : Nat) (s : State) : State :=
  s |> set2 (R.TRK_PERR i) F.TRK_PERR_ERR_LO F.TRK_PERR_ERR_HI 0
    |> set2 (R.TRK_PCMP i) F.TRK_PCMP_CMP_LO F.TRK_PCMP_CMP_HI 0

/-- The lanes with WATCH set; the six lowest-numbered are watched (R361). -/
def watchLanes (s : State) : List Nat := (List.range 84).filter fun i => isSet (R.TRK_CTRL i) F.TRK_CTRL_WATCH s

def watched (i : Nat) (s : State) : Bool := ((watchLanes s).take 6).contains i

/-- The receiver of lane `i` is watched: Halt with WATCH set (R50). -/
def parkedWatch (i : Nat) (s : State) : Bool :=
  pstate s == 3 && watched i s

/-- Receivers run, except in Laid-up and Off, and in Halt outside the watch of a watched lane (R50, Table 14.2). -/
def receiverOn (i : Nat) (s : State) : Bool :=
  if pstate s = 3 then watched i s && s.pow.watch else pstate s != 4 && pstate s != 5

/-- The conditions under which DARK is left (Table 2.3). -/
def mayLeaveDark (i : Nat) (s : State) : Bool :=
  receiverOn i s && laneEn i s && laneState i s == 0 && pllLocked i s && !deaf i s
    && !isSet (R.TRK_STATE i) F.TRK_STATE_HOLDOFF s && (laneOf i s).energy

def tryLeaveDark (i : Nat) (s : State) : State := if mayLeaveDark i s then laneChange i 1 12 s else s

def energyPresent (i : Nat) (s : State) : State :=
  tryLeaveDark i (modLane i (fun l => { l with energy := true }) s)

def cdrLock (i : Nat) (s : State) : State := if laneState i s = 1 then laneChange i 2 12 s else s

def signalTimeout (i : Nat) (s : State) : State := if laneState i s = 1 then toDark i 5 true s else s

/-- 20 consecutive levels `spacing` symbols after the last match: a comma match is counted (R33). -/
def commaReceive (i spacing : Nat) (levels : List (BitVec 2)) (s : State) : State :=
  if laneState i s = 2 ∧ commaMatch (invert (isSet (R.TRK_CTRL i) F.TRK_CTRL_POL_RX s) levels) = true then
    let l := laneOf i s
    let n := if spacing = 2700 then l.commas + 1 else 1
    let s := setLane i { l with commas := n } s
    if 3 ≤ n then laneChange i 3 12 s else s
  else s

def commaTimeout (i : Nat) (s : State) : State := if laneState i s = 2 then toDark i 6 true s else s

/-- The levels at four consecutive expected positions, none of which matches the comma (R33, R35). -/
def alignmentLoss (i : Nat) (windows : List (List (BitVec 2))) (s : State) : State :=
  if laneState i s = 5 ∧ ¬ deaf i s ∧ 4 ≤ windows.length ∧
      windows.all (fun x => !commaMatch (invert (isSet (R.TRK_CTRL i) F.TRK_CTRL_POL_RX s) x)) = true then
    laneChange i 2 6 s else s

/-- Four SEQ values that follow one another modulo 4,096 (R58). -/
def consecutive : List (BitVec 12) → Bool
  | [a, b, c, d] => b == a + 1 && c == b + 1 && d == c + 1
  | _ => false

/-- FRAME_ACQUIRED (Table 2.3, R41, R50): four trains in a row have decoded, with the SEQ values `seqs`. -/
def frameAcquired (i : Nat) (seqs : List (BitVec 12)) (s : State) : State :=
  if laneState i s = 3 ∧ ¬ isSet (R.TRK_STATE i) F.TRK_STATE_PARKED s ∧ consecutive seqs = true then
    let s := modLane i (fun l =>
      { l with rxSeq := (seqs.getD 3 0).toNat, rxValid := true, uncSince := 0 }) s
    if parkedWatch i s then setF (R.TRK_STATE i) F.TRK_STATE_PARKED 1 s
    else if oneWay i s then toOpen i s
    else laneChange i 4 12 s
  else s

def frameTimeout (i : Nat) (s : State) : State :=
  if laneState i s = 3 ∧ ¬ isSet (R.TRK_STATE i) F.TRK_STATE_PARKED s then toDark i 7 true s else s

/-- HANDSHAKE_TIMEOUT (Table 2.4): IDENTITY after a wrong-identity token and no valid one. -/
def handshakeTimeout (i : Nat) (s : State) : State :=
  if laneState i s = 4 then
    let l := laneOf i s
    let c := if getF (R.TRK_LINKID i) F.TRK_LINKID_PEER_ID s ≠ 0 ∧ l.wrongId ∧ ¬ l.gotValid then 8 else 9
    toDark i c true s
  else s

def tokenLoss (i : Nat) (s : State) : State :=
  if laneState i s = 5 ∧ ¬ deaf i s ∧ ¬ oneWay i s then toDark i 10 true s else s

def energyLost (i : Nat) (s : State) : State :=
  let s := modLane i (fun l => { l with energy := false }) s
  if laneState i s = 0 ∨ laneState i s = 6 ∨ deaf i s then s else toDark i 4 false s

def retryHoldoffEnd (i : Nat) (s : State) : State :=
  tryLeaveDark i (setF (R.TRK_STATE i) F.TRK_STATE_HOLDOFF 0 s)

def rateAbort (i : Nat) (s : State) : State :=
  if ratePend i s then s |> toDark i 3 false |> settleLane i else s

/-- The PERS write of a departure (R42): at once in DARK, OPEN and TEST. DEDUCED: in DARK the restart is no state
change, and CAUSE reads RATE_CHANGE; log entry 75. -/
def persWrite (i : Nat) (pers : Bool) (s : State) : State :=
  if ¬ isDeparture i then s
  else if ratePend i s then modLane i (fun l => { l with ratePers := pers }) s
  else if (laneOf i s).rate170 = pers then s
  else
    let st := laneState i s
    if st = 0 ∨ st = 5 ∨ st = 6 then
      s |> when (st != 0) (laneChange i 0 14)
        |> setF (R.TRK_STATE i) F.TRK_STATE_CAUSE 14
        |> setF (R.TRK_STATE i) F.TRK_STATE_HOLDOFF 0
        |> applyRate i pers
        |> settleLane i
    else
      s |> modLane i (fun l => { l with ratePers := pers })
        |> setF (R.TRK_STATE i) F.TRK_STATE_RATE_PEND 1

/-- The lanes of a quadrant. -/
def quadLanes (q : Nat) : List Nat := (List.range 84).filter (fun i => quadOf i == q)

def loseLane (x170 : Bool) (s : State) (i : Nat) : State :=
  if (laneOf i s).rate170 = x170 then
    s |> setF (R.TRK_STATE i) F.TRK_STATE_QLOCK 0
      |> when (laneEn i s) (fun s => s |> toDark i 1 false |> modLane i (fun l => { l with energy := false }))
  else s

/-- QPLL_LOST (R27). -/
def qpllLost (q : Nat) (x170 : Bool) (s : State) : State :=
  let f := if x170 then F.TRK_QUAD_PLL170_LOCK else F.TRK_QUAD_PLL180_LOCK
  if isSet (R.TRK_QUAD q) f s then
    (quadLanes q).foldl (loseLane x170)
      (s |> setF (R.TRK_QUAD q) f 0 |> incF (R.TRK_QUAD q) F.TRK_QUAD_LOSS_COUNT 1)
      |> raise (ev 2 (40 + q))
  else s

/-- QPLL_RELOCK (R27): lanes begin bring-up with no holdoff. DESIGN CHOICE: activity on LREFq is detected at a
relock and LREF_PRESENT stays set from then on; log entry 78. -/
def qpllRelock (q : Nat) (x170 : Bool) (s : State) : State :=
  let f := if x170 then F.TRK_QUAD_PLL170_LOCK else F.TRK_QUAD_PLL180_LOCK
  if x170 ∧ ¬ isSet (R.TRK_QUAD q) F.TRK_QUAD_PLL170_RUN s then s else
  (quadLanes q).foldl (fun s i => if (laneOf i s).rate170 = x170 then
      s |> settleQlock i |> settleLane i else s)
    (s |> setF (R.TRK_QUAD q) f 1 |> setF (R.TRK_QUAD q) F.TRK_QUAD_LREF_PRESENT 1)

/-- RXLINK_CHANGE (R44). -/
def rxlinkChange (i : Nat) (up : Bool) (s : State) : State :=
  if isDeparture i ∧ (laneOf i s).rate170 then putRxlink i up s else s

/-! ### Effects of the Tracks' register writes -/

/-- What a write of TRK_CTRL does, `old` being the word before it (R39, R42, R45, R49). The lane clock starts 1 μs
(250 ticks) after EN is set. A reset in the same write as a personality change has the lower code (R37): its cause
stands, and the personality is in force at once. DESIGN CHOICE: HSK_MODE changed to full mode leaves a lane in OPEN
where it is; log entry 101. -/
def trkCtrlEffect (i : Nat) (old : Word) (pers trst : Bool) (s : State) : State :=
  let en := laneEn i s
  let start := en && bitsOf old 0 1 == 0
  let s := when start (modLane i (fun l => { l with txSeq := 0, clkFrom := tickNow s + 250 })) s
  let s := if !en || trst then
      s |> trackReset i
        |> when (isDeparture i && (laneOf i s).rate170 != pers || ratePend i s) (applyRate i (pers && isDeparture i))
    else when (bitsOf old 1 1 != b2n pers || ratePend i s) (persWrite i pers) s
  settleLane i s

/-- Leaving or entering TEST after a write of the test fields (R46); the generator and the checker start afresh when
their pattern changes. -/
def trkTestEffect (i : Nat) (old : Word) (s : State) : State :=
  s |> when (bitsOf old 0 2 != getF (R.TRK_TEST i) F.TRK_TEST_GEN s)
        (modLane i (fun l => { l with gen := 2 ^ 31 - 1 }))
    |> when (bitsOf old 2 2 != getF (R.TRK_TEST i) F.TRK_TEST_CHK s)
        (fun s => setF (R.TRK_TEST i) F.TRK_TEST_CHK_LOCK 0 (modLane i (fun l => { l with chk := {} }) s))
    |> when (laneState i s == 6 && !testOn i s) (toDark i 13 false)
    |> settleLane i

/-- TRK_EQ accepts a word (R32). -/
def eqValid (w : Word) : Bool :=
  24 ≤ bitsOf w 4 6 && bitsOf w 0 4 + bitsOf w 4 6 + bitsOf w 10 5 ≤ 63

def eqReject (i : Nat) (s : State) : State :=
  s |> setF (R.TRK_STATUS i) F.TRK_STATUS_EQ_REJ 1 |> raise (laneErrEvent i)

/-! ### The commands -/

def execPrbsLock (i : LaneId) (syms : List (BitVec 2)) (s : State) : Out := .next (prbsReceive i syms s)
def execPrbsLoss (i : LaneId) (syms : List (BitVec 2)) (s : State) : Out := .next (prbsReceive i syms s)
def execEnergyPresent (i : LaneId) (s : State) : Out := .next (energyPresent i s)
def execCdrLock (i : LaneId) (s : State) : Out := .next (cdrLock i s)
def execSignalTimeout (i : LaneId) (s : State) : Out := .next (signalTimeout i s)
def execCommaReceive (i : LaneId) (spacing : Nat) (levels : List (BitVec 2)) (s : State) : Out :=
  .next (commaReceive i spacing levels s)
def execCommaTimeout (i : LaneId) (s : State) : Out := .next (commaTimeout i s)
def execAlignmentLoss (i : LaneId) (windows : List (List (BitVec 2))) (s : State) : Out :=
  .next (alignmentLoss i windows s)
def execFrameAcquired (i : LaneId) (seqs : List (BitVec 12)) (s : State) : Out := .next (frameAcquired i seqs s)
def execFrameTimeout (i : LaneId) (s : State) : Out := .next (frameTimeout i s)
def execHandshakeTimeout (i : LaneId) (s : State) : Out := .next (handshakeTimeout i s)
def execTokenLoss (i : LaneId) (s : State) : Out := .next (tokenLoss i s)
def execEnergyLost (i : LaneId) (s : State) : Out := .next (energyLost i s)
def execRetryHoldoffEnd (i : LaneId) (s : State) : Out := .next (retryHoldoffEnd i s)
def execRateAbort (i : LaneId) (s : State) : Out := .next (rateAbort i s)
def execQpllLost (q : Fin 4) (x170 : Bool) (s : State) : Out := .next (qpllLost q x170 s)
def execQpllRelock (q : Fin 4) (x170 : Bool) (s : State) : Out := .next (qpllRelock q x170 s)
def execRxlinkChange (i : LaneId) (up : Bool) (s : State) : Out := .next (rxlinkChange i up s)

end Sys2Proof.Machine
end

