-- ==== Sys2Proof/Machine/Twin.lean ====
section
/-!
DEFINITION. What other blocks ask of the Coupling (13): its events (R345), JSTATE, a failed join
(R344), the join log (R342), and which consignments a twin sends (R338, R343).
-/
namespace Sys2Proof.Machine

def putCpl (x : Coupling) (s : State) : State := { s with cpl := x }

/-- A Coupling condition with its event (Table 13.5): CPL_STATUS bit b, event 15:(40 + b). -/
def cplCond (b : Nat) (s : State) : State := flagEvt R.CPL_STATUS F.CPL_STATUS_EVT b (ev 15 (40 + b)) s

def isTwin (s : State) : Bool := isSet R.CPL_CTRL F.CPL_CTRL_EN s
def roleOf (s : State) : Nat := getF R.CPL_STATE F.CPL_STATE_ROLE s
def isLead (s : State) : Bool := isTwin s && roleOf s == 1
def isBanker (s : State) : Bool := isTwin s && roleOf s == 2
def coupled (s : State) : Bool := isTwin s && isSet R.CPL_STATE F.CPL_STATE_COUPLED s
def jstate (s : State) : Nat := getF R.CPL_STATE F.CPL_STATE_JSTATE s
def setJstate (j : Nat) (s : State) : State := setF R.CPL_STATE F.CPL_STATE_JSTATE j s
def termOf (s : State) : Nat := getF R.CPL_STATE F.CPL_STATE_TERM s
def twinId (s : State) : Nat := getF R.TMN_ID F.TMN_ID_TWIN_ID s

/-- A join fails (R344). -/
def joinFail (s : State) : State :=
  putCpl { s.cpl with retry := true, join := none, logOn := false, log := [], cut := [], cutCars := [], commitIn := none } s
    |> setJstate 1
    |> cplCond 7
    |> satF R.CPL_CNT F.CPL_CNT_FAILS 1

/-- One more item of the join log; past 4,096 items the join fails (R342, R344). -/
def logItem (x : LogItem) (s : State) : State :=
  if !s.cpl.logOn then s
  else if 4096 ≤ s.cpl.log.length then joinFail s
  else putCpl { s.cpl with log := s.cpl.log ++ [x] } s

/-- The front has reached a join index J, and the Gauges still owe the blocks that end there: nothing acts at this front
before the join does (R340, Table 1.3). -/
def joinPending (s : State) : Bool :=
  let front := get2 R.PTS_FRONT F.PTS_FRONT_F_LO F.PTS_FRONT_F_HI s
  s.gau.acts != [] && (s.cpl.anchor.any (decide <| · ≤ front) || s.cpl.join.any (decide <| · ≤ front))

/-- The twin forms this consignment and discards it without counting (R338, R343). -/
def twinMutes (c : Consig) (s : State) : Bool :=
  isTwin s && ((isBanker s && jstate s != 5)
    || decide (c.first < s.cpl.ownFrom)
    || (match c.cap with | some w => decide (w < s.cpl.capFrom) | none => decide (c.first < s.cpl.sendFrom)))

end Sys2Proof.Machine
end

