-- ==== Sys2Proof/Machine/Gauges.lean ====
section
/-!
DEFINITION. The Gauges (04, R108-R114): per-sample detectors, fast and kurtosis blocks, snapshots,
threshold conditions, excision, group events, and the Halt watch's share.
-/
namespace Sys2Proof.Machine

/-! ### Configuration -/

def cfgN (s : State) : Nat := getF R.PTS_CFG F.PTS_CFG_N s
def cfgC (s : State) : Nat := getF R.PTS_CFG F.PTS_CFG_C s
def cfgP (s : State) : Nat := 2 ^ getF R.PTS_CFG F.PTS_CFG_PLOG s
def cfgNch (s : State) : Nat := cfgC s * cfgP s

/-- M_SK (Table 4.6). -/
def cfgMsk (s : State) : Nat := 64 * 2 ^ getF R.GAU_CFG F.GAU_CFG_SKLOG s

/-- ⌈a / b⌉. -/
def cdiv (a b : Nat) : Nat := (a + b - 1) / b

/-! ### Coarse samples (R63, R65) -/

def invalidSample : Byte := 0x88#8

/-- A sample with −8 in either component is invalid (R65). -/
def normSample (b : Byte) : Byte := if b.toNat / 16 = 8 ∨ b.toNat % 16 = 8 then invalidSample else b

def isValid (b : Byte) : Bool := b.toNat / 16 != 8 && b.toNat % 16 != 8

def reOf (b : Byte) : Int := sx 4 (b.toNat / 16)
def imOf (b : Byte) : Int := sx 4 b.toNat

/-- |x|², at most 98. -/
def power (b : Byte) : Nat := (reOf b * reOf b + imOf b * imOf b).toNat

def pairOf (input chan : Nat) : Nat := 64 * input + chan

def coarseKey (pair n : Nat) : Nat := pair * 2 ^ 48 + n

def coarseAt (pair n : Nat) (s : State) : Byte :=
  s.pts.coarse.get (fun _ => invalidSample) (coarseKey pair n)

/-- Every pair (input, coarse channel) of the configuration, by input, then channel. -/
def allPairs (s : State) : List (Nat × Nat) :=
  (List.range (cfgN s)).flatMap fun i => (List.range (cfgC s)).map fun c => (i, c)

/-! ### Swaps (R107, R215) -/

/-- How many committed swaps take effect at fine sample `j`. -/
def Swap.takes (x : Swap) (j : Nat) : Nat := (x.at_.filter (· ≤ j)).length

/-- The swaps left when those of sample `j` have taken effect. -/
def Swap.done (x : Swap) (j : Nat) : Swap := { x with at_ := x.at_.filter (j < ·) }

/-- A swap committed to fine sample `j`. -/
def Swap.commit (x : Swap) (j : Nat) : Swap := ⟨x.at_ ++ [j], some j⟩

/-- A Points condition with its event (Table 4.8): PTS_STATUS bit b, event 3:(16 + b). -/
def ptsCond (b : Nat) (s : State) : State := flagEvt R.PTS_STATUS ⟨0, 0, 9⟩ b (ev 3 (16 + b)) s

/-! ### Per-sample detectors (Table 4.6) -/

def accOf (p : Nat) (s : State) : PairAcc := s.gau.acc.get (fun _ => {}) p

def putAcc (p : Nat) (a : PairAcc) (s : State) : State :=
  { s with gau := { s.gau with acc := s.gau.acc.set (fun _ => {}) p a } }

def addAcc (b : Byte) (a : PairAcc) : PairAcc :=
  let clip := reOf b = 7 ∨ reOf b = -7 ∨ imOf b = 7 ∨ imOf b = -7
  { a with fast := a.fast + power b, v := a.v + 1, clips := a.clips + (if clip then 1 else 0),
           s1 := a.s1 + power b, s2 := a.s2 + power b * power b, kv := a.kv + 1 }

/-- SLOW + (((|x|² 2^32) - SLOW) >> 20). -/
def slowStep (slow pw : Nat) : Nat := ((slow : Int) + ((pw * 2 ^ 32 : Nat) - (slow : Int)) / 2 ^ 20).toNat

/-- The envelope's attack and decay. -/
def envStep (att dec e pw : Nat) : Nat :=
  let d : Int := (pw * 2 ^ 16 : Nat) - (e : Int)
  ((e : Int) + (if 0 < d then d / 2 ^ att else d / 2 ^ dec)).toNat

/-- The largest component of a sample. -/
def peakOf (b : Byte) : Nat := Nat.max (reOf b).natAbs (imOf b).natAbs

/-- The statistics registers of a pair after one valid sample; SLOW alone stays when `frozen` (R114). -/
def statSample (frozen : Bool) (i c : Nat) (b : Byte) (s : State) : State :=
  let k := gauKey i c 0
  let clip := decide (reOf b = 7 ∨ reOf b = -7 ∨ imOf b = 7 ∨ imOf b = -7)
  s |> when (!frozen && isSet k F.GAU_STAT_SLOW_OK s)
        (setF k F.GAU_STAT_SLOW (slowStep (getF k F.GAU_STAT_SLOW s) (power b)))
    |> setF k F.GAU_STAT_ENV (envStep (getF R.GAU_CFG F.GAU_CFG_ATT s) (getF R.GAU_CFG F.GAU_CFG_DEC s)
        (getF k F.GAU_STAT_ENV s) (power b))
    |> setF k F.GAU_STAT_PEAK (Nat.max (getF k F.GAU_STAT_PEAK s) (peakOf b))
    |> when clip (satF k F.GAU_STAT_CLIP 1)

/-! ### Thresholds (R111-R114) -/

/-- The profile in force for an input, when its group evaluates thresholds. -/
def profOf (i : Nat) (s : State) : Option Nat :=
  let g := R.GAU_GRP (i / 128)
  if isSet g F.GAU_GRP_EN s then some (R.GAU_PROF (getF g F.GAU_GRP_PROF s)) else none

/-- The record of a crossing in GAU_GEVTg. -/
def groupRecord (i c cond n : Nat) (s : State) : State :=
  let a := R.GAU_GEVT (i / 128)
  s |> setF a F.GAU_GEVT_INPUT i
    |> setF a F.GAU_GEVT_CCHAN c
    |> setF a F.GAU_GEVT_COND cond
    |> setF a F.GAU_GEVT_INDEX n
    |> setF a F.GAU_GEVT_VALID 1

/-- The coarse index at which a crossing of `cond` occurs whose span begins at `n`: the span's last sample. -/
def occursAt (cond n : Nat) (s : State) : Nat :=
  (n + (if cond < 4 then 63 else if cond = 4 then 0 else cfgMsk s - 1)) % 2 ^ 40

/-- The group's record is of a crossing that occurred at the same index as this one, and this one has the lower COND,
then the lower input, then the lower coarse channel (R113). -/
def recordTie (i c cond n : Nat) (s : State) : Bool :=
  let a := R.GAU_GEVT (i / 128)
  let rc := getF a F.GAU_GEVT_COND s
  let ri := getF a F.GAU_GEVT_INPUT s
  occursAt cond n s == occursAt rc (getF a F.GAU_GEVT_INDEX s) s &&
    (decide (cond < rc) || (cond == rc && (decide (i < ri) || (i == ri && decide (c < getF a F.GAU_GEVT_CCHAN s)))))

/-- A group event (R113): the first crossing while VALID is clear; of several that occur at one index the one with
the lowest condition, input and coarse channel is the one recorded. -/
def groupEvent (i c cond n : Nat) (s : State) : State :=
  if isSet (R.GAU_GEVT (i / 128)) F.GAU_GEVT_VALID s then when (recordTie i c cond n s) (groupRecord i c cond n) s
  else raise (ev 4 (i / 128)) (groupRecord i c cond n s)

/-- The request for the wake to Standing with a cause of Table 14.12. -/
def wakeRequest (cause : Nat) (s : State) : State :=
  match s.wakeReq with
  | some _ => s
  | none => { s with wakeReq := some cause }

/-- What a crossing does (Table 4.7): excision of [a, b], the group event, the wake in Halt. -/
def crossing (i c cond n0 : Nat) (excise : Option (Nat × Nat)) (s : State) : State :=
  match profOf i s with
  | none => s
  | some p =>
    s |> (fun s => match excise with
          | some (a, b) => { s with pts := { s.pts with exc := s.pts.exc ++ [(pairOf i c, a, b)] } }
          | none => s)
      |> when (isSet p F.GAU_PROF_EVT s || (pstate s == 3 && isSet p F.GAU_PROF_WAKE s)) (groupEvent i c cond n0)
      |> when (pstate s == 3 && isSet p F.GAU_PROF_WAKE s && isSet R.LMP_WAKEEN F.LMP_WAKEEN_GAUGE s) (wakeRequest 7)

/-- Whether condition `cond` of profile `p` crosses for a fast block (Table 4.7). -/
def fastCross (p k cond : Nat) (a : PairAcc) (ratio : Bool) (s : State) : Bool :=
  let slow := getF k F.GAU_STAT_SLOW s
  let hi := getF p F.GAU_PROF_FAST_HI s
  let lo := getF p F.GAU_PROF_FAST_LO s
  let ab := getF p F.GAU_PROF_ABS_HI s
  let cm := getF p F.GAU_PROF_CLIP_MAX s
  a.v != 0 &&
  match cond with
  | 0 => ratio && hi != 0 && decide (a.v * hi * slow < a.fast * 2 ^ 44)
  | 1 => ratio && lo != 0 && decide (a.fast * 2 ^ 48 < a.v * lo * slow)
  | 2 => ab != 0 && decide (ab < a.fast)
  | _ => cm != 0 && decide (cm < a.clips)

/-- ENV_HI: e / 2^16 > (ENV_HI / 256) × SLOW / 2^32. -/
def envCross (p k : Nat) (s : State) : Bool :=
  let hi := getF p F.GAU_PROF_ENV_HI s
  isSet k F.GAU_STAT_SLOW_OK s && hi != 0 &&
    decide (hi * getF k F.GAU_STAT_SLOW s < getF k F.GAU_STAT_ENV s * 2 ^ 24)

/-- K_HI (cond 5) and K_LO (cond 6): M_SK S2 / S1² against the threshold, with S1 > 0. -/
def kurtCross (p cond msk : Nat) (a : PairAcc) (s : State) : Bool :=
  let hi := getF p F.GAU_PROF_K_HI s
  let lo := getF p F.GAU_PROF_K_LO s
  a.kv != 0 && a.s1 != 0 &&
  (if cond = 5 then hi != 0 && decide (hi * a.s1 * a.s1 < msk * a.s2 * 4096)
   else lo != 0 && decide (msk * a.s2 * 4096 < lo * a.s1 * a.s1))

/-! ### One coarse index (BLOCK_RELEASE) -/

/-- The sample of one pair at coarse index `n`: statistics, then the envelope condition (R112). -/
def gaugePair (n : Nat) (s : State) (ic : Nat × Nat) : State :=
  let b := coarseAt (pairOf ic.1 ic.2) n s
  if isValid b then
    let s := statSample false ic.1 ic.2 b (putAcc (pairOf ic.1 ic.2) (addAcc b (accOf (pairOf ic.1 ic.2) s)) s)
    match profOf ic.1 s with
    | none => s
    | some p =>
      if envCross p (gauKey ic.1 ic.2 0) s then
        crossing ic.1 ic.2 4 n
          (if isSet p F.GAU_PROF_EXC_ENV s then
            some (n - getF p F.GAU_PROF_PRE s, n + getF p F.GAU_PROF_HANG s) else none) s
      else s
  else s

/-- What ends with sample `n` (the boundary lies at n + 1): fast block, kurtosis block, snapshot. DESIGN CHOICE: a
snapshot follows an observed sample, so none is taken at the first index of a new front; log entry 109. -/
def actsAt (n : Nat) (s : State) : List Nat :=
  let per := getF R.GAU_SNAP F.GAU_SNAP_PERIOD64 s
  (if (n + 1) % 64 = 0 then [0] else []) ++ (if (n + 1) % cfgMsk s = 0 then [1] else [])
    ++ (if per ≠ 0 ∧ (n + 1) % (64 * per) = 0 then [2] else [])

def gauEn (s : State) : Bool := isSet R.GAU_CFG F.GAU_CFG_EN s

/-- While EN = 0 a block that ends is dropped with what was observed of it. -/
def dropBlocks (n : Nat) (s : State) : State :=
  if (n + 1) % cfgMsk s = 0 then { s with gau := { s.gau with acc := [] } }
  else if (n + 1) % 64 = 0 then
    (allPairs s).foldl (fun s ic =>
      putAcc (pairOf ic.1 ic.2) { accOf (pairOf ic.1 ic.2) s with fast := 0, v := 0, clips := 0 } s) s
  else s

/-- One coarse index observed; `acts` then holds what ends there. -/
def gaugeIndex (s : State) : State :=
  let n := s.gau.pos
  let s := if gauEn s then (allPairs s).foldl (gaugePair n) s else dropBlocks n s
  { s with gau := { s.gau with pos := n + 1, acts := if gauEn s then actsAt n s else [] } }

/-- Observe released samples up to the next block end or the release limit. -/
def gaugeRun : Nat → State → State
  | 0, s => s
  | k + 1, s =>
    if s.gau.pos < s.gau.limit ∧ s.gau.acts = [] then gaugeRun k (gaugeIndex s) else s

def gaugeGo (s : State) : State := gaugeRun (s.gau.limit - s.gau.pos) s

/-! ### FAST_BLOCK_END -/

/-- SLOW after the block's end: the first block with V = 64 loads it (R109). -/
def slowReload (i c : Nat) (a : PairAcc) (s : State) : State :=
  let k := gauKey i c 0
  if !isSet k F.GAU_STAT_SLOW_OK s && a.v == 64 then
    s |> setF k F.GAU_STAT_SLOW (a.fast * 2 ^ 32 / 64) |> setF k F.GAU_STAT_SLOW_OK 1
  else s

def evalFast (n0 cond : Nat) (s : State) (ic : Nat × Nat) : State :=
  match profOf ic.1 s with
  | none => s
  | some p =>
    let k := gauKey ic.1 ic.2 0
    if fastCross p k cond (accOf (pairOf ic.1 ic.2) s) (isSet k F.GAU_STAT_SLOW_OK s) s then
      crossing ic.1 ic.2 cond n0
        (if isSet p F.GAU_PROF_EXC_FAST s && cond != 1 then some (n0, n0 + 63) else none) s
    else s

def closeFast (s : State) (ic : Nat × Nat) : State :=
  let p := pairOf ic.1 ic.2
  let a := accOf p s
  let k := gauKey ic.1 ic.2 0
  s |> setF k F.GAU_STAT_FAST a.fast
    |> setF k F.GAU_STAT_V a.v
    |> slowReload ic.1 ic.2 a
    |> putAcc p { a with fast := 0, v := 0, clips := 0 }

def popAct (s : State) : State := { s with gau := { s.gau with acts := s.gau.acts.tail } }

/-- The running device's fast-block end: conditions in COND order, then the registers (R111, R113). -/
def fastBlockEnd (s : State) : State :=
  if s.gau.acts.head? = some 0 then
    let n0 := s.gau.pos - 64
    let ps := allPairs s
    let s := [0, 1, 2, 3].foldl (fun s cond => ps.foldl (evalFast n0 cond) s) s
    gaugeGo (popAct (ps.foldl closeFast s))
  else s

/-! ### KURTOSIS_BLOCK_END, GAUGE_SNAPSHOT -/

def evalKurt (n0 cond : Nat) (s : State) (ic : Nat × Nat) : State :=
  match profOf ic.1 s with
  | none => s
  | some p =>
    if kurtCross p cond (cfgMsk s) (accOf (pairOf ic.1 ic.2) s) s then crossing ic.1 ic.2 cond n0 none s else s

def closeKurt (s : State) (ic : Nat × Nat) : State :=
  let p := pairOf ic.1 ic.2
  let a := accOf p s
  let k := gauKey ic.1 ic.2 0
  s |> setF k F.GAU_STAT_SK_S1 a.s1
    |> setF k F.GAU_STAT_SK_S2 a.s2
    |> putAcc p { a with s1 := 0, s2 := 0, kv := 0 }

def kurtosisBlockEnd (s : State) : State :=
  if s.gau.acts.head? = some 1 then
    let n0 := s.gau.pos - cfgMsk s
    let ps := allPairs s
    let s := [5, 6].foldl (fun s cond => ps.foldl (evalKurt n0 cond) s) s
    gaugeGo (popAct (ps.foldl closeKurt s))
  else s

def snapPair (s : State) (ic : Nat × Nat) : State :=
  let k := gauKey ic.1 ic.2 0
  s |> setF k F.GAU_STAT_SNAP_SLOW
        (if isSet k F.GAU_STAT_SLOW_OK s then getF k F.GAU_STAT_SLOW s else 0)
    |> setF k F.GAU_STAT_SNAP_CLIP (getF k F.GAU_STAT_CLIP s)
    |> setF k F.GAU_STAT_SNAP_PEAK (getF k F.GAU_STAT_PEAK s)
    |> setF k F.GAU_STAT_CLIP 0
    |> setF k F.GAU_STAT_PEAK 0

/-! ### The gains of AUTO mode (R105), which D4's firmware computes -/

/-- The square root of num / den to the nearest integer, ties to even. -/
def rneSqrt (num den : Nat) : Nat :=
  let f := Nat.sqrt (num / den)
  let m := (2 * f + 1) ^ 2 * den
  if 4 * num < m ∨ (4 * num = m ∧ f % 2 = 0) then f else f + 1

/-- G for a snapshot's SNAP_SLOW, the channel position's BP and TARGET; none leaves the gain unchanged. -/
def autoGain (snap bp tgt : Nat) : Option Nat :=
  if snap = 0 then none
  else some (Nat.max 1 (Nat.min 65535 (rneSqrt (tgt ^ 2 * 2 ^ 47) (snap * bp))))

/-- In AUTO mode a pair without power leaves its gains unchanged: AUTO_HOLD (the model raises it at the snapshot that
latches 0; DESIGN CHOICE, log 82). -/
def autoHold (s : State) : State :=
  when (getF R.PTS_GCTL F.PTS_GCTL_MODE s == 2 &&
    (allPairs s).any fun ic => getF (gauKey ic.1 ic.2 0) F.GAU_STAT_SNAP_SLOW s == 0) (ptsCond 8) s

/-- GAUGE_SNAPSHOT (R110). -/
def gaugeSnapshot (s : State) : State :=
  if s.gau.acts.head? = some 2 then
    let n := s.gau.pos
    let s := autoHold ((allPairs s).foldl snapPair s)
    gaugeGo (popAct (set2 R.GAU_SNAPIDX F.GAU_SNAPIDX_IDX_LO F.GAU_SNAPIDX_IDX_HI n s))
  else s

/-! ### The Halt watch (R114, R360) -/

def waccOf (p : Nat) (s : State) : PairAcc := s.gau.wacc.get (fun _ => {}) p

def putWacc (p : Nat) (a : PairAcc) (s : State) : State :=
  { s with gau := { s.gau with wacc := s.gau.wacc.set (fun _ => {}) p a } }

/-- Fast blocks that a pair has completed in this watch. -/
def watchDone (p : Nat) (s : State) : Nat := s.gau.wcount.get (fun _ => 0) p

/-- The fast block that a watched pair holds is complete; `n` is the first index of the next that has samples. It
counts, as do the blocks between that lost every sample, when the pair was watched from the block's start. -/
def watchFastNext (i c n : Nat) (s : State) : State :=
  let p := pairOf i c
  let a := waccOf p s
  let s := match a.blk with
    | some b =>
      let passed := (n + 2 ^ 24 - b) % 2 ^ 24 / 64 - b2n (!a.whole)
      { s with gau := { s.gau with wfast := s.gau.wfast ++ (if a.whole then [⟨i, c, b, a⟩] else []),
                                   wcount := s.gau.wcount.set (fun _ => 0) p (watchDone p s + passed) } }
    | none => s
  putWacc p { a with fast := 0, v := 0, clips := 0, blk := some n, whole := true } s

/-- The same for the kurtosis block. -/
def watchKurtNext (i c n : Nat) (s : State) : State :=
  let p := pairOf i c
  let a := waccOf p s
  let s := match a.kblk with
    | some b => when a.kwhole (fun s =>
        { s with gau := { s.gau with wkurt := s.gau.wkurt ++ [⟨i, c, b, a⟩] } }) s
    | none => s
  putWacc p { a with s1 := 0, s2 := 0, kv := 0, kblk := some n, kwhole := true } s

/-- The blocks held are those of index `n`: the first sample of a pair opens them, watched from their start only when
it is their first, and a sample of another aligned block closes the one held, whose last samples were lost (R60). -/
def watchAlign (i c n : Nat) (s : State) : State :=
  let p := pairOf i c
  let b := n - n % 64
  let k := n - n % cfgMsk s
  if (waccOf p s).blk = none then
    putWacc p { blk := some b, whole := decide (n = b), kblk := some k, kwhole := decide (n = k) } s
  else
    s |> when (decide ((waccOf p s).blk ≠ some b)) (watchFastNext i c b)
      |> when (decide ((waccOf p s).kblk ≠ some k)) (watchKurtNext i c k)

/-- Whether a pair has had its MBLK fast blocks. -/
def watchFull (p : Nat) (s : State) : Bool := decide (getF R.GAU_HALT F.GAU_HALT_MBLK s ≤ watchDone p s)

/-- The envelope condition of a watched pair at one valid sample. -/
def watchEnv (i c n : Nat) (s : State) : State :=
  match profOf i s with
  | none => s
  | some pr => when (envCross pr (gauKey i c 0) s) (crossing i c 4 n none) s

/-- One sample of a watched pair at TLOW index `n`: blocks align on TLOW mod 64; SLOW is frozen. Nothing of a pair is
processed after its MBLK fast blocks (R114). DESIGN CHOICE: the watch runs whatever GAU_CFG.EN holds; log entry 108. -/
def watchSample (i c n : Nat) (b : Byte) (s : State) : State :=
  let p := pairOf i c
  let s := when (!watchFull p s) (watchAlign i c n) s
  if watchFull p s then s else
  s |> when (isValid b) (fun s =>
        watchEnv i c n (statSample true i c b (putWacc p (addAcc b (waccOf p s)) s)))
    |> when (decide ((n + 1) % 64 = 0)) (watchFastNext i c ((n + 1) % 2 ^ 24))
    |> when (decide ((n + 1) % cfgMsk s = 0)) (watchKurtNext i c ((n + 1) % 2 ^ 24))

/-- A watched pair's fast block is evaluated against the frozen SLOW. DESIGN CHOICE: a ratio condition needs SLOW_OK
in Halt too; log entry 107. -/
def watchFast (s : State) (w : WatchBlock) : State :=
  let k := gauKey w.input w.chan 0
  let s := [0, 1, 2, 3].foldl (fun s cond =>
    match profOf w.input s with
    | none => s
    | some pr => if fastCross pr k cond w.acc (isSet k F.GAU_STAT_SLOW_OK s) s
        then crossing w.input w.chan cond w.n0 none s else s) s
  s |> setF k F.GAU_STAT_FAST w.acc.fast |> setF k F.GAU_STAT_V w.acc.v

def watchKurt (s : State) (w : WatchBlock) : State :=
  let k := gauKey w.input w.chan 0
  let s := [5, 6].foldl (fun s cond =>
    match profOf w.input s with
    | none => s
    | some pr => if kurtCross pr cond (cfgMsk s) w.acc s then crossing w.input w.chan cond w.n0 none s else s) s
  s |> setF k F.GAU_STAT_SK_S1 w.acc.s1 |> setF k F.GAU_STAT_SK_S2 w.acc.s2

/-- FAST_BLOCK_END: in Halt the blocks of the watch, otherwise the released samples' block. -/
def fastBlocks (s : State) : State :=
  if pstate s = 3 then s.gau.wfast.foldl watchFast { s with gau := { s.gau with wfast := [] } } else fastBlockEnd s

/-- KURTOSIS_BLOCK_END. -/
def kurtosisBlocks (s : State) : State :=
  if pstate s = 3 then s.gau.wkurt.foldl watchKurt { s with gau := { s.gau with wkurt := [] } } else kurtosisBlockEnd s

end Sys2Proof.Machine
end

