-- ==== Sys2Proof/Machine/Sidings.lean ====
section
/-!
DEFINITION. Sidings (05): layout of blocks over the working stacks (R119-R122), the S-shape code
(R118, R148), integer delay by read offset (R124, R125), P0 writes with their holds (R129, R132,
R146), the reserved region and the aperture (R142, R143), stacks and partial-array self-refresh
(R135-R141), captures (R144-R147) and the patrol (R149).
-/
namespace Sys2Proof.Machine

/-! ### Injections (R319) -/

/-- A persistent injection stays in force (Table 12.7). -/
def Inj.stuck (x : Inj) : Bool :=
  ((x.code == 0x30 || x.code == 0x31) && x.arg % 2 == 1) || (x.code == 0x32 && x.arg / 64 % 2 == 1)

/-- A class 8 event and its INS_STATUS bit (R321). -/
def insEvent (e : Nat) (s : State) : State :=
  if e < 12 then flagAll R.INS_STATUS F.INS_STATUS_EVT e (ev 8 e) s
  else flagAll R.INS_STATUS F.INS_STATUS_CLK (e - 16) (ev 8 e) s

/-- The injections in force: the accepted one, and a persistent one that has been applied. -/
def injs (s : State) : List Inj := s.chk.busy.toList ++ s.chk.force

/-- The injection that the present operation meets. -/
def findInj (p : Inj → Bool) (s : State) : Option Inj := (injs s).find? p

def injResult (r : Nat) (s : State) : State := setF R.INS_INJ F.INS_INJ_RESULT r s

/-- The accepted injection is no longer waiting; BUSY stays for a persistent one in force. -/
def putInj (x : Option Inj) (s : State) : State :=
  setF R.INS_INJ F.INS_INJ_BUSY (b2n (x.isSome || s.chk.force.any Inj.stuck)) { s with chk := { s.chk with busy := x } }

/-- An injection has been applied (R319): RESULT = 1 and 8:11; a persistent one stays in force. -/
def injDone (x : Inj) (s : State) : State :=
  let s := { s with chk := { s.chk with force := if x.stuck then s.chk.force ++ [x] else s.chk.force } }
  insEvent 11 (injResult 1 (putInj none s))

/-- The accepted injection is applied by the operation that it was waiting for, when this is that operation. -/
def useInj (p : Inj → Bool) (s : State) : State :=
  match s.chk.busy with
  | some x => when (p x) (injDone x) s
  | none => s

/-- Corrected codewords on an on-die bus (R316). -/
def busCorrected (n : Nat) (s : State) : State :=
  if n = 0 then s
  else satF R.INS_BUSERR F.INS_BUSERR_CORR n { s with chk := { s.chk with busCorr := true } }

/-- An uncorrectable codeword on an on-die bus (R316). -/
def busUncorrectable (s : State) : State :=
  insEvent 10 (satF R.INS_BUSERR F.INS_BUSERR_UNCORR 1 s)

/-- The symbols that an injection of a code makes wrong in the codeword it meets, as an error pattern, and the
injection used up. -/
def injErrors (len : Nat) (p : Inj → Bool) (s : State) : Nat × State :=
  match findInj p s with
  | none => (0, s)
  | some x => (symbolErrors len (x.arg % 8) s.free, useInj p { s with free := s.free + x.arg % 8 + 1 })

/-! ### Stacks -/

def workMask (s : State) : Nat := getF R.SDG_STACKS F.SDG_STACKS_WORK s

/-- The working stacks in ascending order. -/
def workStacks (s : State) : List Nat := (List.range 8).filter fun k => workMask s / 2 ^ k % 2 == 1

def stackState (k : Nat) (s : State) : Nat := getF (R.SDG_STK k) F.SDG_STK_STATE s

/-- A change of stack state raises STATE (R135). -/
def setStack (k st : Nat) (s : State) : State :=
  if stackState k s = st then s else raise (ev 5 (8 * k + 7)) (setF (R.SDG_STK k) F.SDG_STK_STATE st s)

/-- WORK with what follows from it: K and the home stack, which is the lowest working stack. -/
def setWork (mask : Nat) (s : State) : State :=
  let w := (List.range 8).filter fun k => mask / 2 ^ k % 2 == 1
  s |> setF R.SDG_STACKS F.SDG_STACKS_WORK mask
    |> setF R.SDG_STACKS F.SDG_STACKS_K w.length
    |> setF R.SDG_STACKS F.SDG_STACKS_HOME (w.headD 0)

/-- Words of a pseudo-channel, and its blocks (R117). -/
def pcWords : Nat := 117187500
def pcBlocks : Nat := 23437500

/-- A stack loses its contents. -/
def loseStack (k : Nat) (s : State) : State :=
  { s with hbm := s.hbm.keep (fun a => a / (32 * pcWords) != k),
           hbmErr := s.hbmErr.keep (fun a => a / (32 * pcBlocks) != k) }

/-- The stack's power domain (Table 14.1). -/
def stackDomain (k : Nat) : Nat := 11 + k

/-! ### Domains and load steps (R353) -/

def putPow (x : Power) (s : State) : State := { s with pow := x }

def domState (d : Nat) (s : State) : Nat := getF (R.SUB_DOM d) F.SUB_DOM_STATE s
def setDom (d x : Nat) (s : State) : State := setF (R.SUB_DOM d) F.SUB_DOM_STATE x s
def domFailed (d : Nat) (s : State) : Bool := isSet (R.SUB_DOM d) F.SUB_DOM_FAILED s

/-- The power domain of district k. -/
def districtDomain (k : Nat) : Nat := 19 + k

/-- A district powers down: it is no longer ready, and a clock that ran is gated, with DOMAIN_k (R185). -/
def districtDown (k : Nat) (s : State) : State :=
  setBit R.JCT_DISTRICT F.JCT_DISTRICT_READY k false s
    |> when (domState (districtDomain k) s == 3) (raise (ev 7 (4 * k + 2)))

/-- Training starts: the first attempt is in step 1 of Table 5.6. -/
def beginTraining (k : Nat) (s : State) : State :=
  s |> setF (R.SDG_STK k) F.SDG_STK_ATTEMPTS 0 |> setF (R.SDG_STK k) F.SDG_STK_STEP 1 |> setStack k 1

/-- A load step takes place: a power-up, a power-down, an entry to retention, or a stack's exit from
self-refresh, to READY or to training. -/
def doStep (x : LoadStep) (s : State) : State :=
  match x with
  | .up d => if 2 ≤ domState d s ∨ domFailed d s then s else setDom d 2 (incF (R.SUB_DOM d) F.SUB_DOM_UPS 1 s)
  | .down d => setDom d 0 (when (decide (19 ≤ d)) (districtDown (d - 19)) s)
  | .ret d => if domState d s < 2 then s else setDom d 1 s
  | .exit k => if stackState k s = 3 then setStack k 2 s else s
  | .retrain k => if stackState k s = 2 ∨ stackState k s = 3 then beginTraining k s else s

def showQlen (s : State) : State := setF R.SUB_HEADWAY F.SUB_HEADWAY_QLEN s.pow.queue.length s

/-- A load step is requested: it starts when no headway interval runs, and waits otherwise. -/
def requestStep (x : LoadStep) (s : State) : State :=
  if s.pow.busy || !s.pow.queue.isEmpty then
    incF R.SUB_HEADWAY F.SUB_HEADWAY_WAITS 1 (showQlen (putPow { s.pow with queue := s.pow.queue ++ [x] } s))
  else doStep x (putPow { s.pow with busy := true } s)

def requestSteps (xs : List LoadStep) (s : State) : State := xs.foldl (fun s x => requestStep x s) s

/-- The steps that wait take place one per headway interval, and the last interval ends: for a command that
lasts longer than its load steps (DESIGN CHOICE, log 91). -/
def drainSteps (s : State) : State :=
  let xs := s.pow.queue
  xs.foldl (fun s x => doStep x s) (showQlen (putPow { s.pow with queue := [], busy := false } s))

/-- Steps requested together within such a command: all but the first wait. -/
def runSteps (xs : List LoadStep) (s : State) : State := drainSteps (requestSteps xs s)

/-! ### Layout (R119-R122) -/

/-- The working pseudo-channel of index `w`: its physical number. -/
def physPc (w : Nat) (s : State) : Nat := 32 * (workStacks s).getD (w / 32) 0 + w % 32

def kPc (s : State) : Nat := 32 * (workStacks s).length

def platLen (s : State) : Nat := getF R.SDG_PLEN F.SDG_PLEN_PLEN s

/-- Lb (R120). -/
def bodyBlocks (s : State) : Nat := platLen s / 25 - 82

def slotsPerPc (s : State) : Nat := cdiv (cfgN s) (kPc s)

/-- The local address of block `t` of (fine channel, slot) in period `m` (Table 5.2). -/
def localAddr (m ch q t : Nat) (s : State) : Nat :=
  let nq := slotsPerPc s
  let lb := bodyBlocks s
  let nch := cfgNch s
  if t < lb then m % 2 * (nch * nq * lb) + (ch * nq + q) * lb + t
  else 2 * nch * nq * lb + m % 3 * (nch * nq * 82) + (ch * nq + q) * 82 + (t - lb)

/-- Where block `t` of period `m` of (fine channel, input) lies: pseudo-channel and local block. -/
def blockPlace (m f i t : Nat) (s : State) : Nat × Nat :=
  (physPc (i % kPc s) s, localAddr m f (i / kPc s) t s)

/-- The platform origin in force (R127), and the one before the last keyed reset for older samples
(R238). -/
def originNow (s : State) : Nat := get2 R.SDG_ORIGIN F.SDG_ORIGIN_JP_LO F.SDG_ORIGIN_JP_HI s

def originOf (j : Nat) (s : State) : Nat := if j < originNow s then s.sdg.jpOld else originNow s

/-- R142: blocks of the reserved region per pseudo-channel. -/
def reservedPerPc (k : Nat) : Nat := cdiv (cdiv 160000000 k) 32

/-- Where reserved block `r` lies. -/
def reservedPlace (r : Nat) (s : State) : Nat × Nat :=
  let k := (workStacks s).length
  let rs := cdiv 160000000 k
  let b := r % rs
  (32 * (workStacks s).getD (r / rs) 0 + b % 32, pcBlocks - reservedPerPc k + b / 32)

/-- HBM coordinates of a local address (R122). -/
def hbmCoords (a : Nat) : HbmAt :=
  let u := a / 32 % 48
  { row := a / 1536, sid := Fin.ofNat 3 (u / 16), bg := Fin.ofNat 4 (u % 16 / 4), bank := Fin.ofNat 4 (u % 4),
    col := Fin.ofNat 32 (a % 32) }

/-- The local address at HBM coordinates (R122). -/
def hbmLocal (x : HbmAt) : Nat := 1536 * x.row + 32 * (16 * x.sid.val + 4 * x.bg.val + x.bank.val) + x.col.val

/-! ### Blocks and the S-shape code (R118, R148) -/

def hbmKey (pl : Nat × Nat) : Nat := pl.1 * pcWords + 5 * pl.2
def errKey (pl : Nat × Nat) : Nat := pl.1 * pcBlocks + pl.2

/-- The error pattern that a stored codeword holds: which of its 256 bits differ from what was written. -/
def maskAt (pl : Nat × Nat) (s : State) : Nat := s.hbmErr.get (fun _ => 0) (errKey pl)

def putMask (pl : Nat × Nat) (m : Nat) (s : State) : State :=
  { s with hbmErr := s.hbmErr.set (fun _ => 0) (errKey pl) m }

/-- Symbols in error in a stored block. -/
def errsAt (pl : Nat × Nat) (s : State) : Nat := wrongSymbols 32 (maskAt pl s)

/-- The bits that DQ lines change in a burst: symbol k travels on DQ k over the eight unit intervals, most significant
bit first (R118). -/
def dqMask (flips : List (Fin 32 × Fin 8)) : Nat :=
  flips.foldl (fun m x => m ^^^ 2 ^ (8 * (31 - x.1.val) + (7 - x.2.val))) 0

/-- The five words of a block as its writer wrote them. -/
def blockWords (pl : Nat × Nat) (s : State) : List Word :=
  (List.range 5).map fun k => s.hbm.get (fun _ => 0#40) (hbmKey pl + k)

/-- The codeword of a block as it stands in its stack: 25 payload bytes, then check bytes b25 … b31 (R118), with its
errors. -/
def burst (pl : Nat × Nat) (s : State) : List Nat :=
  List.zipWith (· ^^^ ·) (codeword 7 (blockWords pl s)) (digits 8 32 (maskAt pl s))

/-- What the decoder answers for a block: any three wrong symbols are corrected, any four are found (R118). -/
def blockRead (pl : Nat × Nat) (s : State) : Option (List Word) := codeRead 7 4 (blockWords pl s) (maskAt pl s)

def uncorrBlock (pl : Nat × Nat) (s : State) : Bool := (blockRead pl s).isNone

/-- The words that P3 and P4 receive (R148): corrected, or as they are stored when the block is uncorrectable. -/
def storedWords (pl : Nat × Nat) (s : State) : List Word :=
  (blockRead pl s).getD (codeStored 7 (blockWords pl s) (maskAt pl s))

/-- A block written whole: the codeword carries the error pattern of an injection. -/
def writeBlock (pl : Nat × Nat) (ws : List Word) (mask : Nat) (s : State) : State :=
  putMask pl mask ((List.range 5).foldl (fun s k =>
    { s with hbm := s.hbm.set (fun _ => 0#40) (hbmKey pl + k) (ws.getD k 0#40) }) s)

/-- The group of a pseudo-channel (R150). -/
def pcGroup (pc : Nat) : Nat := pc / 8

/-- SDG_ECC (Table 5.11). -/
def eccCorr (pc : Nat) : Nat := 0x4010000 + 2 * pc
def eccUncorr (pc : Nat) : Nat := 0x4010001 + 2 * pc

def wordField : Fld := ⟨0, 0, 40⟩

/-- One decoded block (R148, R150): a correction or an uncorrectable block is counted, and the group
event raised on each uncorrectable block and once a period when corrections pass the limit. -/
def countDecode (pl : Nat × Nat) (s : State) : State :=
  let g := pcGroup pl.1
  if maskAt pl s = 0 then s
  else if uncorrBlock pl s then raise (ev 6 g) (satF (eccUncorr pl.1) wordField 1 s)
  else
    let n := s.sdg.corr.get (fun _ => 0) g + 1
    let lim := getF R.SDG_ECCTH F.SDG_ECCTH_CORR_LIM s
    let past := lim != 0 && decide (lim < n) && !s.sdg.corrEvt.contains g
    { s with sdg := { s.sdg with corr := s.sdg.corr.set (fun _ => 0) g n,
                                 corrEvt := if past then g :: s.sdg.corrEvt else s.sdg.corrEvt } }
      |> satF (eccCorr pl.1) wordField 1
      |> when past (raise (ev 6 g))

/-! ### Samples in words (R118, R120) -/

/-- Sample `o` of a block's words: word o / 5, byte o mod 5 from the most significant end. -/
def sampleOf (ws : List Word) (o : Nat) : Byte :=
  BitVec.ofNat 8 (bitsOf (ws.getD (o / 5) 0#40) (32 - 8 * (o % 5)) 8)

/-- 25 samples in five words. -/
def packSamples (bs : List Byte) : List Word :=
  (List.range 5).map fun k => packBytes ((List.range 5).map fun r => (bs.getD (5 * k + r) invalidSample).toNat)

/-! ### The P1 read (R125, R132, R137, R148) -/

def ofsKey (e i : Nat) : Nat := 0x4020000 + 8192 * e + i
def ofsD : Fld := ⟨0, 0, 11⟩
def ofsNoModel : Fld := ⟨0, 11, 1⟩

/-- The offset-history entry of segment `seg` (R124). -/
def ohEntry (seg : Nat) (s : State) : Option Nat :=
  (List.range 16).find? fun e => isSet (R.SDG_OHTAG e) F.SDG_OHTAG_VALID s
    && getF (R.SDG_OHTAG e) F.SDG_OHTAG_SEG s == seg % 2 ^ 32

def segLen (s : State) : Nat := getF R.PTS_SEGCFG F.PTS_SEGCFG_SEGLEN s

/-- The segment of fine sample `j` (R98). -/
def segOf (j : Nat) (s : State) : Nat := cfgP s * j / segLen s

/-- A history entry that is needed has been replaced: sixteen later segments are held. -/
def ohReplaced (seg : Nat) (s : State) : Bool :=
  ohEntry seg s == none && (List.range 16).all fun e => isSet (R.SDG_OHTAG e) F.SDG_OHTAG_VALID s

/-- 25 invalid samples. -/
def invalidBlock : List Word := List.replicate 5 (packBytes (List.replicate 5 0x88))

/-- A stored block as P1 delivers it: 25 samples. -/
def p1Block (pl : Nat × Nat) (s : State) : List Word :=
  if stackState (pl.1 / 32) s = 2 then (blockRead pl s).getD invalidBlock else invalidBlock

/-- A step that reads segment `seg` finds its entry replaced, and the engine reads at all (R125, R132). -/
def offsetLost (seg : Nat) (s : State) : Bool := isSet R.SDG_CTRL F.SDG_CTRL_EN s && ohReplaced seg s

/-- A write of this block of the period was discarded for a capture hold (R146). -/
def wasDiscarded (per f i t : Nat) (s : State) : Bool :=
  s.sdg.disc.any fun (a, b, c, d) => a == per && b == f && c == i && d == t

/-- Stored sample `x` of (fine channel, input), in the layout of origin `jp`. -/
def storedSample (jp f i x : Nat) (s : State) : Byte :=
  let m := (x - jp) / platLen s
  let o := (x - jp) % platLen s
  if x < s.sdg.floor || wasDiscarded (jp + m * platLen s) f i (o / 25) s then invalidSample
  else sampleOf (p1Block (blockPlace m f i (o / 25) s) s) (o % 25)

/-- Junction step `j` of an input (R125). -/
def junctionSample (f i j : Nat) (s : State) : Byte :=
  let jp := originOf j s
  match ohEntry (segOf j s) s with
  | none => invalidSample
  | some e =>
    let d := getF (ofsKey e i) ofsD s
    if !isSet R.SDG_CTRL F.SDG_CTRL_EN s || isSet (ofsKey e i) ofsNoModel s || j < jp + d then invalidSample
    else storedSample jp f i (j - d) s

/-! ### P0 writes (R129, R132, R146) -/

/-- Two periods use the same area for block `t` (Table 5.2). -/
def sameArea (t m m' : Nat) (s : State) : Bool :=
  if t < bodyBlocks s then m % 2 == m' % 2 else m % 3 == m' % 3

/-- A capture in force holds this write back (R146): the block would land in a block of the window. -/
def Capture.holds (c : Capture) (per m f i t : Nat) (s : State) : Bool :=
  decide (c.f0 ≤ f ∧ f < c.f0 + c.fn ∧ c.i0 ≤ i ∧ i < c.i0 + c.inN ∧ c.t0 ≤ t ∧ t < c.t0 + c.tn)
    && per != c.jp + c.m * platLen s && sameArea t m c.m s

def capState (c : Nat) (s : State) : Nat := getF (R.SDG_CAP c) F.SDG_CAP_STATE s

def captureOf (c : Nat) (s : State) : Capture := s.sdg.caps.get (fun _ => {}) c

def putCapture (c : Nat) (x : Capture) (s : State) : State :=
  { s with sdg := { s.sdg with caps := s.sdg.caps.set (fun _ => {}) c x } }

def held (per m f i t : Nat) (s : State) : Bool :=
  (List.range 4).any fun c => capState c s != 0 && (captureOf c s).holds per m f i t s

/-- A Sidings condition with its event (Table 5.10): SDG_STATUS bit b, event 6:(32 + b). -/
def sdgCond (b : Nat) (s : State) : State := flagEvt R.SDG_STATUS ⟨0, 0, 9⟩ b (ev 6 (32 + b)) s

/-- A discarded write: the first that a capture causes sets HOLD_SUPPRESS (R146). -/
def suppress (per m f i t : Nat) (s : State) : State :=
  let s := { s with sdg := { s.sdg with disc := s.sdg.disc ++ [(per, f, i, t)] } }
  (List.range 4).foldl (fun s c =>
    let x := captureOf c s
    if capState c s != 0 && x.holds per m f i t s && !x.suppressed then
      sdgCond 3 (putCapture c { x with suppressed := true } s)
    else s) s

/-- One full block handed to port P0. -/
def blockWrite (j f i : Nat) (ws : List Word) (s : State) : State :=
  let jp := originOf j s
  let m := (j - jp) / platLen s
  let per := jp + m * platLen s
  let t := (j - jp) % platLen s / 25
  let pl := blockPlace m f i t s
  let hit := fun x : Inj => x.code == 0x20 && x.unit == pl.1 && x.arg / 8 % 2 == 0
  if !isSet R.SDG_CTRL F.SDG_CTRL_EN s || s.sdg.restart then s
  else if held per m f i t s then suppress per m f i t s
  else if stackState (pl.1 / 32) s != 2 then s
  else
    let (mask, s) := injErrors 32 hit s
    writeBlock pl ws mask s

/-- Key of a sample in the assembly buffer. -/
def asmKey (f i j : Nat) : Nat := (f * 8192 + i) * 2 ^ 48 + j

/-- What a reader of the on-die bus code receives for words under an error pattern (R316): corrections are counted,
and a codeword that cannot be corrected is reported. -/
def busRead (ws : List Word) (mask : Nat) (s : State) : Option (List Word) × State :=
  if mask = 0 then (some ws, s)
  else match codeRead 7 4 ws mask with
    | some x => (some x, busCorrected 1 s)
    | none => (none, busUncorrectable s)

/-- One fine sample enters the assembly buffer; the 25th of its block sends the block to P0. `mask` is
the error pattern the on-die bus adds to that codeword (R316). -/
def asmSample (f i j : Nat) (b : Byte) (mask : Nat) (s : State) : State :=
  let s := { s with sdg := { s.sdg with asm := s.sdg.asm.set (fun _ => invalidSample) (asmKey f i j) b } }
  let jp := originOf j s
  if (j - jp) % platLen s % 25 = 24 then
    let j0 := j - 24
    let bs := (List.range 25).map fun k => s.sdg.asm.get (fun _ => invalidSample) (asmKey f i (j0 + k))
    let s := { s with sdg := { s.sdg with
      asm := s.sdg.asm.keep (fun a => a < asmKey f i j0 || asmKey f i j < a) } }
    let (ws, s) := busRead (packSamples bs) mask s
    blockWrite j f i (ws.getD invalidBlock) s
  else s

/-! ### The reserved region (R142) and the aperture (R143) -/

def readReserved (x : Nat) (s : State) : Word :=
  (storedWords (reservedPlace (x / 5) s) s).getD (x % 5) 0#40

/-- Where an aperture word lies, if it lies anywhere. -/
def aperturePlace (w : Nat) (s : State) : Option ((Nat × Nat) × Nat) :=
  let page := getF R.SDG_APAGE F.SDG_APAGE_PAGE s
  if isSet R.SDG_APAGE F.SDG_APAGE_SPACE s && isSet R.SDG_CTRL F.SDG_CTRL_DBG s then
    if w < pcWords then some ((page, w / 5), w % 5) else none
  else
    let x := page * 2 ^ 27 + w
    if x < 800000000 then some (reservedPlace (x / 5) s, x % 5) else none

/-- The place lies in a READY stack, which answers P3. A stack in TRAINING makes P3 wait (R137); in the other states it
answers ASLEEP (R143). -/
def stackAnswers (pl : Nat × Nat) (s : State) : Bool := stackState (pl.1 / 32) s == 2

def stackWaits (pl : Nat × Nat) (s : State) : Bool := stackState (pl.1 / 32) s == 1

/-- A P3 read of one word. -/
def p3Read (pl : Nat × Nat) (k : Nat) (s : State) : Word × State :=
  ((storedWords pl s).getD k 0#40, when (uncorrBlock pl s) (sdgCond 5) (countDecode pl s))

/-- A P3 write of one word: a read-modify-write of its block; discarded when uncorrectable. -/
def p3Write (pl : Nat × Nat) (k : Nat) (v : Word) (s : State) : State :=
  let hit := fun x : Inj => x.code == 0x20 && x.unit == pl.1 && x.arg / 8 % 2 == 1
  match blockRead pl s with
  | none => sdgCond 5 (countDecode pl s)
  | some ws =>
    let (mask, s) := injErrors 32 hit (countDecode pl s)
    writeBlock pl (ws.set k v) mask s

/-! ### Offset history (R124) -/

/-- The integer delay of an entry: DREF - rne(TAU / (2^16 P)), before the clip. -/
def intDelay (tau : Int) (s : State) : Int :=
  (getF R.PTS_DLYCFG F.PTS_DLYCFG_DREF s : Int) - rne tau (2 ^ 16 * cfgP s)

/-- One history entry written: tag, then (d, NOMODEL) of every input. -/
def recordOffsets (seg : Nat) (ds : List (Nat × Bool)) (s : State) : State :=
  let e := s.sdg.ohNext
  let s := ds.zipIdx.foldl (fun s (x, i) =>
    wr (ofsKey e i) (BitVec.ofNat 40 (x.1 + (if x.2 then 2048 else 0))) s) s
  { s with sdg := { s.sdg with ohNext := (e + 1) % 16 } }
    |> setF (R.SDG_OHTAG e) F.SDG_OHTAG_SEG seg
    |> setF (R.SDG_OHTAG e) F.SDG_OHTAG_VALID 1

/-- d of an input for segment `seg`, or DREF when no entry exists (R124). -/
def lastDelay (seg i : Nat) (s : State) : Nat :=
  match ohEntry seg s with
  | some e => getF (ofsKey e i) ofsD s
  | none => getF R.PTS_DLYCFG F.PTS_DLYCFG_DREF s

/-! ### Captures (R144-R147) -/

/-- Word `k` of capture descriptor `d`. -/
def capWord (d k : Nat) (s : State) : Word := readReserved (12500000 + 8 * d + k) s

/-- A descriptor is usable (Table 5.8a). DESIGN CHOICE: the bits that the table gives as Zero are not looked at; log
entry 110. -/
def capDescOk (d : Nat) (s : State) : Bool :=
  let fn := bitsOf (capWord d 0 s) 13 13
  let inN := bitsOf (capWord d 1 s) 13 14
  let hp := bitsOf (capWord d 4 s) 0 4
  bitsOf (capWord d 0 s) 0 1 == 1 && 1 ≤ fn && fn ≤ 4096 && 1 ≤ inN && inN ≤ 8192
    && bitsOf (capWord d 2 s) 0 32 != 0 && 1 ≤ hp && hp ≤ 8 && bitsOf (capWord d 4 s) 8 16 != 0

/-- The window of descriptor `d` for a key and LENGTH (R145), and whether clipping cut it. -/
def capWindow (d key len num : Nat) (s : State) : Capture × Bool :=
  let p := cfgP s
  let jk := cdiv key p
  let jp := originOf jk s
  let m := (jk - jp) / platLen s
  let st := jp + m * platLen s
  let lf := if len = 0 then bitsOf (capWord d 2 s) 0 32 else cdiv len p
  let pre := bitsOf (capWord d 3 s) 0 32
  let lo : Int := (jk : Int) - pre - st              -- window start and end, from the period's start
  let hi : Int := lo + lf
  let t0 := (lo / 25).toNat
  let t1 := Nat.min ((hi + 24) / 25).toNat (platLen s / 25)
  ({ m := m, jp := jp, f0 := bitsOf (capWord d 0 s) 1 12, fn := bitsOf (capWord d 0 s) 13 13,
     i0 := bitsOf (capWord d 1 s) 0 13, inN := bitsOf (capWord d 1 s) 13 14,
     t0 := Nat.min t0 (platLen s / 25), tn := t1 - t0, wstart := st + 25 * t0,
     rel := jp + (m + 1 + bitsOf (capWord d 4 s) 0 4) * platLen s,
     route := bitsOf (capWord d 4 s) 4 4, number := num, rate := bitsOf (capWord d 4 s) 8 16 },
   decide (lo < 0 ∨ (platLen s : Int) < hi))

/-- The stream cannot end before the release index at RATE (R145). -/
def capTooFast (d : Nat) (c : Capture) (s : State) : Bool :=
  let w := 25 * c.tn
  decide (bitsOf (capWord d 4 s) 8 16 * 100000000 * (c.rel - (c.wstart + w)) * cfgP s
    < 8 * c.fn * c.inN * w * getF R.PTS_FC F.PTS_FC_FC s)

/-- The lowest idle capture slot. -/
def idleCapture (s : State) : Option Nat := (List.range 4).find? fun c => capState c s == 0

/-- The blocks that hold descriptor `d` are decoded when it is read (R148). -/
def capDescRead (d : Nat) (s : State) : State :=
  let r := (12500000 + 8 * d) / 5
  (List.range ((12500000 + 8 * d + 7) / 5 - r + 1)).foldl (fun s k => countDecode (reservedPlace (r + k) s) s) s

/-- A capture executed at its key (R145): the slot it takes, or the rejection. `num` is its capture
number (R197). Whether a rejected capture whose window was clipped sets CAP_CLIPPED is not said: it sets CAP_REJECT
alone (DESIGN CHOICE, log 86). -/
def captureExecute (d key len num : Nat) (s : State) : Option (Nat × State) :=
  let (c, clipped) := capWindow d key len num s
  match idleCapture s with
  | none => none
  | some k =>
    if capDescOk d s && c.f0 + c.fn ≤ cfgNch s && c.i0 + c.inN ≤ cfgN s && !capTooFast d c s then
      some (k, s |> putCapture k c
        |> setF (R.SDG_CAP k) F.SDG_CAP_DESC d
        |> setF (R.SDG_CAP k) F.SDG_CAP_STATE 1
        |> setF (R.SDG_CAP k) F.SDG_CAP_WSTART c.wstart
        |> setF (R.SDG_CAP k) F.SDG_CAP_RELEASE c.rel
        |> setF (R.SDG_CAP k) F.SDG_CAP_SENT 0
        |> when clipped (sdgCond 2))
    else none

/-- Blocks of the window in stream order (R147): fine channel, then input, then block. -/
def capBlocks (c : Capture) : Nat := c.fn * c.inN * c.tn

def capPlace (c : Capture) (n : Nat) (s : State) : Nat × Nat :=
  blockPlace c.m (c.f0 + n / (c.inN * c.tn)) (c.i0 + n / c.tn % c.inN) (c.t0 + n % c.tn) s

/-- CAPTURE_STREAM_START: every sample of the window has been written. -/
def captureStreamStart (c : Nat) (s : State) : State :=
  let x := captureOf c s
  if capState c s = 1 ∧ x.wstart + 25 * x.tn ≤ s.pts.nextJ then
    setF (R.SDG_CAP c) F.SDG_CAP_STATE 2 (putCapture c { x with from_ := tickNow s } s)
  else s

/-- RATE allows `n` more blocks of the stream now: 200 bits a block against 0.4 bits per tick and unit of RATE (R147,
R203). -/
def capturePaced (c : Capture) (n : Nat) (s : State) : Bool :=
  decide (500 * (c.pos + n) ≤ c.rate * (tickNow s - c.from_))

/-! ### Reads that complete (R148) -/

/-- The words handed to a port. -/
def handTo (port : Nat) (ws : List Word) (s : State) : State :=
  { s with sdg := { s.sdg with handed := s.sdg.handed.set (fun _ => []) port ws } }

/-- HBM_READ_COMPLETE: the burst at HBM coordinates `a` of a pseudo-channel, in which `flips` have changed since it was
last seen (DQ and unit interval, R118). The burst is decoded and handed to its port: -8 for P1 and P2 when uncorrectable,
the stored words for P3 and P4; for P3 that sets APERTURE_ERR (R143). With `empty` the read found its stack's P1
headshunt empty (R132). While SDG_CTRL.EN = 0 P1 touches no stack (R132). -/
def hbmReadComplete (port pc : Nat) (a : HbmAt) (flips : List (Fin 32 × Fin 8)) (empty : Bool) (s : State) : State :=
  let pl := (pc, hbmLocal a)
  if port = 1 ∧ isSet R.SDG_CTRL F.SDG_CTRL_EN s = false then handTo port invalidBlock s
  else if stackState (pc / 32) s = 2 ∧ hbmLocal a < pcBlocks then
    let s := when (flips != []) (putMask pl (maskAt pl s ^^^ dqMask flips)) s
    let ws := if port = 1 ∨ port = 2 then p1Block pl s else storedWords pl s
    handTo port ws (countDecode pl s)
      |> when (port == 3 && uncorrBlock pl s) (sdgCond 5)
      |> when (empty && port == 1) (raise (ev 5 (8 * (pc / 32) + 4)))
  else s

/-- SCRUB_READ (R149): the next reserved block, written back when corrected; with PLAT_CHECK also the
next block of the platform and tail areas of every working pseudo-channel, without write-back. P4 stops with the
controllers' clocks (R140). -/
def scrubRead (s : State) : State :=
  if !isSet R.SDG_CTRL F.SDG_CTRL_SCRUB_EN s || (workStacks s).isEmpty || decide (domState 4 s ≠ 3) then s else
  let r := getF R.SDG_SCRUBPOS F.SDG_SCRUBPOS_BLOCK s
  let pl := reservedPlace r s
  let s := if stackState (pl.1 / 32) s = 2 then
      match blockRead pl s with
      | some ws => when (maskAt pl s != 0) (writeBlock pl ws 0) (countDecode pl s)
      | none => countDecode pl s
    else s
  let area := cfgNch s * slotsPerPc s * (2 * bodyBlocks s + 246)
  let s := if isSet R.SDG_CTRL F.SDG_CTRL_PLAT_CHECK s && area != 0 then
      let a := s.sdg.scrubTop % area
      let s := (List.range (kPc s)).foldl (fun s w =>
        if stackState (physPc w s / 32) s = 2 then countDecode (physPc w s, a) s else s) s
      { s with sdg := { s.sdg with scrubTop := (a + 1) % area } }
    else s
  if r + 1 = 160000000 then
    s |> setF R.SDG_SCRUBPOS F.SDG_SCRUBPOS_BLOCK 0 |> incF R.SDG_SCRUBPOS F.SDG_SCRUBPOS_PASSES 1
  else setF R.SDG_SCRUBPOS F.SDG_SCRUBPOS_BLOCK (r + 1) s

/-- STACK_TEMP_READ (R150). -/
def stackTempRead (k temp : Nat) (s : State) : State :=
  let st := stackState k s
  if st = 0 ∨ st = 4 then s
  else s |> setF (R.SDG_STK k) F.SDG_STK_TEMP temp
         |> when (getF R.SDG_TEMP F.SDG_TEMP_LIMIT s < temp) (raise (ev 5 (8 * k + 2)))

/-! ### Training and self-refresh (R135-R141) -/

def stackTrainingStart (k : Nat) (s : State) : State :=
  if stackState k s = 0 ∧ 2 ≤ getF (R.SUB_DOM (stackDomain k)) F.SUB_DOM_STATE s then beginTraining k s else s

/-- In-place retraining (R137). -/
def retrainInPlace (k : Nat) (s : State) : State :=
  if stackState k s = 2 then
    { s with sdg := { s.sdg with lost := s.sdg.lost ||| 2 ^ k } }
      |> incF (R.SDG_STK k) F.SDG_STK_RETRAIN 1
      |> beginTraining k
  else s

def caParityError (k : Nat) (s : State) : State :=
  if stackState k s = 2 then raise (ev 5 (8 * k + 3)) s else s

/-- A stack fails (R136): out of the working set, its domain switched off. -/
def failStack (k : Nat) (s : State) : State :=
  { s with sdg := { s.sdg with lost := s.sdg.lost &&& (255 ^^^ 2 ^ k),
                               restart := s.sdg.restart || decide (workMask s / 2 ^ k % 2 = 1) } }
    |> setStack k 4
    |> setBit R.SDG_STACKS F.SDG_STACKS_FAILED k true
    |> raise (ev 5 (8 * k + 1))
    |> loseStack k
    |> requestStep (.down (stackDomain k))

def anyTraining (s : State) : Bool := (List.range 8).any fun k => stackState k s == 1

/-- A stack's exit to training waits under the headway. -/
def retrainWaits (s : State) : Bool := s.pow.queue.any fun x => match x with | .retrain _ => true | _ => false

/-- The rate changes with no stack training (R139): every working stack that has contents enters self-refresh, SCLK
changes, and every such stack retrains, its exit from self-refresh a load step (R353). With no stack to retrain the change is
complete at once (DESIGN CHOICE, log 111). -/
def applyRateChange (rate : Nat) (s : State) : State :=
  let ks := (workStacks s).filter fun k => stackState k s == 2 || stackState k s == 3
  let s := ks.foldl (fun s k => setStack k 3 s) s
  let s := s |> setF R.SDG_CTRL F.SDG_CTRL_RATE rate |> setF R.SDG_STACKS F.SDG_STACKS_RATE_PEND 0
  if ks.isEmpty && !anyTraining s then sdgCond 8 s
  else requestSteps (ks.map .retrain) { s with sdg := { s.sdg with rateRun := true } }

/-- A change of rate that was deferred is applied in Standing, once no stack trains (R139). -/
def rateDue (s : State) : State :=
  when (isSet R.SDG_STACKS F.SDG_STACKS_RATE_PEND s && !anyTraining s && pstate s == 2) (applyRateChange s.sdg.rateTo) s

/-- The write of SDG_CTRL.RATE (R139): "may change only in Standing", so in any other state it is discarded and sets
RATE_REJ. DESIGN CHOICE: a write of the rate already in force is no change of RATE; log entry 112. -/
def rateWrite (rate : Nat) (s : State) : State :=
  if rate = 3 ∨ (rate = getF R.SDG_CTRL F.SDG_CTRL_RATE s ∧ ¬ isSet R.SDG_STACKS F.SDG_STACKS_RATE_PEND s) then s
  else if pstate s ≠ 2 then sdgCond 7 s
  else if anyTraining s then
    setF R.SDG_STACKS F.SDG_STACKS_RATE_PEND 1 { s with sdg := { s.sdg with rateTo := rate } }
  else applyRateChange rate s

/-- SDG_RATE_ABORT: the training in progress is aborted and restarted at the new rate. -/
def rateAbortSdg (s : State) : State :=
  if isSet R.SDG_STACKS F.SDG_STACKS_RATE_PEND s && pstate s == 2 then
    let ts := (List.range 8).filter fun k => stackState k s == 1
    let s := ts.foldl (fun s k => s |> raise (ev 5 (8 * k + 6)) |> setF (R.SDG_STK k) F.SDG_STK_STEP 1) s
    applyRateChange s.sdg.rateTo s
  else s

/-- A training attempt fails at the limit of `step`, which is the last step it reached (R136, Table 5.6). -/
def trainingFail (k step : Nat) (s : State) : State :=
  let n := getF (R.SDG_STK k) F.SDG_STK_ATTEMPTS s + 1
  s |> setF (R.SDG_STK k) F.SDG_STK_ATTEMPTS n
    |> raise (ev 5 (8 * k))
    |> setF (R.SDG_STK k) F.SDG_STK_STEP step
    |> when (decide (3 ≤ n)) (failStack k)

/-- The write of SDG_CTRL.PASR_REQ = 1 (R141). DESIGN CHOICE: a stack to be kept that still trains goes on training and
is not counted in KEPT; log entry 113. -/
def pasrRequest (s : State) : State :=
  if (pstate s = 1 ∨ pstate s = 6) ∨ isSet R.SDG_CTRL F.SDG_CTRL_EN s then raise (ev 5 7) s
  else
    let home := getF R.SDG_STACKS F.SDG_STACKS_HOME s
    let keep := fun k => k == home || getF R.SDG_PASR F.SDG_PASR_KEEP s / 2 ^ k % 2 == 1
    let s := s |> setF R.SDG_CTRL F.SDG_CTRL_PASR_REQ 1 |> setF R.SDG_PASR F.SDG_PASR_ACTIVE 1
    let s := (List.range 8).foldl (fun s k =>
      if keep k then
        if stackState k s = 2 then s |> setStack k 3 |> setBit R.SDG_PASR F.SDG_PASR_KEPT k true else s
      else if stackState k s = 4 then s
      else s |> setStack k 0 |> loseStack k) s
    s

/-- Clearing PASR_REQ: the kept stacks leave self-refresh under the headway (R353), the others train. -/
def pasrRelease (s : State) : State :=
  if isSet R.SDG_PASR F.SDG_PASR_ACTIVE s then
    let s := s |> setF R.SDG_CTRL F.SDG_CTRL_PASR_REQ 0 |> setF R.SDG_PASR F.SDG_PASR_ACTIVE 0
    let s := (List.range 8).foldl (fun s k =>
      if stackState k s = 3 then requestStep (.exit k) s
      else if stackState k s = 0 then stackTrainingStart k s else s) s
    setF R.SDG_PASR F.SDG_PASR_KEPT 0 s
  else setF R.SDG_CTRL F.SDG_CTRL_PASR_REQ 0 s

/-- SR_EXIT_TIMEOUT (R140): the exit failed, and the stack trains. Its exit is a load step (R353): the one that waits
for it, or a new one. -/
def srExitTimeout (k : Nat) (s : State) : State :=
  if stackState k s = 3 then
    let s := raise (ev 5 (8 * k + 5)) s
    if s.pow.queue.contains (.exit k) then
      putPow { s.pow with queue := s.pow.queue.map fun x => if x = .exit k then .retrain k else x } s
    else requestStep (.retrain k) s
  else s

/-! ### Platforms (R128) -/

/-- The period being written, and the sample at which it ends. -/
def periodOf (j : Nat) (s : State) : Nat := (j - originOf j s) / platLen s

/-! ### The commands -/

def execHbmReadComplete (port : Fin 5) (pc : Fin 256) (a : HbmAt) (flips : List (Fin 32 × Fin 8)) (empty : Bool)
    (s : State) : Out :=
  .next (hbmReadComplete port pc a flips empty s)
/-- REFRESH: the refresh of a READY stack changes nothing a command can read (R133). -/
def execRefresh (k : StackId) (s : State) : Out := .next (if stackState k s = 2 then s else s)
def execStackTrainingStart (k : StackId) (s : State) : Out := .next (stackTrainingStart k s)
def execPhyLockLoss (k : StackId) (s : State) : Out := .next (retrainInPlace k s)
def execCaParityError (k : StackId) (s : State) : Out := .next (caParityError k s)
def execCaParityLimit (k : StackId) (s : State) : Out := .next (retrainInPlace k s)
def execSdgRateAbort (s : State) : Out := .next (rateAbortSdg s)
def execSrExitTimeout (k : StackId) (s : State) : Out := .next (srExitTimeout k s)
def execCaptureStreamStart (c : Fin 4) (s : State) : Out := .next (captureStreamStart c s)
def execScrubRead (s : State) : Out := .next (scrubRead s)
def execStackTempRead (k : StackId) (temp : BitVec 8) (s : State) : Out := .next (stackTempRead k temp.toNat s)

end Sys2Proof.Machine
end

