-- ==== Sys2Proof/Machine/Terminus.lean ====
section
/-!
DEFINITION. Terminus (07): consignment headers and sequence numbers (R186-R189), full and compact
visibility payloads (R193, R194), manifests (R195, R196), lane choice and drops (R200), the departure
buffer (R202-R204), Ethernet frames (R81), and capture streams (R197, R198).
-/
namespace Sys2Proof.Machine

/-! ### Headers (Table 7.1) -/

/-- What a header says beside LENGTH, VER and TWIN_ID. -/
structure Head where
  ctype     : Nat
  rake      : Nat
  seq       : Nat
  fch       : Nat
  tile      : Nat
  a         : Nat
  b         : Nat
  first     : Nat
  count     : Nat
  firstItem : Nat
  nitem     : Nat
  flags     : Nat
  dump      : Nat
  deriving DecidableEq, Repr

/-- UNCOUPLED: the device is configured as a twin and is not coupled (R188, R330). -/
def uncoupled (s : State) : Bool :=
  isSet R.CPL_CTRL F.CPL_CTRL_EN s && !isSet R.CPL_STATE F.CPL_STATE_COUPLED s

/-- The eight header words of a consignment of `len` words. -/
def headWords (h : Head) (len : Nat) (s : State) : List Word :=
  let flags := (h.flags ||| (if uncoupled s then 16 else 0)) % 256
  [h.ctype % 16 * 2 ^ 36 + 2 ^ 32 + h.rake % 8 * 2 ^ 29 + len % 2 ^ 24,
   h.seq / 2 ^ 8 % 2 ^ 40,
   h.seq % 2 ^ 8 * 2 ^ 32 + h.fch % 2 ^ 12 * 2 ^ 20 + h.tile % 64 * 2 ^ 14 + h.a % 8 * 2 ^ 11 + h.b % 8 * 2 ^ 8,
   h.first / 2 ^ 8 % 2 ^ 40,
   h.first % 2 ^ 8 * 2 ^ 32 + h.count % 2 ^ 32,
   h.firstItem % 2 ^ 21 * 2 ^ 19 + h.nitem % 2 ^ 19,
   flags * 2 ^ 32 + h.dump % 2 ^ 32,
   getF R.TMN_ID F.TMN_ID_TWIN_ID s * 2 ^ 24].map (BitVec.ofNat 40)

/-- A whole consignment. -/
def consign (h : Head) (payload : List Word) (s : State) : List Word :=
  headWords h (8 + payload.length) s ++ payload

/-- Sequence numbers (Table 7.4, R220). -/
def seqVis (m g f k q : Nat) : Nat :=
  m % 2 ^ 14 * 2 ^ 32 + g % 8 * 2 ^ 29 + f % 4096 * 2 ^ 17 + k % 64 * 2 ^ 11 + q % 2048
def seqBeam (e b f : Nat) : Nat := 2 ^ 46 + e % 2 ^ 27 * 2 ^ 19 + b % 128 * 2 ^ 12 + f % 4096
def seqCapture (num p : Nat) : Nat := 2 * 2 ^ 46 + num % 2 ^ 16 * 2 ^ 30 + p % 2 ^ 30

/-! ### Visibility payloads (R193, R194) -/

abbrev Vis := Int × Int

def fullPayload (vs : List Vis) : List Word :=
  vs.flatMap fun v => [BitVec.ofNat 40 (fieldOf 40 v.1), BitVec.ofNat 40 (fieldOf 40 v.2)]

/-- Whether exponent `e` holds component `x`. -/
def fits (e : Nat) (x : Int) : Bool := (rne x (2 ^ e)).natAbs ≤ 2 ^ 23 - 1

def groupExp (xs : List Int) : Nat :=
  ((List.range 17).find? fun e => xs.all (fits e)).getD 16

def mantissa (e : Nat) (x : Int) : Int := clampI (-(2 ^ 23 - 1)) (2 ^ 23 - 1) (rne x (2 ^ e))

/-- The 20 words of a group of up to 16 visibilities. -/
def compactGroup (vs : List Vis) : List Word :=
  let vs := vs ++ List.replicate (16 - vs.length) (0, 0)
  let e := groupExp (vs.flatMap fun v => [v.1, v.2])
  let inexact := vs.foldl (fun a v => 2 * a +
    (if mantissa e v.1 * 2 ^ e != v.1 || mantissa e v.2 * 2 ^ e != v.2 then 1 else 0)) 0
  let body := vs.foldl (fun a v =>
    a * 2 ^ 48 + fieldOf 24 (mantissa e v.1) * 2 ^ 24 + fieldOf 24 (mantissa e v.2)) 0
  (digits 40 20 (e * 2 ^ 792 + inexact * 2 ^ 776 + body)).map (BitVec.ofNat 40)

def compactPayload (vs : List Vis) : List Word := (chunks 16 vs.length vs).flatMap compactGroup

/-! ### Queueing and dropping (R200, R204) -/

/-- A TMN_STATUS condition with its event (Table 7.7): bit b, event 10:(16 + b). -/
def tmnCond (b : Nat) (s : State) : State := flagEvt R.TMN_STATUS ⟨0, 0, 5⟩ b (ev 10 (16 + b)) s

/-- The departures of a route in ascending order, as lane indices. -/
def routeLanes (r : Nat) (s : State) : List Nat :=
  ((List.range 16).filter fun d => getF (R.TMN_ROUTE r) F.TMN_ROUTE_LANES s / 2 ^ d % 2 == 1).map (64 + ·)

/-- A lane may carry the route's consignments (R200). -/
def eligible (r i : Nat) (s : State) : Bool :=
  laneState i s == 5 &&
    getF (R.TRK_CTRL i) F.TRK_CTRL_PERS s == getF (R.TMN_ROUTE r) F.TMN_ROUTE_PERS s

def tmnEn (s : State) : Bool := isSet R.TMN_CTRL F.TMN_CTRL_EN s

/-- The lane a consignment with designated index `u` goes to, and whether it is another lane. -/
def laneSelect (r u : Nat) (s : State) : Option (Nat × Bool) :=
  let ls := routeLanes r s
  let n := ls.length
  if n = 0 then none
  else match (List.range n).find? fun k => eligible r (ls.getD ((u + k) % n) 0) s with
    | some k => some (ls.getD ((u + k) % n) 0, k != 0)
    | none => none

/-- A formed consignment is queued on its lane, or discarded and counted (R200, R204); a Banker that is
not READY discards it without counting (R338). -/
def queueConsig (c : Consig) (u : Nat) (s : State) : State :=
  if twinMutes c s then s
  else if !tmnEn s || !isSet (R.TMN_ROUTE c.route) F.TMN_ROUTE_EN s then countDrop c.route s
  else match laneSelect c.route u s with
    | none => countDrop c.route s
    | some (i, skip) =>
      let s := when skip (tmnCond 1) s
      if c.beam then
        putBeamHeld (s.beamHeld + c.words.length) (modLane i (fun l => { l with beamq := l.beamq ++ [c] }) s)
      else
        putTmnHeld (s.tmnHeld + c.words.length) (modLane i (fun l => { l with txq := l.txq ++ [c] }) s)

/-- Room in the 48 Mbit departure buffer for `n` more words (R202, R203). -/
def bufferRoom (n : Nat) (s : State) : Bool := (s.tmnHeld + n) * 40 ≤ 48000000

/-! ### Manifests (R195, R196) -/

/-- A manifest piece enters TMN_MWIN, then goes where its route sends it. -/
def manifestKeep (ws : List Word) (s : State) : State :=
  let slot := getF R.TMN_MHEAD F.TMN_MHEAD_FORMED s % 16
  let base := 0x6010000 + 0x800 * slot
  let s := (List.range 2048).foldl (fun s k =>
    match ws[k]? with
    | some w => wr (base + k) w s
    | none => if rd (base + k) s = 0#40 then s else wr (base + k) 0#40 s) s
  s |> setF R.TMN_MHEAD F.TMN_MHEAD_NEWEST slot
    |> incF R.TMN_MHEAD F.TMN_MHEAD_FORMED 1

/-- The payload of a manifest piece: (valid, flagged) of its inputs. -/
def manifestPayload (counts : List (Nat × Nat)) : List Word :=
  counts.flatMap fun c => [BitVec.ofNat 40 (c.1 % 2 ^ 32), BitVec.ofNat 40 (c.2 % 2 ^ 32)]

/-! ### Departure of a consignment (R202, R81) -/

/-- A consignment has left whole. -/
def countSent (i : Nat) (c : Consig) (s : State) : State :=
  s |> satF (R.TMN_ROUTE (c.route % 16)) F.TMN_ROUTE_SENT 1
    |> satF (R.TMN_DEP (i - 64)) F.TMN_DEP_SENT 1
    |> freeConsig c

/-- One's-complement sum of 16-bit words (RFC 791). -/
def ipChecksum (hs : List Nat) : Nat :=
  let t := hs.foldl (· + ·) 0
  let t := t / 65536 + t % 65536
  let t := t / 65536 + t % 65536
  65535 - t

/-- The UDP/IPv4 frame of Table 3.10. -/
def ethernetFrame (d r : Nat) (ws : List Word) (s : State) : List Nat :=
  let rt := R.TMN_ROUTE r
  let dp := R.TMN_DEP d
  let n := 5 * ws.length
  let dscp := getF rt F.TMN_ROUTE_DSCP s
  let ttl := getF rt F.TMN_ROUTE_TTL s
  let sip := getF dp F.TMN_DEP_SIP s
  let dip := getF rt F.TMN_ROUTE_DIP s
  let ck := ipChecksum [0x4500 + dscp * 4, 28 + n, 0, 0x4000, ttl * 256 + 17,
    sip / 65536, sip % 65536, dip / 65536, dip % 65536]
  let body := digits 8 5 (getF rt F.TMN_ROUTE_DMAC_HI s) ++ [getF rt F.TMN_ROUTE_DMAC_LO s]
    ++ digits 8 5 (getF dp F.TMN_DEP_SMAC_HI s) ++ [getF dp F.TMN_DEP_SMAC_LO s]
    ++ [8, 0, 0x45, dscp * 4] ++ digits 8 2 (28 + n) ++ [0, 0, 0x40, 0, ttl, 17] ++ digits 8 2 ck
    ++ digits 8 4 sip ++ digits 8 4 dip
    ++ digits 8 2 (getF dp F.TMN_DEP_SPORT s) ++ digits 8 2 (getF rt F.TMN_ROUTE_DPORT s)
    ++ digits 8 2 (8 + n) ++ [0, 0] ++ wordsBytes ws
  body ++ (digits 8 4 (crc32 body)).reverse

/-- The next consignment of a lane (R202): its oldest beam consignment, else the oldest of the buffer. -/
def nextConsig (i : Nat) (s : State) : Option Consig :=
  match (laneOf i s).beamq with
  | c :: _ => some c
  | [] => (laneOf i s).txq.head?

def popConsig (i : Nat) (s : State) : State :=
  modLane i (fun l => match l.beamq with
    | _ :: t => { l with beamq := t }
    | [] => { l with txq := l.txq.tail }) s

/-- An injected bus-code fault meets the read-out of the buffer or the beam store (R316). -/
def busHit (c : Consig) (x : Inj) : Bool := x.code == 0x60 && x.unit == (if c.beam then 3 else 2)

/-- The words of a consignment read out of the departure buffer or the beam store, S-shape codewords of five words
each under the error patterns `bus` (codeword, pattern); none when one of them cannot be corrected (R316). -/
def readOut (words : List Word) (bus : List (Nat × Nat)) (s : State) : Option (List Word) × State :=
  (chunks 5 words.length words).zipIdx.foldl (fun (acc, s) (ws, k) =>
    let mask := (bus.filter fun x => x.1 == k).foldl (fun m x => m ^^^ x.2) 0
    let (r, s) := busRead (ws ++ List.replicate (5 - ws.length) 0#40) mask s
    (match acc, r with | some a, some x => some (a ++ x.take ws.length) | _, _ => none, s)) (some [], s)

/-- A Banker that is not READY lets no consignment leave, and a twin sends none below its start (R337, R338, R343): what
the lane holds of them is discarded without counting. -/
def muteLane (i : Nat) (s : State) : State :=
  let l := laneOf i s
  modLane i (forgetConsigs fun c => twinMutes c s)
    (((laneConsigs l).filter fun c => twinMutes c s).foldl (fun s c => freeConsig c s) s)

/-- Consignments depart in Running and, those already formed, through the fall from it (R204). DEDUCED: log entry 105. -/
def departs (s : State) : Bool := pstate s == 1 || (pstate s == 6 && s.pow.falling)

/-- Consignment `c`, read out as `ws`, is in transmission; on an Ethernet route as one frame behind its preamble (R81). -/
def beginConsig (i : Nat) (c : Consig) (ws : List Word) (s : State) : State :=
  let s := modLane i (fun l => { l with cur := some ({ c with words := ws }, 0) }) s
  if (laneOf i s).rate170 then
    let fr := (ethernetFrame (i - 64) c.route ws s).map (BitVec.ofNat 8)
    modLane i (fun l => { l with frame := fr, eth := { l.eth with left := preamble ++ fr } }) s
  else s

/-- The lane takes the oldest of its consignments that the bus code does not make it discard (R202, R316); `n` bounds
how many it looks at. -/
def takeNext (i : Nat) : Nat → State → State
  | 0, s => s
  | n + 1, s =>
    match nextConsig i s with
    | none => s
    | some c =>
      let (inj, s) := injErrors 32 (busHit c) (popConsig i s)
      let (words, s) := readOut c.words ((0, inj) :: (laneOf i s).bus) (modLane i (fun l => { l with bus := [] }) s)
      match words with
      | none => takeNext i n (dropConsig c s)
      | some ws => beginConsig i c ws s

/-- A lane at a consignment boundary takes its next consignment (R202). -/
def startNext (i : Nat) (s : State) : State :=
  let s := muteLane i s
  if (laneOf i s).cur.isSome || laneState i s != 5 || !tmnEn s || !departs s then s
  else takeNext i ((laneOf i s).beamq.length + (laneOf i s).txq.length) s

/-- The consignment words of one train (R78, R79): `k` cars are left to fill, `n` filled before. The
words, the car of the first header, and the state. -/
def fillCars (i : Nat) : Nat → Nat → List Word → Option Nat → State → List Word × Option Nat × State
  | 0, _, acc, fst, s => (acc, fst, s)
  | fuel + 1, k, acc, fst, s =>
    if k = 0 then (acc, fst, s) else
    let s := muteLane i s
    match (laneOf i s).cur with
    | some (c, sent) =>
      let fst := if sent = 0 ∧ fst = none then some (128 - k) else fst
      let part := (c.words.drop sent).take k
      let acc := acc ++ part
      if c.words.length ≤ sent + part.length then
        let s := countSent i c (modLane i (fun l => { l with cur := none }) s)
        fillCars i fuel (k - part.length) acc fst (startNext i s)
      else (acc, fst, modLane i (fun l => { l with cur := some (c, sent + part.length) }) s)
    | none => (acc, fst, s)

/-! ### Capture pieces (R198, R203) -/

def cblk (r : Nat) (s : State) : Nat := getF (R.TMN_ROUTE r) F.TMN_ROUTE_CBLK s

/-- The blocks of the next piece: up to CBLK of one (fine channel, input) pair. -/
def pieceLen (c : Capture) (s : State) : Nat := Nat.min (cblk c.route s) (c.tn - c.pos % c.tn)

/-- CAPTURE_END (R198): `trunc` closes the stream early. -/
def captureEnd (k : Nat) (trunc : Bool) (s : State) : State :=
  let c := captureOf k s
  let h : Head := { ctype := 6, rake := 0, seq := seqCapture c.number (2 ^ 30 - 1), fch := c.f0,
                    tile := 0, a := 0, b := 0, first := c.wstart, count := 25 * c.tn, firstItem := 0,
                    nitem := 0, flags := 32 + (if trunc then 64 else 0), dump := c.number }
  let w3 := getF (R.SDG_CAP k) F.SDG_CAP_DESC s + k * 256
  let ws := consign h ([capBlocks c, c.sent, c.bad, w3].map (BitVec.ofNat 40)) s
  let dn := (routeLanes c.route s).length
  s |> queueConsig ⟨c.route, false, ws, some c.wstart, c.wstart⟩ (if dn = 0 then 0 else c.pieces % dn)
    |> tmnCond 3
    |> setF (R.SDG_CAP k) F.SDG_CAP_STATE 3

/-- Blocks of a capture as P2 delivers them, with how many were uncorrectable. -/
def captureData (c : Capture) (n : Nat) (s : State) : List Word × Nat :=
  (List.range n).foldl (fun (ws, bad) k =>
    let pl := capPlace c (c.pos + k) s
    (ws ++ p1Block pl s, if uncorrBlock pl s then bad + 1 else bad)) ([], 0)

/-- One CAPTURE piece is read through P2 and formed when the buffer has room and RATE allows (R198, R203); the last one is followed by
CAPTURE_END. Requests to a stack being retrained wait (R137). -/
def capturePieceRead (k : Nat) (s : State) : State :=
  let c := captureOf k s
  let n := pieceLen c s
  let waits := (List.range n).any fun x => stackState ((capPlace c (c.pos + x) s).1 / 32) s != 2
  if capState k s != 2 || pstate s != 1 then s
  else if capBlocks c ≤ c.pos then captureEnd k false s
  else if waits || !bufferRoom (8 + 5 * n) s || !capturePaced c n s then s
  else
    let fi := c.pos / c.tn
    let (ws, bad) := captureData c n s
    let h : Head := { ctype := 5, rake := 0, seq := seqCapture c.number c.pieces,
                      fch := c.f0 + fi / c.inN, tile := 0, a := 0, b := 0,
                      first := c.wstart + 25 * (c.pos % c.tn), count := 25 * n,
                      firstItem := c.i0 + fi % c.inN, nitem := n, flags := 0, dump := c.number }
    let dn := (routeLanes c.route s).length
    let s := (List.range n).foldl (fun s x => countDecode (capPlace c (c.pos + x) s) s) s
    let s := queueConsig ⟨c.route, false, consign h ws s, some c.wstart, h.first⟩ (if dn = 0 then 0 else c.pieces % dn) s
    let c' := { c with pos := c.pos + n, pieces := c.pieces + 1, sent := c.sent + n, bad := c.bad + bad }
    let s := setF (R.SDG_CAP k) F.SDG_CAP_SENT c'.sent (putCapture k c' s)
    if capBlocks c ≤ c'.pos then captureEnd k false s else s

/-- The front as a fine sample index. -/
def frontNow (s : State) : Nat := get2 R.PTS_FRONT F.PTS_FRONT_F_LO F.PTS_FRONT_F_HI s
def frontValid (s : State) : Bool := isSet R.PTS_FRONT F.PTS_FRONT_VALID s

/-- CAPTURE_RELEASE (R147): the front has reached j_rel; an unfinished stream is truncated. -/
def captureRelease (k : Nat) (s : State) : State :=
  let c := captureOf k s
  let st := capState k s
  if st != 0 && frontValid s && decide (c.rel * cfgP s ≤ frontNow s) then
    let s := if st != 3 then captureEnd k true (sdgCond 1 (putCapture k { c with trunc := true } s)) else s
    s |> setF (R.SDG_CAP k) F.SDG_CAP_STATE 0 |> putCapture k {}
  else s

/-! ### Register effects -/

/-- TMN_CTRL.CLRCNT (R204). -/
def tmnCounterClear (s : State) : State :=
  let s := (List.range 16).foldl (fun s r => s
    |> setF (R.TMN_ROUTE r) F.TMN_ROUTE_SENT 0
    |> setF (R.TMN_ROUTE r) F.TMN_ROUTE_DROPPED 0
    |> setF (R.TMN_DEP r) F.TMN_DEP_SENT 0) s
  setF R.TMN_BUF F.TMN_BUF_PEAK 0 s

/-- TMN_CTRL.EN cleared: no lane sends a consignment and nothing formed earlier is retained (R204). -/
def tmnStop (s : State) : State :=
  (List.range 16).foldl (fun s d => departureLoss (64 + d) s) s

/-- TMN_ROUTE.EN cleared: the same for that route alone (R204). -/
def routeStop (r : Nat) (s : State) : State :=
  (List.range 16).foldl (fun s d =>
    let i := 64 + d
    let mine := fun (c : Consig) => c.route == r
    modLane i (forgetConsigs mine)
      (((laneConsigs (laneOf i s)).filter mine).foldl (fun s c => dropConsig c s) s)) s

/-- CONSIGNMENT_BOUNDARY: `bus` are the error patterns in the codewords of the lane's next consignment (R316), which meet
its read-out. -/
def consignmentBoundary (i : Nat) (bus : List (Nat × Nat)) (s : State) : State :=
  startNext i (when (bus != []) (modLane i fun l => { l with bus := l.bus ++ bus }) s)

/-! ### The commands -/

def execConsignmentBoundary (d : Fin 16) (bus : List (Nat × Nat)) (s : State) : Out :=
  .next (consignmentBoundary (64 + d) bus s)
def execCapturePieceRead (c : Fin 4) (s : State) : Out := .next (capturePieceRead c s)
def execCaptureRelease (c : Fin 4) (s : State) : Out := .next (captureRelease c s)

end Sys2Proof.Machine
end

