-- ==== Sys2Proof/Machine/Trig.lean ====
section
/-!
DEFINITION. The rotation tables of R91 and R102 as integers: cos and sin of a rational multiple of a
turn in fixed point, 80 fraction bits, by their Taylor series on the first quarter turn. DEDUCED: the
tables are rounded values of these series; the series' error is below 2^-70, and no entry lies that
near to a tie.
-/
namespace Sys2Proof.Machine

/-- π × 2^80, rounded. -/
def piFix : Nat := 3797952473636338580787994

/-- Sum of the Taylor terms from `term`, with `x2` = x² (80 fraction bits), alternating signs;
`n` counts the factors of the factorial. -/
def taylor (x2 : Nat) : Nat → Nat → Nat → Int
  | 0, _, _ => 0
  | k + 1, n, term => (term : Int) - taylor x2 k (n + 2) (term * x2 / 2 ^ 80 / ((n + 1) * (n + 2)))

/-- cos and sin of 2π num/den for 0 ≤ num/den ≤ 1/4, 80 fraction bits. -/
def cosQ (num den : Nat) : Int := let x := 2 * piFix * num / den; taylor (x * x / 2 ^ 80) 16 0 (2 ^ 80)
def sinQ (num den : Nat) : Int := let x := 2 * piFix * num / den; taylor (x * x / 2 ^ 80) 16 1 x

/-- cos of 2π p/den with `den` a multiple of 4. -/
def cosT (p den : Nat) : Int :=
  let q := p % den
  let h := den / 4
  match q / h with
  | 0 => cosQ q den
  | 1 => - sinQ (q - h) den
  | 2 => - cosQ (q - 2 * h) den
  | _ => sinQ (q - 3 * h) den

def sinT (p den : Nat) : Int := cosT (p + 3 * (den / 4)) den

def roundFix (x : Int) : Int := (x + 2 ^ 79) / 2 ^ 80

/-- TWc, TWs (R91). -/
def twc (q : Nat) : Int := roundFix (2 ^ 16 * cosT q 128)
def tws (q : Nat) : Int := roundFix (2 ^ 16 * sinT q 128)

/-- ROTC, ROTS (R102): ±32,768 replaced by ±32,767. -/
def rotc (p : Nat) : Int := clampI (-32767) 32767 (roundFix (2 ^ 15 * cosT p 4096))
def rots (p : Nat) : Int := clampI (-32767) 32767 (roundFix (2 ^ 15 * sinT p 4096))

end Sys2Proof.Machine
end

