-- ==== Sys2Proof/Machine/Turntable.lean ====
section
/-!
DEFINITION. Turntable (08): beam samples from the delay line (R210-R213), power integrations (R214),
bank swaps (R215, R216), frames and BEAM consignments (R217-R222).
-/
namespace Sys2Proof.Machine

/-! ### Beams (Table 8.1) -/

def beamMode (b : Nat) (s : State) : Nat := getF (R.TBL_BEAM b) F.TBL_BEAM_MODE s
def beamSel (b : Nat) (s : State) : Nat := getF (R.TBL_BEAM b) F.TBL_BEAM_SEL s
def beamM (b : Nat) (s : State) : Nat := getF (R.TBL_BEAM b) F.TBL_BEAM_M s
def beamNfr (b : Nat) (s : State) : Nat := getF (R.TBL_BEAM b) F.TBL_BEAM_NFR s

/-- The modes of a pair. -/
def stokes (b : Nat) (s : State) : Bool := beamMode b s == 3 || beamMode b s == 4

/-- The pair 2k, 2k + 1 of beam `b` breaks R209: a STOKES mode on its odd beam, or on its even one without a PARTNER. -/
def pairBroken (b : Nat) (s : State) : Bool :=
  let e := b / 2 * 2
  stokes (e + 1) s || (stokes e s && beamMode (e + 1) s != 5)

/-- The mode in force: both beams of a broken pair are OFF (Table 8.5). -/
def modeOf (b : Nat) (s : State) : Nat := if pairBroken b s then 0 else beamMode b s

def emits (b : Nat) (s : State) : Bool := 1 ≤ modeOf b s && modeOf b s ≤ 4

def emittingBeams (s : State) : List Nat := (List.range 128).filter fun b => emits b s

/-- FLEN (R217). -/
def flen (b : Nat) (s : State) : Nat :=
  if modeOf b s = 1 then beamNfr b s else beamM b s * beamNfr b s

/-- The offset o of a beam's frames in fine channel f (R217). -/
def frameOfs (b f : Nat) (s : State) : Nat := (b * cfgNch s + f) % 256 * flen b s / 256

/-- Payload words of a BEAM consignment (Table 8.3). -/
def beamPayloadLen (b : Nat) (s : State) : Nat :=
  match modeOf b s with
  | 1 => 2 * beamNfr b s / 5
  | 4 => 5 * beamNfr b s
  | _ => 2 * beamNfr b s

/-! ### Weights (R211) -/

/-- 2 NUC[c] + (2k - P + 1) (4096 / P) (R102). -/
def nukOf (f : Nat) (s : State) : Int :=
  let p := cfgP s
  2 * sx 24 (getF (R.PTS_CHAN (f / p)) F.PTS_CHAN_NUC s) + (2 * ((f % p : Nat) : Int) - p + 1) * (4096 / p : Nat)

def tblGain (i f : Nat) (s : State) : Nat :=
  let n := i * cfgNch s + f
  bitsOf (rd (0x3300000 + 0x80000 * getF R.TBL_CTRL F.TBL_CTRL_GBANK s + n / 2) s) (16 * (n % 2)) 16

def tblDelay (b i : Nat) (s : State) : Int :=
  sx 24 (bitsOf (rd (0x3400000 + 0x100000 * getF R.TBL_CTRL F.TBL_CTRL_DBANK s + 8192 * b + i) s) 0 24)

/-- The weight of input `i` in beam `b`, fine channel `f`; none when the gain excludes it. -/
def weight (b i f : Nat) (s : State) : Option (Int × Int) :=
  let g := tblGain i f s
  let gr := sx 8 (g / 256)
  let gi := sx 8 g
  if gr = -128 ∨ gi = -128 then none
  else
    let p := fieldOf 12 ((tblDelay b i s * nukOf f s + 2 ^ 14) / 2 ^ 15)
    some (clampI (-127) 127 (rne (gr * rotc p - gi * rots p) (2 ^ 15)),
          clampI (-127) 127 (rne (gr * rots p + gi * rotc p) (2 ^ 15)))

/-! ### The delay line (R210, R212) -/

def bdepth (s : State) : Nat := getF R.TBL_CFG F.TBL_CFG_BDEPTH s
def boff (s : State) : Nat := getF R.TBL_CFG F.TBL_CFG_BOFF s

/-- The Points hand a fine sample to the delay line. -/
def lineSample (f i j : Nat) (b : Byte) (s : State) : State :=
  { s with tbl := { s.tbl with line := s.tbl.line.set (fun _ => invalidSample) (asmKey f i j) b } }

/-- The delay-line tap of an input for beam sample `j`, when a history entry covers it. -/
def tapOf (i j : Nat) (s : State) : Option (Nat × Bool) :=
  (ohEntry (segOf j s) s).map fun e => (getF (ofsKey e i) ofsD s, isSet (ofsKey e i) ofsNoModel s)

/-- The tap lies in the line. -/
def tapOk (d : Nat) (s : State) : Bool := boff s ≤ d && d - boff s < bdepth s

def selects (sel i : Nat) : Bool := sel == 0 || (sel == 1 && i % 2 == 0) || (sel == 2 && i % 2 == 1)

/-- What input `i` adds to beam `b` at (f, j) (R212). -/
def contribution (b f j i : Nat) (s : State) : Option (Int × Int) :=
  match tapOf i j s with
  | none => none
  | some (d, nomodel) =>
    if !selects (beamSel b s) i || nomodel || !tapOk d s || decide (j < originOf j s + d) then none
    else
      let x := s.tbl.line.get (fun _ => invalidSample) (asmKey f i (j - d))
      if !isValid x then none
      else (weight b i f s).map fun w =>
        (w.1 * reOf x - w.2 * imOf x, w.1 * imOf x + w.2 * reOf x)

/-- y of a beam sample, or none when no input entered (R212). -/
def beamSum (b f j : Nat) (s : State) : Option (Int × Int) :=
  (List.range (cfgN s)).foldl (fun acc i =>
    match contribution b f j i s with
    | none => acc
    | some (x, y) => match acc with
      | none => some (x, y)
      | some (u, v) => some (u + x, v + y)) none

/-! ### Frames (R213, R214, R217) -/

def frameOf (b f : Nat) (s : State) : Frame := s.tbl.frames.get (fun _ => {}) (b * 4096 + f)

def putFrame (b f : Nat) (x : Frame) (s : State) : State :=
  { s with tbl := { s.tbl with frames := s.tbl.frames.set (fun _ => {}) (b * 4096 + f) x } }

/-- Number of sums of an integration. -/
def sumCount (mode : Nat) : Nat := if mode = 4 then 4 else 1

/-- Saturation of an output of an integration (R214): I and POWER unsigned, Q, U, V signed. -/
def satSum (k : Nat) (x : Int) : Int :=
  if k = 0 then clampI 0 (2 ^ 32 - 1) x else clampI (-(2 ^ 31 - 1)) (2 ^ 31 - 1) x

/-- The open integration is closed into payload words (R214). -/
def closeInt (b : Nat) (x : Frame) (s : State) : Frame :=
  let osh := getF (R.TBL_BEAM b) F.TBL_BEAM_OSHIFT s
  let raw := x.sums.map fun v => rne v (2 ^ osh)
  let out := raw.zipIdx.map fun (v, k) => satSum k v
  { x with items := x.items ++ out.map (fieldOf 32) ++ [x.cnt], sums := [], cnt := 0, ints := x.ints + 1,
           bsat := x.bsat || out != raw, binval := x.binval || decide (x.cnt < beamM b s) }

def zeroSums (b : Nat) (s : State) : List Int := List.replicate (sumCount (modeOf b s)) 0

/-- A frame opened at sample `j`: what precedes `j` in it was not formed (R218). -/
def openFrame (b f j : Nat) (s : State) : Frame :=
  let fl : Int := flen b s
  let e := ((j : Int) - frameOfs b f s) / fl
  let skip := (((j : Int) - frameOfs b f s) % fl).toNat
  let base : Frame := { e := e, open_ := true, n := skip, binval := skip != 0 }
  if modeOf b s = 1 then { base with items := List.replicate skip 0x8080 }
  else
    let x := (List.range (skip / beamM b s)).foldl (fun x _ => closeInt b { x with sums := zeroSums b s } s) base
    { x with sums := zeroSums b s }

/-- The frame is full, or its open integration is. -/
def frameFull (b : Nat) (x : Frame) (s : State) : Bool := x.open_ && x.n == flen b s
def intFull (b : Nat) (x : Frame) (s : State) : Bool :=
  x.open_ && modeOf b s != 1 && x.n == (x.ints + 1) * beamM b s

/-- VOLT (R213). -/
def voltSample (b : Nat) (y : Option (Int × Int)) (x : Frame) (s : State) : Frame :=
  match y with
  | none => { x with items := x.items ++ [0x8080], n := x.n + 1, binval := true }
  | some (u, v) =>
    let sh := 2 ^ getF (R.TBL_BEAM b) F.TBL_BEAM_VSHIFT s
    let c := fun z => clampI (-127) 127 (rne z sh)
    { x with items := x.items ++ [fieldOf 8 (c u) * 256 + fieldOf 8 (c v)], n := x.n + 1,
             total := x.total + 1, bsat := x.bsat || c u != rne u sh || c v != rne v sh }

/-- ys of R214, with whether a component clipped. -/
def powerVolt (b : Nat) (y : Int × Int) (s : State) : (Int × Int) × Bool :=
  let sh := 2 ^ getF (R.TBL_BEAM b) F.TBL_BEAM_PSHIFT s
  let c := fun z => clampI (-32767) 32767 (rne z sh)
  ((c y.1, c y.2), c y.1 != rne y.1 sh || c y.2 != rne y.2 sh)

def sq (y : Int × Int) : Int := y.1 * y.1 + y.2 * y.2

/-- A power-mode sample (R214): `y` of the beam, `y2` of its partner. -/
def powerSample (b : Nat) (y y2 : Option (Int × Int)) (x : Frame) (s : State) : Frame :=
  let add := fun (vs : List Int) (clip : Bool) =>
    { x with sums := List.zipWith (· + ·) x.sums vs, cnt := x.cnt + 1, total := x.total + 1, n := x.n + 1,
             bsat := x.bsat || clip }
  let miss := { x with n := x.n + 1, binval := true }
  match modeOf b s, y, y2 with
  | 2, some u, _ => let p := powerVolt b u s; add [sq p.1] p.2
  | 3, some u, some v =>
    let p := powerVolt b u s; let q := powerVolt (b + 1) v s
    add [sq p.1 + sq q.1] (p.2 || q.2)
  | 4, some u, some v =>
    let p := powerVolt b u s; let q := powerVolt (b + 1) v s
    add [sq p.1 + sq q.1, sq p.1 - sq q.1, 2 * (p.1.1 * q.1.1 + p.1.2 * q.1.2),
         2 * (p.1.1 * q.1.2 - p.1.2 * q.1.1)] (p.2 || q.2)
  | 2, none, _ => miss
  | _, u, v =>
    -- STOKES with one voltage valid: it is reduced, and its clip counts
    let clips := fun (b : Nat) (z : Option (Int × Int)) => z.any fun z => (powerVolt b z s).2
    { miss with bsat := x.bsat || clips b u || clips (b + 1) v }

/-- A TBL_STATUS condition with its event (Table 8.5): bit b, event 10:(32 + b). -/
def tblCond (b : Nat) (s : State) : State := flagEvt R.TBL_STATUS ⟨0, 0, 5⟩ b (ev 10 (32 + b)) s

/-- BCFG: a pair breaks R209 at configuration (Table 8.5). -/
def beamConfigCheck (s : State) : State :=
  when ((List.range 64).any fun k => pairBroken (2 * k) s) (tblCond 4) s

/-- Committed swaps that take effect at beam sample `j` (R215). -/
def tblSwapsAt (j : Nat) (s : State) : State :=
  let g := s.tbl.gswap
  let d := s.tbl.dswap
  { s with tbl := { s.tbl with gswap := g.done j, dswap := d.done j } }
    |> when (g.takes j != 0) (fun s => s
        |> setF R.TBL_CTRL F.TBL_CTRL_GBANK ((getF R.TBL_CTRL F.TBL_CTRL_GBANK s + g.takes j) % 2)
        |> setF R.TBL_BANKS F.TBL_BANKS_GRDY 0)
    |> when (d.takes j != 0) (fun s => { s with tbl := { s.tbl with tagNew := false, chkNew := false, bytes := [] } }
        |> setF R.TBL_CTRL F.TBL_CTRL_DBANK ((getF R.TBL_CTRL F.TBL_CTRL_DBANK s + d.takes j) % 2)
        |> setF R.TBL_DTAG F.TBL_DTAG_READY 0
        |> setF R.TBL_DSIG F.TBL_DSIG_SIG (crc32 []))

/-- An injected residue fault of a beam (R315, Table 12.7). -/
def tblHit (b : Nat) (x : Inj) : Bool := x.code == 0x50 && x.unit == b

/-- The frame the sample falls into: the open one, or a new one, whose space is taken (R222). -/
def frameFor (b f j : Nat) (s : State) : State :=
  if (frameOf b f s).open_ then s
  else showStore (putFrame b f (openFrame b f j s)
    { s with tbl := { s.tbl with held := s.tbl.held + 8 + beamPayloadLen b s } })

/-- A frame after a change that may clip or saturate: BSAT is raised for each (R224), and the frame keeps it. -/
def putClipped (b f : Nat) (g : Frame → Frame) (s : State) : State :=
  let x := frameOf b f s
  let y := g { x with bsat := false }
  when y.bsat (tblCond 3) (putFrame b f { y with bsat := x.bsat || y.bsat } s)

/-- Beam sample `j` of (beam, fine channel): `bad` beams are invalid (R315). -/
def formOne (j : Nat) (bad : List Nat) (eclip : Bool) (s : State) (bf : Nat × Nat) : State :=
  let (b, f) := bf
  let s := frameFor b f j s
  let y := if bad.contains b then none else beamSum b f j s
  let y2 := if bad.contains (b + 1) then none else beamSum (b + 1) f j s
  putClipped b f (fun x =>
    let x := if modeOf b s = 1 then voltSample b y x s else powerSample b y y2 x s
    { x with eclip := x.eclip || eclip }) s

/-- Every (beam, fine channel) that forms frames. -/
def beamCells (s : State) : List (Nat × Nat) :=
  (emittingBeams s).flatMap fun b => (List.range (cfgNch s)).map fun f => (b, f)

/-- Some frame or integration has ended and waits for its own step. -/
def beamWaits (s : State) : Bool :=
  (beamCells s).any fun (b, f) => frameFull b (frameOf b f s) s || intFull b (frameOf b f s) s

/-- A frame in assembly at a data-plane reset is completed with its remaining samples invalid (R218). -/
def completeFrame (b : Nat) (x : Frame) (s : State) : Frame :=
  if modeOf b s = 1 then
    { x with items := x.items ++ List.replicate (flen b s - x.n) 0x8080, n := flen b s,
             binval := x.binval || decide (x.n < flen b s) }
  else
    let left := beamNfr b s - x.ints
    let y := (List.range left).foldl (fun y _ => { closeInt b y s with sums := zeroSums b s }) x
    { y with n := flen b s }

/-- The Turntable at a data-plane reset: frames are completed, and beam samples start again where the
line first holds a sample of the new origin. -/
def tblReset (jp : Nat) (s : State) : State :=
  let s := (beamCells s).foldl (fun s (b, f) =>
    if (frameOf b f s).open_ then putClipped b f (fun x => completeFrame b x s) s else s) s
  { s with tbl := { s.tbl with next := jp + boff s, resetAt := none,
                               line := s.tbl.line.keep fun k => decide (jp ≤ k % 2 ^ 48) } }

/-- A keyed reset whose beam sample has come (R238). -/
def tblResetDue (s : State) : Option Nat :=
  match s.tbl.resetAt with
  | some r => if r ≤ s.tbl.next then some r else none
  | none => none

/-- What decides beam sample `j` is known: the Points have written sample j - BOFF, the offsets of its segment are
recorded unless the segment began before the history (R210), and every swap keyed to it or below has become due (R215;
the waits for the last two are the model's, log 84). -/
def beamReady (j : Nat) (s : State) : Bool :=
  decide (j < s.pts.nextJ + boff s)
    && ((ohEntry (segOf j s) s).isSome || decide (segOf j s * segLen s < cfgP s * s.pts.nextJ))
    && decide (cfgP s * j / 40 * 40 ≤ frontNow s)

/-- BEAM_SAMPLE_FORM (R212): `bad` beams met a residue mismatch. -/
def beamSampleForm (bad : List Nat) (s : State) : State :=
  let j := s.tbl.next
  if beamWaits s then s
  else if let some r := tblResetDue s then tblReset r s
  else if !beamReady j s then s
  else
    let s := tblSwapsAt j s
    let on := isSet R.TBL_CTRL F.TBL_CTRL_EN s
    let s := if on then
        let works := fun b => decide (1 ≤ modeOf b s)
        let inj := (List.range 128).filter fun b => works b && (findInj (tblHit b) s).isSome
        let bad := (bad ++ inj).filter works
        let s := inj.foldl (fun s b => useInj (tblHit b) s) s
        let s := bad.foldl (fun s _ => insEvent 8 s) s
        let eclip := (List.range (cfgN s)).any fun i =>
          match tapOf i j s with | some (d, _) => !tapOk d s | none => false
        let s := when (eclip && !(emittingBeams s).isEmpty) (tblCond 2) s
        (beamCells s).foldl (formOne j bad eclip) s
      else s
    let low := j + 1 - (boff s + bdepth s)
    { s with tbl := { s.tbl with next := j + 1, line := s.tbl.line.keep fun k => decide (low ≤ k % 2 ^ 48) } }

/-- INTEGRATION_END (R214). -/
def integrationEnd (b f : Nat) (s : State) : State :=
  if intFull b (frameOf b f s) s then putClipped b f (fun x => { closeInt b x s with sums := zeroSums b s }) s else s

/-- The payload words of a VOLT frame: groups of five samples (R221). -/
def voltWords (items : List Nat) : List Word :=
  (chunks 5 items.length items).flatMap fun g =>
    (digits 40 2 (g.foldl (fun a v => a * 65536 + v) 0)).map (BitVec.ofNat 40)

/-- The words of a completed frame (R219-R221). -/
def beamConsignment (b f : Nat) (x : Frame) (s : State) : List Word :=
  let em := fieldOf 32 x.e
  let bflags := (if x.bsat then 1 else 0) + (if x.binval then 2 else 0) + (if x.eclip then 4 else 0)
  let h : Head := { ctype := 4, rake := 0, seq := seqBeam (fieldOf 27 x.e) b f, fch := f, tile := bflags,
                    a := modeOf b s, b := beamSel b s,
                    first := fieldOf 48 (x.e * flen b s + frameOfs b f s), count := x.total,
                    firstItem := b, nitem := beamNfr b s, flags := 32, dump := em }
  consign h (if modeOf b s = 1 then voltWords x.items else x.items.map (BitVec.ofNat 40)) s

/-- The frame leaves the assembly. -/
def dropFrame (b f : Nat) (s : State) : State :=
  showStore (putFrame b f {} { s with tbl := { s.tbl with held := s.tbl.held - (8 + beamPayloadLen b s) } })

/-- BEAM_FRAME_EMIT (R218, R222). -/
def beamFrameEmit (b f : Nat) (s : State) : State :=
  let x := frameOf b f s
  if !frameFull b x s || intFull b x s then s
  else
    let ws := beamConsignment b f x s
    let room := (s.beamHeld + s.tbl.held) * 40 ≤ 64000000
    let r := getF R.TBL_CFG F.TBL_CFG_ROUTE s
    let n := (routeLanes r s).length
    let u := if n = 0 then 0 else seqBeam (fieldOf 27 x.e) b f % n
    let s := dropFrame b f s
    let first := (x.e * flen b s + frameOfs b f s).toNat
    if room then queueConsig ⟨r, true, ws, none, first⟩ u s
    else s |> satF R.TBL_STORE F.TBL_STORE_BDROP 1 |> tmnCond 2

/-- Every frame in assembly is completed with its remaining samples invalid and emitted, under the plan still in force:
what a change of the plan does before the beams take their new form (R218; DEDUCED, log entry 116). -/
def flushFrames (s : State) : State :=
  (beamCells s).foldl (fun s (b, f) =>
    if (frameOf b f s).open_ then beamFrameEmit b f (putClipped b f (fun x => completeFrame b x s) s) else s) s

/-- EN cleared: no beam is formed and nothing is queued (R218). -/
def tblStop (s : State) : State := showStore { s with tbl := { s.tbl with frames := [], held := 0 } }

/-- CLRCNT of TBL_CTRL. -/
def tblCounterClear (s : State) : State :=
  s |> setF R.TBL_STORE F.TBL_STORE_BDROP 0
    |> setF R.TBL_STORE F.TBL_STORE_PEAK 0
    |> setF R.TBL_BANKS F.TBL_BANKS_GMISS 0
    |> setF R.TBL_BANKS F.TBL_BANKS_DMISS 0

/-! ### Swaps that become due (R215) and the delay bank's ready check (R216) -/

/-- A gain swap due at key: committed, dropped or a duplicate. -/
def tblGswapDue (key : Nat) (s : State) : State :=
  let j := cdiv key (cfgP s)
  if s.tbl.gswap.last = some j then tblCond 0 s
  else if isSet R.TBL_BANKS F.TBL_BANKS_GRDY s then
    { s with tbl := { s.tbl with gswap := s.tbl.gswap.commit j } }
  else { s with tbl := { s.tbl with gswap := { s.tbl.gswap with last := some j } } }
    |> incF R.TBL_BANKS F.TBL_BANKS_GMISS 1 |> tblCond 0

def tblDswapDue (key : Nat) (s : State) : State :=
  let j := cdiv key (cfgP s)
  if s.tbl.dswap.last = some j then tblCond 0 s
  else if isSet R.TBL_DTAG F.TBL_DTAG_READY s then
    { s with tbl := { s.tbl with dswap := s.tbl.dswap.commit j } }
  else { s with tbl := { s.tbl with dswap := { s.tbl.dswap with last := some j } } }
    |> incF R.TBL_BANKS F.TBL_BANKS_DMISS 1 |> tblCond 0

/-- The comparison made at each write of TAG or TBL_DCHK once both have been written; a committed swap's mark stands. -/
def tblReadyCheck (s : State) : State :=
  if s.tbl.tagNew && s.tbl.chkNew then
    if getF R.TBL_DCHK F.TBL_DCHK_CHK s = getF R.TBL_DSIG F.TBL_DSIG_SIG s then
      setF R.TBL_DTAG F.TBL_DTAG_READY 1 s
    else tblCond 1 (when s.tbl.dswap.at_.isEmpty (setF R.TBL_DTAG F.TBL_DTAG_READY 0) s)
  else s

/-- One word written to the inactive delay bank enters the signature. -/
def tblSigWord (w : Word) (s : State) : State :=
  let bs := s.tbl.bytes ++ wordBytes w
  { s with tbl := { s.tbl with bytes := bs } } |> setF R.TBL_DSIG F.TBL_DSIG_SIG (crc32 bs)

/-! ### The commands -/

def execBeamSampleForm (bad : List (Fin 128)) (s : State) : Out := .next (beamSampleForm (bad.map (·.val)) s)
def execIntegrationEnd (b : Fin 128) (f : Fin 4096) (s : State) : Out := .next (integrationEnd b f s)
def execBeamFrameEmit (b : Fin 128) (f : Fin 4096) (s : State) : Out := .next (beamFrameEmit b f s)

end Sys2Proof.Machine
end

