-- ==== Sys2Proof/Machine/Points.lean ====
section
/-!
DEFINITION. Points (04): the polyphase filter (R91, R92), invalid decisions (R94, R95), phase
rotation (R102), equalisation (R103), bank swaps (R106, R107), phase segments (R98-R101), delay sets
(R97), and the filtering of a release block (R85).
-/
namespace Sys2Proof.Machine

/-- ENGINE_ERR of an engine (R315). -/
def engineErr (e : Nat) (s : State) : State :=
  flagEvt R.PTS_STATUS F.PTS_STATUS_ENGINE_ERR e (ev 3 e) s

/-! ### Tables (Table 4.9) -/

def coefAt (m : Nat) (s : State) : Int :=
  sx 18 (bitsOf (rd (0x3001000 + 0x200 * getF R.PTS_CTRL F.PTS_CTRL_CBANK s + m) s) 0 18)

def gainBase (bank : Nat) : Nat := 0x10000000 + bank * 0x80000

def gainAt (i f : Nat) (s : State) : Nat :=
  let n := i * cfgNch s + f
  bitsOf (rd (gainBase (getF R.PTS_CTRL F.PTS_CTRL_GBANK s) + n / 2) s) (16 * (n % 2)) 16

/-- Word `k` of the active phase segment entry of input `i` (Table 4.3). -/
def segWord (i k : Nat) (s : State) : Word :=
  rd (0x3010000 + 0x8000 * getF R.PTS_CTRL F.PTS_CTRL_PBANK s + 4 * i + k) s

def segTau (i : Nat) (s : State) : Int := sx 40 (segWord i 0 s).toNat
def segRate (i : Nat) (s : State) : Int := sx 40 (segWord i 1 s).toNat
def segPsi (i : Nat) (s : State) : Int := bitsOf (segWord i 2 s) 8 32
def segPsir (i : Nat) (s : State) : Int := sx 40 (segWord i 3 s).toNat
def segNoModel (i : Nat) (s : State) : Bool := bitsOf (segWord i 2 s) 0 1 == 1

/-- d_i of the active entry lies in 0 .. 2,047 (R99). -/
def delayInRange (i : Nat) (s : State) : Bool :=
  let d := intDelay (segTau i s) s
  decide (0 ≤ d ∧ d ≤ 2047)

/-! ### Coarse samples before filtering (R94, R112) -/

def excised (p n : Nat) (s : State) : Bool :=
  s.pts.exc.any fun (q, a, b) => q == p && a ≤ n && n ≤ b

/-- The sample as the filter takes it: zero and invalid, or its value. -/
def filterSample (i c n : Nat) (s : State) : Option (Int × Int) :=
  let b := coarseAt (pairOf i c) n s
  if n < s.pts.base || !isValid b || excised (pairOf i c) n s then none else some (reOf b, imOf b)

def windowOf (i c j : Nat) (s : State) : List (Option (Int × Int)) :=
  (List.range (8 * cfgP s)).map fun m => filterSample i c (cfgP s * j + m) s

def invalidCount (w : List (Option (Int × Int))) : Nat := (w.filter (·.isNone)).length

/-! ### The filter (R91, R92) -/

/-- v of fine channel `k` (R91). -/
def filterSum (k : Nat) (w : List (Option (Int × Int))) (s : State) : Int × Int :=
  let p := cfgP s
  w.zipIdx.foldl (fun acc (x, m) =>
    match x with
    | none => acc
    | some (xr, xi) =>
      let q := (((m : Int) * (2 * k - p + 1) * ((64 / p : Nat) : Int)) % 128).toNat
      let h := coefAt m s
      let c := twc q
      let t := tws q
      (acc.1 + h * (xr * c + xi * t), acc.2 + h * (xi * c - xr * t))) (0, 0)

def y8Of (v : Int) : Int := clampI (-(2 ^ 23 - 1)) (2 ^ 23 - 1) (rne v (2 ^ 25))

/-! ### Rotation and requantisation (R102, R103) -/

/-- p_code of input `i`, fine channel `f`, sample `j` (R102). -/
def phaseCode (i f j : Nat) (s : State) : Nat :=
  let p : Int := cfgP s
  let ns : Int := segOf j s * segLen s
  let dh : Int := 2 * p * j + 8 * p - 1 - 2 * ns
  let tau := segTau i s + segRate i s * dh / 2 ^ 33
  let phi := (tau * nukOf f s * 8 + segPsi i s + segPsir i s * dh / 2 ^ 15) % 2 ^ 32
  (((phi + 2 ^ 19) / 2 ^ 20) % 4096).toNat

/-- The output components before the clip (R103). -/
def outComponents (i f j : Nat) (y : Int × Int) (s : State) : Int × Int :=
  let p := phaseCode i f j s
  let g : Int := gainAt i f s
  let zr := y.1 * rotc p - y.2 * rots p
  let zi := y.1 * rots p + y.2 * rotc p
  (rne (zr * g) (2 ^ 35), rne (zi * g) (2 ^ 35))

/-- A valid sample's byte, clipped to ±7. -/
def packSample (z : Int × Int) : Byte :=
  BitVec.ofNat 8 (fieldOf 4 (clampI (-7) 7 z.1) * 16 + fieldOf 4 (clampI (-7) 7 z.2))

/-- Components that the requantiser clips. -/
def clipCount (z : Int × Int) : Nat :=
  (if clampI (-7) 7 z.1 != z.1 then 1 else 0) + (if clampI (-7) 7 z.2 != z.2 then 1 else 0)

/-- The input has a usable model for the present segment (R95, R99, R101). -/
def modelUsable (i : Nat) (s : State) : Bool :=
  !s.pts.allNoModel && !segNoModel i s && delayInRange i s

/-- One fine sample: its byte and its clipped components; none = invalid (R95). -/
def fineSample (i f j : Nat) (w : List (Option (Int × Int))) (badVisit : Bool) (s : State) :
    Option (Byte × Nat) :=
  if !isSet R.PTS_CTRL F.PTS_CTRL_EN s || badVisit || !modelUsable i s || gainAt i f s == 0
      || decide (getF R.PTS_CFG F.PTS_CFG_INV_LIM s ≤ invalidCount w) then none
  else
    let v := filterSum (f % cfgP s) w s
    let z := outComponents i f j (y8Of v.1, y8Of v.2) s
    some (packSample z, clipCount z)

/-! ### Counts (R96) -/

def icnt (i k : Nat) : Nat := 0x3020000 + 4 * i + k

/-- Excised samples of a block: valid before excision and covered by a span (R96). -/
def countExcised (b0 : Nat) (s : State) (ic : Nat × Nat) : State :=
  let p := pairOf ic.1 ic.2
  let n := ((List.range 40).filter fun k =>
    decide (s.pts.base ≤ b0 + k) && isValid (coarseAt p (b0 + k) s) && excised p (b0 + k) s).length
  if n = 0 then s else satF (icnt ic.1 0) wordField n s

/-! ### Snapshots of the counts (R240) -/

def snapIc (i k : Nat) : Nat := 0x1008000 + 4 * i + k

def copyIcnt (k : Nat) (s : State) : State :=
  (List.range (cfgN s)).foldl (fun s i => wr (snapIc i k) (rd (icnt i k) s) s) s

/-- The excised counts are copied when the filter reaches the snapshot's block. -/
def snapBlock (b0 : Nat) (s : State) : State :=
  match s.ttb.snapB with
  | some n => if n ≤ b0 then { copyIcnt 0 s with ttb := { s.ttb with snapB := none } } else s
  | none => s

/-- The fine-sample counts are copied when the Points reach the snapshot's fine sample. -/
def snapFine (j : Nat) (s : State) : State :=
  match s.ttb.snapJ with
  | some n => if n ≤ j then { copyIcnt 2 (copyIcnt 1 s) with ttb := { s.ttb with snapJ := none } } else s
  | none => s

/-! ### Swaps (R106, R107) -/

/-- Committed swaps that take effect at fine sample `j`. -/
def ptsSwapsAt (j : Nat) (s : State) : State :=
  let c := s.pts.cswap
  let g := s.pts.gswap
  { s with pts := { s.pts with cswap := c.done j, gswap := g.done j } }
    |> when (c.takes j != 0) (fun s => s
        |> setF R.PTS_CTRL F.PTS_CTRL_CBANK ((getF R.PTS_CTRL F.PTS_CTRL_CBANK s + c.takes j) % 2)
        |> setF R.PTS_BANKS F.PTS_BANKS_CRDY 0)
    |> when (g.takes j != 0) (fun s => s
        |> setF R.PTS_CTRL F.PTS_CTRL_GBANK ((getF R.PTS_CTRL F.PTS_CTRL_GBANK s + g.takes j) % 2)
        |> setF R.PTS_BANKS F.PTS_BANKS_GRDY 0)

/-- A coefficient swap that becomes due. -/
def ptsCswapDue (key : Nat) (s : State) : State :=
  let j := cdiv key (cfgP s)
  if s.pts.cswap.last = some j then ptsCond 6 s
  else if isSet R.PTS_BANKS F.PTS_BANKS_CRDY s then { s with pts := { s.pts with cswap := s.pts.cswap.commit j } }
  else { s with pts := { s.pts with cswap := { s.pts.cswap with last := some j } } }
    |> incF R.PTS_BANKS F.PTS_BANKS_CMISS 1 |> ptsCond 0

/-- A gain swap that becomes due; in HOLD mode it is dropped (Table 4.4). -/
def ptsGswapDue (key : Nat) (s : State) : State :=
  let j := cdiv key (cfgP s)
  if s.pts.gswap.last = some j then ptsCond 6 s
  else if isSet R.PTS_BANKS F.PTS_BANKS_GRDY s && getF R.PTS_GCTL F.PTS_GCTL_MODE s != 0 then
    { s with pts := { s.pts with gswap := s.pts.gswap.commit j } }
  else { s with pts := { s.pts with gswap := { s.pts.gswap with last := some j } } }
    |> incF R.PTS_BANKS F.PTS_BANKS_GMISS 1 |> ptsCond 0

/-- The comparison made at each write of TAG or PTS_PSEG_CHK (R100). -/
def psegReadyCheck (s : State) : State :=
  if s.pts.tagNew && s.pts.chkNew then
    if getF R.PTS_PSEG_CHK F.PTS_PSEG_CHK_CHK s = getF R.PTS_PSEG_SIG F.PTS_PSEG_SIG_SIG s then
      setF R.PTS_PSEG F.PTS_PSEG_READY 1 s
    else ptsCond 3 (setF R.PTS_PSEG F.PTS_PSEG_READY 0 s)
  else s

/-- One word written to the inactive phase segment bank enters the signature (R100). -/
def psegSigWord (w : Word) (s : State) : State :=
  let bs := s.pts.segBytes ++ wordBytes w
  { s with pts := { s.pts with segBytes := bs } } |> setF R.PTS_PSEG_SIG F.PTS_PSEG_SIG_SIG (crc32 bs)

/-- The delays of a new segment for the offset history (R124): d clipped and NOMODEL per input. -/
def newOffsets (late : Bool) (seg : Nat) (s : State) : List (Nat × Bool) :=
  (List.range (cfgN s)).map fun i =>
    if late then (lastDelay (seg - 1) i s, true)
    else ((clampI 0 2047 (intDelay (segTau i s) s)).toNat, segNoModel i s || !delayInRange i s)

/-- The phase-segment boundary at fine sample `j` (R98, R99, R101, R124). The hardware's share of R99 is the model's
choice: at n_s it raises MODEL_MISSING for an entry with NOMODEL whose delay is in range, DELAY_RANGE for a delay out of
range (DESIGN CHOICE, log 82); a late segment raises SEG_LATE alone, though all its inputs count as NOMODEL (DESIGN CHOICE, log 83). -/
def segmentSwap (j : Nat) (s : State) : State :=
  if cfgP s * j % segLen s != 0 then s else
  let seg := segOf j s
  let late := !(isSet R.PTS_PSEG F.PTS_PSEG_READY s && getF R.PTS_PSEG F.PTS_PSEG_TAG s == seg % 2 ^ 16)
  let s := s
    |> setF R.PTS_CTRL F.PTS_CTRL_PBANK (1 - getF R.PTS_CTRL F.PTS_CTRL_PBANK s)
    |> setF R.PTS_PSEG F.PTS_PSEG_READY 0
    |> setF R.PTS_PSEG_SIG F.PTS_PSEG_SIG_SIG (crc32 [])
  let s := { s with pts := { s.pts with tagNew := false, chkNew := false, segBytes := [], allNoModel := late } }
  let ins := List.range (cfgN s)
  s |> when late (ptsCond 2)
    |> when (!late && ins.any fun i => segNoModel i s && delayInRange i s) (ptsCond 1)
    |> when (!late && ins.any fun i => !delayInRange i s) (ptsCond 4)
    |> recordOffsets seg (newOffsets late seg s)

/-! ### POINTS_BLOCK_FILTER (R85) -/

/-- The visit of an input: engine, rotation slot (R86). -/
def engineOf (i : Nat) : Nat := i / 2 / 16 % 16
def slotOf (i : Nat) : Nat := i / 2 / 256

/-- The error pattern that the on-die bus adds to the codeword of (f, i) in this step (R316). -/
def busErrs (bus : List (Nat × Nat)) (f i : Nat) : Nat :=
  match bus.find? (fun x => x.1 == f * 8192 + i) with | some x => x.2 | none => 0

def busInj (x : Inj) : Bool := x.code == 0x60 && decide (x.unit ≤ 1)

/-- One fine sample is formed and goes to the assembly buffer and the Turntable (R11, R88). -/
def formFine (i f j : Nat) (w : List (Option (Int × Int))) (badVisit : Bool) (bus : List (Nat × Nat))
    (s : State) : State :=
  let (b, s) := match fineSample i f j w badVisit s with
    | none => (invalidSample, satF (icnt i 1) wordField 1 s)
    | some (b, k) => (b, when (k != 0) (satF (icnt i 2) wordField k) s)
  let closes := (j - originOf j s) % platLen s % 25 == 24
  let (inj, s) := if closes then injErrors 32 busInj s else (0, s)
  lineSample f i j b (asmSample f i j b (busErrs bus f i ^^^ inj) s)

/-- Every input and fine channel of sample `j`. -/
def formSample (j : Nat) (bad : List (Nat × Nat × Nat)) (bus : List (Nat × Nat)) (s : State) : State :=
  let s := segmentSwap j (ptsSwapsAt j (snapFine j s))
  let s := (allPairs s).foldl (fun s (i, c) =>
    let w := windowOf i c j s
    let bv := bad.contains (engineOf i, c, slotOf i)
    (List.range (cfgP s)).foldl (fun s k => formFine i (c * cfgP s + k) j w bv bus s) s) s
  setF R.SDG_PERIOD F.SDG_PERIOD_M (periodOf j s) { s with pts := { s.pts with nextJ := j + 1 } }

/-- The fine samples whose windows the block completes. -/
def formBlock : Nat → List (Nat × Nat × Nat) → List (Nat × Nat) → State → State
  | 0, _, _, s => s
  | n + 1, bad, bus, s =>
    if cfgP s * s.pts.nextJ + 8 * cfgP s ≤ s.pts.blocks + 40 then
      formBlock n bad bus (formSample s.pts.nextJ bad bus s)
    else s

/-- Forget coarse samples and spans below every later window. -/
def forgetCoarse (s : State) : State :=
  let low := Nat.min (cfgP s * s.pts.nextJ) s.pts.blocks
  { s with pts := { s.pts with
      coarse := s.pts.coarse.keep (fun k => decide (low ≤ k % 2 ^ 48)),
      exc := s.pts.exc.filter fun x => decide (low ≤ x.2.2) } }

/-- A Points residue injection strikes the engine's first visit of the block. -/
def residueHit (e : Nat) (x : Inj) : Bool := x.code == 0x10 && x.unit == e

/-- Block b is filtered once block b + 2 is released and the Gauges have decided its excision. `bad`
visits (engine, coarse channel, slot) met a residue mismatch (R315); `full` stacks' P0 headshunts were
full (R132), which stalls nothing while SDG_CTRL.EN = 0; `bus` gives the error patterns of the codewords that (fine
channel × 8192 + input) sends over the on-die bus (R316). -/
def pointsBlockFilter (bad : List (Nat × Nat × Nat)) (full : List Nat) (bus : List (Nat × Nat))
    (s : State) : State :=
  if !frontValid s || pstate s != 1 || frontNow s < s.pts.blocks + 120 || s.gau.acts != [] then s
  else
    let b0 := s.pts.blocks
    let engines := (List.range 16).filter fun e => decide (32 * e < cfgN s)
    let inj := if isSet R.PTS_CTRL F.PTS_CTRL_EN s then
      engines.filter fun e => (findInj (residueHit e) s).isSome else []
    let s := inj.foldl (fun s e => useInj (residueHit e) s) s
    let bad := bad ++ inj.map fun e => (e, 0, 0)
    let s := bad.foldl (fun s v => engineErr v.1 s) s
    let s := when (isSet R.SDG_CTRL F.SDG_CTRL_EN s) (full.foldl fun s k => raise (ev 5 (8 * k + 4)) s) s
    let s := (allPairs s).foldl (countExcised b0) (snapBlock b0 s)
    let s := formBlock 41 bad bus s
    forgetCoarse { s with pts := { s.pts with blocks := b0 + 40 } }

/-! ### Delay sets (R97) -/

def dsetOf (s : State) (set : Nat) : Option Nat :=
  [0, 1].find? fun k => isSet (R.PTS_DSET k) F.PTS_DSET_VALID s && getF (R.PTS_DSET k) F.PTS_DSET_SET s == set

def dsetMem (k i w : Nat) : Nat := 0x3030000 + 0x10000 * k + 8 * i + w

/-- The words from `a` up to `b` return to their reset values. -/
def clearWords (a b : Nat) (s : State) : State :=
  { s with regs := s.regs.keep fun x => !decide (a ≤ x ∧ x < b) }

/-- A slot takes a SETHDR: COUNT, T0 and SPAN, no record present. -/
def openSlot (k set count t0 span : Nat) (s : State) : State :=
  let s := { s with regs := s.regs.keep fun a => !(decide (dsetMem k 0 0 ≤ a ∧ a < dsetMem k 8192 0) && a % 8 == 6) }
  let s := { s with pts := { s.pts with setT0 := s.pts.setT0.set (fun _ => 0) k t0,
                                        setSpan := s.pts.setSpan.set (fun _ => 0) k span } }
  s |> setF (R.PTS_DSET k) F.PTS_DSET_SET set
    |> setF (R.PTS_DSET k) F.PTS_DSET_RCVD 0
    |> setF (R.PTS_DSET k) F.PTS_DSET_COUNT count
    |> setF (R.PTS_DSET k) F.PTS_DSET_VALID 1
    |> setF (R.PTS_DSET k) F.PTS_DSET_COMPLETE 0

/-- The slot that a new set takes: an empty one, else the one with the earlier T0, else the one assigned
earlier. -/
def victimSlot (s : State) : Nat :=
  let v := fun k => isSet (R.PTS_DSET k) F.PTS_DSET_VALID s
  let t := fun k => s.pts.setT0.get (fun _ => 0) k
  if !v 0 then 0 else if !v 1 then 1 else if t 0 < t 1 then 0 else if t 1 < t 0 then 1 else s.pts.slotAge % 2

/-- A framing condition of a lane (R83): PTS_FRSTAT bit b with the lane's framing event. -/
def frameCond (i b : Nat) (s : State) : State := flagEvt (R.PTS_FRSTAT i) ⟨0, 0, 12⟩ b (frameEvent i) s

def sethdr (lane set count t0 span : Nat) (s : State) : State :=
  if count = 0 ∨ span = 0 then frameCond lane 10 s
  else match dsetOf s set with
    | some k => openSlot k set count t0 span s
    | none =>
      let k := victimSlot s
      let age := if isSet (R.PTS_DSET (1 - k)) F.PTS_DSET_VALID s then 1 - k else k
      let s := { s with pts := { s.pts with slotAge := age } }
      openSlot k set count t0 span (clearWords (dsetMem k 0 0) (dsetMem k 8192 0) s)

/-- A DELAY record. -/
def delayRecord (set input : Nat) (coefs : List Word) (s : State) : State :=
  match dsetOf s set with
  | none => ptsCond 5 s
  | some k =>
    let present := bitsOf (rd (dsetMem k input 6) s) 0 1 == 1
    let rcvd := getF (R.PTS_DSET k) F.PTS_DSET_RCVD s
    let count := getF (R.PTS_DSET k) F.PTS_DSET_COUNT s
    if cfgN s ≤ input || (!present && rcvd == count) then ptsCond 5 s
    else
      let s := coefs.zipIdx.foldl (fun s (w, x) => wr (dsetMem k input x) w s) s
      let s := wr (dsetMem k input 6) 1#40 s
      let r := if present then rcvd else rcvd + 1
      s |> setF (R.PTS_DSET k) F.PTS_DSET_RCVD r
        |> setF (R.PTS_DSET k) F.PTS_DSET_COMPLETE (if r = count then 1 else 0)

/-! ### The commands -/

def execPointsBlockFilter (bad : List (Fin 16 × Nat × Nat)) (full : List StackId) (bus : List (Nat × Nat))
    (s : State) : Out :=
  .next (pointsBlockFilter (bad.map fun v => (v.1.val, v.2.1, v.2.2)) (full.map (·.val)) bus s)

end Sys2Proof.Machine
end

