-- ==== Sys2Proof/Machine/Trains.lean ====
section
/-!
DEFINITION. Trains (03): reception and its checks (R58-R62, R66, R73, R76, R432), extended indices
(R64), transmission (R39, R53-R58, R61, R78), the release of blocks (R68-R71) with what the front's
advance does (R227, R230, R231, R263), and the parked lanes of a Halt watch (R50, R360).
-/
namespace Sys2Proof.Machine

/-! ### Trains received -/

/-- TYPE numbers (Table 3.3). -/
def typData : Nat := 1
def typFiller : Nat := 2
def typTimetable : Nat := 3
def typTest : Nat := 4
def typCoupling : Nat := 5
def typConsignment : Nat := 6

/-- The lane's receiver decodes trains: FRAME, HANDSHAKE or OPEN. -/
def decodes (i : Nat) (s : State) : Bool := 3 ≤ laneState i s && laneState i s ≤ 5

/-- SEQ continuity (R58): a discontinuity in OPEN sets SEQ_GAP. -/
def seqCheck (i seq : Nat) (s : State) : State :=
  let l := laneOf i s
  let gap := laneState i s == 5 && l.rxValid && seq != (l.rxSeq + 1 + l.uncSince) % 4096
  let s := when gap (frameCond i 1) s
  modLane i (fun l => { l with rxSeq := seq, rxValid := true, uncSince := 0 }) s

/-- A decoded codeword is counted, with its corrected symbols (R83). -/
def countTrain (i corr : Nat) (s : State) : State :=
  s |> satF (R.PTS_FRTRN i) F.PTS_FRTRN_COUNT 1
    |> satF (R.PTS_FRCSYM i) F.PTS_FRCSYM_COUNT corr

/-- The receive direction carries nothing on a Tututon departure in one-way mode (Table 2.1). -/
def ignored (i : Nat) (s : State) : Bool := isDeparture i && oneWay i s && !(laneOf i s).rate170

/-- An uncorrectable codeword is discarded (R60). It breaks every count of consecutive tokens (R38), and the eighth in
a row sends a lane in OPEN to COMMA (R35). -/
def uncorrectable (i : Nat) (s : State) : State :=
  if decodes i s && !ignored i s then
    let s := s |> satF (R.PTS_FRUNC i) F.PTS_FRUNC_COUNT 1
      |> modLane i (fun l => { l with uncSince := l.uncSince + 1, tokAny := 0, tokSeen := 0 })
      |> frameCond i 0
    if laneState i s = 5 ∧ deaf i s = false ∧ 8 ≤ (laneOf i s).uncSince then laneChange i 2 7 s else s
  else s

/-- UNCORR_RUN_LIMIT (R35): with seven uncorrectable codewords in a row behind it, the lane receives the eighth. -/
def uncorrRunLimit (i : Nat) (s : State) : State :=
  if laneState i s = 5 ∧ deaf i s = false ∧ 7 ≤ (laneOf i s).uncSince then uncorrectable i s else s

/-- The unique index that agrees with TLOW in [F - 2^23, F + 2^23) (R64). -/
def extendIndex (front tlow : Nat) : Int :=
  (front : Int) - 2 ^ 23 + ((tlow : Int) - front + 2 ^ 23) % 2 ^ 24

/-- The stream-map entry of a STREAM. -/
def streamEntry (stream : Nat) (s : State) : Option StreamEntry := s.arr.streams.find? (·.stream == stream)

/-- A train enters the arrival FIFO of 256 trains, or OVERFLOW (R62). -/
def fifoPut (i : Nat) (t : ArrTrain) (s : State) : State :=
  if 256 ≤ (laneOf i s).fifo.length then frameCond i 7 s
  else modLane i (fun l => { l with fifo := l.fifo ++ [t] }) s

/-- Samples of a train for a released block are counted late (R69). -/
def countLate (i n : Nat) (s : State) : State :=
  if n = 0 then s else frameCond i 6 (satF (R.PTS_FRLATE i) F.PTS_FRLATE_COUNT n s)

/-- The checks of R432 in their order; the last writes the train into the FIFO. -/
def dataChecks (i : Nat) (t : Train) (s : State) : State :=
  let fmt := t.fmt.toNat
  if 3 < fmt then frameCond i 4 s else
  match streamEntry t.stream.toNat s with
  | none => frameCond i 3 s
  | some e =>
    if e.lane ≠ i then frameCond i 3 s
    else if e.fmt ≠ fmt then frameCond i 4 s
    else if t.cchan.toNat < e.base ∨ e.base + e.ccount ≤ t.cchan.toNat then frameCond i 5 s
    else if !frontValid s then s
    else
      let n := extendIndex (frontNow s) t.tlow.toNat
      let tf := formatTimes fmt
      if n % (tf : Int) ≠ 0 then frameCond i 4 s
      else if n < (s.arr.base : Int) then s
      else if n < (frontNow s : Int) then countLate i (formatInputs fmt * tf) s
      else
        let n := n.toNat
        let a : ArrTrain := ⟨false, n, fmt, e.first, e.dev + (t.cchan.toNat - e.base), t.flags.toNat % 2 == 1, t.cars⟩
        if 256 ≤ (laneOf i s).fifo.length then frameCond i 7 s
        else { modLane i (fun l =>
          { l with fifo := l.fifo ++ [a], hiBlock := some (Nat.max (n / 40) (l.hiBlock.getD 0)) }) s
          with arr := { s.arr with top := Nat.max s.arr.top (n / 40 * 40 + 40) } }

/-! ### Timetable records (R74) -/

/-- LEN of each KIND (Table 3.7). -/
def kindLen (k : Nat) : Option Nat :=
  match k with | 0 => some 0 | 1 => some 3 | 2 => some 2 | 3 => some 2 | 4 => some 2 | 5 => some 6 | _ => none

/-- The records of a train from its remaining cars, and whether TT_FORMAT is set (R74). -/
def parseRecords (sigma : Option Nat) (lane : Nat) : Nat → List Word → List TRec × Bool
  | 0, _ => ([], false)
  | _, [] => ([], false)
  | fuel + 1, h :: t =>
    let kind := bitsOf h 36 4
    let len := bitsOf h 32 4
    let low := bitsOf h 0 32
    if h = 0#40 then ([], false)
    else if kind = 0 ∧ len = 0 then ([], true)
    else match kindLen kind with
      | none =>
        if t.length < len then ([], true)
        else let r := parseRecords sigma lane fuel (t.drop len); (r.1, true)
      | some n =>
        if len ≠ n ∨ t.length < len then ([], true)
        else
          let r := parseRecords sigma lane fuel (t.drop len)
          (⟨sigma, lane, kind, low, t.take len⟩ :: r.1, r.2)

/-- A TIMETABLE train on a lane in OPEN (R73): accepted with its stamp (R231), or BAD_STREAM. With the
front invalid and an EPOCH among its records it is processed at once (R228). -/
def ttChecks (i : Nat) (t : Train) (s : State) : State :=
  if !isSet (R.PTS_FRCTL i) F.PTS_FRCTL_TT_EN s
      || t.stream.toNat != getF R.PTS_ARRCFG F.PTS_ARRCFG_TT_STREAM s then frameCond i 3 s
  else if !frontValid s && (parseRecords none i 128 t.cars).1.any (·.kind == 1) then
    { s with ttb := { s.ttb with ready := s.ttb.ready ++ [⟨none, i, t.tlow.toNat, t.cars⟩] } }
  else
    let hi := (laneOf i s).hiBlock
    let stamp := match hi with | some b => 40 * (b + 1) | none => 0
    fifoPut i ⟨true, stamp, 0, t.tlow.toNat, 0, hi.isNone, t.cars⟩ s

/-- Samples of a DATA train by (input, device channel, time offset) in car order (R63). -/
def trainSample (cars : List Word) (m : Nat) : Byte :=
  BitVec.ofNat 8 (bitsOf (cars.getD (m / 5) 0#40) (32 - 8 * (m % 5)) 8)

/-- A DATA train of a parked lane is delivered to the watch cycle (R50, R360). -/
def watchTrain (i : Nat) (t : Train) (s : State) : State :=
  match streamEntry t.stream.toNat s with
  | none => s
  | some e =>
    if e.lane ≠ i ∨ e.fmt ≠ t.fmt.toNat ∨ t.cchan.toNat < e.base ∨ e.base + e.ccount ≤ t.cchan.toNat then s
    else
      let ins := formatInputs e.fmt
      (List.range 640).foldl (fun s m =>
        let b := if t.flags.toNat % 2 = 1 then invalidSample else normSample (trainSample t.cars m)
        watchSample (e.first + m % ins) (e.dev + (t.cchan.toNat - e.base)) ((t.tlow.toNat + m / ins) % 2 ^ 24) b s) s

/-- TYPEs accepted on a lane (Table 3.3). -/
def typeAccepted (i typ : Nat) : Bool :=
  typ == typFiller || typ == typTest || (isArrival i && (typ == typData || typ == typTimetable))
    || (80 ≤ i && typ == typCoupling)

/-- The 80 header bits (Table 3.2). -/
def trainHeader (t : Train) : Nat :=
  t.typ.toNat * 2 ^ 76 + t.seq.toNat * 2 ^ 64 + t.stream.toNat * 2 ^ 48 + t.cchan.toNat * 2 ^ 36
    + t.fmt.toNat * 2 ^ 32 + t.flags.toNat * 2 ^ 24 + t.tlow.toNat

/-- The train of an 80-bit header and its cars as received: the scrambler is seeded from SEQ (R56). -/
def trainOf (h : Nat) (cars : List Word) : Train :=
  let b := fun (lo w : Nat) => BitVec.ofNat w (h / 2 ^ lo)
  ⟨b 76 4, b 64 12, b 48 16, b 36 12, b 32 4, b 24 8, b 0 24, scramble (scrambleSeed (h / 2 ^ 64 % 4096)) cars⟩

/-- The 2,700 symbols of a train on the line (R28-R30, R53-R56). -/
def lineSymbols (prec pol : Bool) (t : Train) : List (BitVec 2) :=
  let msg := trainSymbols (trainHeader t) (scramble (scrambleSeed t.seq.toNat) t.cars)
  let gs := (msg ++ trainParity msg).flatMap fun c => (digits 2 5 c).map gray
  invert pol (comma ++ (if prec then precode 0#2 gs else gs))

/-- The 536 code symbols that 2,700 symbols of a train carry behind the comma, the receive precoder undone when `prec`
is set (R28, R29, R54). -/
def lineCodeword (prec : Bool) (syms : List (BitVec 2)) : List Nat :=
  let x := syms.drop 20
  (chunks 5 536 ((if prec then unprecode 0#2 x else x).map ungray)).map (undigits 2)

/-- The train that 2,700 symbols carry, and how many code symbols the decoder corrected; none when the codeword is
uncorrectable (R55, R60). -/
def lineTrain (prec : Bool) (syms : List (BitVec 2)) : Option (Train × Nat) :=
  if syms.length ≠ 2700 then none else
  (rsDecode 10 0x409 16 8 (lineCodeword prec syms)).map fun r =>
    (trainOf (undigits 10 (r.1.take 8)) ((chunks 4 128 (r.1.drop 8)).map fun c => BitVec.ofNat 40 (undigits 10 c)), r.2)

/-- The train that lane `i` receives from these symbols (R29, R30). -/
def receivedTrain (i : Nat) (syms : List (BitVec 2)) (s : State) : Option (Train × Nat) :=
  lineTrain (isSet (R.TRK_CTRL i) F.TRK_CTRL_PREC_RX s) (received i syms s)

/-- FILLER_MISS (R62). -/
def fillerMiss (i : Nat) (s : State) : State :=
  if decodes i s ∧ ignored i s = false ∧ 2047 < (laneOf i s).nonFill then frameCond i 8 s else s

/-- A train decoded on lane `i`, `corr` symbols of it corrected. `coupling` takes a COUPLING train. DESIGN CHOICE: in
TRANSIT and BOOT the DATA and TIMETABLE trains of a lane in OPEN are discarded as R350 says of Standing; log entry 106. -/
def trainAccept (coupling : Nat → Train → State → State) (i : Nat) (t : Train) (corr : Nat) (s : State) : State :=
  let typ := t.typ.toNat
  let s := seqCheck i t.seq.toNat (countTrain i corr s)
  let s := modLane i (fun l => { l with nonFill := if typ = typFiller then 0 else l.nonFill + 1 }) s
  let s := when (decide ((laneOf i s).nonFill = 2048)) (fillerMiss i) s
  if typ = typFiller then tokenReceive i (t.cars.headD 0#40) s
  else if !typeAccepted i typ then frameCond i 2 s
  else if typ = typTest then when (t.cars.any (· != 0#40)) (frameCond i 11) s
  else if typ = typCoupling then (if laneState i s = 5 then coupling i t s else s)
  else if laneState i s = 3 ∧ isSet (R.TRK_STATE i) F.TRK_STATE_PARKED s ∧ typ = typData then watchTrain i t s
  else if laneState i s ≠ 5 ∨ pstate s ≠ 1 then s
  else if typ = typData then dataChecks i t s
  else ttChecks i t s

/-- A clause 134 codeword on an Ethernet departure: the receiver decodes it for its counters and discards what it
carries (R82, PTS_FRTRN). -/
def ethReceive (i : Nat) (syms : List (BitVec 2)) (s : State) : State :=
  let x := received i syms s
  match fecDecode (ethCodeword (isSet (R.TRK_CTRL i) F.TRK_CTRL_PREC_RX s) x (laneOf i s).eth) with
  | some r => modLane i (fun l => { l with eth := { l.eth with rxP := x.getLastD 0#2 } }) (countTrain i r.2 s)
  | none => uncorrectable i (modLane i (fun l => { l with eth := { l.eth with rxP := x.getLastD 0#2 } }) s)

/-- The symbols of one train, or of one codeword of an Ethernet departure, received on lane `i`. An injected error
burst may make the next decodable train uncorrectable (Table 12.7). -/
def trainReceive (coupling : Nat → Train → State → State) (i : Nat) (syms : List (BitVec 2)) (s : State) : State :=
  let hit := fun x : Inj => x.code == 1 && x.unit == i
  if !decodes i s || ignored i s then s
  else if (laneOf i s).rate170 then ethReceive i syms s
  else match receivedTrain i syms s with
    | none => uncorrectable i s
    | some (t, corr) =>
      let corr := corr + (match findInj hit s with | some x => x.arg % 16 | none => 0)
      let s := useInj hit s
      if 8 < corr then uncorrectable i s else trainAccept coupling i t corr s

/-! ### Trains sent -/

/-- The stage of the tokens a lane sends (R38, R50). -/
def tokenStage (i : Nat) (s : State) : Nat :=
  if 0 < (laneOf i s).parks then 3
  else if laneState i s = 5 then 2
  else if laneState i s = 4 ∧ (laneOf i s).sendSeen then 1 else 0

/-- The handshake token (Table 2.5). -/
def tokenCar (i : Nat) (s : State) : Word :=
  BitVec.ofNat 40 (0x5A * 2 ^ 32 + tokenStage i s * 2 ^ 30 + getF (R.TRK_LINKID i) F.TRK_LINKID_OWN_ID s)

def padCars (ws : List Word) : List Word := ws ++ List.replicate (128 - ws.length) 0#40

def fillerCars (i : Nat) (s : State) : List Word := padCars [tokenCar i s]

/-- The transmitter of lane `i` is not in electrical idle (R45, R50). -/
def drives (i : Nat) (s : State) : Bool :=
  laneEn i s && pllLocked i s && decide ((laneOf i s).clkFrom ≤ tickNow s) && !(isArrival i && oneWay i s)
    && (pstate s ≤ 2 || pstate s == 6 || (pstate s == 3 && decide (0 < (laneOf i s).parks)))

/-- The transmitter of lane `i` sends trains (R39). -/
def transmits (i : Nat) (s : State) : Bool := drives i s && !(laneOf i s).rate170 && laneState i s != 6

/-- One train leaves, with the next SEQ (R58). -/
def sendTrain (i typ stream cchan flags tlow : Nat) (cars : List Word) (s : State) : State :=
  let l := laneOf i s
  let t : Train := ⟨BitVec.ofNat 4 typ, BitVec.ofNat 12 l.txSeq, BitVec.ofNat 16 stream, BitVec.ofNat 12 cchan,
    0, BitVec.ofNat 8 flags, BitVec.ofNat 24 tlow, cars⟩
  let sym := lineSymbols (isSet (R.TRK_CTRL i) F.TRK_CTRL_PREC_TX s) (isSet (R.TRK_CTRL i) F.TRK_CTRL_POL_TX s) t
  let fill := if typ = typFiller then 0 else l.sinceFill + 1
  setLane i { l with lastTx := some t, line := sym, txSeq := (l.txSeq + 1) % 4096, sinceFill := fill,
                     parks := l.parks - 1 } s

/-- A filler leaves, with the lane's token (R61). -/
def sendFiller (i : Nat) (s : State) : State := sendTrain i typFiller 0 0 0 0 (fillerCars i s) s

/-- A filler leaves first when the 2,047 trains before held none (R61). -/
def fillerDue (i : Nat) (s : State) : State := if 2047 ≤ (laneOf i s).sinceFill then sendFiller i s else s

/-- In TEST the transmitter sends the next 2,700 symbols of its pattern, Gray-mapped, not precoded and without a comma,
or stays in electrical idle when GEN is off (R46). -/
def patternTransmit (i : Nat) (s : State) : State :=
  let k := getF (R.TRK_TEST i) F.TRK_TEST_GEN s
  if k = 0 then modLane i (fun l => { l with line := [] }) s
  else modLane i (fun l =>
    let r := prbsSymbols k 2700 l.gen
    { l with line := invert (isSet (R.TRK_CTRL i) F.TRK_CTRL_POL_TX s) r.1, gen := r.2 }) s

/-- The frame in transmission has left whole (R202). -/
def frameEnd (i : Nat) (s : State) : State :=
  match (laneOf i s).cur with
  | some (c, _) =>
    if (laneOf i s).eth.open_ || (laneOf i s).eth.left != [] then s
    else countSent i c (modLane i (fun l => { l with cur := none }) s)
  | none => s

/-- `n` more blocks of an Ethernet departure's stream, which takes its next consignment wherever a frame may begin. -/
def ethFill (i : Nat) : Nat → State → List (Bool × Nat) × State
  | 0, s => ([], s)
  | n + 1, s =>
    let s := startNext i s
    let r := ethNext (laneOf i s).eth
    let t := ethFill i n (frameEnd i (modLane i (fun l => { l with eth := r.2 }) s))
    (r.1 :: t.1, t.2)

/-- One clause 134 codeword of an Ethernet departure: 20 groups of blocks, in every 1,024th codeword the first of
them the alignment markers (R43-R45, R80). -/
def ethTransmit (i : Nat) (s : State) : State :=
  let mark := (laneOf i s).eth.cw == 0
  let r := ethFill i (if mark then 76 else 80) s
  let groups := (chunks 4 20 r.1).map transcode
  let groups := if mark then (Config.alignmentGroup s.free).toNat :: groups else groups
  let s := { r.2 with free := s.free + b2n mark }
  let line := ethLine (isSet (R.TRK_CTRL i) F.TRK_CTRL_PREC_TX s) (isSet (R.TRK_CTRL i) F.TRK_CTRL_POL_TX s) groups
    (laneOf i s).eth
  modLane i (fun l => { l with line := line.1, eth := line.2 }) s

/-- The train of a transmitting lane (R58, R61, R78): a filler at least once in 2,048 trains and when nothing is ready;
otherwise the cars of the consignment in transmission. In Halt a watched lane returns to DARK after its last
PARKED filler (R50). -/
def trainSend (i : Nat) (s : State) : State :=
  if isDeparture i && laneState i s == 5 && departs s && decide ((laneOf i s).sinceFill < 2047)
      && (startNext i s |> laneOf i).cur.isSome then
    let (ws, fst, s) := fillCars i 129 128 [] none (startNext i s)
    sendTrain i typConsignment 0 (fst.getD 0xFFF) 0 0 (padCars ws) s
  else
    let t := sendFiller i s
    when (pstate s == 3 && (laneOf i s).parks == 1) (darken i 15 false) t

/-- TRAIN_TRANSMIT: what the lane drives next. -/
def trainTransmit (i : Nat) (s : State) : State :=
  if !drives i s then s
  else if laneState i s = 6 then patternTransmit i s
  else if (laneOf i s).rate170 then ethTransmit i s
  else trainSend i s

/-! ### Release of blocks (R68-R71) -/

/-- A DATA train that covers the block at `n` or a later one has been written into an arrival FIFO (R68). -/
def dataWaits (n : Nat) (s : State) : Bool := decide (n < s.arr.top)

/-- The lane's pairs are live for the block at `n` (R68, R70). -/
def liveFor (i n : Nat) (s : State) : Bool := laneState i s == 5 && decide ((laneOf i s).liveFrom ≤ n)

/-- The trains of a (stream, channel) that cover the block at `n`. -/
def trainsOf (e : StreamEntry) (c n : Nat) (s : State) : List ArrTrain :=
  (laneOf e.lane s).fifo.filter fun t =>
    !t.tt && t.n / 40 == n / 40 && t.first == e.first && t.chan == e.dev + c

/-- Times of the block that the (stream, channel) has delivered. -/
def delivered (e : StreamEntry) (c n : Nat) (s : State) : Nat :=
  ((trainsOf e c n s).map (·.n)).dedup.length * formatTimes e.fmt

def entryComplete (e : StreamEntry) (n : Nat) (s : State) : Bool :=
  (List.range e.ccount).all fun c => delivered e c n s == 40

/-- Instant (a) of R68. -/
def blockComplete (n : Nat) (s : State) : Bool :=
  dataWaits n s && s.arr.streams.all fun e => !liveFor e.lane n s || entryComplete e n s

/-- One train's samples become coarse samples (R63, R65). -/
def writeTrain (s : State) (t : ArrTrain) : State :=
  let ins := formatInputs t.fmt
  (List.range 640).foldl (fun s m =>
    let b := if t.bad then invalidSample else normSample (trainSample t.cars m)
    let k := coarseKey (pairOf (t.first + m % ins) t.chan) (t.n + m / ins)
    { s with pts := { s.pts with coarse := s.pts.coarse.set (fun _ => invalidSample) k b } }) s

/-- Missing samples of a stream-map entry are counted (R69). -/
def countMissing (n : Nat) (s : State) (e : StreamEntry) : State :=
  let miss := (List.range e.ccount).foldl (fun a c => a + (40 - delivered e c n s) * formatInputs e.fmt) 0
  if miss = 0 then s
  else if liveFor e.lane n s then countLate e.lane miss s
  else satF (R.PTS_FRLOST e.lane) F.PTS_FRLOST_COUNT miss s

def blockTrains (n : Nat) (s : State) : List ArrTrain :=
  (List.range 64).flatMap fun i => (laneOf i s).fifo.filter fun t => !t.tt && t.n / 40 == n / 40

/-- The FIFOs without the trains of the block. -/
def dropBlock (n : Nat) (s : State) : State :=
  (List.range 64).foldl (fun s i =>
    if (laneOf i s).fifo.any (fun t => !t.tt && t.n / 40 == n / 40) then
      modLane i (fun l => { l with fifo := l.fifo.filter fun t => t.tt || t.n / 40 != n / 40 }) s
    else s) s

/-- Timetable trains that this release hands on (R231): by stamp, then lane, then FIFO order. -/
def ttReady (front : Nat) (s : State) : List TTrain :=
  let all := (List.range 64).flatMap fun i => ((laneOf i s).fifo.filter fun t => t.tt && (t.bad || t.n ≤ front)).map
    fun t => (⟨some (if t.bad then front else t.n), i, t.first, t.cars⟩ : TTrain)
  all.insertionSort fun a b => a.sigma.getD 0 ≤ b.sigma.getD 0

def takeTt (front : Nat) (s : State) : State :=
  let r := ttReady front s
  let s := (List.range 64).foldl (fun s i =>
    if (laneOf i s).fifo.any (fun t => t.tt) then
      modLane i (fun l => { l with fifo := l.fifo.filter fun t => !(t.tt && (t.bad || t.n ≤ front)) }) s
    else s) s
  { s with ttb := { s.ttb with ready := s.ttb.ready ++ r } }

/-- The RATE of PTS_FC (R230): 40 × 250 MHz / f_c in units of 2^-16 tick. -/
def fallbackRate (s : State) : Nat := (rne (40 * 250000000 * 2 ^ 16) (getF R.PTS_FC F.PTS_FC_FC s)).toNat

def epochN48 (s : State) : Nat := getF R.TTB_EPOCH F.TTB_EPOCH_N48_LO s + getF R.TTB_EPOCH F.TTB_EPOCH_N48_HI s * 2 ^ 40
def epochTick (s : State) : Nat := getF R.TTB_EPOCH F.TTB_EPOCH_ETICK_LO s + getF R.TTB_EPOCH F.TTB_EPOCH_ETICK_HI s * 2 ^ 40

/-- A Timetable condition with its event (Table 9.5): TTB_STATUS bit b, event 11:b. -/
def ttbCond (b : Nat) (s : State) : State := flagEvt R.TTB_STATUS F.TTB_STATUS_EVT b (ev 11 b) s

/-- TTB_NOMRATE from the last two latched marks, or from PTS_FC (R230). -/
def updateNomRate (s : State) : State :=
  let fb := fallbackRate s
  let fc := getF R.PTS_FC F.PTS_FC_FC s
  match s.ttb.marks with
  | none => s |> setF R.TTB_NOMRATE F.TTB_NOMRATE_RATE fb |> setF R.TTB_NOMRATE F.TTB_NOMRATE_SRC 0
  | some (n0, t0) =>
    let dn : Int := (epochN48 s : Int) - n0
    let dt : Int := (epochTick s : Int) - t0
    let num := dt * fc
    let nom := dn * 250000000
    if 0 < dn ∧ 0 < dt ∧ nom * 999000 ≤ num * 1000000 ∧ num * 1000000 ≤ nom * 1001000 then
      s |> setF R.TTB_NOMRATE F.TTB_NOMRATE_RATE (rne (40 * dt * 2 ^ 16) dn.toNat).toNat
        |> setF R.TTB_NOMRATE F.TTB_NOMRATE_SRC 1
    else s |> setF R.TTB_NOMRATE F.TTB_NOMRATE_RATE fb |> setF R.TTB_NOMRATE F.TTB_NOMRATE_SRC 0 |> ttbCond 14

/-- ETICK is latched when the front has reached N48 (R227). -/
def etickLatch (s : State) : State :=
  if isSet R.TTB_STATE F.TTB_STATE_EPOCH_VALID s && !isSet R.TTB_EPOCH F.TTB_EPOCH_ETICK_OK s
      && frontValid s && decide (epochN48 s ≤ frontNow s) then
    s |> setF R.TTB_EPOCH F.TTB_EPOCH_ETICK_LO (tickNow s)
      |> setF R.TTB_EPOCH F.TTB_EPOCH_ETICK_HI (tickNow s / 2 ^ 40)
      |> setF R.TTB_EPOCH F.TTB_EPOCH_ETICK_OK 1
      |> updateNomRate
  else s

/-- The interrupt sources of a core (Table 10.6): IPEND bit v - 4. -/
def coreIrq (n b : Nat) (s : State) : State := setBit (R.DSP_IPEND n) F.DSP_IPEND_PEND b true s

/-- FRONT_COMPARE_MATCH (R263). -/
def fcmpMatch (front : Nat) (s : State) : State :=
  (List.range 9).foldl (fun s n =>
    if isSet (R.DSP_FCMP n) F.DSP_FCMP_ARM s
        && decide (get2 (R.DSP_FCMP n) F.DSP_FCMP_IDX_LO F.DSP_FCMP_IDX_HI s ≤ front) then
      coreIrq n 3 (setF (R.DSP_FCMP n) F.DSP_FCMP_ARM 0 s)
    else s) s

def setFront (n : Nat) (s : State) : State := set2 R.PTS_FRONT F.PTS_FRONT_F_LO F.PTS_FRONT_F_HI n s

/-- A held entry is due: the front has reached 40 ⌊KEY / 40⌋ (R235). -/
def Entry.due (e : Entry) (front : Nat) : Bool := e.key / 40 * 40 ≤ front

/-- Everything that this front owes has been done: due entries delivered, timetable records applied. -/
def frontSettled (s : State) : Bool :=
  s.ttb.ready == [] && s.ttb.recs == [] && !(s.ttb.queue.any fun e => e.due (frontNow s))

/-- The release of the block at the front (R69). A block released before the engines have finished the
block three below it is an engine overrun. -/
def releaseBlock (s : State) : State :=
  let n := frontNow s
  let ts := blockTrains n s
  let s := s.arr.streams.foldl (countMissing n) s
  let s := dropBlock n (ts.foldl writeTrain s)
  let s := when (decide (s.pts.blocks + 120 ≤ n)) (ptsCond 7) s
  let s := setFront (n + 40) s
  let s := gaugeGo { s with gau := { s.gau with limit := n + 40 } }
  let s := { s with ttb := { s.ttb with turn := s.ttb.turn + 1 } }
  fcmpMatch (n + 40) (etickLatch (takeTt (n + 40) s))

/-- A block may be released: what this front owes is done, and so is a join that acts at it (R340; DEDUCED, log entry
117). -/
def releaseOk (s : State) : Bool := running s && frontValid s && frontSettled s && !joinPending s

/-! ### Register effects -/

/-- PTS_FRCTL.CLR. -/
def framingClear (i : Nat) (s : State) : State :=
  s |> setF (R.PTS_FRTRN i) F.PTS_FRTRN_COUNT 0
    |> setF (R.PTS_FRCSYM i) F.PTS_FRCSYM_COUNT 0
    |> setF (R.PTS_FRUNC i) F.PTS_FRUNC_COUNT 0
    |> setF (R.PTS_FRLATE i) F.PTS_FRLATE_COUNT 0
    |> setF (R.PTS_FRLOST i) F.PTS_FRLOST_COUNT 0

/-! ### The commands -/

def execTrainTransmit (i : LaneId) (s : State) : Out := .next (trainTransmit i s)
def execFillerMiss (i : LaneId) (s : State) : Out := .next (fillerMiss i s)
def execUncorrectableTrain (i : LaneId) (s : State) : Out := .next (uncorrectable i s)
def execUncorrRunLimit (i : LaneId) (s : State) : Out := .next (uncorrRunLimit i s)

end Sys2Proof.Machine
end

