-- ==== Sys2Proof/Machine/Timetable.lean ====
section
/-!
DEFINITION. Timetable (09): timetable trains and their records (R73, R74, R231), the action queue
(R233-R236), PPS and TREF (R225, R226), and snapshots (R240).
-/
namespace Sys2Proof.Machine

/-! ### Timetable trains (R73, R74) -/

/-- The duplicate check of R73. -/
def ttserFresh (ttser : Nat) (s : State) : Bool :=
  let d := (ttser + 2 ^ 24 - getF R.PTS_TTSER F.PTS_TTSER_LAST s) % 2 ^ 24
  !isSet R.PTS_TTSER F.PTS_TTSER_VALID s || (1 ≤ d && d ≤ 2 ^ 23 - 1)

/-- TIMETABLE_TRAIN_PROCESS (R231): the next train that the release has handed on. DESIGN CHOICE: the first train
accepted after a data-plane reset has no serial before it and does not set TT_GAP; log entry 80. -/
def timetableTrainProcess (s : State) : State :=
  match s.ttb.ready with
  | [] => s
  | t :: rest =>
    if s.ttb.recs ≠ [] ∨ joinPending s = true then s else
    let s := { s with ttb := { s.ttb with ready := rest } }
    if !ttserFresh t.ttser s then s
    else
      let gap := isSet R.PTS_TTSER F.PTS_TTSER_VALID s
        && (t.ttser + 2 ^ 24 - getF R.PTS_TTSER F.PTS_TTSER_LAST s) % 2 ^ 24 != 1
      let s := s |> setF R.PTS_TTSER F.PTS_TTSER_LAST t.ttser |> setF R.PTS_TTSER F.PTS_TTSER_VALID 1
        |> when gap (frameCond t.lane 9)
      let (rs, bad) := parseRecords t.sigma t.lane 128 t.cars
      when bad (frameCond t.lane 10) { s with ttb := { s.ttb with recs := rs } }

/-- The next record leaves the list; a Banker's join log takes it (R342). -/
def popRec (s : State) : State :=
  match s.ttb.recs with
  | r :: rest => logItem (.record r) { s with ttb := { s.ttb with recs := rest } }
  | [] => s

/-- A command applies the record that is the next one in car order (R74); `ok` tells whether the command names it. -/
def applyRec (ok : TRec → Bool) (f : State → State) (s : State) : State :=
  match s.ttb.recs with
  | r :: _ => if ok r && !joinPending s then popRec (f s) else s
  | [] => s

/-- The stamp of a record: its train's, or the front when the train was processed without one (R228, R231). -/
def TRec.stamp (r : TRec) (s : State) : Nat := r.sigma.getD (frontNow s)

/-- The record that an ACTION command names. -/
def isAction (sigma code zero : Nat) (body : List Word) (s : State) (r : TRec) : Bool :=
  r.kind == 2 && r.head == code * 2 ^ 24 + zero && r.body == body && r.stamp s == sigma

/-- The record that a TRIGGER command names. -/
def isTrigger (sigma desc : Nat) (body : List Word) (s : State) (r : TRec) : Bool :=
  r.kind == 3 && r.head / 2 ^ 24 == desc && r.body == body && r.stamp s == sigma

/-- The record that a SETHDR command names. -/
def isSethdr (lane set count : Nat) (body : List Word) (r : TRec) : Bool :=
  r.kind == 4 && r.head / 2 ^ 10 == set * 2 ^ 14 + count && r.body == body && r.lane == lane

/-- The record that a DELAY command names. -/
def isDelay (set input : Nat) (body : List Word) (r : TRec) : Bool :=
  r.kind == 5 && r.head / 2 ^ 11 == set * 2 ^ 13 + input && r.body == body

/-- The two body cars of ACTION, TRIGGER and SETHDR: a 48-bit index and 32 bits. -/
def keyBody (key low : Nat) : List Word :=
  [BitVec.ofNat 40 (key / 2 ^ 8), BitVec.ofNat 40 (key % 2 ^ 8 * 2 ^ 32 + low)]

/-! ### The action queue (R233-R236) -/

def isLocal (e : Entry) : Bool := 48 ≤ e.slot

def queueAddr (e : Nat) : Nat := 0x1000100 + 4 * (e % 64)

/-- The four words of a held entry (Table 9.6). -/
def showEntry (e : Entry) (s : State) : State :=
  let a := queueAddr e.slot
  s |> wr a (BitVec.ofNat 40 (e.key % 2 ^ 40))
    |> wr (a + 1) (BitVec.ofNat 40 (e.key / 2 ^ 40 + e.code * 2 ^ 8 + e.source * 2 ^ 16 + 2 ^ 20
          + b2n (isLocal e) * 2 ^ 21))
    |> wr (a + 2) (BitVec.ofNat 40 e.arg)
    |> wr (a + 3) (BitVec.ofNat 40 (if isLocal e then 0 else e.sigma))

def hideEntry (slot : Nat) (s : State) : State :=
  (List.range 4).foldl (fun s k => wr (queueAddr slot + k) 0#40 s) s

def countQueue (s : State) : State :=
  s |> setF R.TTB_STATE F.TTB_STATE_QIN (s.ttb.queue.filter fun e => !isLocal e).length
    |> setF R.TTB_STATE F.TTB_STATE_QLOC (s.ttb.queue.filter isLocal).length

/-- A new entry in its partition's lowest free place. -/
def putEntry (e : Entry) (s : State) : State :=
  countQueue (showEntry e { s with ttb := { s.ttb with queue := s.ttb.queue ++ [e] } })

/-- An entry leaves the queue. In-band entries that became due are remembered for check 6 (R231). -/
def removeEntry (e : Entry) (s : State) : State :=
  let gone := if isLocal e then s.ttb.gone else (e.since, e.key / 40 * 40) :: s.ttb.gone
  countQueue (hideEntry e.slot
    { s with ttb := { s.ttb with queue := s.ttb.queue.filter (·.slot != e.slot), gone := gone } })

/-- The lowest-numbered free entry of a partition. -/
def freeSlot (loc : Bool) (s : State) : Option Nat :=
  (if loc then (List.range 16).map (48 + ·) else List.range 48).find? fun k =>
    !(s.ttb.queue.any fun e => e.slot == k)

/-- Check 1: the code and its ARG bits (Table 9.2). -/
def codeOk (code arg : Nat) : Bool :=
  match code with
  | 0x01 => arg == 0
  | 0x02 => arg == 0
  | 0x03 => arg == 0
  | 0x04 => arg == 0
  | 0x08 => arg < 8
  | 0x09 => arg < 8
  | 0x10 => true
  | 0x11 => arg < 2 ^ 32
  | 0x12 => arg < 2 ^ 32
  | 0x18 => arg == 0
  | _ => false

/-- Check 2 (R238). -/
def dpKeyOk (key : Nat) (s : State) : Bool :=
  let j := cdiv key (cfgP s)
  key % 40 == 0 && decide (originNow s ≤ j) && (j - originNow s) % (6 * platLen s) == 0

/-- Table 9.1's result codes. -/
inductive QueueResult where
  | accepted | late | full | badCode | badKey | tooFar | provisional
  deriving DecidableEq, Repr

def QueueResult.code : QueueResult → Nat
  | .accepted => 1 | .late => 2 | .full => 3 | .badCode => 4 | .badKey => 5 | .tooFar => 6 | .provisional => 7

/-- The event of a rejection. -/
def QueueResult.cond : QueueResult → Option Nat
  | .late => some 2 | .tooFar => some 3 | .full => some 4 | .badCode => some 5 | .badKey => some 6
  | .accepted => none | .provisional => none

/-- The in-band partition is full as at stamp `sigma`: entries of later stamps were not held then, and entries that
have become due since were (R231). -/
def inbandFull (sigma : Nat) (s : State) : Bool :=
  let gone := (s.ttb.gone.filter fun x => decide (x.1 ≤ sigma ∧ sigma ≤ x.2)).length
  48 ≤ (s.ttb.queue.filter fun e => !isLocal e && decide (e.since ≤ sigma)).length + gone

/-- An in-band entry through Table 9.1. -/
def inbandCheck (sigma key code arg : Nat) (trigger : Bool) (s : State) : QueueResult :=
  if !codeOk code arg || (code == 0x10 && !trigger) then .badCode
  else if code = 0x18 ∧ !dpKeyOk key s then .badKey
  else if key < sigma + getF R.TTB_LEAD F.TTB_LEAD_LEAD s then .late
  else if sigma + 2 ^ 40 ≤ key then .tooFar
  else if inbandFull sigma s then .full
  else .accepted

def inbandEntry (sigma key code arg : Nat) (trigger : Bool) (s : State) : State :=
  match inbandCheck sigma key code arg trigger s with
  | .accepted => match freeSlot false s with
    | some k => putEntry ⟨k, key, code, arg, if trigger then 1 else 0, sigma, false, s.ttb.turn, sigma⟩ s
    | none => ttbCond 4 s
  | r => match r.cond with | some b => ttbCond b s | none => s

/-- A local entry through Table 9.1; checks 4 and 5 wait while F is invalid (R234). -/
def localCheck (key code arg : Nat) (s : State) : QueueResult :=
  if !codeOk code arg then .badCode
  else if code = 0x18 ∧ !dpKeyOk key s then .badKey
  else if frontValid s && decide (key / 40 * 40 < frontNow s) then .late
  else if frontValid s && decide (frontNow s + 2 ^ 40 ≤ key) then .tooFar
  else if (freeSlot true s).isNone then .full
  else if frontValid s then .accepted else .provisional

/-- SOURCE of an enqueue set (Table 9.6): 2 MGT, 3 SBX, 4 + d. -/
def setSource (set : Nat) : Nat := 2 + set

/-- A submission through enqueue set `set`. -/
def localEntry (set key code arg : Nat) (s : State) : State × QueueResult :=
  let r := localCheck key code arg s
  let k := (freeSlot true s).getD 48
  let ok := r == .accepted || r == .provisional
  let s := if ok then putEntry ⟨k, key, code, arg, setSource set, 0, r == .provisional, s.ttb.turn, 0⟩ s
    else match r.cond with | some b => ttbCond b s | none => s
  let last := if ok then some k else none
  (setF (R.TTB_ENQ set) F.TTB_ENQ_RESULT r.code
    { s with ttb := { s.ttb with lastSub := s.ttb.lastSub.set (fun _ => none) set last } }, r)

/-- A write of GO = 1 (R234). -/
def enqueueGo (set : Nat) (s : State) : State :=
  (localEntry set (get2 (R.TTB_ENQ set) F.TTB_ENQ_KEY_LO F.TTB_ENQ_KEY_HI s)
    (getF (R.TTB_ENQ set) F.TTB_ENQ_CODE s) (getF (R.TTB_ENQ set) F.TTB_ENQ_ARG s) s).1

/-- The RESULT of a set whose last submission is this entry changes with it. -/
def settleResult (e : Entry) (code : Nat) (s : State) : State :=
  let set := (e.source - 2) % 10
  if s.ttb.lastSub.get (fun _ => none) set = some e.slot then setF (R.TTB_ENQ set) F.TTB_ENQ_RESULT code s else s

/-- A newly established front may lie below the stamps of the entries kept: they are held at each of its values. -/
def heldFromStart (s : State) : State :=
  { s with ttb := { s.ttb with queue := s.ttb.queue.map fun e => { e with since := 0 } } }

/-- PENDING_ENTRY_CHECK (R234, R237): the entries held when the front is established at `front`. -/
def pendingEntryCheck (front : Nat) (s : State) : State :=
  s.ttb.queue.foldl (fun s e =>
    if e.key / 40 * 40 < front then
      let s := removeEntry e s
      ttbCond 2 (if e.prov then settleResult e 2 s else s)
    else if e.prov && decide (front + 2 ^ 40 ≤ e.key) then ttbCond 3 (settleResult e 6 (removeEntry e s))
    else if e.prov then
      let q := s.ttb.queue.map fun x => if x.slot = e.slot then { x with prov := false } else x
      settleResult e 1 { s with ttb := { s.ttb with queue := q } }
    else s) s

/-- Delivery order of due entries (R235): by KEY, DP_RESET last, then by the release that accepted
them, in-band before local, then acceptance order. -/
def before (a b : Entry) : Bool :=
  let k := fun e : Entry => [e.key, if e.code = 0x18 then 1 else 0, e.turn, b2n (isLocal e)]
  decide (k a ≤ k b)

/-- The due entry that is delivered next. -/
def dueNext (s : State) : Option Entry :=
  if running s && frontValid s && !joinPending s then
    ((s.ttb.queue.filter fun e => e.due (frontNow s)).insertionSort (fun a b => before a b = true)).head?
  else none

/-- Removal and delivery of the due entry that a command names. -/
def deliverDue (code key : Nat) (argOk : Nat → Bool) (f : Entry → State → State) (s : State) : State :=
  match dueNext s with
  | some e => if e.code = code ∧ e.key = key ∧ argOk e.arg = true then f e (logItem (.due e.code e.key e.arg) (removeEntry e s)) else s
  | none => s

/-! ### Snapshots (R240) -/

/-- SNAPSHOT: lane counts now, input counts when the Points reach the key. -/
def snapshotDue (tag key : Nat) (s : State) : State :=
  let s := when (isSet R.TTB_SNAP F.TTB_SNAP_BUSY s) (ttbCond 4) s
  let s := (List.range 64).foldl (fun s i => s
    |> wr (0x1001000 + 2 * i) (rd (R.PTS_FRLATE i) s)
    |> wr (0x1001001 + 2 * i) (rd (R.PTS_FRLOST i) s)) s
  { s with ttb := { s.ttb with snapJ := some (cdiv key (cfgP s)), snapB := some (key / 40 * 40) } }
    |> setF R.TTB_SNAP F.TTB_SNAP_TAG tag
    |> incF R.TTB_SNAP F.TTB_SNAP_COUNT 1
    |> setF R.TTB_SNAP F.TTB_SNAP_KEY_LO key
    |> setF R.TTB_SNAP F.TTB_SNAP_KEY_HI (key / 2 ^ 40)
    |> setF R.TTB_SNAP F.TTB_SNAP_BUSY 1

/-- SNAPSHOT_COPY_DONE. -/
def snapshotCopyDone (s : State) : State :=
  if isSet R.TTB_SNAP F.TTB_SNAP_BUSY s && s.ttb.snapJ == none && s.ttb.snapB == none then
    flagAll R.TTB_STATUS F.TTB_STATUS_EVT 11 (ev 11 11) (setF R.TTB_SNAP F.TTB_SNAP_BUSY 0 s)
  else s

/-- An unkeyed data-plane reset ends the counting at the key: the copy takes the counts as they stand. -/
def snapshotFinish (s : State) : State :=
  let s := if s.ttb.snapB.isSome then copyIcnt 0 s else s
  let s := if s.ttb.snapJ.isSome then copyIcnt 2 (copyIcnt 1 s) else s
  { s with ttb := { s.ttb with snapJ := none, snapB := none } }

/-! ### MARK, TREF and PPS -/

def markDue (val : Nat) (s : State) : State :=
  s |> setF R.TTB_MARK F.TTB_MARK_VALUE val
    |> incF R.TTB_MARK F.TTB_MARK_COUNT 1
    |> flagAll R.TTB_STATUS F.TTB_STATUS_EVT 10 (ev 11 10)

/-- TREF_LOSS, TREF_RETURN (R225). -/
def trefLoss (s : State) : State :=
  if isSet R.TTB_STATE F.TTB_STATE_HOLDOVER s then s
  else ttbCond 8 (setF R.TTB_STATE F.TTB_STATE_HOLDOVER 1 s)

def trefReturn (s : State) : State :=
  if isSet R.TTB_STATE F.TTB_STATE_HOLDOVER s then ttbCond 9 (setF R.TTB_STATE F.TTB_STATE_HOLDOVER 0 s) else s

def ppsFault (s : State) : State := ttbCond 7 { s with ttb := { s.ttb with ppsLast := none } }

/-- TCLK runs: in every power state but Laid-up and Off (R362, Table 14.2). -/
def tclkRuns (s : State) : Bool := pstate s != 4 && pstate s != 5

/-- PPS_EDGE (R226); edges are not latched while TCLK is stopped (R362). -/
def ppsEdge (rising : Bool) (s : State) : State :=
  let sel := if isSet R.TTB_CLKCFG F.TTB_CLKCFG_PPS_EDGE s then !rising else rising
  if !isSet R.TTB_CLKCFG F.TTB_CLKCFG_PPS_EN s || !sel || !tclkRuns s then s
  else
    let t := tickNow s
    let tol := getF R.TTB_CLKCFG F.TTB_CLKCFG_PPS_TOL s
    let ok := match s.ttb.ppsLast with
      | none => true
      | some t0 => ((t : Int) - t0 - 250000000).natAbs ≤ tol
    if !ok then ppsFault s
    else { s with ttb := { s.ttb with ppsLast := some t } }
      |> set2 R.TTB_PPSTICK F.TTB_PPSTICK_PPS_LO F.TTB_PPSTICK_PPS_HI t
      |> incF R.TTB_PPSCNT F.TTB_PPSCNT_COUNT 1

/-- PPS_TIMEOUT (R226): no edge within 250,000,000 + PPS_TOL ticks of the previous one. -/
def ppsTimeout (s : State) : State :=
  match s.ttb.ppsLast with
  | some t0 =>
    if isSet R.TTB_CLKCFG F.TTB_CLKCFG_PPS_EN s && tclkRuns s
        && decide (t0 + 250000000 + getF R.TTB_CLKCFG F.TTB_CLKCFG_PPS_TOL s < tickNow s) then ppsFault s else s
  | none => s

/-! ### Epoch marks (R227-R230) -/

/-- The new mark departs from the prediction by more than TTB_EPOCHTOL ns (R229): all times in units
of 2^-32 s / f_c. -/
def epochJump (sec n48 frac : Nat) (s : State) : Bool :=
  let fc : Int := getF R.PTS_FC F.PTS_FC_FC s
  let osec : Int := getF R.TTB_EPOCH F.TTB_EPOCH_SEC s
  let ofrac : Int := getF R.TTB_EPOCH F.TTB_EPOCH_FRAC s
  let d := ((sec - osec) * 2 ^ 32 + (frac - ofrac)) * fc - ((n48 : Int) - epochN48 s) * 2 ^ 32
  let tol := getF R.TTB_EPOCHTOL F.TTB_EPOCHTOL_TOL s
  tol != 0 && decide (tol * 2 ^ 32 * fc.toNat < d.natAbs * 1000000000)

/-- The new mark replaces the old one; a latched old mark is kept for the rate. -/
def epochStore (sec n48 frac : Nat) (s : State) : State :=
  let jump := isSet R.TTB_STATE F.TTB_STATE_EPOCH_VALID s && epochJump sec n48 frac s
  let marks := if isSet R.TTB_EPOCH F.TTB_EPOCH_ETICK_OK s then some (epochN48 s, epochTick s) else s.ttb.marks
  { s with ttb := { s.ttb with marks := marks } }
    |> when jump (ttbCond 1)
    |> setF R.TTB_EPOCH F.TTB_EPOCH_SEC sec
    |> setF R.TTB_EPOCH F.TTB_EPOCH_N48_LO n48
    |> setF R.TTB_EPOCH F.TTB_EPOCH_N48_HI (n48 / 2 ^ 40)
    |> setF R.TTB_EPOCH F.TTB_EPOCH_ETICK_OK 0
    |> setF R.TTB_EPOCH F.TTB_EPOCH_FRAC frac
    |> setF R.TTB_STATE F.TTB_STATE_EPOCH_VALID 1
    |> when (!isSet R.TTB_NOMRATE F.TTB_NOMRATE_SRC s) (setF R.TTB_NOMRATE F.TTB_NOMRATE_RATE (fallbackRate s))

/-! ### The commands -/

def execTimetableTrainProcess (s : State) : Out := .next (timetableTrainProcess s)
def execAction (sigma : Nat) (code : BitVec 8) (key : BitVec 48) (arg : BitVec 32) (zero : BitVec 24)
    (s : State) : Out :=
  .next (applyRec (isAction sigma code.toNat zero.toNat (keyBody key.toNat arg.toNat) s)
    (inbandEntry sigma key.toNat code.toNat arg.toNat false) s)
def execTrigger (sigma : Nat) (desc : BitVec 8) (key : BitVec 48) (len : BitVec 32) (s : State) : Out :=
  .next (applyRec (isTrigger sigma desc.toNat (keyBody key.toNat len.toNat) s)
    (inbandEntry sigma key.toNat 0x10 (desc.toNat * 2 ^ 32 + len.toNat) true) s)
def execSethdr (i : LaneId) (set : BitVec 8) (count : BitVec 14) (t0 : BitVec 48) (span : BitVec 32)
    (s : State) : Out :=
  .next (applyRec (isSethdr i.val set.toNat count.toNat (keyBody t0.toNat span.toNat))
    (sethdr i set.toNat count.toNat t0.toNat span.toNat) s)
def execDelay (set : BitVec 8) (input : BitVec 13) (coefs : List Word) (s : State) : Out :=
  .next (applyRec (isDelay set.toNat input.toNat coefs) (delayRecord set.toNat input.toNat coefs) s)
def execPtsCswap (key : BitVec 48) (s : State) : Out :=
  .next (deliverDue 0x01 key.toNat (fun _ => true) (fun e => ptsCswapDue e.key) s)
def execPtsGswap (key : BitVec 48) (s : State) : Out :=
  .next (deliverDue 0x02 key.toNat (fun _ => true) (fun e => ptsGswapDue e.key) s)
def execTblGswap (key : BitVec 48) (s : State) : Out :=
  .next (deliverDue 0x03 key.toNat (fun _ => true) (fun e => tblGswapDue e.key) s)
def execTblDswap (key : BitVec 48) (s : State) : Out :=
  .next (deliverDue 0x04 key.toNat (fun _ => true) (fun e => tblDswapDue e.key) s)
def execSnapshot (tag : BitVec 32) (key : BitVec 48) (s : State) : Out :=
  .next (deliverDue 0x11 key.toNat (fun a => a == tag.toNat) (fun e => snapshotDue e.arg e.key) s)
def execMark (val : BitVec 32) (key : BitVec 48) (s : State) : Out :=
  .next (deliverDue 0x12 key.toNat (fun a => a == val.toNat) (fun e => markDue e.arg) s)
def execSnapshotCopyDone (s : State) : Out := .next (snapshotCopyDone s)
def execTrefLoss (s : State) : Out := .next (trefLoss s)
def execTrefReturn (s : State) : Out := .next (trefReturn s)
def execPpsEdge (rising : Bool) (s : State) : Out := .next (ppsEdge rising s)
def execPpsTimeout (s : State) : Out := .next (ppsTimeout s)

end Sys2Proof.Machine
end

