-- ==== Sys2Proof/Machine/Inspection.lean ====
section
/-!
DEFINITION. The Inspection car (R307-R314): rotation, comparison, rechecks, retirement of lines and
their substitutes, and INS_LOG.
-/
namespace Sys2Proof.Machine

def putIns (x : Inspection) (s : State) : State := { s with ins := x }

/-! ### Rotation (R308) -/

/-- C_used. -/
def cUsed (s : State) : Nat := if 1024 < cfgN s then 1024 else 256 * cdiv (cfgN s) 256

def inRot (i : Nat) (s : State) : Bool := getF R.INS_STATE F.INS_STATE_INROT s / 2 ^ i % 2 == 1

/-- The inspection columns in rotation, ascending. -/
def rotation (s : State) : List Nat := (List.range 4).filter fun i => inRot i s

/-- P_I; 0 with no column in rotation. -/
def insPeriod (s : State) : Nat :=
  let k := (rotation s).length
  if k = 0 then 0 else cdiv (cUsed s) k

/-- The registers that show rotation, spares and waiting rechecks. -/
def insShow (s : State) : State :=
  let used := fun (base : Nat → Nat) (f : Fld) => ((List.range 4).filter fun x => isSet (base x) f s).length
  let scol := used R.INS_COLMAP F.INS_COLMAP_USED
  let srow := used R.INS_ROWMAP F.INS_ROWMAP_USED
  s |> setF R.INS_STATE F.INS_STATE_PERIOD (insPeriod s)
    |> setF R.INS_STATE F.INS_STATE_RECHECK s.ins.run.length
    |> setF R.INS_STATE F.INS_STATE_SCOL scol
    |> setF R.INS_STATE F.INS_STATE_SROW srow
    |> setF R.INS_STATE F.INS_STATE_PEND (Nat.min 7 s.ins.wait.length)

/-- Position counter of an inspection column. -/
def insPos (i : Nat) (s : State) : Nat := s.ins.pos.get (fun _ => 0) i

/-- The active column that inspection column `i` shadows in rotation. -/
def shadowed (i : Nat) (s : State) : Option Nat :=
  let per := insPeriod s
  let o := ((rotation s).idxOf i)
  let c := o * per + insPos i s % per
  if inRot i s && c < cUsed s then some c else none

/-! ### The log (INS_LOG) -/

/-- One INS_LOG record and the count of mismatch records. -/
def insLog (kind line row insp detect clean : Nat) (s : State) : State :=
  let q := getF R.INS_LOGPOS F.INS_LOGPOS_NEXT s
  let a := R.INS_LOG + 4 * (q % 16)
  s |> wr a (BitVec.ofNat 40 (kind + line * 2 ^ 4 + row * 2 ^ 14 + insp * 2 ^ 24
        + b2n (!(injs s).isEmpty) * 2 ^ 26))
    |> wr (a + 1) (BitVec.ofNat 40 detect)
    |> wr (a + 2) (BitVec.ofNat 40 clean)
    |> wr (a + 3) (BitVec.ofNat 40 q)
    |> setF R.INS_LOGPOS F.INS_LOGPOS_NEXT (q + 1)

def cleanOf (c : Nat) (s : State) : Nat := s.ins.lastClean.get (fun _ => 0) c

def setClean (c g : Nat) (s : State) : State :=
  putIns { s.ins with lastClean := s.ins.lastClean.set (fun _ => 0) c g } s

/-! ### Lines and their substitutes (R312) -/

/-- The physical column that carries active column `c`: its newest substitute, else itself. -/
def physCol (c : Nat) (s : State) : Nat :=
  match ((List.range 8).filter fun x => isSet (R.INS_COLMAP x) F.INS_COLMAP_USED s
      && getF (R.INS_COLMAP x) F.INS_COLMAP_INDEX s == c).getLast? with
  | some x => 1024 + x
  | none => c

def physRow (r : Nat) (s : State) : Nat :=
  match ((List.range 4).filter fun x => isSet (R.INS_ROWMAP x) F.INS_ROWMAP_USED s
      && getF (R.INS_ROWMAP x) F.INS_ROWMAP_INDEX s == r).getLast? with
  | some x => 1024 + x
  | none => r

/-- The first free spare of a kind. -/
def freeSpare (isRow : Bool) (s : State) : Option Nat :=
  (List.range 4).find? fun x =>
    !(if isRow then isSet (R.INS_ROWMAP x) F.INS_ROWMAP_USED s else isSet (R.INS_COLMAP x) F.INS_COLMAP_USED s)
      && !(s.ins.subst.any fun t => t.isRow == isRow && t.spare == x)

/-- The substitute a line takes: a spare, or for a column the lowest inspection column in rotation. -/
def substitute (isRow : Bool) (s : State) : Option Nat :=
  match freeSpare isRow s with
  | some x => some x
  | none =>
    if isRow then none
    else ((rotation s).find? fun i => !(s.ins.subst.any fun t => !t.isRow && t.spare == 4 + i)).map (4 + ·)

/-- A persistent injection of code 0x30, 0x31 or 0x32 is in force (R320). -/
def trialNow (s : State) : Bool := s.chk.force.any Inj.stuck

/-- A line is to be retired (R311, R312, R314). -/
def retireLine (isRow : Bool) (line row insp detect : Nat) (s : State) : State :=
  if !isSet R.INS_CTRL F.INS_CTRL_AUTO_RETIRE s || s.ins.subst.any (fun t => t.isRow == isRow && t.line == line)
  then s
  else
    let clean := if isRow then (Config.freeWord s.free).toNat else cleanOf line s
    let s := if isRow then { s with free := s.free + 1 } else s
    match substitute isRow s with
    | some x =>
      putIns { s.ins with subst := s.ins.subst ++ [⟨isRow, x, line, trialNow s⟩] } s
        |> insEvent (if isRow then 4 else 3)
        |> insLog (if isRow then 4 else 3) line row insp detect clean
    | none =>
      if s.ins.worn.any (fun x => x.1 == isRow && x.2.1 == line) then s
      else putIns { s.ins with worn := s.ins.worn ++ [(isRow, line, trialNow s)] } s
        |> insEvent 6
        |> insLog 6 line row insp detect clean

/-- An inspection column leaves rotation (8:5); with the last one gone 8:6 is raised. -/
def leaveRotation (i : Nat) (s : State) : State :=
  let s := insEvent 5 (setBit R.INS_STATE F.INS_STATE_INROT i false s)
  when (rotation s).isEmpty (insEvent 6) s

/-- An inspection column has disagreed twice. -/
def retireInspection (i col row detect : Nat) (s : State) : State :=
  if isSet R.INS_CTRL F.INS_CTRL_AUTO_RETIRE s then
    insLog 5 col row i detect (cleanOf col s) (leaveRotation i s)
  else s

/-- Trial retirements end (R320). -/
def restoreTrials (s : State) : State :=
  let s := (List.range 8).foldl (fun s x =>
    if isSet (R.INS_COLMAP x) F.INS_COLMAP_TRIAL s then
      let s := wr (R.INS_COLMAP x) 0#40 s
      if 4 ≤ x then setBit R.INS_STATE F.INS_STATE_INROT (x - 4) true s else s
    else s) s
  (List.range 4).foldl (fun s x =>
    if isSet (R.INS_ROWMAP x) F.INS_ROWMAP_TRIAL s then wr (R.INS_ROWMAP x) 0#40 s else s) s

/-- The lines whose trial retirement is in service. -/
def trialLines (s : State) : List (Bool × Nat) :=
  ((List.range 8).filter fun x => isSet (R.INS_COLMAP x) F.INS_COLMAP_TRIAL s).map
      (fun x => (false, getF (R.INS_COLMAP x) F.INS_COLMAP_INDEX s))
    ++ ((List.range 4).filter fun x => isSet (R.INS_ROWMAP x) F.INS_ROWMAP_TRIAL s).map
      (fun x => (true, getF (R.INS_ROWMAP x) F.INS_ROWMAP_INDEX s))

/-- From the dwell that begins now on, other physical lines carry `xs` (R311): they are worn no more. -/
def markSince (xs : List (Bool × Nat)) (s : State) : State :=
  let other := fun (y : Bool × Nat × Nat) => !xs.contains (y.1, y.2.1)
  putIns { s.ins with since := s.ins.since.filter other ++ xs.map (fun x => (x.1, x.2, s.jct.g)),
                      worn := s.ins.worn.filter fun y => !xs.contains (y.1, y.2.1) } s

/-- LINE_SUBSTITUTION: what the tile-switch gap before a dwell does. -/
def substituteLines (s : State) : State :=
  let s := if s.ins.restore then
      let s := markSince (trialLines s) s
      restoreTrials (putIns { s.ins with restore := false, subst := s.ins.subst.filter (!·.trial),
                                         worn := s.ins.worn.filter (!·.2.2) } s)
    else s
  let ts := s.ins.subst
  let s := ts.foldl (fun s t =>
    let w := BitVec.ofNat 40 (t.line + 2 ^ 10 + b2n t.trial * 2 ^ 11)
    if t.isRow then wr (R.INS_ROWMAP t.spare) w s
    else
      let s := wr (R.INS_COLMAP t.spare) w s
      if 4 ≤ t.spare then leaveRotation (t.spare - 4) s else s) s
  markSince (ts.map fun t => (t.isRow, t.line)) (putIns { s.ins with subst := [] } s)

/-! ### Rechecks (R310) -/

/-- The second column of a recheck: the lowest in rotation that is not taken, else the first itself. -/
def secondColumn (i : Nat) (taken : List Nat) (s : State) : Option Nat :=
  let others := (rotation s).filter (· != i)
  if others.isEmpty then some i else others.find? fun x => !taken.contains x

/-- The two columns of a recheck when its dwell starts: those a repeat must use, else the one that found the mismatch and
the lowest other. Where such a column has left rotation, the lowest in rotation takes its part (DESIGN CHOICE, log 89). -/
def recheckColumns (w : Recheck) (taken : List Nat) (s : State) : Option (Nat × Nat) :=
  let free := fun i => inRot i s && !taken.contains i
  match w.pair with
  | some (a, b) => if inRot a s && inRot b s then (if free a && free b then some (a, b) else none) else base free
  | none => base free
where base (free : Nat → Bool) : Option (Nat × Nat) :=
  let i := if inRot w.insp s then w.insp else (rotation s).headD w.insp
  if free i then (secondColumn i taken s).map (i, ·) else none

/-- What the inspection columns in rotation shadow is fixed for the dwell that begins (R308). -/
def startShadows (s : State) : State :=
  putIns { s.ins with shadow := (rotation s).filterMap fun i => (shadowed i s).map (i, ·) } s

/-- At most two rechecks start with a dwell, in ascending order of column; one whose columns are taken
waits. -/
def startRechecks (s : State) : State :=
  if !isSet R.INS_CTRL F.INS_CTRL_EN s then putIns { s.ins with run := [] } s else
  let ws := s.ins.wait.insertionSort fun a b => a.col ≤ b.col
  let (run, rest) := ws.foldl (fun (run, rest) w =>
    let taken := run.flatMap fun (x : Recheck × Nat × Nat) => [x.2.1, x.2.2]
    if run.length < 2 then
      match recheckColumns w taken s with
      | some y => (run ++ [(w, y)], rest)
      | none => (run, rest ++ [w])
    else (run, rest ++ [w])) (([] : List (Recheck × Nat × Nat)), ([] : List Recheck))
  putIns { s.ins with wait := rest, run := run, raised := [] } s

/-- Interval sums: what the cell of active row `r` and active column `c` holds in physical column `p`. -/
abbrev Cells := Nat → Nat → Nat → Int × Int

/-- The lowest row in which physical columns `p` and `q` disagree as carriers of column `c` (R309). -/
def disagreeRow (cell : Cells) (rows c p q : Nat) : Option Nat :=
  (List.range rows).find? fun r => cell r c p != cell r c q

/-- The pairs of inspection columns in rotation, in order. -/
def rotationPairs (s : State) : List (Nat × Nat) :=
  (rotation s).flatMap fun a => ((rotation s).filter fun b => decide (a < b)).map (a, ·)

/-- The pair after {i, j}, round the pairs in rotation (DESIGN CHOICE, log 89). -/
def nextPair (i j : Nat) (s : State) : Nat × Nat :=
  let ps := rotationPairs s
  (ps.rotate (ps.idxOf (Nat.min i j, Nat.max i j) + 1)).headD (i, j)

/-- RECHECK_OUTCOME (Table 12.3) for one recheck. -/
def recheckOutcome (cell : Cells) (rows g : Nat) (s : State) (x : Recheck × Nat × Nat) : State :=
  let (w, i, i2) := x
  let c := w.col
  let ci := (disagreeRow cell rows c (physCol c s) (1028 + i)).isSome
  let cj := (disagreeRow cell rows c (physCol c s) (1028 + i2)).isSome
  let ij := (disagreeRow cell rows c (1028 + i) (1028 + i2)).isSome
  let transient := fun s => s
    |> insEvent 1 |> incF R.INS_COUNT F.INS_COUNT_TRANSIENT 1
    |> insLog 1 c w.row w.insp g (cleanOf c s) |> setClean c g
  if i = i2 then (if ci then retireLine false c w.row w.insp g s else transient s)
  else if cj && !ij then retireLine false c w.row w.insp g s
  else if !cj && ci then retireInspection i c w.row g s
  else if !cj || !ci then transient s
  else
    let s := s |> insEvent 2 |> satF R.INS_COUNT F.INS_COUNT_AMBIG 1 |> insLog 2 c w.row w.insp g (cleanOf c s)
    if 1 ≤ w.tries then retireLine false c w.row w.insp g s
    else putIns { s.ins with wait := s.ins.wait ++ [{ w with pair := some (nextPair i i2 s), tries := 1 }] } s

/-- The comparison of one column in rotation with the active column that it shadows (R309). -/
def rotationCompare (cell : Cells) (rows g : Nat) (final : Bool) (s : State) (x : Nat × Nat) : State × Bool :=
  let (i, c) := x
  if s.ins.raised.contains (i, c) then (s, false)
  else match disagreeRow cell rows c (physCol c s) (1028 + i) with
    | none => (if final then setClean c g s else s, false)
    | some r =>
      let s := s |> insEvent 0 |> incF R.INS_COUNT F.INS_COUNT_MISMATCH 1 |> insLog 0 c r i g (cleanOf c s)
      (putIns { s.ins with raised := s.ins.raised ++ [(i, c)],
                           wait := s.ins.wait ++ [{ col := c, insp := i, row := r, tries := 0 }] } s, true)

/-- INSPECTION_COMPARE at a boundary, over `rows` rows: the state, and whether the dwell becomes SUSPECT. -/
def inspect (cell : Cells) (rows g : Nat) (first final : Bool) (s : State) : State × Bool :=
  if !isSet R.INS_CTRL F.INS_CTRL_EN s then (s, false)
  else
    let run := s.ins.run
    let busy := run.flatMap fun x => [x.2.1, x.2.2]
    let bad := run.any fun (w, i, i2) =>
      (disagreeRow cell rows w.col (physCol w.col s) (1028 + i)).isSome
        || (disagreeRow cell rows w.col (physCol w.col s) (1028 + i2)).isSome
    let s := if first then run.foldl (recheckOutcome cell rows g) s else s
    let (s, hit) := (s.ins.shadow.filter fun x => inRot x.1 s && !busy.contains x.1).foldl (fun (s, h) x =>
      let (s, b) := rotationCompare cell rows g final s x
      (s, h || b)) (s, false)
    (insShow s, bad || hit)

/-- The end of a dwell: position counters advance, but for the columns of a recheck. -/
def insDwellEnd (s : State) : State :=
  let busy := s.ins.run.flatMap fun x => [x.2.1, x.2.2]
  let pos := (rotation s).foldl (fun p i =>
    if busy.contains i then p else p.set (fun _ => 0) i (p.get (fun _ => 0) i + 1)) s.ins.pos
  insShow (putIns { s.ins with pos := pos, run := [], raised := [] } s)

/-- In the dwell of counter `g` the line was still carried by one that has been retired since. -/
def oldLine (g : Nat) (x : Bool × Nat) (s : State) : Bool :=
  s.ins.subst.any (fun t => t.isRow == x.1 && t.line == x.2)
    || s.ins.since.any fun y => y.1 == x.1 && y.2.1 == x.2 && decide (g < y.2.2)

/-- LINE_RETIRE_PARITY (R311) at the end of a dwell of `rows` fed rows and `cols` fed columns. Errors of a line that has
been retired already count no more. -/
def parityEnd (errs : List (Bool × Nat)) (rows cols g : Nat) (s : State) : State :=
  let errs := errs.dedup.filter fun x => !oldLine g x s
  let fed := fun (x : Bool × Nat) => decide (x.2 < (if x.1 then rows else cols))
  let twice := errs.filter fun x => s.ins.parBad.contains x
  let bad := errs ++ s.ins.parBad.filter fun x => !fed x
  let s := twice.foldl (fun s x => retireLine x.1 x.2 (if x.1 then x.2 else 0) 0 g s) s
  insShow (putIns { s.ins with parBad := bad.dedup.filter fun x => !oldLine g x s } s)

/-- A worn line without a substitute is fed in this dwell. -/
def feedsWorn (rows cols : Nat) (s : State) : Bool :=
  s.ins.worn.any fun x => decide (x.2.1 < (if x.1 then rows else cols))

end Sys2Proof.Machine
end

