-- ==== Sys2Proof/Machine/Junction.lean ====
section
/-!
DEFINITION. Junction and Yard (06): the dwell schedule (R157, R158, R171-R174), dwells, promotion
sweeps and the Yard (R151-R165), forced drains (R179, R180), drain rows, pieces and manifests
(R166-R168, R176-R178, R192-R196), and the Platform switch (R17, R128).
-/
namespace Sys2Proof.Machine

def putJct (x : Junction) (s : State) : State := { s with jct := x }

/-- A Junction condition with its event (Table 6.6): JCT_STATUS bit b, event 7:(4b + 3). -/
def jctCond (b : Nat) (s : State) : State := flagAll R.JCT_STATUS ⟨0, 0, 8⟩ b (ev 7 (4 * b + 3)) s

/-! ### Tiles (R155, R157, R158) -/

def nbOf (n : Nat) : Nat := cdiv n 1024

def pairTile (x y : Nat) : Nat × Nat := (Nat.max x y, Nat.min x y)

/-- The tile order of R158 for `nb` input blocks. -/
def tileOrder (nb : Nat) : List (Nat × Nat) :=
  let h := (nb - 1) / 2
  (List.range nb).flatMap fun d =>
    pairTile d d :: (List.range h).map (fun x => pairTile d ((d + x + 1) % nb))
      ++ (if nb % 2 = 0 ∧ d % 2 = 0 then [pairTile (d / 2) (d / 2 + nb / 2)] else [])

def tileCount (nb : Nat) : Nat := nb * (nb + 1) / 2

/-- Fed lines of an input block (R155). -/
def blockLines (b : Nat) (s : State) : Nat := Nat.min 1024 (cfgN s - 1024 * b)

/-- Districts needed (R13). -/
def districtsNeeded (n : Nat) : Nat :=
  if 1024 < n then 0xFFFF
  else
    let q := cdiv n 256
    ((List.range 16).filter fun k => k / 4 < q && k % 4 < q).foldl (fun a k => a + 2 ^ k) 0

def districtsReady (s : State) : Bool :=
  let need := districtsNeeded (cfgN s)
  getF R.JCT_DISTRICT F.JCT_DISTRICT_READY s &&& need == need

/-! ### Rakes (R170-R174) -/

def rakeLen (g : Nat) (s : State) : Nat := getF (R.JCT_RAKE g) F.JCT_RAKE_DLEN s

/-- Fine channel `ch` belongs to rake `g`. -/
def inMask (g ch : Nat) (s : State) : Bool :=
  getF (R.JCT_RMASK (128 * g + ch / 32)) F.JCT_RMASK_MASK s / 2 ^ (ch % 32) % 2 == 1

def spansOf (g : Nat) (s : State) : List (Nat × Option Nat) := s.jct.spans.get (fun _ => []) g

def setSpans (g : Nat) (x : List (Nat × Option Nat)) (s : State) : State :=
  putJct { s.jct with spans := s.jct.spans.set (fun _ => []) g x } s

/-- The j_open of the opening of rake `g` whose dumps include one that starts at `j0` (R173, R174). -/
def openAt (g j0 : Nat) (s : State) : Option Nat :=
  ((spansOf g s).find? fun x => x.1 ≤ j0 && (match x.2 with | none => true | some c => decide (j0 < c))).map (·.1)

def rakeOpen (g j : Nat) (s : State) : State :=
  setSpans g (spansOf g s ++ [(j, none)]) s
    |> setF (R.JCT_RAKE g) F.JCT_RAKE_OPEN 1
    |> setF (R.JCT_RAKE g) F.JCT_RAKE_JOPEN j
    |> setF (R.JCT_RAKE g) F.JCT_RAKE_DUMPS 0

/-- Rakes with AUTO set open at a data-plane reset (R173). -/
def autoOpen (jp : Nat) (s : State) : State :=
  (List.range 8).foldl (fun s g =>
    if isSet (R.JCT_RAKE g) F.JCT_RAKE_DEF s && isSet (R.JCT_RAKE g) F.JCT_RAKE_AUTO s
        && !isSet (R.JCT_RAKE g) F.JCT_RAKE_OPEN s then rakeOpen g jp s else s) s

/-- Every rake closes at a data-plane reset (R180). -/
def closeRakes (s : State) : State :=
  let s := (List.range 8).foldl (fun s g => setF (R.JCT_RAKE g) F.JCT_RAKE_OPEN 0 s) s
  putJct { s.jct with spans := [] } s

/-- A RAKE_OPEN that is due (R173). -/
def rakeOpenDue (g key : Nat) (s : State) : State :=
  if !isSet (R.JCT_RAKE g) F.JCT_RAKE_DEF s || isSet (R.JCT_RAKE g) F.JCT_RAKE_OPEN s then jctCond 3 s
  else
    let jp := originNow s
    let j := Nat.max jp (cdiv key (cfgP s))
    let d := rakeLen g s
    rakeOpen g (jp + cdiv (j - jp) d * d) s

/-- A RAKE_CLOSE that is due (R174). -/
def rakeCloseDue (g key : Nat) (s : State) : State :=
  if !isSet (R.JCT_RAKE g) F.JCT_RAKE_OPEN s then jctCond 3 s
  else
    let c := cdiv key (cfgP s)
    setSpans g ((spansOf g s).map fun x => if x.2 = none then (x.1, some c) else x) s
      |> setF (R.JCT_RAKE g) F.JCT_RAKE_OPEN 0

/-! ### The schedule of a Platform (R171) -/

def markLast : List Slot → List Slot
  | [] => []
  | x :: t => { x with last := !(t.any fun y => y.rake == x.rake && y.j0 == x.j0) } :: markLast t

def schedule (per : Nat) (s : State) : List Slot :=
  let sl := platLen s
  let order := (tileOrder (nbOf (cfgN s))).zipIdx
  markLast ((List.range (cfgNch s)).flatMap fun ch =>
    (List.range 8).flatMap fun g =>
      let d := rakeLen g s
      if !inMask g ch s || d = 0 || spansOf g s = [] then []
      else (List.range (sl / d)).flatMap fun u =>
        let j0 := per + u * d
        match openAt g j0 s with
        | none => []
        | some jo => order.map fun (ab, k) => ⟨ch, g, k, ab.1, ab.2, j0, d, (j0 - jo) / d, per, false⟩)

/-! ### Records (R176-R178) -/

/-- A dwell of this period is skipped: a write of the period was discarded for its channel (R146). -/
def heldSlot (x : Slot) (s : State) : Bool := s.sdg.disc.any fun y => y.1 == x.per && y.2.1 == x.ch

/-- A record without visibilities. A held dwell carries CAPTURE alone, also when a Platform overrun emits it (DESIGN CHOICE, log 88). -/
def emptyRec (x : Slot) (capture : Bool) (s : State) : Rec :=
  { slot := x, road := none, count := 0, partial_ := !capture, suspect := false, visSat := false,
    capture := capture, counts := if x.a = x.b then List.replicate (blockLines x.a s) (0, 0) else [] }

/-- DRAIN_RECORD_HANDOVER (R176), with the dump counted when this is its last record. -/
def handRec (s : State) (r : Rec) : State :=
  let s := putJct { s.jct with recs := s.jct.recs ++ [r] } s
  when r.slot.last (incF (R.JCT_RAKE r.slot.rake) F.JCT_RAKE_DUMPS 1) s

/-- `rs` follow the last of the dwells. -/
def addThen (rs : List Rec) : List Dwell → List Dwell
  | [] => []
  | [w] => [{ w with then_ := w.then_ ++ rs }]
  | w :: t => w :: addThen rs t

/-- Records without visibilities follow the newest dwell still in the array, and leave with its record. -/
def handEmpty (rs : List Rec) (s : State) : State :=
  match s.jct.cur with
  | some w => putJct { s.jct with cur := some { w with then_ := w.then_ ++ rs } } s
  | none => if s.jct.flush.isEmpty then rs.foldl handRec s else putJct { s.jct with flush := addThen rs s.jct.flush } s

/-- The dwells of the Platform not yet started are emitted with count 0 (R17). -/
def emptyRest (s : State) : State :=
  handEmpty (s.jct.todo.map fun x => emptyRec x (heldSlot x s) s) (putJct { s.jct with todo := [] } s)

/-- A forced drain (R179): without a dwell in progress it has no effect. -/
def forceJunction (s : State) : State :=
  if s.jct.cur.isSome then putJct { s.jct with force := true } s else s

/-! ### Dwells (R15, R16, R169, R178, R182) -/

/-- The road is still in use: its last dwell has not flushed or its record has not drained (R15). -/
def roadBusy (road : Nat) (s : State) : Bool :=
  s.jct.flush.any (fun w => w.road == road) || s.jct.recs.any (fun r => r.road == some road)

/-- The pacing instant of the next dwell has come (R16). -/
def paced (s : State) : Bool :=
  decide (s.jct.idx * getF R.JCT_PACE F.JCT_PACE_SLOT s ≤ (tickNow s - s.jct.t0) * 256)

def showDraining (s : State) : State :=
  setF R.JCT_STATE F.JCT_STATE_DRAINING (b2n (s.jct.recs.any fun r => r.road.isSome)) s

/-- The record of the dwell becomes SUSPECT (R178), with the event when it was not. -/
def suspectDwell (w : Dwell) (s : State) : Dwell × State :=
  ({ w with suspect := true }, if w.suspect then s else jctCond 5 s)

/-- Skipped dwells at the head of the schedule are emitted with CAPTURE (R178). The global dwell counter counts the dwells
that the array runs: not the skipped ones, nor those emitted with count 0 (DESIGN CHOICE, log 87). -/
def skipHeld : Nat → State → State
  | 0, s => s
  | fuel + 1, s =>
    match s.jct.todo with
    | [] => s
    | x :: rest =>
      if heldSlot x s then
        skipHeld fuel (handEmpty [emptyRec x true s]
          (putJct { s.jct with todo := rest, idx := s.jct.idx + 1 } s))
      else s

/-- The next dwell starts. -/
def beginDwell (x : Slot) (rest : List Slot) (s : State) : State :=
  let s := startRechecks (startShadows (substituteLines s))
  let road := s.jct.g % 2
  let counts := if x.a = x.b then List.replicate (blockLines x.a s) (0, 0) else []
  let w : Dwell := { slot := x, g := s.jct.g, road := road, done := 0, counts := counts }
  let (w, s) := if feedsWorn (blockLines x.a s) (blockLines x.b s) s then suspectDwell w s else (w, s)
  putJct { s.jct with
      todo := rest, idx := s.jct.idx + 1, cur := some w, g := s.jct.g + 1, force := false,
      late := false, cycles := [], carry := [], shadow := [], corr := [], corrEvt := [] } s
    |> set2 R.JCT_DWELL F.JCT_DWELL_G_LO F.JCT_DWELL_G_HI w.g
    |> setF R.JCT_STATE F.JCT_STATE_ROAD road
    |> setF R.JCT_STATE F.JCT_STATE_BUSY 1
    |> setF R.JCT_STATE F.JCT_STATE_TILE x.k
    |> setF R.JCT_STATE F.JCT_STATE_FCH x.ch
    |> setF R.JCT_STATE F.JCT_STATE_RAKE x.rake
    |> insShow

/-- DWELL_START. -/
def dwellStart (s : State) : State :=
  if !running s || !isSet R.JCT_CTRL F.JCT_CTRL_EN s || s.jct.cur.isSome || !districtsReady s then s
  else
    let s := skipHeld s.jct.todo.length s
    match s.jct.todo with
    | [] => s
    | x :: rest =>
      if !paced s then s
      else if roadBusy (s.jct.g % 2) s then
        if s.jct.late then s else jctCond 1 (putJct { s.jct with late := true } s)
      else beginDwell x rest s

/-! ### Feed parity (R156, R311) -/

/-- A parity error of line `line` seen by district `k` in dwell `w`. -/
def parityIn (k : Nat) (isRow : Bool) (line : Nat) (w : Dwell) (s : State) : Dwell × State :=
  let s := setF R.JCT_STATUS F.JCT_STATUS_PARITY 1 s
  let s := raise (ev 7 (4 * k + b2n (!isRow))) s
  let w := { w with errs := w.errs ++ [(isRow, line)], fresh := w.fresh ++ [(isRow, line, k)] }
  suspectDwell w s

/-- The line is fed in dwell `w`. -/
def fedIn (isRow : Bool) (line : Nat) (w : Dwell) (s : State) : Bool :=
  decide (line < blockLines (if isRow then w.slot.a else w.slot.b) s)

/-- FEED_PARITY_ERROR: district `k` finds an error in its line `off`. -/
def feedParity (k : Nat) (isRow : Bool) (off : Nat) (s : State) : State :=
  let line := 256 * (if isRow then k / 4 else k % 4) + off
  if districtsNeeded (cfgN s) / 2 ^ k % 2 = 0 then s
  else match s.jct.cur, s.jct.flush with
    | some w, _ =>
      if fedIn isRow line w s then
        let (w, s) := parityIn k isRow line w s
        putJct { s.jct with cur := some w } s
      else s
    | none, w :: rest =>
      if fedIn isRow line w s then
        let (w, s) := parityIn k isRow line w s
        putJct { s.jct with flush := w :: rest } s
      else s
    | none, [] => s

/-! ### Cell sums (R151, R152) -/

def product (x y : Byte) : Int × Int :=
  if isValid x && isValid y then
    (reOf x * reOf y + imOf x * imOf y, imOf x * reOf y - reOf x * imOf y)
  else (0, 0)

def addVis (x y : Int × Int) : Int × Int := (x.1 + y.1, x.2 + y.2)

def dotVis : List Byte → List Byte → Int × Int → Int × Int
  | x :: xs, y :: ys, acc => dotVis xs ys (addVis acc (product x y))
  | _, _, acc => acc

/-- The samples of an input over `n` steps from step `j` (R153). -/
def feedLine (f i j n : Nat) (s : State) : List Byte := (List.range n).map fun x => junctionSample f i (j + x) s

/-- Bits of a 20-bit accumulator inverted. -/
def flip20 (m : Nat) (x : Int) : Int := sx 20 (fieldOf 20 x ^^^ m)

/-- Both components of a 20-bit register. -/
def wrap20 (v : Int × Int) : Int × Int := (flip20 0 v.1, flip20 0 v.2)

/-- The masks (real, imaginary) of a physical cell that the upsets and the injections of this interval make (Table 12.1,
Table 12.7). -/
def flipMasks (ups : List ArrayUpset) (s : State) : Nat → Nat → Nat × Nat := fun pr pc =>
  let a := ups.foldl (fun (m : Nat × Nat) u => match u with
    | .cell r c imag b => if r = pr ∧ c = pc then
        (if imag then (m.1, m.2 ^^^ 2 ^ b.val) else (m.1 ^^^ 2 ^ b.val, m.2)) else m
    | _ => m) (0, 0)
  (injs s).foldl (fun (m : Nat × Nat) x =>
    if x.code = 0x32 ∧ x.unit % 1024 = pr ∧ x.unit / 1024 = pc then
      (if x.arg / 32 % 2 = 1 then (m.1, m.2 ^^^ 2 ^ (x.arg % 32)) else (m.1 ^^^ 2 ^ (x.arg % 32), m.2)) else m) a

/-- What a parity error of this interval adds to cell (r, c). -/
def feedExtra (w : Dwell) (jb r c : Nat) : Int × Int :=
  if w.fresh.any fun x => if x.1 then x.2.1 == r && x.2.2 % 4 ≤ c / 256 else x.2.1 == c && x.2.2 / 4 ≤ r / 256 then
    Config.feedError w.g jb (1024 * r + c)
  else (0, 0)

/-! ### The Yard (R160-R165) -/

def visKey (road r c : Nat) : Nat := 2 ^ 20 * road + 1024 * r + c
def cwKey (road r q : Nat) : Nat := 2 ^ 19 * road + 512 * r + q

def visAt (road r c : Nat) (s : State) : Int × Int := s.jct.yard.get (fun _ => (0, 0)) (visKey road r c)

def putVis (road r c : Nat) (v : Int × Int) (s : State) : State :=
  putJct { s.jct with yard := s.jct.yard.set (fun _ => (0, 0)) (visKey road r c) v } s

/-- The error pattern of a stored codeword. -/
def yardMask (road r q : Nat) (s : State) : Nat := s.jct.yardErr.get (fun _ => 0) (cwKey road r q)

def setYardMask (road r q m : Nat) (s : State) : State :=
  putJct { s.jct with yardErr := s.jct.yardErr.set (fun _ => 0) (cwKey road r q) m } s

/-- Symbols in error in a codeword. -/
def yardErrs (road r q : Nat) (s : State) : Nat := wrongSymbols 26 (yardMask road r q s)

/-- The 20 data bytes of codeword (r, q) as four words (R162): real and imaginary part of visibility (r, 2q), then of
(r, 2q + 1). -/
def yardWords (road r q : Nat) (s : State) : List Word :=
  fullPayload [visAt road r (2 * q) s, visAt road r (2 * q + 1) s]

/-- The 26 bytes that bank q holds at word 1024 road + r: the Y-shape codeword with its errors (R162, R163). -/
def yardCell (road r q : Nat) (s : State) : List Nat :=
  List.zipWith (· ^^^ ·) (codeword 6 (yardWords road r q s)) (digits 8 26 (yardMask road r q s))

/-- What the decoder answers for a codeword: any three wrong symbols are corrected (R163). -/
def yardDecode (road r q : Nat) (s : State) : Option (List Word) :=
  codeRead 6 3 (yardWords road r q s) (yardMask road r q s)

def poisoned (road r q : Nat) (s : State) : Bool := s.jct.poison.get (fun _ => false) (cwKey road r q)

def setPoison (road r q : Nat) (p : Bool) (s : State) : State :=
  let x := s.jct.poison.set (fun _ => false) (cwKey road r q) p
  setF R.YRD_POISON F.YRD_POISON_COUNT x.length (putJct { s.jct with poison := x } s)

/-- A visibility as a read of the Yard delivers it: zero when its codeword is poisoned or uncorrectable (R165, R184). -/
def visRead (road r c : Nat) (s : State) : Int × Int :=
  if poisoned road r (c / 2) s then (0, 0)
  else if yardMask road r (c / 2) s = 0 then visAt road r c s
  else match yardDecode road r (c / 2) s with
    | none => (0, 0)
    | some ws => (sx 40 (ws.getD (2 * (c % 2)) 0#40).toNat, sx 40 (ws.getD (2 * (c % 2) + 1) 0#40).toNat)

/-- A promotion or drain read of a codeword (R165, Table 6.7): corrections are counted, an uncorrectable
codeword is poisoned. One that is poisoned already is read, counted and reported like any other. -/
def yardRead (road r q : Nat) (s : State) : State :=
  let g := q / 8
  if yardMask road r q s = 0 then s
  else if (yardDecode road r q s).isSome then
    let n := s.jct.corr.get (fun _ => 0) g + 1
    let lim := getF R.YRD_CFG F.YRD_CFG_CORR_LIM s
    let past := lim != 0 && decide (lim < n) && !s.jct.corrEvt.contains g
    putJct { s.jct with corr := s.jct.corr.set (fun _ => 0) g n,
                        corrEvt := if past then g :: s.jct.corrEvt else s.jct.corrEvt } s
      |> satF (R.YRD_ECC + 2 * g) F.YRD_ECC_CORR 1
      |> when past (raise (ev 9 g))
  else
    setPoison road r q true s
      |> satF (R.YRD_ECC + 2 * g) F.YRD_ECC_UNCORR 1
      |> setF R.JCT_STATUS F.JCT_STATUS_YARD_UNCORR 1
      |> raise (ev 9 g)

/-- ±(2^39 − 1) (R164). -/
def sat40 (x : Int) : Int := clampI (-(2 ^ 39 - 1)) (2 ^ 39 - 1) x

def satVis (v : Int × Int) : Int × Int := (sat40 v.1, sat40 v.2)

/-- The error pattern that strikes the codeword just written: flipped stored bits, and an injection. -/
def writeUpset (road r q : Nat) (ups : List ArrayUpset) (s : State) : Nat × State :=
  let a := ups.foldl (fun a u => match u with
    | .yard r' q' bs => if r' = r ∧ q' = q then bs.foldl (fun m b => m ^^^ 2 ^ (207 - b.val)) a else a
    | _ => a) 0
  let (m, s) := injErrors 26 (fun x => x.code == 0x40 && x.unit % 512 == q && x.unit / 512 == road) s
  (a ^^^ m, s)

def residueHit41 (q : Nat) (x : Inj) : Bool := x.code == 0x41 && x.unit == q

/-- The residue check of the promotion adder fails in a component that did not saturate (R315); `sats` says which of the
codeword's four did. -/
def residueUpset (r q : Nat) (sats : List Bool) (ups : List ArrayUpset) (s : State) : Bool :=
  ups.any (fun u => match u with | .residue r' q' p => r' == r && q' == q && !sats.getD p.val false | _ => false)
    || ((findInj (residueHit41 q) s).isSome && sats.contains false)

/-- Codeword (r, q) receives `x0` and `x1` at a boundary; answers which of its two visibilities saturated. -/
def promote (road r q : Nat) (first : Bool) (x0 x1 : Int × Int) (ups : List ArrayUpset) (s : State) :
    State × Bool × Bool :=
  let s := if first then setPoison road r q false s else yardRead road r q s
  let old := fun c => if first then (0, 0) else visRead road r c s
  let n0 := addVis (old (2 * q)) x0
  let n1 := addVis (old (2 * q + 1)) x1
  let sats := [n0.1, n0.2, n1.1, n1.2].map fun x => x != sat40 x
  let (m, s) := writeUpset road r q ups s
  let s := s |> putVis road r (2 * q) (satVis n0) |> putVis road r (2 * q + 1) (satVis n1) |> setYardMask road r q m
  let s := if residueUpset r q sats ups s then
      insEvent 7 (setPoison road r q true (useInj (residueHit41 q) s))
    else s
  (s, decide (satVis n0 ≠ n0), decide (satVis n1 ≠ n1))

/-! ### PROMOTION_SWEEP (R159, R160, R168) -/

/-- The next boundary of a dwell (R159). -/
def nextBoundary (w : Dwell) : Nat :=
  if w.done = 0 then 1024 + w.slot.d % 1024 else w.done + 1024

def shadowOf (r c : Nat) (s : State) : Int × Int := s.jct.shadow.get (fun _ => (0, 0)) (1024 * r + c)

def setShadow (r c : Nat) (v : Int × Int) (s : State) : State :=
  putJct { s.jct with shadow := s.jct.shadow.set (fun _ => (0, 0)) (1024 * r + c) v } s

/-- The record of slot `x` drains cell (r, c) of its tile (R155, R166). -/
def drains (x : Slot) (r c : Nat) (s : State) : Bool :=
  decide (r < blockLines x.a s) && decide (c < if x.a = x.b then r + 1 else blockLines x.b s)

/-- What a sweep has met of saturation (R164): a component saturated, and one that the dwell's record drains. -/
structure Sat where
  any  : Bool := false
  mark : Bool := false
  deriving DecidableEq, Repr, Inhabited

/-- One codeword of a sweep: `sum` is the interval sum of a cell, which its accumulator holds at the boundary; between
commands, which lie at boundaries, every accumulator is zero (R152). The shadow is a 20-bit register. -/
def sweepOne (w : Dwell) (jb : Nat) (final : Bool) (sum : Nat → Nat → Int × Int) (ups : List ArrayUpset)
    (x : State × Sat) (rq : Nat × Nat) : State × Sat :=
  let (s, sat) := x
  let (r, q) := rq
  let s0 := wrap20 (addVis (shadowOf r (2 * q) s) (sum r (2 * q)))
  let s1 := wrap20 (addVis (shadowOf r (2 * q + 1) s) (sum r (2 * q + 1)))
  if !final && w.done != 0 && s.jct.carry.contains (jb, r, q) then
    (setShadow r (2 * q + 1) s1 (setShadow r (2 * q) s0 s), sat)
  else
    let s := setShadow r (2 * q + 1) (0, 0) (setShadow r (2 * q) (0, 0) s)
    let (s, h0, h1) := promote w.road r q (w.done == 0) s0 s1 ups s
    (s, { any := sat.any || h0 || h1
          mark := sat.mark || (h0 && drains w.slot r (2 * q) s) || (h1 && drains w.slot r (2 * q + 1) s) })

/-- Valid and invalid steps of an input added (R177). -/
def addCounts (xs : List Byte) (c : Nat × Nat) : Nat × Nat :=
  let v := (xs.filter isValid).length
  (c.1 + v, c.2 + (xs.length - v))

/-- Injected parity errors of this interval (Table 12.7): the line's value is seen by every needed
district it passes. -/
def injectedParity (w : Dwell) (s : State) : Dwell × State :=
  let hit := fun (x : Inj) => (x.code == 0x30 && fedIn true x.unit w s && physRow x.unit s == x.unit)
    || (x.code == 0x31 && fedIn false x.unit w s && physCol x.unit s == x.unit)
  let need := districtsNeeded (cfgN s)
  let xs := (injs s).filter hit
  let (w, s) := xs.foldl (fun (w, s) x =>
    let isRow := x.code == 0x30
    (List.range 16).foldl (fun (w, s) k =>
      if need / 2 ^ k % 2 = 1 ∧ (if isRow then k / 4 else k % 4) = x.unit / 256 then parityIn k isRow x.unit w s
      else (w, s)) (w, s)) (w, s)
  (w, useInj hit s)

/-- The end of a dwell's steps. -/
def dwellEnds (w : Dwell) (s : State) : State :=
  putJct { s.jct with cur := none, flush := s.jct.flush ++ [w], force := false } s
    |> setF R.JCT_STATE F.JCT_STATE_BUSY 0
    |> insDwellEnd

/-- Steps `j` … `j + n - 1` of a dwell read a segment whose history entry has been replaced (R125). -/
def segmentsRead (j n : Nat) (s : State) : Bool :=
  let a := segOf j s
  (List.range (segOf (j + n - 1) s - a + 1)).any fun k => offsetLost (a + k) s

/-- PROMOTION_SWEEP at the next boundary of the dwell in progress. The interval sums are compared with those of the
inspection columns, which the steering network feeds without the parity errors of the active lines (R307, R309). -/
def promotionSweep (ups : List ArrayUpset) (s : State) : State :=
  match s.jct.cur with
  | none => s
  | some w =>
    let x := w.slot
    let jb := nextBoundary w
    let forced := s.jct.force && decide (jb < x.d)
    let final := forced || decide (x.d ≤ jb)
    let n := jb - w.done
    let rows := blockLines x.a s
    let cols := blockLines x.b s
    let rowFeed := (List.range rows).map fun r => feedLine x.ch (1024 * x.a + r) (x.j0 + w.done) n s
    let colFeed := (List.range cols).map fun c => feedLine x.ch (1024 * x.b + c) (x.j0 + w.done) n s
    let s := when (segmentsRead (x.j0 + w.done) n s) (sdgCond 4) s
    let (w, s) := injectedParity w s
    let mask := flipMasks ups s
    let cell := fun r c p =>
      let m := mask (physRow r s) p
      let v := addVis (dotVis (rowFeed.getD r []) (colFeed.getD c []) (0, 0))
        (if p = physCol c s then feedExtra w jb r c else (0, 0))
      (flip20 m.1 v.1, flip20 m.2 v.2)
    let sum := fun r c => cell r c (physCol c s)
    let (s, bad) := inspect cell (cUsed s) w.g (w.done == 0) final s
    let cells := (List.range (cUsed s)).flatMap fun r => (List.range (cUsed s / 2)).map fun q => (r, q)
    let (s, sat) := cells.foldl (sweepOne w jb final sum ups) (s, {})
    let s := useInj (fun x => x.code == 0x32 && decide (x.unit % 1024 < cUsed s ∧ x.unit / 1024 < cUsed s)) s
    let (w, s) := if bad || feedsWorn rows cols s then suspectDwell w s else (w, s)
    let s := when sat.any (jctCond 4) s
    let counts := List.zipWith addCounts rowFeed w.counts
    let w := { w with done := jb, fresh := [], visSat := w.visSat || sat.mark, partial_ := w.partial_ || forced,
                      counts := counts }
    let s := when forced (jctCond 2) s
    if final then dwellEnds w s else putJct { s.jct with cur := some w } s

/-! ### FLUSH_COMPLETE (R161) -/

def hasPoison (w : Dwell) (s : State) : Bool :=
  s.jct.poison.any fun p => p.1 / 2 ^ 19 == w.road
    && decide (p.1 / 512 % 1024 < blockLines w.slot.a s)
    && decide (p.1 % 512 * 2 < (if w.slot.a = w.slot.b then p.1 / 512 % 1024 + 1 else blockLines w.slot.b s))

/-- A dwell that feeds a worn line is SUSPECT (R312). -/
def suspectWorn (w : Dwell) (s : State) : Dwell × State :=
  if feedsWorn (blockLines w.slot.a s) (blockLines w.slot.b s) s then suspectDwell w s else (w, s)

/-- The dwells still in the array, after a line has been found without a substitute. -/
def wornNow (s : State) : State :=
  let (ws, s) := s.jct.flush.foldl (fun (ws, s) w => let (w, s) := suspectWorn w s; (ws ++ [w], s)) (([] : List Dwell), s)
  let s := putJct { s.jct with flush := ws } s
  match s.jct.cur with
  | none => s
  | some w => let (w, s) := suspectWorn w s; putJct { s.jct with cur := some w } s

/-- FLUSH_COMPLETE: the dwell's record, then the records without visibilities that follow it. -/
def flushComplete (s : State) : State :=
  match s.jct.flush with
  | [] => s
  | w :: rest =>
    let s := putJct { s.jct with flush := rest } s
    let s := wornNow (parityEnd w.errs (blockLines w.slot.a s) (blockLines w.slot.b s) w.g s)
    let (w, s) := if hasPoison w s then suspectDwell w s else (w, s)
    let s := handRec s ⟨w.slot, some w.road, w.done, w.partial_, w.suspect, w.visSat, false, w.counts⟩
    showDraining (w.then_.foldl handRec s)

/-- The Junction at a data-plane reset (R179, R180): the forced boundary comes at once, then every rake closes. -/
def junctionReset (s : State) : State :=
  let s := closeRakes (emptyRest (promotionSweep [] (forceJunction s)))
  putJct { s.jct with waitPlat := [] } { s with sdg := { s.sdg with readable := none } }

/-! ### DRAIN_ROW (R166-R168, R192-R196, R203) -/

/-- Words of a piece of `n` visibilities. -/
def pieceWords (compact : Bool) (n : Nat) : Nat := 8 + (if compact then 20 * cdiv n 16 else 2 * n)

/-- Words formatted once `v` visibilities have been handed over, pieces of `cvis`. -/
def wordsUpTo (compact : Bool) (cvis v : Nat) : Nat :=
  v / cvis * pieceWords compact cvis + (if v % cvis = 0 then 0 else pieceWords compact (v % cvis))

/-- Inputs of manifest piece `q` (R195). -/
def manifestInputs (q : Nat) (s : State) : Nat := Nat.min 512 (cfgN s - 512 * q)

/-- The manifest pieces of a diagonal record, and their words. -/
def manifestPieces (a : Nat) (s : State) : List Nat :=
  [2 * a, 2 * a + 1].filter fun q => 0 < manifestInputs q s

def manifestWords (r : Rec) (s : State) : Nat :=
  if r.slot.a = r.slot.b then
    (manifestPieces r.slot.a s).foldl (fun x q => x + 8 + 2 * manifestInputs q s) 0
  else 0

def rakeRoute (g : Nat) (s : State) : Nat := getF (R.JCT_RAKE g) F.JCT_RAKE_ROUTE s
def rakeCompact (g : Nat) (s : State) : Bool := isSet (R.JCT_RAKE g) F.JCT_RAKE_FMT s

/-- Visibilities per piece of a route; an unset CVIS makes one piece. -/
def cvisOf (route : Nat) (s : State) : Nat :=
  let n := getF (R.TMN_ROUTE route) F.TMN_ROUTE_CVIS s
  if n = 0 then 2 ^ 20 else n

def recFlags (r : Rec) : Nat := b2n r.partial_ + 2 * b2n r.suspect + 4 * b2n r.visSat + 8 * b2n r.capture

/-- The space of the open piece becomes `n` words. -/
def putOpenHeld (n : Nat) (s : State) : State :=
  let t := s.tmnHeld - s.jct.held + n
  putTmnHeld t (putJct { s.jct with held := n } s)

/-- CONSIGNMENT_FORM: one visibility piece that starts at visibility `v0`. -/
def formPiece (r : Rec) (v0 : Nat) (last : Bool) (vs : List Vis) (s : State) : State :=
  let x := r.slot
  let route := rakeRoute x.rake s
  let compact := rakeCompact x.rake s
  let q := v0 / cvisOf route s
  let h : Head := { ctype := if compact then 2 else 1, rake := x.rake, seq := seqVis x.m x.rake x.ch x.k q,
                    fch := x.ch, tile := x.k, a := x.a, b := x.b, first := x.j0, count := r.count,
                    firstItem := v0, nitem := vs.length, flags := recFlags r + (if last then 32 else 0),
                    dump := x.m % 2 ^ 32 }
  let ws := consign h (if compact then compactPayload vs else fullPayload vs) s
  queueConsig ⟨route, false, ws, none, x.j0⟩ (x.ch * tileCount (nbOf (cfgN s)) + x.k + q) s

/-- MANIFEST_FORM (R195): a diagonal record's pieces enter TMN_MWIN and go where the route sends them. -/
def formManifests (r : Rec) (s : State) : State :=
  let x := r.slot
  if x.a ≠ x.b then s
  else
    let qs := manifestPieces x.a s
    qs.foldl (fun s q =>
      let n := manifestInputs q s
      let route := rakeRoute x.rake s
      let h : Head := { ctype := 3, rake := x.rake, seq := seqVis x.m x.rake x.ch 63 q, fch := x.ch, tile := 63,
                        a := x.a, b := x.a, first := x.j0, count := r.count, firstItem := 512 * q, nitem := n,
                        flags := b2n r.partial_ + 8 * b2n r.capture + (if qs.getLast? = some q then 32 else 0),
                        dump := x.m % 2 ^ 32 }
      let ws := consign h (manifestPayload ((r.counts.drop (512 * (q % 2))).take n)) s
      queueConsig ⟨route, false, ws, none, x.j0⟩ (x.ch * tileCount (nbOf (cfgN s)) + 63 + q) (manifestKeep ws s)) s

/-- Whole pieces leave the open one; `done` ends the record. -/
def formPieces (r : Rec) (cvis : Nat) (done : Bool) : Nat → State → State
  | 0, s => s
  | fuel + 1, s =>
    let vs := s.jct.open_
    let v0 := s.jct.v - vs.length
    if vs.isEmpty then s
    else if cvis ≤ vs.length ∨ done = true then
      let piece := vs.take cvis
      let rest := vs.drop cvis
      let compact := rakeCompact r.slot.rake s
      let s := putOpenHeld (if rest.isEmpty then 0 else pieceWords compact rest.length) s
      let s := formPiece r v0 (done && rest.isEmpty) piece (putJct { s.jct with open_ := rest } s)
      formPieces r cvis done fuel s
    else s

/-- The Terminus or the route discards what it forms, so a drain never waits (Table 7.5). -/
def drainsFreely (route : Nat) (s : State) : Bool :=
  !tmnEn s || !isSet (R.TMN_ROUTE route) F.TMN_ROUTE_EN s

/-- The Yard's roads and what was drained of them do not outlast the retention of YRD (R347, Table 14.10). -/
def yardLost (s : State) : State :=
  let s := putOpenHeld 0 s
  showDraining (setF R.YRD_POISON F.YRD_POISON_COUNT 0
    (putJct { s.jct with yard := [], yardErr := [], poison := [], recs := [], row := 0, v := 0, open_ := [] } s))

/-- Columns of drain row `r` of a record (R166). -/
def rowCols (x : Slot) (r : Nat) (s : State) : Nat := if x.a = x.b then r + 1 else blockLines x.b s

/-- One row of the road: all 512 codewords are read (R166). Its first `n` visibilities, and whether a codeword of theirs
is poisoned. -/
def readRow (road r n : Nat) (s : State) : List Vis × Bool × State :=
  let s := (List.range 512).foldl (fun s q => yardRead road r q s) s
  let bad := (List.range (cdiv n 2)).any fun q => poisoned road r q s
  ((List.range n).map fun c => visRead road r c s, bad, s)

/-- PROMOTION_CARRY (R168): the codewords of the other road whose promotion read falls in the cycle. -/
def carryAt (cycle : Nat) (s : State) : State :=
  match s.jct.cur with
  | none => s
  | some w =>
    let b0 := nextBoundary w
    let bs := ([b0, b0 + 1024].filter fun b => decide (1024 + w.slot.d % 1024 < b ∧ b < w.slot.d ∧ b < cycle))
    let hits := bs.flatMap fun b =>
      let x := cycle - b - 1
      ((List.range 512).filter fun q => decide (2 * q ≤ x ∧ x - 2 * q < 1024)).map fun q => (b, x - 2 * q, q)
    putJct { s.jct with carry := s.jct.carry ++ hits, cycles := cycle :: s.jct.cycles } s

/-- The oldest record is complete. -/
def recordDone (r : Rec) (s : State) : State :=
  showDraining (putJct { s.jct with recs := s.jct.recs.tail, row := 0, v := 0 } (formManifests r s))

/-- The dwell in progress is in its final sweep from its last step on: the one before D, or before its forced boundary
(R167). -/
def inFinal (cycle : Nat) (s : State) : Bool :=
  match s.jct.cur with
  | none => false
  | some w => decide ((if s.jct.force then Nat.min (nextBoundary w) w.slot.d else w.slot.d) ≤ cycle + 1)

/-- DRAIN_ROW. `cycle` counts from the start of the dwell in progress. -/
def drainRow (cycle : Nat) (s : State) : State :=
  match s.jct.recs with
  | [] => s
  | r :: _ =>
    let x := r.slot
    let route := rakeRoute x.rake s
    let free := drainsFreely route s
    if pstate s ≠ 1 ∧ pstate s ≠ 2 ∧ pstate s ≠ 6 then s
    else match r.road with
      | none =>
        if !free && !bufferRoom (8 + manifestWords r s) s then tmnCond 0 s
        else recordDone r (formPiece r 0 true [] s)
      | some road =>
        let compact := rakeCompact x.rake s
        let cvis := cvisOf route s
        let n := rowCols x s.jct.row s
        let lastRow := decide (blockLines x.a s ≤ s.jct.row + 1)
        let more := wordsUpTo compact cvis (s.jct.v + n) - wordsUpTo compact cvis s.jct.v
        let need := more + (if lastRow then manifestWords r s else 0)
        if !s.jct.flush.isEmpty || inFinal cycle s || s.jct.cycles.any (fun c => c + 1024 == cycle) then s
        else if !free && !bufferRoom need s then tmnCond 0 s
        else
          let (vs, bad, s) := readRow road s.jct.row n s
          let s := carryAt cycle s
          let s := when (bad && !r.suspect) (jctCond 5) s
          let r := { r with suspect := r.suspect || bad }
          let s := putOpenHeld (s.jct.held + more) s
          let s := putJct { s.jct with open_ := s.jct.open_ ++ vs, v := s.jct.v + n, row := s.jct.row + 1,
                                       recs := r :: s.jct.recs.tail } s
          let s := formPieces r cvis lastRow (n + 2) s
          if lastRow then recordDone r s else s

/-! ### PLATFORM_SWITCH (R17, R128) -/

/-- The readable Platform's schedule is set up (R171). -/
def planPlatform (per : Nat) (s : State) : State :=
  putJct { s.jct with waitPlat := [], todo := schedule per s, idx := 0 } s

/-- Closed openings that no later dump can fall into are forgotten. -/
def dropSpans (per : Nat) (s : State) : State :=
  (List.range 8).foldl (fun s g =>
    setSpans g ((spansOf g s).filter fun x => match x.2 with | none => true | some c => decide (per < c)) s) s

def platformSwitch (s : State) : State :=
  let per := s.sdg.nextSwitch
  if !running s || !frontValid s || s.sdg.restart || s.pts.nextJ < per + platLen s || platLen s = 0 then s
  else
    let still := s.jct.cur.isSome || !s.jct.todo.isEmpty || !s.jct.waitPlat.isEmpty
    let s := if still then emptyRest (forceJunction (jctCond 0 s)) else s
    let s := { s with sdg := { s.sdg with
      readable := some per, nextSwitch := per + platLen s, corr := [], corrEvt := [],
      disc := s.sdg.disc.filter fun x => decide (per ≤ x.1 + platLen s) || s.jct.waitPlat.any fun p => decide (p ≤ x.1) } }
    let s := putJct { s.jct with t0 := tickNow s } s
    if isSet R.TTB_STATE F.TTB_STATE_DPR_PEND s && originNow s ≤ per then
      putJct { s.jct with waitPlat := s.jct.waitPlat ++ [per] } s
    else planPlatform per (dropSpans per s)

/-- The Platforms that waited for the back half of a keyed reset: the newest is run, the dwells of those overrun since are
emitted with count 0 (R17, R238). -/
def planWaiting : List Nat → State → State
  | [], s => s
  | [per], s => planPlatform per s
  | per :: rest, s => planWaiting rest (handEmpty ((schedule per s).map fun x => emptyRec x (heldSlot x s) s) s)

/-! ### Debug reads (R184) -/

/-- The word of a YRD debug window address. -/
def yardDebugWord (off : Nat) (s : State) : Word :=
  let road := off / 2 ^ 21
  let cw := off % 2 ^ 21 / 4
  let r := cw / 512
  let q := cw % 512
  let v := visRead road r (2 * q + off / 2 % 2) s
  BitVec.ofInt 40 (if off % 2 = 0 then v.1 else v.2)

/-! ### The commands -/

def execDwellStart (s : State) : Out := .next (dwellStart s)
def execPromotionSweep (ups : List ArrayUpset) (s : State) : Out := .next (promotionSweep ups s)
def execFlushComplete (s : State) : Out := .next (flushComplete s)
def execDrainRow (cycle : Nat) (s : State) : Out := .next (drainRow cycle s)
def execPlatformSwitch (s : State) : Out := .next (platformSwitch s)
def execFeedParityError (k : Fin 16) (isRow : Bool) (off : Fin 256) (s : State) : Out :=
  .next (feedParity k.val isRow off.val s)
def execRakeOpen (g : Fin 8) (key : BitVec 48) (s : State) : Out :=
  .next (deliverDue 0x08 key.toNat (fun a => a == g.val) (fun e => rakeOpenDue e.arg e.key) s)
def execRakeClose (g : Fin 8) (key : BitVec 48) (s : State) : Out :=
  .next (deliverDue 0x09 key.toNat (fun a => a == g.val) (fun e => rakeCloseDue e.arg e.key) s)

end Sys2Proof.Machine
end

