-- ==== Sys2Proof/Machine/DataPlane.lean ====
section
/-!
DEFINITION. The front and the data-plane resets (R127, R228, R237, R238, Table 14.10), the EPOCH
record (R227-R230), captures that become due (R145, R197), and Running's end for captures (R140).
-/
namespace Sys2Proof.Machine

/-! ### Pieces that both resets use -/

/-- SLOW of every pair becomes invalid, and the blocks in progress end (R109). -/
def slowInvalidAll (s : State) : State :=
  (allPairs s).foldl (fun s p => slowInvalid p s) { s with gau := { s.gau with acc := [] } }

/-- Every lane forgets what it knew of its DATA trains ahead (R231). -/
def forgetHigh (s : State) : State :=
  s.lanes.foldl (fun s l => modLane l.1 (fun x => { x with hiBlock := none }) s) s

/-- j_P of the Sidings. -/
def setOrigin (jp : Nat) (s : State) : State := set2 R.SDG_ORIGIN F.SDG_ORIGIN_JP_LO F.SDG_ORIGIN_JP_HI jp s

/-- The captures in force end truncated, and their slots are idle. -/
def endCaptures (s : State) : State :=
  (List.range 4).foldl (fun s k =>
    let st := capState k s
    if st = 0 then s
    else
      let s := if st != 3 then
          captureEnd k true (sdgCond 1 (putCapture k { captureOf k s with trunc := true } s)) else s
      putCapture k {} (setF (R.SDG_CAP k) F.SDG_CAP_STATE 0 s)) s

/-- HBM Platforms and tail areas lose their contents; the reserved region stays (Table 14.10). -/
def losePlatforms (s : State) : State :=
  let low := pcBlocks - reservedPerPc (workStacks s).length
  { s with hbm := s.hbm.keep (fun a => low ≤ a % pcWords / 5),
           hbmErr := s.hbmErr.keep (fun a => low ≤ a % pcBlocks) }

/-! ### The unkeyed data-plane reset (R237) -/

/-- Points, Gauges and framing: FIFOs and windows are emptied, committed swaps are abandoned with their
ready marks standing (R107), phase segments and their signature are cleared. -/
def resetArrivalPoints (s : State) : State :=
  let s := s.lanes.foldl (fun s l => modLane l.1 (fun x => { x with fifo := [], hiBlock := none }) s) s
  let s := slowInvalidAll s
  { s with
    arr := { s.arr with top := 0 },
    gau := { s.gau with acts := [] },
    pts := { s.pts with nextJ := 0, blocks := 0, coarse := [], exc := [],
                        cswap := {}, gswap := {}, tagNew := false, chkNew := false,
                        segBytes := [], allNoModel := true } }
    |> clearWords 0x3010000 0x3020000
    |> setF R.PTS_PSEG F.PTS_PSEG_READY 0
    |> setF R.PTS_PSEG_SIG F.PTS_PSEG_SIG_SIG (crc32 [])
    |> setF R.PTS_FRONT F.PTS_FRONT_VALID 0
    |> setF R.PTS_TTSER F.PTS_TTSER_VALID 0

/-- Sidings: the assembly buffer, the offset history, captures and Platforms. -/
def resetSidings (s : State) : State :=
  let s := losePlatforms (endCaptures s)
  { s with sdg := { s.sdg with asm := [], ohNext := 0, disc := [], readable := none } }
    |> clearWords 0x4020000 0x4040000
    |> clearWords (R.SDG_OHTAG 0) (R.SDG_OHTAG 16)
    |> setF R.TMN_CAPNUM F.TMN_CAPNUM_NEXT 0

/-- Turntable: frames in assembly are completed, swaps abandoned, delay banks cleared and not ready. -/
def resetTurntable (s : State) : State :=
  let s := tblReset 0 s
  { s with tbl := { s.tbl with
    line := [], gswap := {}, dswap := {}, tagNew := false, chkNew := false, bytes := [] } }
    |> clearWords 0x3400000 0x3600000
    |> setF R.TBL_DTAG F.TBL_DTAG_READY 0
    |> setF R.TBL_DSIG F.TBL_DSIG_SIG (crc32 [])

/-- DATA_PLANE_RESET. -/
def dataPlaneReset (s : State) : State :=
  let s := snapshotFinish (junctionReset s)
  let s := resetTurntable (resetSidings (resetArrivalPoints s))
  { s with ttb := { s.ttb with ready := [], recs := [], gone := [], newFront := true } }
    |> setF R.TTB_STATE F.TTB_STATE_FRONT_VALID 0
    |> setF R.TTB_STATE F.TTB_STATE_DPR_PEND 0

/-! ### The front (R127, R228) -/

/-- Points, Gauges, framing, Sidings and Turntable start at front `f` with platform origin `jp`. -/
def startAt (f jp : Nat) (s : State) : State :=
  let j := cdiv f (cfgP s)
  let s := s.lanes.foldl (fun s l => modLane l.1 (fun x => { x with hiBlock := none, liveFrom := f }) s) s
  let s := { s with
    arr := { s.arr with base := f },
    pts := { s.pts with nextJ := j, blocks := f, base := f },
    gau := { s.gau with pos := f, limit := f },
    sdg := { s.sdg with jpOld := jp, nextSwitch := jp + (j - jp) / platLen s * platLen s, disc := [],
                        readable := none } }
  tblReset j (setF R.SDG_PERIOD F.SDG_PERIOD_M ((j - jp) / platLen s) (setOrigin jp s))

/-- The first EPOCH after a data-plane reset establishes the front. -/
def establishFront (f : Nat) (s : State) : State :=
  let jp := cdiv f (cfgP s)
  let s := startAt f jp { s with ttb := { s.ttb with newFront := false, turn := s.ttb.turn + 1 }, sdg := { s.sdg with floor := 0 } }
  s |> setFront f
    |> setF R.PTS_FRONT F.PTS_FRONT_VALID 1
    |> setF R.TTB_STATE F.TTB_STATE_FRONT_VALID 1
    |> ttbCond 0
    |> autoOpen jp
    |> heldFromStart
    |> pendingEntryCheck f
    |> fcmpMatch f

/-- The three body cars of an EPOCH record (Table 3.7). -/
def epochBody (sec n48 frac : Nat) : List Word :=
  [BitVec.ofNat 40 sec, BitVec.ofNat 40 (n48 / 2 ^ 8), BitVec.ofNat 40 (n48 % 2 ^ 8 * 2 ^ 32 + frac)]

def epochRecord (sec n48 frac : Nat) (s : State) : State :=
  let s := epochStore sec n48 frac s
  etickLatch (if s.ttb.newFront then establishFront (40 * cdiv n48 40) s else s)

/-! ### The keyed data-plane reset (R238) -/

/-- The front half. -/
def keyedFront (key : Nat) (s : State) : State :=
  let jp := cdiv key (cfgP s)
  let s := forgetHigh (slowInvalidAll s)
  let s := { s with
    arr := { s.arr with base := key },
    sdg := { s.sdg with jpOld := originNow s },
    tbl := { s.tbl with resetAt := some jp } }
  s |> setOrigin jp
    |> setF R.PTS_TTSER F.PTS_TTSER_VALID 0
    |> set2 R.TTB_DPR F.TTB_DPR_KEY_LO F.TTB_DPR_KEY_HI key
    |> setF R.TTB_STATE F.TTB_STATE_DPR_PEND 1
    |> ttbCond 12

/-- DP_RESET: the gauges have caught up with the front, so no block that ended below KEY is lost. -/
def dpReset (key : Nat) (s : State) : State :=
  if s.gau.acts ≠ [] then s else deliverDue 0x18 key (fun a => a == 0) (fun e => keyedFront e.key) s

/-- The last dwell of the last old Platform has flushed. -/
def oldFlushed (s : State) : Bool :=
  isSet R.TTB_STATE F.TTB_STATE_DPR_PEND s && decide (originNow s ≤ s.sdg.nextSwitch)
    && s.jct.todo.isEmpty && s.jct.cur.isNone && s.jct.flush.isEmpty

/-- DPR_BACK_HALF. -/
def dprBackHalf (s : State) : State :=
  if !oldFlushed s then s
  else
    let s := autoOpen (originNow s) (closeRakes s)
      |> setF R.TMN_CAPNUM F.TMN_CAPNUM_NEXT 0
      |> setF R.TTB_STATE F.TTB_STATE_DPR_PEND 0
      |> ttbCond 13
    planWaiting s.jct.waitPlat s

/-! ### Captures that become due (R145, R197) -/

def captureDue (desc len key : Nat) (s : State) : State :=
  let s := capDescRead desc s
  match captureExecute desc key len (getF R.TMN_CAPNUM F.TMN_CAPNUM_NEXT s) s with
  | some (_, s) => incF R.TMN_CAPNUM F.TMN_CAPNUM_NEXT 1 s
  | none => sdgCond 0 s

/-! ### The commands -/

def execEpoch (sec : BitVec 40) (n48 : BitVec 48) (frac : BitVec 32) (s : State) : Out :=
  .next (applyRec (fun r => r.kind == 1 && r.body == epochBody sec.toNat n48.toNat frac.toNat)
    (epochRecord sec.toNat n48.toNat frac.toNat) s)
def execDpReset (key : BitVec 48) (s : State) : Out := .next (dpReset key.toNat s)
def execDprBackHalf (s : State) : Out := .next (dprBackHalf s)
def execCapture (desc : BitVec 8) (len : BitVec 32) (key : BitVec 48) (s : State) : Out :=
  .next (deliverDue 0x10 key.toNat (fun a => a == desc.toNat * 2 ^ 32 + len.toNat)
    (fun e => captureDue (e.arg / 2 ^ 32) (e.arg % 2 ^ 32) e.key) s)

end Sys2Proof.Machine
end

