-- ==== Sys2Proof/Machine/Coupling.lean ====
section
/-!
DEFINITION. Coupling (13): COUPLING trains (R326-R328), coupling and roles (R322-R324, R329-R332),
mirroring on the sending side (R334), join requests, grants and the join index (R338-R341, R344), and
the release of blocks (R68, R71) with what a join adds to it.
-/
namespace Sys2Proof.Machine

/-- A new TERM, which the Signal Box keeps in the crash record too (R324, Table 5.7). -/
def setTerm (t : Nat) (s : State) : State :=
  { setF R.CPL_STATE F.CPL_STATE_TERM t s with crash := { s.crash with term := some (t % 2 ^ 24) } }

def setRole (r : Nat) (s : State) : State := setF R.CPL_STATE F.CPL_STATE_ROLE r s
def cplOpen (c : Nat) (s : State) : Bool := laneState (80 + c) s == 5
def ownPair (s : State) : Nat := getF R.CPL_ID F.CPL_ID_PAIR_ID s
def cfgMatch (s : State) : Bool := isSet R.CPL_PEER F.CPL_PEER_CFG_MATCH s
def peerJstate (s : State) : Nat := getF R.CPL_PEER F.CPL_PEER_JSTATE s

/-- The lowest-numbered coupling lane in OPEN (R328). -/
def lowestOpen (s : State) : Option Nat := (List.range 4).find? fun c => cplOpen c s

/-! ### Records (Table 13.3) -/

/-- Head car of a record. -/
def headCar (kind len low : Nat) : Word := BitVec.ofNat 40 (kind * 2 ^ 36 + len * 2 ^ 28 + low % 2 ^ 28)

/-- The LEN that Table 13.3 gives a KIND. -/
def recLenOk (kind len : Nat) : Bool :=
  match kind with
  | 1 => len == 3 | 2 => len == 1 | 3 => 2 ≤ len && len ≤ 121 | 4 => len == 2 | 5 => len == 0 | 6 => len == 0
  | 7 => len == 4 | 8 => 2 ≤ len && len ≤ 121 | 9 => len == 2 | 10 => len == 0 | 11 => len == 1 | 0 => len == 0
  | _ => true

/-- The cars of a train parse as records (R327). -/
def carsParse : Nat → List Word → Bool
  | 0, _ => true
  | _, [] => true
  | fuel + 1, h :: t =>
    if h = 0#40 then true
    else
      let kind := bitsOf h 36 4
      let len := bitsOf h 28 8
      recLenOk kind len && decide (len ≤ t.length) && carsParse fuel (t.drop len)

/-- COUPLING_TRAIN_RECEIVE (R326): STREAM is checked against PAIR_ID and the cars are parsed; the records
are applied by their own commands. -/
def couplingTrain (i : Nat) (t : Train) (s : State) : State :=
  if t.stream.toNat ≠ ownPair s ∨ carsParse 128 t.cars = false then frameCond i 3 s
  else s

def queueRec (r : OutRec) (s : State) : State := putCpl { s.cpl with outq := s.cpl.outq ++ [r] } s

/-- A record that may travel on any lane. -/
def queueAny (ws : List Word) (s : State) : State := queueRec ⟨none, 0, ws⟩ s

/-- MDATA or JDATA records for `ws` at `addr`: at most 120 words each (R334). -/
def dataRecords (kind low : Nat) : Nat → Nat → List Word → List (List Word)
  | 0, _, _ => []
  | _, _, [] => []
  | fuel + 1, addr, ws =>
    let part := ws.take 120
    (headCar kind (part.length + 1) low :: BitVec.ofNat 40 addr :: part)
      :: dataRecords kind low fuel (addr + part.length) (ws.drop 120)

/-- The body cars of data records, as the CRC-32 runs over them (R327). -/
def bodyCars (rs : List (List Word)) : List Word := rs.flatMap List.tail

/-- The MCOMMIT or JCOMMIT that closes data records. -/
def commitRecord (kind low count : Nat) (rs : List (List Word)) : List Word :=
  [headCar kind 2 low, BitVec.ofNat 40 (crc32 (wordsBytes (bodyCars rs))), BitVec.ofNat 40 count]

/-! ### Mirroring: the Lead (R334) -/

def mirrorRecords (x : MirrorTx) : List (List Word) :=
  let rs := dataRecords 3 x.cseq x.words.length x.addr x.words
  rs ++ [commitRecord 4 (x.tag * 2 ^ 16 + x.cseq) x.words.length rs]

/-- Injection 0x91: the CRC of the commit that closes these records is wrong (Table 12.7). -/
def spoilCommit (rs : List (List Word)) : List (List Word) :=
  rs.map fun r => match r with | [h, c, n] => if bitsOf h 36 4 = 4 then [h, c ^^^ 1#40, n] else r | _ => r

def mirrorHit (x : Inj) : Bool := x.code == 0x91

def pin (txn : Nat) (rs : List (List Word)) (s : State) : State :=
  putCpl { s.cpl with outq := s.cpl.outq ++ rs.map fun r => ⟨lowestOpen s, txn, r⟩ } s

/-- The transaction at the head is sent. -/
def sendMirror (x : MirrorTx) (s : State) : State :=
  let rs := if (findInj mirrorHit s).isSome then spoilCommit (mirrorRecords x) else mirrorRecords x
  useInj mirrorHit (pin 1 rs (putCpl { s.cpl with tx := some x } s))
    |> setF R.CPL_MIRROR F.CPL_MIRROR_SENT x.cseq
    |> setF R.CPL_MIRROR F.CPL_MIRROR_PENDING 1

def nextMirror (s : State) : State :=
  match s.cpl.tx, s.cpl.txq with
  | none, x :: rest => sendMirror x (putCpl { s.cpl with txq := rest } s)
  | _, _ => s

/-- A CONFIG_WRITE applied on the Lead is handed to the Coupling (R302, R334); not while uncoupled
(R330) or after mirroring stopped. -/
def mirrorChange (cseq tag addr : Nat) (ws : List Word) (s : State) : State :=
  if isLead s && coupled s && !s.cpl.stopped then
    nextMirror (putCpl { s.cpl with txq := s.cpl.txq ++ [⟨cseq, tag, addr, ws, 0⟩] } s)
  else s

def dropTxn (k : Nat) (s : State) : State := putCpl { s.cpl with outq := s.cpl.outq.filter (·.txn != k) } s

/-- MACK (R334): RESULT 1 acknowledges the transaction; after a gap the peer's join carries it. -/
def mack (cseq result : Nat) (s : State) : State :=
  match s.cpl.tx with
  | some x =>
    if isLead s && x.cseq == cseq then
      let s := setF R.CPL_MIRROR F.CPL_MIRROR_RESULT result s
      if result = 2 then s
      else
        let s := dropTxn 1 (putCpl { s.cpl with tx := none } s)
          |> setF R.CPL_MIRROR F.CPL_MIRROR_PENDING 0
          |> when (result == 1) (setF R.CPL_MIRROR F.CPL_MIRROR_ACKED cseq)
        nextMirror s
    else s
  | none => s

/-- MACK_TIMEOUT (R334): up to three more times, then mirroring stops until the next coupling. -/
def mackTimeout (s : State) : State :=
  match s.cpl.tx with
  | none => s
  | some x =>
    let s := dropTxn 1 s
    if x.tries < 3 then sendMirror { x with tries := x.tries + 1 } s
    else
      putCpl { s.cpl with tx := none, txq := [], stopped := true } s
        |> setF R.CPL_MIRROR F.CPL_MIRROR_PENDING 0

/-! ### Join requests (R338, R344) -/

/-- A JREQ is queued, unless one already is, when the Banker is coupled with JSTATE = WAIT and its front is established;
each COUPLING train it sends meanwhile carries one. -/
def askJoin (s : State) : State :=
  if isBanker s && coupled s && jstate s == 1 && frontValid s && cfgMatch s && !s.cpl.asked && !s.cpl.retry then
    queueAny [headCar 6 0 0] (putCpl { s.cpl with asked := true } s)
  else s

/-- JSTATE becomes WAIT. -/
def waitJoin (s : State) : State :=
  askJoin (setJstate 1 (putCpl { s.cpl with retry := false, join := none, logOn := false, log := [] } s))

/-- JREQ_RETRY (R344). -/
def jreqRetry (s : State) : State :=
  if isBanker s && jstate s == 1 && s.cpl.retry then askJoin (putCpl { s.cpl with retry := false } s)
  else s

/-- The join unit lcm(40, P, M_SK) (R339). -/
def joinUnit (s : State) : Nat := Nat.lcm (Nat.lcm 40 (cfgP s)) (cfgMsk s)

/-- The record of JGRANT (Table 13.3). -/
def grantRecord (j jp : Nat) : List Word :=
  [headCar 7 4 0, BitVec.ofNat 40 (j / 2 ^ 8), BitVec.ofNat 40 (j % 2 ^ 8 * 2 ^ 32),
   BitVec.ofNat 40 (jp / 2 ^ 8), BitVec.ofNat 40 (jp % 2 ^ 8 * 2 ^ 32)]

/-- JREQ at the Lead (R339). -/
def jreq (s : State) : State :=
  if isLead s && coupled s && cfgMatch s && frontValid s && s.cpl.anchor.isNone then
    let u := joinUnit s
    let j := cdiv (frontNow s + getF R.TTB_LEAD F.TTB_LEAD_LEAD s) u * u
    queueAny (grantRecord j (originNow s)) (putCpl { s.cpl with anchor := some j } s)
  else s

/-- JGRANT at the Banker (R339, R344). -/
def jgrant (j jp : Nat) (s : State) : State :=
  if isBanker s && coupled s && jstate s == 1 && frontValid s then
    let s := set2 R.CPL_JOIN F.CPL_JOIN_J_LO F.CPL_JOIN_J_HI j s
    if j < frontNow s then joinFail s
    else setJstate 2 (putCpl { s.cpl with join := some j, grantJp := jp, cut := [], cutCars := [], commitIn := none } s)
  else s

/-! ### Coupling and roles (R322, R329-R332) -/

/-- LANES: lanes with a valid ROLE record within 10 ms. -/
def showLanes (s : State) : State :=
  let t := tickNow s
  let m := (List.range 4).foldl (fun a c =>
    let h := s.cpl.heard.get (fun _ => 0) c
    if h ≠ 0 ∧ t + 1 ≤ h + 2500000 then a + 2 ^ c else a) 0
  setF R.CPL_STATE F.CPL_STATE_LANES m s

/-- A Lead becomes Banker. It still re-anchors at a J that it has granted (R344). -/
def becomeBanker (j : Nat) (s : State) : State :=
  let s := dropTxn 2 (dropTxn 1 (putCpl { s.cpl with tx := none, txq := [], join := none, cutRecs := [] } s))
  setF R.CPL_MIRROR F.CPL_MIRROR_PENDING 0 (setJstate j (setRole 2 s)) |> cplCond 2

/-- Promotion (R331); staged MDATA without its MCOMMIT is discarded (R336), and a commit that waited for the install of a
join; one that waits for the Signal Box is still applied. -/
def promoteTwin (s : State) : State :=
  let t := Nat.max (termOf s) s.cpl.peerTerm + 1
  let s := setTerm t s
  let s := when (coupled s) (queueAny [headCar 11 1 0, BitVec.ofNat 40 (t % 2 ^ 24)]) s
  let waitq := if jstate s = 2 ∨ jstate s = 3 then [] else s.cpl.waitq
  putCpl { s.cpl with stage := [], stageCars := [], waitq := waitq, join := none, logOn := false, log := [] } s
    |> setRole 1 |> setJstate 0 |> cplCond 2

/-- What happens when the twin couples (R329, R332, R337, R338). -/
def couple (r : RoleRec) (s : State) : State :=
  let s := putCpl { s.cpl with stopped := false } (cplCond 0 (setF R.CPL_STATE F.CPL_STATE_COUPLED 1 s))
  let peer := r.role.val
  if roleOf s = 1 ∧ peer = 1 then
    let s := cplCond 9 s
    if termOf s < r.term.toNat ∨ (termOf s = r.term.toNat ∧ r.twinId.toNat < twinId s) then
      waitJoin (becomeBanker 1 s)
    else s
  else if roleOf s = 2 ∧ peer = 2 then cplCond 10 s
  else if roleOf s = 2 ∧ peer = 1 then
    let s := setTerm r.term.toNat s
    let same := r.cseq.toNat == getF R.MGT_CSEQ F.MGT_CSEQ_CSEQ s && cfgMatch s
    if same then askJoin s
    else when (!cfgMatch s) (cplCond 8) (waitJoin s)
  else s

/-- ROLE received on coupling lane `c`. -/
def roleReceive (c : Nat) (r : RoleRec) (s : State) : State :=
  if !isTwin s || !cplOpen c s || r.pairId.toNat != ownPair s then s
  else if r.twinId.toNat = twinId s then cplCond 11 s
  else
    let cm := r.cfgTag.toNat == s.cpl.cfgTag
    let fm := r.fwTag.toNat == s.cpl.fwTag
    let s := putCpl { s.cpl with
      heard := s.cpl.heard.set (fun _ => 0) c (tickNow s + 1), peerTerm := r.term.toNat,
      leadSeen := s.cpl.leadSeen || r.role.val == 1 } s
      |> satF R.CPL_HBCNT F.CPL_HBCNT_COUNT 1
      |> setF R.CPL_PEER F.CPL_PEER_TWIN_ID r.twinId.toNat
      |> setF R.CPL_PEER F.CPL_PEER_ROLE r.role.val
      |> setF R.CPL_PEER F.CPL_PEER_JSTATE r.jstate.val
      |> setF R.CPL_PEER F.CPL_PEER_CSEQ r.cseq.toNat
      |> setF R.CPL_PEER F.CPL_PEER_CFG_MATCH (b2n cm)
      |> setF R.CPL_PEER F.CPL_PEER_FW_MATCH (b2n fm)
      |> when (!fm) (cplCond 13)
      |> showLanes
    if isSet R.CPL_STATE F.CPL_STATE_COUPLED s then askJoin s else couple r s

/-- HEALTH received: the host log records it with TWIN = 1 (R292). -/
def healthReceive (e : Nat) (tick : Word) (s : State) : State :=
  if coupled s then logEvent e false true tick.toNat s else s

/-- COUPLING_LOSS (R330): 10 ms without a valid ROLE record of the peer. A J that the Lead granted stands (R344). -/
def couplingLoss (s : State) : State :=
  if coupled s then
    let s := cplCond 1 (setF R.CPL_STATE F.CPL_STATE_COUPLED 0 s)
    let s := incF R.CPL_CNT F.CPL_CNT_LOSSES 1 (setF R.CPL_STATE F.CPL_STATE_LANES 0 s)
    let joining := isBanker s && (jstate s == 2 || jstate s == 3)
    let s := { s with health := [] }
    let s := putCpl { s.cpl with
      outq := [], tx := none, txq := [], stage := [], stageCars := [], heard := [], cutRecs := [], asked := false } s
    let s := setF R.CPL_MIRROR F.CPL_MIRROR_PENDING (b2n (!s.cpl.waitq.isEmpty)) s
    if joining then joinFail s else putCpl { s.cpl with join := none } s
  else s

/-- BOOT_ROLE_TIMEOUT (R324). ROLE_CHANGE belongs to R331 and R332 (Table 13.5). -/
def bootRoleTimeout (s : State) : State :=
  if isBanker s && isSet R.CPL_ID F.CPL_ID_BOOT_ROLE s && !s.cpl.leadSeen then
    setTerm (s.crash.term.getD 0 + 1) s |> setRole 1 |> setJstate 0
  else s

/-- RESIGN received (R331). -/
def resignReceive (s : State) : State :=
  if isBanker s && coupled s && jstate s == 5 then promoteTwin s else s

/-- TAKEOVER received (R331). -/
def takeoverReceive (term : Nat) (s : State) : State :=
  if isLead s && decide (termOf s < term) then becomeBanker 5 s else s

/-- A Lead resigns (R332). -/
def resignLead (s : State) : State :=
  let s := (List.range 4).foldl (fun s c => if cplOpen c s then queueRec ⟨some c, 0, [headCar 10 0 0]⟩ s else s) s
  becomeBanker 5 s

/-- Resignation for a reset, a power state or a lockout (R332). -/
def resignIfLead (s : State) : State := if isLead s then resignLead s else s

/-- CPL_CTRL.RESIGN. -/
def cplResignWrite (s : State) : State :=
  if isLead s && coupled s && peerJstate s == 5 then resignLead s else cplCond 3 s

/-- CPL_CTRL.PROMOTE. -/
def cplPromoteWrite (force : Bool) (s : State) : State :=
  if isBanker s && jstate s == 5 then promoteTwin s
  else if isBanker s && force then
    promoteTwin (putCpl { s.cpl with sendFrom := 0, capFrom := 0, ownFrom := cdiv (frontNow s) (cfgP s) + 2048 } s)
  else cplCond 3 s

/-- CPL_CTRL.JOIN. -/
def cplJoinWrite (s : State) : State := if isBanker s then waitJoin s else s

/-! ### Trains sent (R328) -/

/-- The ROLE record of this twin. -/
def ownRole (s : State) : List Word :=
  [headCar 1 3 (roleOf s * 2 ^ 26 + jstate s * 2 ^ 23 + b2n (!coupled s) * 2 ^ 22),
   BitVec.ofNat 40 (twinId s * 2 ^ 24 + termOf s), BitVec.ofNat 40 s.cpl.cfgTag,
   BitVec.ofNat 40 (s.cpl.fwTag * 2 ^ 24 + getF R.MGT_CSEQ F.MGT_CSEQ_CSEQ s)]

/-- A raise as a HEALTH record (R293). -/
def healthRec (x : Nat × Word) : OutRec := ⟨none, 0, [headCar 2 1 x.1, x.2]⟩

/-- The records of a transaction whose lane has left OPEN are sent again whole on the next lane. -/
def repin (k : Nat) (full : List (List Word)) (s : State) : State :=
  let lost := s.cpl.outq.any fun r => r.txn == k && (match r.lane with | none => true | some c => !cplOpen c s)
  if lost && (lowestOpen s).isSome then pin k full (dropTxn k s) else s

/-- Records for lane `c` that fit in `room` cars, in order, and what stays. -/
def takeRecs (c : Nat) : Nat → List OutRec → List Word × List OutRec
  | _, [] => ([], [])
  | room, r :: t =>
    if r.lane.getD c = c then
      if r.words.length ≤ room then
        let x := takeRecs c (room - r.words.length) t
        (r.words ++ x.1, x.2)
      else ([], r :: t)
    else let x := takeRecs c room t; (x.1, r :: x.2)

/-- A JREQ among the records is still to be sent. -/
def jreqQueued (rs : List OutRec) : Bool := rs.any fun r => bitsOf (r.words.headD 0#40) 36 4 == 6

/-- COUPLING_TRAIN_SEND: ROLE first, then queued records in order. A lane that owes a filler sends it first (R61). -/
def couplingTrainSend (c : Nat) (s : State) : State :=
  let i := 80 + c
  if !isTwin s || !cplOpen c s || !transmits i s then s
  else if 2047 ≤ (laneOf i s).sinceFill then sendFiller i s
  else
    let s := askJoin s
    let s := match s.cpl.tx with | some x => repin 1 (mirrorRecords x) s | none => s
    let s := repin 2 s.cpl.cutRecs s
    let s := { s with health := [], cpl := { s.cpl with outq := s.cpl.outq ++ s.health.map healthRec } }
    let (ws, rest) := takeRecs c 123 s.cpl.outq
    let hb := (s.cpl.hb + 1) % 2 ^ 24
    let flags := b2n (!coupled s)
    let role := ownRole s
    sendTrain i typCoupling (ownPair s) (roleOf s * 2 ^ 10) flags hb (padCars (role ++ ws))
      (putCpl { s.cpl with outq := rest, hb := hb, asked := jreqQueued rest } s)

/-! ### The join index (R340, R341, R343) -/

/-- Both twins re-anchor their monitors. -/
def reanchor (s : State) : State :=
  (allPairs s).foldl (fun s p => setF (gauKey p.1 p.2 0) F.GAU_STAT_ENV 0 s) (slowInvalidAll s)

def wordsAt (a n : Nat) (s : State) : Nat × List Word := (a, (List.range n).map fun k => rd (a + k) s)

/-- Runs of a paged gain bank of the Points: the page is selected first. -/
def gainRuns (s : State) : List (Nat × List Word) :=
  (List.range 4).flatMap fun p =>
    [(R.PTS_GPAGE, [BitVec.ofNat 40 p]), (0x3080000, (List.range 262144).map fun w => rd (gainBase (p % 2) + 262144 * (p / 2) + w) s)]

/-- T0 and SPAN of delay-set slot `k`, which have no address, travel in words +7 of inputs 0 and 1. -/
def dsetTimes (k : Nat) (s : State) : List (Nat × List Word) :=
  let t0 := s.pts.setT0.get (fun _ => 0) k
  [(dsetMem k 0 7, [BitVec.ofNat 40 t0]),
   (dsetMem k 1 7, [BitVec.ofNat 40 (t0 / 2 ^ 40 % 2 ^ 8 + s.pts.setSpan.get (fun _ => 0) k * 2 ^ 8)])]

/-- A capture slot; its blocks per stream travel in the reserved bits of word +0. -/
def capRun (s : State) (c : Nat) : Nat × List Word :=
  let a := R.SDG_CAP c
  (a, [BitVec.ofNat 40 ((rd a s).toNat % 2 ^ 10 + (captureOf c s).tn % 2 ^ 30 * 2 ^ 10), rd (a + 1) s, rd (a + 2) s, rd (a + 3) s])

/-- The cut as runs in the control space (R341). -/
def cutRuns (s : State) : List (Nat × List Word) :=
  [wordsAt 0x1000100 256 s, wordsAt R.PTS_TTSER 1 s, wordsAt (R.PTS_DSET 0) 2 s,
   wordsAt (dsetMem 0 0 0) (8 * cfgN s) s, wordsAt (dsetMem 1 0 0) (8 * cfgN s) s, wordsAt 0x3001000 1024 s]
  ++ dsetTimes 0 s ++ dsetTimes 1 s ++ gainRuns s
  ++ [wordsAt 0x3300000 0x100000 s, wordsAt R.PTS_BANKS 1 s, wordsAt R.PTS_CTRL 1 s,
   wordsAt R.TBL_BANKS 1 s, wordsAt R.TBL_CTRL 1 s, wordsAt (R.JCT_RAKE 0) 32 s, wordsAt (R.JCT_RMASK 0) 1024 s,
   wordsAt R.TMN_CAPNUM 1 s]
  ++ (List.range 4).map (capRun s) ++ [wordsAt R.MGT_CSEQ 1 s]

/-- The records of the join: JDATA with a run number, then JCOMMIT. Runs from 0x8000 on are entries of the
host-setting record. -/
def cutRecords (s : State) : List (List Word) :=
  let runs := (cutRuns s).zipIdx.map (fun x => (x.2, x.1))
    ++ s.crash.settings.zipIdx.map (fun x => (0x8000 + x.2, x.1))
  let rs := runs.flatMap fun x => dataRecords 8 (x.1 % 2 ^ 16) x.2.2.length x.2.1 x.2.2
  let count := (runs.map fun x => x.2.2.length).sum
  rs ++ [commitRecord 9 (getF R.MGT_CSEQ F.MGT_CSEQ_CSEQ s) count rs]

/-- The Banker realigns at J (R340). -/
def realign (j : Nat) (s : State) : State :=
  let jf := cdiv j (cfgP s)
  let jp := s.cpl.grantJp
  let s := forgetHigh (junctionReset s)
  let s := { s with
    pts := { s.pts with coarse := s.pts.coarse.keep (fun k => decide (j ≤ k % 2 ^ 48)) },
    sdg := { s.sdg with asm := [], floor := jf } }
  startAt j jp s

/-- The Lead's front is at J: it re-anchors whatever became of the join, and while coupled it takes the cut and sends it
(R340, R341, R344). -/
def leadReached (s : State) : State :=
  match s.cpl.anchor with
  | none => s
  | some j =>
    if frontNow s < j then s
    else
      let s := reanchor (putCpl { s.cpl with anchor := none } s)
      if isLead s && coupled s then
        let rs := cutRecords s
        pin 2 rs (putCpl { s.cpl with cutRecs := rs } s)
      else s

/-- The Banker's front is at J (R340). -/
def bankerReached (s : State) : State :=
  match s.cpl.join with
  | none => s
  | some j =>
    if frontNow s < j then s
    else if isBanker s && jstate s == 2 then
      let s := realign j (reanchor (putCpl { s.cpl with join := none, logOn := true, log := [] } s))
      setJstate 3 (putCpl { s.cpl with capFrom := cdiv j (cfgP s), ownFrom := 0 } s)
    else putCpl { s.cpl with join := none } s

/-- JOIN_INDEX_REACHED. -/
def joinReached (s : State) : State := bankerReached (leadReached s)

/-- JOIN_READY (R343). -/
def joinReady (s : State) : State :=
  if isBanker s && jstate s == 4 && decide (cfgP s * s.cpl.sendFrom ≤ frontNow s) then
    setJstate 5 s |> cplCond 6 |> incF R.CPL_CNT F.CPL_CNT_JOINS 1
  else s

/-- JCOMMIT_TIMEOUT (R344). -/
def jcommitTimeout (s : State) : State := if isBanker s && jstate s == 3 then joinFail s else s

/-! ### The commands -/

def execDataTrainReceive (i : LaneId) (syms : List (BitVec 2)) (s : State) : Out :=
  .next (trainReceive couplingTrain i syms s)
def execFillerReceive (i : LaneId) (syms : List (BitVec 2)) (s : State) : Out :=
  .next (trainReceive couplingTrain i syms s)
def execTimetableTrainReceive (i : LaneId) (syms : List (BitVec 2)) (s : State) : Out :=
  .next (trainReceive couplingTrain i syms s)
def execTestTrainReceive (i : LaneId) (syms : List (BitVec 2)) (s : State) : Out :=
  .next (trainReceive couplingTrain i syms s)
def execCouplingTrainReceive (i : LaneId) (syms : List (BitVec 2)) (s : State) : Out :=
  .next (trainReceive couplingTrain i syms s)
def execRole (c : Fin 4) (r : RoleRec) (s : State) : Out := .next (roleReceive c.val r s)
def execHealth (event : Fin 1024) (tick : Word) (s : State) : Out := .next (healthReceive event.val tick s)
def execMack (cseq : BitVec 16) (result : Fin 4) (s : State) : Out := .next (mack cseq.toNat result.val s)
def execMackTimeout (s : State) : Out := .next (mackTimeout s)
def execJreq (s : State) : Out := .next (jreq s)
def execJgrant (j jp : BitVec 48) (s : State) : Out := .next (jgrant j.toNat jp.toNat s)
def execJcommitTimeout (s : State) : Out := .next (jcommitTimeout s)
def execJreqRetry (s : State) : Out := .next (jreqRetry s)
def execResign (s : State) : Out := .next (resignReceive s)
def execTakeover (term : BitVec 24) (s : State) : Out := .next (takeoverReceive term.toNat s)
def execCouplingTrainSend (c : Fin 4) (s : State) : Out := .next (couplingTrainSend c.val s)
def execCouplingLoss (s : State) : Out := .next (couplingLoss s)
def execBootRoleTimeout (s : State) : Out := .next (bootRoleTimeout s)

end Sys2Proof.Machine
end

