-- ==== Sys2Proof/Machine/Substation.lean ====
section
/-!
DEFINITION. What other blocks ask of the Substation (14): requests for a state (R352), the state code
with its event (R351, R367).
-/
namespace Sys2Proof.Machine

/-- A Substation condition with its event (R367): SUB_STATUS bit b, event 14:b. -/
def subCond (b : Nat) (s : State) : State := flagEvt R.SUB_STATUS F.SUB_STATUS_EVT b (ev 14 b) s

/-- A change of SUB_STATE.STATE raises STATE each time (R351, R367). -/
def setPstate (x : Nat) (s : State) : State :=
  if pstate s = x then s
  else flagAll R.SUB_STATUS F.SUB_STATUS_EVT 0 (ev 14 0) (setF R.SUB_STATE F.SUB_STATE_STATE x s)

/-- In TRANSIT from the start of a transition to its end (Table 14.2). -/
def beginTransit (s : State) : State := setPstate 6 (setF R.SUB_STATE F.SUB_STATE_BUSY 1 s)

def pendOf (s : State) : Nat := getF R.SUB_STATE F.SUB_STATE_PEND s
def setPend (x : Nat) (s : State) : State := setF R.SUB_STATE F.SUB_STATE_PEND x s

/-- The end of a transition in state `x`; a pending request for that state is then complete. -/
def endTransit (x : Nat) (s : State) : State :=
  let s := setF R.SUB_STATE F.SUB_STATE_STEP 0 (setF R.SUB_STATE F.SUB_STATE_BUSY 0 s)
  setPstate x (if pendOf s = x then setPend 0 s else s)

/-- The Depot holds a passing plan (R352, R400). -/
def planValid (s : State) : Bool := isSet R.DEP_PLAN F.DEP_PLAN_VALID s

/-- A request is refused (R352). -/
def stateRefused (target : Nat) (s : State) : Bool :=
  target == 0 || target == 6 || target == 7 || (pstate s == 0 && target != 5) || (target == 1 && !planValid s)

/-- The rules of R352 for SET_STATE and for a write of SUB_CTRL.TARGET: whether the request was accepted,
and the state. The transition itself runs afterwards. -/
def requestState (target : Nat) (s : State) : Bool × State :=
  if stateRefused target s then (false, subCond 6 s)
  else
    let s := setF R.SUB_CTRL F.SUB_CTRL_TARGET target s
    (true, setPend (if pstate s = target then 0 else target) s)

/-! ### The request for Standing of a threshold (R380) -/

def requestStanding (s : State) : State := (requestState 2 s).2

end Sys2Proof.Machine
end

