-- ==== Sys2Proof/Machine/Analogue.lean ====
section
/-!
DEFINITION. Analogue outputs and monitoring (15): goals, the slew limiter and range changes (R371-R374),
faults (R376), headroom (R377), conversions, thresholds and read-back (R375, R378-R380).
-/
namespace Sys2Proof.Machine

def outOf (n : Nat) (s : State) : Output := s.outs.get (fun _ => {}) n
def putOut (n : Nat) (x : Output) (s : State) : State := { s with outs := s.outs.set (fun _ => {}) n x }

def aoRole (n : Nat) (s : State) : Nat := getF (R.AOU_CTRL n) F.AOU_CTRL_ROLE s
def aoMode (n : Nat) (s : State) : Bool := isSet (R.AOU_CTRL n) F.AOU_CTRL_MODE s
def aoGain (n : Nat) (s : State) : Bool := isSet (R.AOU_CTRL n) F.AOU_CTRL_GAIN s
def aoTarget (n : Nat) (s : State) : Nat := getF (R.AOU_TARGET n) F.AOU_TARGET_TARGET s
def aoDriven (n : Nat) (s : State) : Nat := getF (R.AOU_DRIVEN n) F.AOU_DRIVEN_C s
def aoFault (n : Nat) (s : State) : Bool := isSet (R.AOU_STAT n) F.AOU_STAT_FAULT s

/-- A write, range change or clear is refused (R372, R374, R376). -/
def aoReject (n : Nat) (s : State) : State := flagEvt (R.AOU_STAT n) F.AOU_STAT_REJ 0 (ev 14 61) s

/-- RET_CODE of the output's regulator in Laid-up, when it applies (R365, R373). -/
def retCode (n : Nat) (s : State) : Option Nat :=
  let c := getF (R.SUB_REG n) F.SUB_REG_RET_CODE s
  if pstate s = 4 ∧ aoRole n s = 1 ∧ isSet (R.SUB_REG n) F.SUB_REG_EN s ∧ c ≠ 0 then some c else none

/-- The goal of R373; that of a METER output is TARGET until its source has a result (R375). -/
def aoGoal (n : Nat) (s : State) : Nat :=
  let o := outOf n s
  if aoFault n s then getF (R.AOU_STAT n) F.AOU_STAT_FCODE s
  else if o.range = 1 ∨ o.range = 2 then 0
  else match retCode n s with
    | some c => c
    | none => if aoRole n s = 3 then o.meter.getD (aoTarget n s) else aoTarget n s

/-- AOU_DRIVEN.PHASE. -/
def showPhase (n : Nat) (s : State) : State :=
  let o := outOf n s
  let ph := if o.range = 1 ∨ o.range = 2 then 2 else if o.range = 3 then 3
            else if aoRole n s ≠ 0 ∧ aoDriven n s ≠ aoGoal n s then 1 else 0
  setF (R.AOU_DRIVEN n) F.AOU_DRIVEN_PHASE ph s

/-- The code one tick moves to (R373, R376). -/
def aoStep (n : Nat) (s : State) : Nat :=
  let c := aoDriven n s
  let g := aoGoal n s
  let st := getF (R.AOU_SLEW n) F.AOU_SLEW_STEP s
  if st = 0 ∨ (aoFault n s ∧ aoRole n s ≠ 1) then g
  else if c ≤ g then Nat.min g (c + st) else Nat.max g (c - st)

/-- ROLE takes effect: an output that becomes SETPOINT keeps its code, which TARGET then reads, and one that becomes
METER awaits a result of its source (R371, R375). -/
def aoSetRole (n role : Nat) (s : State) : State :=
  if role = aoRole n s then s
  else
    putOut n { outOf n s with meter := none } (setF (R.AOU_CTRL n) F.AOU_CTRL_ROLE role s)
      |> when (role == 1) (setF (R.AOU_TARGET n) F.AOU_TARGET_TARGET (aoDriven n s))

/-- What the end of a ramp does (R374): at zero the range switches; back at the goal the change is over
and a waiting ROLE takes effect (R371). -/
def aoRamp (n : Nat) (s : State) : State :=
  let o := outOf n s
  if o.range = 1 ∧ aoDriven n s = 0 then
    putOut n { o with range := 2 } s
      |> setF (R.AOU_CTRL n) F.AOU_CTRL_MODE (b2n o.mode)
      |> setF (R.AOU_CTRL n) F.AOU_CTRL_GAIN (b2n o.gain)
  else if o.range = 3 ∧ aoDriven n s = aoGoal n s then
    let s := putOut n { o with range := 0, role := none } s
    match o.role with
    | none => s
    | some r => aoSetRole n r s
  else s

/-- AO_SLEW_TICK (R373). -/
def aoSlewTick (n : Nat) (s : State) : State :=
  if aoRole n s = 0 ∨ pstate s = 5 then s
  else
    let was := aoDriven n s = aoGoal n s
    let s := setF (R.AOU_DRIVEN n) F.AOU_DRIVEN_C (aoStep n s) s
    let o := outOf n s
    let us := o.steady + getF (R.AOU_SLEW n) F.AOU_SLEW_PERIOD s
    let s := putOut n { o with steady := if was then us else 0 } s
    showPhase n (aoRamp n s)

/-- The ramp-down of a range change starts. -/
def beginRange (n : Nat) (mode gain : Bool) (role : Option Nat) (s : State) : State :=
  showPhase n (putOut n { outOf n s with range := 1, mode := mode, gain := gain, role := role } s)

/-- The MODE and GAIN fields of a write of AOU_CTRL (R374): an output without a role stores them; an output
in fault takes no range change (DESIGN CHOICE, log 99). -/
def aoRangeWrite (n : Nat) (mode gain : Bool) (s : State) : State :=
  let role := aoRole n s
  if role = 0 then
    s |> setF (R.AOU_CTRL n) F.AOU_CTRL_MODE (b2n mode) |> setF (R.AOU_CTRL n) F.AOU_CTRL_GAIN (b2n gain)
  else if mode = aoMode n s ∧ gain = aoGain n s then s
  else if role = 1 ∨ (role = 2 ∧ mode ≠ aoMode n s) ∨ (outOf n s).range ≠ 0 then aoReject n s
  else if aoFault n s then s
  else beginRange n mode gain none s

/-- AO_RANGE_SETTLE: 20 microseconds after the switch the limiter ramps back. -/
def aoRangeSettle (n : Nat) (s : State) : State :=
  let o := outOf n s
  if o.range = 2 then showPhase n (aoRamp n (putOut n { o with range := 3 } s)) else s

/-- The output enters fault (R376); a range change ends where it stands, and a ROLE that waited for its ramp-back is
dropped. An output without a role enters it too, and drives nothing all the same. -/
def aoEnterFault (n : Nat) (cause : List Nat) (s : State) : State :=
  let o := outOf n s
  let s := putOut n { o with range := 0, role := none, causes := o.causes ++ cause } s
  showPhase n (flagEvt (R.AOU_STAT n) F.AOU_STAT_FAULT 0 (ev 14 (52 + n)) s)

/-- CLRFAULT (R376). -/
def aoClearFault (n : Nat) (s : State) : State :=
  let o := outOf n s
  if ¬ aoFault n s then s
  else if o.causes.any (fun c => getBit R.MON_STATUS F.MON_STATUS_ACTIVE c s) then aoReject n s
  else showPhase n (setF (R.AOU_STAT n) F.AOU_STAT_FAULT 0 (putOut n { o with causes := [] } s))

/-- A write of AOU_TARGET (R372). -/
def aoTargetWrite (n target : Nat) (s : State) : State :=
  let role := aoRole n s
  if role = 3 then s
  else if role = 1 ∧ (target < getF (R.AOU_LIM n) F.AOU_LIM_LO s ∨ getF (R.AOU_LIM n) F.AOU_LIM_HI s < target
      ∨ (getF (R.AOU_LIM n) F.AOU_LIM_LO s = 0 ∧ getF (R.AOU_LIM n) F.AOU_LIM_HI s = 0)) then aoReject n s
  else showPhase n (setF (R.AOU_TARGET n) F.AOU_TARGET_TARGET target s)

/-- A write of AOU_CTRL: FFORCE, CLRFAULT, then the range. -/
def aoCtrlWrite (n : Nat) (mode gain fforce clr : Bool) (s : State) : State :=
  s |> when fforce (aoEnterFault n [])
    |> when clr (aoClearFault n)
    |> aoRangeWrite n mode gain

/-- A write of ROLE by another master than the Depot while the configuration is not sealed (R7, R402): stored, but for
SETPOINT in current mode, which Table 15.1 does not allow. -/
def aoHostRole (n role : Nat) (s : State) : State :=
  if role = 1 ∧ role ≠ aoRole n s ∧ aoMode n s then aoReject n s else showPhase n (aoSetRole n role s)

/-- The Depot's load of ROLE, MODE and GAIN (R371). -/
def aoDepotLoad (n role : Nat) (mode gain : Bool) (s : State) : State :=
  if aoRole n s = 1 then
    if role = 1 ∧ mode = aoMode n s ∧ gain = aoGain n s then s else aoReject n s
  else if role = 1 ∧ mode then aoReject n s
  else if aoRole n s ≠ 0 ∧ (mode ≠ aoMode n s ∨ gain ≠ aoGain n s) then beginRange n mode gain (some role) s
  else
    showPhase n (aoSetRole n role (s |> setF (R.AOU_CTRL n) F.AOU_CTRL_MODE (b2n mode)
      |> setF (R.AOU_CTRL n) F.AOU_CTRL_GAIN (b2n gain)))

/-- The Depot's load of TARGET (R371): not for an output that is or becomes SETPOINT. -/
def aoDepotTarget (n target : Nat) (s : State) : State :=
  if (outOf n s).role.getD (aoRole n s) = 1 then s
  else showPhase n (setF (R.AOU_TARGET n) F.AOU_TARGET_TARGET target (putOut n { outOf n s with meter := none } s))

/-- AO_HEADROOM_CHECK (R377). -/
def aoHeadroom (n : Nat) (good : Bool) (s : State) : State :=
  let o := outOf n s
  if aoRole n s = 0 ∨ ¬ aoMode n s ∨ aoDriven n s < 2731 then putOut n { o with low := 0, good := 0 } s
  else if good then
    let k := Nat.min (o.good + 1) 100
    when (k == 100) (setF (R.AOU_STAT n) F.AOU_STAT_OPEN 0) (putOut n { o with low := 0, good := k } s)
  else
    let k := Nat.min (o.low + 1) 100
    when (k == 100) (flagEvt (R.AOU_STAT n) F.AOU_STAT_OPEN 0 (ev 14 (56 + n)))
      (putOut n { o with low := k, good := 0 } s)

/-! ### What the pin drives (R365, R369, R370) -/

/-- The trimmed value of code `c` (R369). -/
def aoTrim (n c : Nat) (s : State) : Nat :=
  (clampI 0 65535 ((c : Int) + sx F.AOU_TRIM_OFS.w (getF (R.AOU_TRIM n) F.AOU_TRIM_OFS s)
    + (c : Int) * sx F.AOU_TRIM_GTRIM.w (getF (R.AOU_TRIM n) F.AOU_TRIM_GTRIM s) / 2 ^ 16)).toNat

/-- The value at the pin: none while it is high-impedance, with ROLE 0 or in Off; zero while a range switches. -/
def aoPin (n : Nat) (s : State) : Option Nat :=
  if aoRole n s = 0 ∨ pstate s = 5 then none
  else some (if (outOf n s).range = 2 then 0 else aoTrim n (aoDriven n s) s)

/-! ### The monitoring ADC -/

/-- The event of an input (Table 15.6). -/
def monEvent (c : Nat) : Nat := if c < 32 then ev 14 (16 + c) else ev 14 (48 + (c - 32))

def monRaw (c : Nat) (s : State) : Nat := getF (R.MON_RES c) F.MON_RES_RAW s
def monFilt (c : Nat) (s : State) : Nat := getF (R.MON_RES c) F.MON_RES_FILT s

/-- The actions of a crossing (R380). -/
def monActions (c : Nat) (s : State) : State :=
  let th := R.MON_TH c
  let s := when (isSet th F.MON_TH_EVT s) (raise (monEvent c)) s
  let s := (List.range 4).foldl (fun s n => if getBit th F.MON_TH_FMASK n s then aoEnterFault n [c] s else s) s
  let s := when (isSet th F.MON_TH_STAND s) requestStanding s
  when (isSet th F.MON_TH_WAKE s && (pstate s == 3 || pstate s == 4) && isSet R.LMP_WAKEEN F.LMP_WAKEEN_ALARM s)
    (wakeRequest 9) s

/-- The actions of the channels that crossed in a round are taken in ascending order: those of channels 32-35, which
slots 24-27 convert, after those of channels 28-31, at the round's end (R380). -/
def monCross (c : Nat) (s : State) : State :=
  if c < 32 then monActions c s else putPow { s.pow with monActs := s.pow.monActs ++ [c] } s

/-- THRESHOLD_CROSSING (R380). -/
def monThreshold (c : Nat) (s : State) : State :=
  let th := R.MON_TH c
  let x := monRaw c s
  let hi := getF th F.MON_TH_HI s
  let lo := getF th F.MON_TH_LO s
  let hy := getF th F.MON_TH_HYST s
  let above := hi ≠ 0 ∧ hi < x
  let below := lo ≠ 0 ∧ x < lo
  if above ∨ below then
    let s := setF (R.MON_RES c) F.MON_RES_HI (b2n (decide above)) s
    if getBit R.MON_STATUS F.MON_STATUS_ACTIVE c s then s
    else monCross c (setBit R.MON_STATUS F.MON_STATUS_ACTIVE c true s)
  else if (hi = 0 ∨ x + hy ≤ hi) ∧ (lo = 0 ∨ lo + hy ≤ x) then
    setBit R.MON_STATUS F.MON_STATUS_ACTIVE c false s
  else s

/-- METER_UPDATE (R375). -/
def meterUpdate (c : Nat) (s : State) : State :=
  (List.range 4).foldl (fun s n =>
    let b := R.AOU_METER n
    if aoRole n s = 3 ∧ getF b F.AOU_METER_SRC s = c then
      let d : Int := (monFilt c s : Int) - getF b F.AOU_METER_ZERO s
      let g := clampI 0 65535 (getF b F.AOU_METER_BASE s + d * sx 16 (getF b F.AOU_METER_SLOPE s) / 256)
      showPhase n (putOut n { outOf n s with meter := some g.toNat } s)
    else s) s

/-- READBACK_CHECK (R379) on input A of channel 24 + n: while c has equalled its goal for 100 µs the read-back is
compared with e = c × num / den exactly. -/
def readBack (n : Nat) (s : State) : State :=
  let o := outOf n s
  let tol := getF (R.AOU_LIM n) F.AOU_LIM_RBTOL s
  let c : Int := aoDriven n s
  let (num, den) : Int × Int := if aoMode n s then (15, 256) else if aoGain n s then (1, 16) else (1, 32)
  if aoRole n s = 0 ∨ tol = 0 ∨ o.steady < 100 ∨ aoDriven n s ≠ aoGoal n s then putOut n { o with rbMiss := 0 } s
  else if (tol : Int) * den < ((monRaw (24 + n) s : Int) * den - c * num).natAbs then
    when (1 ≤ o.rbMiss) (flagEvt (R.AOU_STAT n) F.AOU_STAT_RBERR 0 (ev 14 60))
      (putOut n { o with rbMiss := Nat.min (o.rbMiss + 1) 2 } s)
  else putOut n { o with rbMiss := 0 } s

/-- The input slot `c` converts in this round. -/
def monInput (c : Nat) (s : State) : Nat :=
  if 24 ≤ c ∧ c < 28 ∧ getF R.MON_CTRL F.MON_CTRL_ROUNDS s % 2 = 1 then c + 8 else c

/-- The round ends with slot 31: the actions that wait for it, and the next round. -/
def monRound (s : State) : State :=
  incF R.MON_CTRL F.MON_CTRL_ROUNDS 1
    (s.pow.monActs.foldl (fun s c => monActions c s) (putPow { s.pow with monActs := [] } s))

/-- MON_CONVERSION (R378): the next slot of the fixed sequence converts `x`. DESIGN CHOICE: while EN = 0 the sequence
stands where it is; log entry 114. -/
def monConversion (x : Nat) (s : State) : State :=
  if ¬ isSet R.MON_CTRL F.MON_CTRL_EN s ∨ pstate s = 5 then s
  else
    let slot := s.pow.monSlot % 32
    let c := monInput slot s
    let th := R.MON_TH c
    let raw := (clampI 0 4095 ((x : Int) + sx 12 (getF th F.MON_TH_OFS s))).toNat
    let y : Int := monFilt c s
    let y := y + ((raw : Int) - y) / 2 ^ getF th F.MON_TH_FSHIFT s
    let s := s |> setF (R.MON_RES c) F.MON_RES_RAW raw |> setF (R.MON_RES c) F.MON_RES_FILT y.toNat
    let s := meterUpdate c (monThreshold c s)
    let s := if 24 ≤ c ∧ c < 28 then readBack (c - 24) s else s
    when (slot == 31) monRound (putPow { s.pow with monSlot := (slot + 1) % 32 } s)

/-! ### Power-up values (R365, R370) -/

/-- The keepsake entry of an output (Table 15.3): word 32 + n of the public words. -/
def aoEntry (n : Nat) (f : Fld) (s : State) : Nat := bitsOf (kps (32 + n) s) f.lo f.w
def aoeRole : Fld := ⟨0, 0, 2⟩
def aoeMode : Fld := ⟨0, 2, 1⟩
def aoeGain : Fld := ⟨0, 3, 1⟩
def aoePu : Fld := ⟨0, 4, 16⟩
def aoeFault : Fld := ⟨0, 20, 16⟩

/-- Each output shows its keepsake codes. -/
def aoCodes (n : Nat) (s : State) : State :=
  s |> setF (R.AOU_STAT n) F.AOU_STAT_PU (aoEntry n aoePu s)
    |> setF (R.AOU_STAT n) F.AOU_STAT_FCODE (aoEntry n aoeFault s)

/-- The output takes the range of its keepsake entry and drives its PU code, which is TARGET too, and so a METER
output's goal until its source has a result (R370). -/
def aoPowerUp (n : Nat) (s : State) : State :=
  let pu := aoEntry n aoePu s
  putOut n {} s
    |> setF (R.AOU_CTRL n) F.AOU_CTRL_ROLE (aoEntry n aoeRole s)
    |> setF (R.AOU_CTRL n) F.AOU_CTRL_MODE (aoEntry n aoeMode s)
    |> setF (R.AOU_CTRL n) F.AOU_CTRL_GAIN (aoEntry n aoeGain s)
    |> setF (R.AOU_TARGET n) F.AOU_TARGET_TARGET pu
    |> setF (R.AOU_DRIVEN n) F.AOU_DRIVEN_C pu
    |> setF (R.AOU_DRIVEN n) F.AOU_DRIVEN_PHASE 0
    |> aoCodes n

/-! ### The commands without a write -/

def execAoRangeSettle (n : Fin 4) (s : State) : Out := .next (aoRangeSettle n.val s)
def execAoSlewTick (n : Fin 4) (s : State) : Out := .next (aoSlewTick n.val s)
def execAoHeadroomCheck (n : Fin 4) (good : Bool) (s : State) : Out := .next (aoHeadroom n.val good s)
def execMonConversion (x : BitVec 12) (s : State) : Out := .next (monConversion x.toNat s)

end Sys2Proof.Machine
end

