-- ==== Sys2Proof/Decode.lean ====
section
/-!
DEFINITION. Words that spell commands. spec/opcode_table.json gives its rows no bits, so
`decodeTableWord` answers none. The Lenya core has a word encoding of its own (R267, Tables 10.7-10.11):
`decodeCore` reads a code word, `encodeCore` writes one. A word that R267 rules illegal decodes to none.
-/
namespace Sys2Proof

/-- The command a word spells by the opcode table's bits: the table gives no row bits. -/
def decodeTableWord (_nbits _w : Nat) : Option Instr := none

/-! ### Classes and code memories (Table 10.1) -/

/-- D6 and D7 are transform-class cores (R243). -/
def transformCore (n : CoreId) : Bool := n.val == 6 || n.val == 7

/-- Words of a core's code memory, and of its data memory. -/
def coreWords (n : CoreId) : Nat := if n.val = 8 then 262144 else 65536

/-- Bits [lo + w - 1 : lo]. -/
def cut (x lo w : Nat) : Nat := x / 2 ^ lo % 2 ^ w

def fin16 (x : Nat) : Fin 16 := Fin.ofNat 16 x
def fin8 (x : Nat) : Fin 8 := Fin.ofNat 8 x
def fin4 (x : Nat) : Fin 4 := Fin.ofNat 4 x
def fin64 (x : Nat) : Fin 64 := Fin.ofNat 64 x

/-! ### Formats (Table 10.7) -/

def wordC (func : Nat) : Nat := func * 2 ^ 30
def wordR (op d a b func : Nat) : Nat := op * 2 ^ 35 + d * 2 ^ 31 + a * 2 ^ 27 + b * 2 ^ 23 + func * 2 ^ 18
def wordI (d a func imm : Nat) : Nat := 2 * 2 ^ 35 + d * 2 ^ 31 + a * 2 ^ 27 + func * 2 ^ 24 + imm
def wordM (op w ai mj mode : Nat) : Nat := op * 2 ^ 35 + w * 2 ^ 31 + ai * 2 ^ 28 + mj * 2 ^ 25 + mode * 2 ^ 23
def wordB (op cond target : Nat) : Nat := op * 2 ^ 35 + cond * 2 ^ 31 + target

/-- The 12 bits of a load descriptor. -/
def descBits (l : LoadDesc) : Nat := l.wd.val * 256 + l.ai.val * 32 + l.mj.val * 4 + l.mode.val

def descOf (x : Nat) : LoadDesc := ⟨fin16 (cut x 8 4), fin8 (cut x 5 3), fin8 (cut x 2 3), fin4 (cut x 0 2)⟩

def wordD (op acc conj neg a b : Nat) (l1 l2 : LoadDesc) : Nat :=
  op * 2 ^ 35 + acc * 2 ^ 34 + conj * 2 ^ 33 + neg * 2 ^ 32 + a * 2 ^ 28 + b * 2 ^ 24 + descBits l1 * 2 ^ 12
    + descBits l2

def bit (b : Bool) : Nat := if b then 1 else 0

/-- The encoding of a core instruction; none for the other commands. -/
def encodeNat (i : Instr) : Option Nat :=
  match i with
  | .nop _ => some (wordC 0)
  | .idle _ => some (wordC 1)
  | .halt _ => some (wordC 2)
  | .rti _ => some (wordC 3)
  | .sync _ => some (wordC 4)
  | .trap _ => some (wordC 5)
  | .bxclr _ => some (wordC 6)
  | .add _ d a b => some (wordR 1 d.val a.val b.val 0)
  | .addc _ d a b => some (wordR 1 d.val a.val b.val 1)
  | .sub _ d a b => some (wordR 1 d.val a.val b.val 2)
  | .subb _ d a b => some (wordR 1 d.val a.val b.val 3)
  | .and _ d a b => some (wordR 1 d.val a.val b.val 4)
  | .or _ d a b => some (wordR 1 d.val a.val b.val 5)
  | .xor _ d a b => some (wordR 1 d.val a.val b.val 6)
  | .andn _ d a b => some (wordR 1 d.val a.val b.val 7)
  | .shl _ d a b => some (wordR 1 d.val a.val b.val 8)
  | .shr _ d a b => some (wordR 1 d.val a.val b.val 9)
  | .shrl _ d a b => some (wordR 1 d.val a.val b.val 10)
  | .min _ d a b => some (wordR 1 d.val a.val b.val 11)
  | .max _ d a b => some (wordR 1 d.val a.val b.val 12)
  | .minu _ d a b => some (wordR 1 d.val a.val b.val 13)
  | .maxu _ d a b => some (wordR 1 d.val a.val b.val 14)
  | .cmp _ a b => some (wordR 1 0 a.val b.val 15)
  | .mull _ d a b => some (wordR 1 d.val a.val b.val 16)
  | .mulh _ d a b => some (wordR 1 d.val a.val b.val 17)
  | .mulhu _ d a b => some (wordR 1 d.val a.val b.val 18)
  | .neg _ d a => some (wordR 1 d.val a.val 0 19)
  | .not _ d a => some (wordR 1 d.val a.val 0 20)
  | .abs _ d a => some (wordR 1 d.val a.val 0 21)
  | .clz _ d a => some (wordR 1 d.val a.val 0 22)
  | .addi _ d a imm => some (wordI d.val a.val 0 imm.toNat)
  | .andi _ d a imm => some (wordI d.val a.val 1 imm.toNat)
  | .ori _ d a imm => some (wordI d.val a.val 2 imm.toNat)
  | .xori _ d a imm => some (wordI d.val a.val 3 imm.toNat)
  | .cmpi _ a imm => some (wordI 0 a.val 4 imm.toNat)
  | .shli _ d a amt => some (wordI d.val a.val 5 amt.toNat)
  | .shri _ d a amt => some (wordI d.val a.val 6 amt.toNat)
  | .shrli _ d a amt => some (wordI d.val a.val 7 amt.toNat)
  | .movk _ d h imm => some (3 * 2 ^ 35 + d.val * 2 ^ 31 + bit h * 2 ^ 30 + imm.toNat)
  | .cadd _ d a b => some (wordR 4 d.val a.val b.val 0)
  | .csub _ d a b => some (wordR 4 d.val a.val b.val 1)
  | .cmulr _ d a b => some (wordR 4 d.val a.val b.val 2)
  | .cmulj _ d a b => some (wordR 4 d.val a.val b.val 3)
  | .cneg _ d a => some (wordR 4 d.val a.val 0 4)
  | .cconj _ d a => some (wordR 4 d.val a.val 0 5)
  | .cswap _ d a => some (wordR 4 d.val a.val 0 6)
  | .cshr _ d a b => some (wordR 4 d.val a.val b.val 7)
  | .cmag2 _ d a => some (wordR 4 d.val a.val 0 8)
  | .mva _ d acc clr => some (5 * 2 ^ 35 + d.val * 2 ^ 31 + bit acc * 2 ^ 30 + bit clr * 2 ^ 29)
  | .movx _ dst src => some (6 * 2 ^ 35 + dst.val * 2 ^ 29 + src.val * 2 ^ 23)
  | .mova _ dst imm => some (7 * 2 ^ 35 + dst.val * 2 ^ 29 + imm.toNat)
  | .ld _ w ai mj mode => some (wordM 8 w.val ai.val mj.val mode.val)
  | .st _ w ai mj mode => some (wordM 9 w.val ai.val mj.val mode.val)
  | .br _ c t => some (wordB 16 c.val t.toNat)
  | .call _ c t => some (wordB 17 c.val t.toNat)
  | .jr _ c a => some (18 * 2 ^ 35 + c.val * 2 ^ 31 + a.val * 2 ^ 27)
  | .loopi _ c e => some (19 * 2 ^ 35 + c.toNat * 2 ^ 18 + e.toNat)
  | .loopr _ c e => some (20 * 2 ^ 35 + c.val * 2 ^ 30 + e.toNat)
  | .macl _ acc conj neg a b l1 l2 => some (wordD 24 (bit acc) (bit conj) (bit neg) a.val b.val l1 l2)
  | .mpyl _ acc conj neg a b l1 l2 => some (wordD 25 (bit acc) (bit conj) (bit neg) a.val b.val l1 l2)
  | .ldd _ l1 l2 => some (wordD 26 0 0 0 0 0 l1 l2)
  | _ => none

def encodeCore (i : Instr) : Option Word := (encodeNat i).map (BitVec.ofNat 40)

/-! ### Reading a word -/

/-- The control group (Table 10.10). -/
def decodeC (n : CoreId) (x : Nat) : Option Instr :=
  if cut x 0 30 ≠ 0 then none
  else match cut x 30 5 with
    | 0 => some (.nop n)
    | 1 => some (.idle n)
    | 2 => some (.halt n)
    | 3 => some (.rti n)
    | 4 => some (.sync n)
    | 5 => some (.trap n)
    | 6 => if transformCore n then some (.bxclr n) else none
    | _ => none

/-- The ALU functions (Table 10.8). -/
def decodeR (n : CoreId) (x : Nat) : Option Instr :=
  let d := fin16 (cut x 31 4)
  let a := fin16 (cut x 27 4)
  let b := fin16 (cut x 23 4)
  let bz := cut x 23 4 = 0
  if cut x 0 18 ≠ 0 then none
  else match cut x 18 5 with
    | 0 => some (.add n d a b)
    | 1 => some (.addc n d a b)
    | 2 => some (.sub n d a b)
    | 3 => some (.subb n d a b)
    | 4 => some (.and n d a b)
    | 5 => some (.or n d a b)
    | 6 => some (.xor n d a b)
    | 7 => some (.andn n d a b)
    | 8 => some (.shl n d a b)
    | 9 => some (.shr n d a b)
    | 10 => some (.shrl n d a b)
    | 11 => some (.min n d a b)
    | 12 => some (.max n d a b)
    | 13 => some (.minu n d a b)
    | 14 => some (.maxu n d a b)
    | 15 => if cut x 31 4 = 0 then some (.cmp n a b) else none
    | 16 => some (.mull n d a b)
    | 17 => some (.mulh n d a b)
    | 18 => some (.mulhu n d a b)
    | 19 => if bz then some (.neg n d a) else none
    | 20 => if bz then some (.not n d a) else none
    | 21 => if bz then some (.abs n d a) else none
    | 22 => if bz then some (.clz n d a) else none
    | _ => none

/-- The immediate functions of opcode 0x02. -/
def decodeI (n : CoreId) (x : Nat) : Option Instr :=
  let d := fin16 (cut x 31 4)
  let a := fin16 (cut x 27 4)
  let imm := BitVec.ofNat 24 (cut x 0 24)
  let amt := BitVec.ofNat 6 (cut x 0 6)
  let sh := cut x 6 18 = 0
  match cut x 24 3 with
  | 0 => some (.addi n d a imm)
  | 1 => some (.andi n d a imm)
  | 2 => some (.ori n d a imm)
  | 3 => some (.xori n d a imm)
  | 4 => if cut x 31 4 = 0 then some (.cmpi n a imm) else none
  | 5 => if sh then some (.shli n d a amt) else none
  | 6 => if sh then some (.shri n d a amt) else none
  | _ => if sh then some (.shrli n d a amt) else none

def decodeK (n : CoreId) (x : Nat) : Option Instr :=
  let h := cut x 30 1 = 1
  if cut x 24 6 ≠ 0 ∨ (h ∧ cut x 16 8 ≠ 0) then none
  else some (.movk n (fin16 (cut x 31 4)) (decide h) (BitVec.ofNat 24 (cut x 0 24)))

/-- The CPX functions (Table 10.9). -/
def decodeX (n : CoreId) (x : Nat) : Option Instr :=
  let d := fin16 (cut x 31 4)
  let a := fin16 (cut x 27 4)
  let b := fin16 (cut x 23 4)
  let bz := cut x 23 4 = 0
  if cut x 0 18 ≠ 0 then none
  else match cut x 18 5 with
    | 0 => some (.cadd n d a b)
    | 1 => some (.csub n d a b)
    | 2 => some (.cmulr n d a b)
    | 3 => some (.cmulj n d a b)
    | 4 => if bz then some (.cneg n d a) else none
    | 5 => if bz then some (.cconj n d a) else none
    | 6 => if bz then some (.cswap n d a) else none
    | 7 => some (.cshr n d a b)
    | 8 => if bz then some (.cmag2 n d a) else none
    | _ => none

/-- A register number MOVX may name (Table 10.2). -/
def movxReg (n : CoreId) (r : Nat) : Bool := decide (r < 54) && (r != 47 || transformCore n)

/-- A mode a core may use: bit-reversed on the transform class only (R254). -/
def modeOk (n : CoreId) (mode : Nat) : Bool := mode != 3 || transformCore n

/-- A load descriptor is legal: MODE 00 is no load and must be zero (Table 10.4). -/
def descOk (n : CoreId) (x : Nat) : Bool := modeOk n (cut x 0 2) && (cut x 0 2 != 0 || x == 0)

def decodeM (n : CoreId) (st : Bool) (x : Nat) : Option Instr :=
  let w := fin16 (cut x 31 4)
  let ai := fin8 (cut x 28 3)
  let mj := fin8 (cut x 25 3)
  let mode := fin4 (cut x 23 2)
  if cut x 0 23 ≠ 0 ∨ modeOk n (cut x 23 2) = false then none
  else if st then some (.st n w ai mj mode) else some (.ld n w ai mj mode)

def decodeB (n : CoreId) (call : Bool) (x : Nat) : Option Instr :=
  let t := BitVec.ofNat 18 (cut x 0 18)
  if cut x 18 13 ≠ 0 ∨ coreWords n ≤ cut x 0 18 then none
  else if call then some (.call n (fin16 (cut x 31 4)) t) else some (.br n (fin16 (cut x 31 4)) t)

def decodeD (n : CoreId) (x : Nat) : Option Instr :=
  let l1 := cut x 12 12
  let l2 := cut x 0 12
  let acc := decide (cut x 34 1 = 1)
  let conj := decide (cut x 33 1 = 1)
  let neg := decide (cut x 32 1 = 1)
  let a := fin16 (cut x 28 4)
  let b := fin16 (cut x 24 4)
  if descOk n l1 = false ∨ descOk n l2 = false then none
  else match cut x 35 5 with
    | 24 => some (.macl n acc conj neg a b (descOf l1) (descOf l2))
    | 25 => some (.mpyl n acc conj neg a b (descOf l1) (descOf l2))
    | _ => if cut x 24 11 = 0 then some (.ldd n (descOf l1) (descOf l2)) else none

/-- The instruction core `n` reads from a code word; none takes ILLEGAL (R267). -/
def decodeCore (n : CoreId) (w : Word) : Option Instr :=
  let x := w.toNat
  match cut x 35 5 with
  | 0 => decodeC n x
  | 1 => decodeR n x
  | 2 => decodeI n x
  | 3 => decodeK n x
  | 4 => decodeX n x
  | 5 => if cut x 0 29 ≠ 0 then none
         else some (.mva n (fin16 (cut x 31 4)) (decide (cut x 30 1 = 1)) (decide (cut x 29 1 = 1)))
  | 6 => if cut x 0 23 ≠ 0 ∨ movxReg n (cut x 29 6) = false ∨ movxReg n (cut x 23 6) = false then none
         else some (.movx n (fin64 (cut x 29 6)) (fin64 (cut x 23 6)))
  | 7 => if cut x 28 1 ≠ 0 ∨ cut x 29 6 < 16 ∨ 39 < cut x 29 6 then none
         else some (.mova n (fin64 (cut x 29 6)) (BitVec.ofNat 28 (cut x 0 28)))
  | 8 => decodeM n false x
  | 9 => decodeM n true x
  | 16 => decodeB n false x
  | 17 => decodeB n true x
  | 18 => if cut x 0 27 ≠ 0 then none else some (.jr n (fin16 (cut x 31 4)) (fin16 (cut x 27 4)))
  | 19 => if cut x 30 5 ≠ 0 ∨ coreWords n ≤ cut x 0 18 then none
          else some (.loopi n (BitVec.ofNat 12 (cut x 18 12)) (BitVec.ofNat 18 (cut x 0 18)))
  | 20 => if cut x 34 1 ≠ 0 ∨ cut x 18 12 ≠ 0 ∨ coreWords n ≤ cut x 0 18 then none
          else some (.loopr n (fin16 (cut x 30 4)) (BitVec.ofNat 18 (cut x 0 18)))
  | 24 => decodeD n x
  | 25 => decodeD n x
  | 26 => decodeD n x
  | _ => none

end Sys2Proof
end

