-- ==== Sys2Proof/Machine/Operands.lean ====
section
/-!
DEFINITION. The operands of the Lenya core (R243, R244, R247, R248, R254): registers in their home
DSPn_REGS, accumulators, addressing modes, local memory and accesses over the Interlocking.
-/
namespace Sys2Proof.Machine

def coreOf (n : Nat) (s : State) : Core := s.cores.get (fun _ => {}) n
def putCore (n : Nat) (c : Core) (s : State) : State := { s with cores := s.cores.set (fun _ => {}) n c }
def modCore (n : Nat) (f : Core → Core) (s : State) : State := putCore n (f (coreOf n s)) s

/-! ### Registers (Table 10.2) -/

/-- Word address of register `r` of core `n` in DSPn_REGS; entry 54 is the PC. -/
def creg (n r : Nat) : Nat := 0xF00040 + 0x100 * n + r

/-- The low `w` bits sign-extended to 40. -/
def signExt (w : Nat) (v : Word) : Word := BitVec.ofInt 40 (sx w v.toNat)

/-- The low `w` bits zero-extended to 40. -/
def lowBits (w : Nat) (v : Word) : Word := BitVec.ofNat 40 (v.toNat % 2 ^ w)

/-- A value as register `r` holds it and reads it (Table 10.2); entry 54 is the PC, of the width of the
core's code memory. -/
def regNorm (n r : Nat) (v : Word) : Word :=
  if r < 16 then v
  else if r < 24 then lowBits 28 v
  else if r < 32 then signExt 28 v
  else if r < 40 then lowBits 20 v
  else match r with
    | 40 => lowBits 9 v
    | 41 => signExt 5 v
    | 42 => lowBits 24 v
    | 43 => lowBits 18 v
    | 44 => lowBits 18 v
    | 45 => lowBits 18 v
    | 46 => lowBits 9 v
    | 47 => lowBits 5 v
    | 54 => lowBits (if n = 8 then 18 else 16) v
    | _ => v

def regRead (n r : Nat) (s : State) : Word := rd (creg n r) s
def regWrite (n r : Nat) (v : Word) (s : State) : State := wr (creg n r) (regNorm n r v) s

def regNat (n r : Nat) (s : State) : Nat := (regRead n r s).toNat
def setNat (n r v : Nat) (s : State) : State := regWrite n r (BitVec.ofNat 40 v) s

def pcOf (n : Nat) (s : State) : Nat := regNat n 54 s
def setPc (n v : Nat) (s : State) : State := setNat n 54 v s

/-! ### Accumulators (R250): 48-bit parts over three words -/

/-- First register of ACA or ACB. -/
def accBase (accB : Bool) : Nat := if accB then 51 else 48

def accRe (n : Nat) (accB : Bool) (s : State) : Int :=
  sx 48 (regNat n (accBase accB) s * 256 + regNat n (accBase accB + 2) s / 256 % 256)

def accIm (n : Nat) (accB : Bool) (s : State) : Int :=
  sx 48 (regNat n (accBase accB + 1) s * 256 + regNat n (accBase accB + 2) s % 256)

def putAccu (n : Nat) (accB : Bool) (re im : Int) (s : State) : State :=
  let r := fieldOf 48 re
  let i := fieldOf 48 im
  let b := accBase accB
  s |> setNat n b (r / 256) |> setNat n (b + 1) (i / 256)
    |> setNat n (b + 2) (regNat n (b + 2) s / 65536 * 65536 + r % 256 * 256 + i % 256)

/-! ### Addresses (R244, R254) -/

/-- First word of a core's code memory and of its data memory (Table 10.1). -/
def codeBase (n : Nat) : Nat := if n = 8 then 0 else 0x100000 + 0x20000 * n
def dataBase (n : Nat) : Nat := if n = 8 then 0x40000 else 0x110000 + 0x20000 * n
def memWords (n : Nat) : Nat := if n = 8 then 262144 else 65536

/-- The address lies in the core's own data memory. -/
def ownData (n a : Nat) : Bool := dataBase n ≤ a && a < dataBase n + memWords n

/-- The low `k` bits of `x` in reverse order. -/
def revBits (k x : Nat) : Nat := (List.range k).foldl (fun v b => v * 2 + x / 2 ^ b % 2) 0

/-- log2 of the smallest power of two that is at least `l`. -/
def ceilLog (l : Nat) : Nat := ((List.range 21).find? fun k => l ≤ 2 ^ k).getD 20

/-- Ai after an access (Table 10.4); none where the mode takes ILLEGAL. -/
def nextAddr (mode a m l : Nat) : Option Nat :=
  match mode with
  | 0 => some a
  | 1 => some ((a + m) % 2 ^ 28)
  | 2 =>
    if l = 0 then some ((a + m) % 2 ^ 28)
    else
      let k := 2 ^ ceilLog l
      let base := a / k * k
      some ((base + ((((a - base : Nat) : Int) + sx 28 m) % (l : Int)).toNat) % 2 ^ 28)
  | _ =>
    let k := ceilLog l
    if l = 2 ^ k ∧ 1 ≤ k ∧ k ≤ 16 then
      some (a / 2 ^ k * 2 ^ k + revBits k ((revBits k a + revBits k m) % 2 ^ k))
    else none

/-- The address an access uses, and the state with Ai updated. -/
def useAddr (n ai mj mode : Nat) (s : State) : Option (Nat × State) :=
  let a := regNat n (16 + ai) s
  (nextAddr mode a (regNat n (24 + mj) s % 2 ^ 28) (regNat n (32 + ai) s)).map fun x =>
    (a, setNat n (16 + ai) x s)

/-! ### Core memories (R247) -/

def memErrAt (a : Nat) (s : State) : Nat := s.memErr.get (fun _ => 0) a
def setMemErr (a k : Nat) (s : State) : State := { s with memErr := s.memErr.set (fun _ => 0) a k }

/-- The events of a core (Table 10.15). -/
def memCorrEvent (n : Nat) : Nat := if n = 8 then ev 12 38 else ev 12 (4 * n + 3)
def busErrEvent (n : Nat) : Nat := if n = 8 then ev 12 37 else ev 12 (4 * n + 2)

/-- A corrected word is counted; MEMCORR when the count leaves 0. -/
def countCorr (n : Nat) (s : State) : State :=
  when (getF (R.DSP_MEMERR n) F.DSP_MEMERR_CORR s == 0) (raise (memCorrEvent n)) (satF (R.DSP_MEMERR n) F.DSP_MEMERR_CORR 1 s)

def countUncorr (n : Nat) (s : State) : State := satF (R.DSP_MEMERR n) F.DSP_MEMERR_UNCORR 1 s

/-- A read of a core memory word through its check bits: the word, or none when uncorrectable. -/
def memRead (n a : Nat) (s : State) : Option Word × State :=
  match memErrAt a s with
  | 0 => (some (rd a s), s)
  | 1 => (some (rd a s), countCorr n s)
  | _ => (none, countUncorr n s)

def memWrite (a : Nat) (v : Word) (s : State) : State := wr a v (setMemErr a 0 s)

/-- The core whose code memory (true) or data memory (false) holds address `a`, with the offset. -/
def coreMemory (a : Nat) : Option (Nat × Bool × Nat) :=
  if a < 0x40000 then some (8, true, a)
  else if a < 0x80000 then some (8, false, a - 0x40000)
  else if 0x100000 ≤ a ∧ a < 0x200000 then
    let x := a - 0x100000
    some (x / 0x20000, x % 0x20000 < 0x10000, x % 0x10000)
  else none

/-! ### Accesses over the Interlocking -/

/-- The master number of a core (Table 11.1). -/
def coreMaster (n : Nat) : Nat := if n = 8 then 0 else n + 1

/-- A request of one word is issued at the core's port; it waits for admission (R283). -/
def farRequest (n a : Nat) (w : Option Word) (s : State) : State :=
  let r : Req := ⟨Fin.ofNat 16 (coreMaster n), 0, BitVec.ofNat 28 a, 1, w.map fun v => [v]⟩
  { s with ilk := { s.ilk with wait := s.ilk.wait ++ [r] } }
    |> incF (R.ILK_MST (coreMaster n)) F.ILK_MST_COUNT 1
    |> incF (R.ILK_MST (coreMaster n)) F.ILK_MST_OUT 1

end Sys2Proof.Machine
end

