-- ==== Sys2Proof/Machine/Flags.lean ====
section
/-!
DEFINITION. STAT (Table 10.3), the flags of the arithmetic and logical functions (Table 10.8), the
conditions (Table 10.11), and the rounding and saturation of complex values (R250-R253).
-/
namespace Sys2Proof.Machine

/-! ### STAT -/

def statOf (n : Nat) (s : State) : Nat := regNat n 40 s
def statBit (n b : Nat) (s : State) : Bool := statOf n s / 2 ^ b % 2 == 1

def setStat (n b : Nat) (v : Bool) (s : State) : State := setBit (creg n 40) ⟨0, 0, 9⟩ b v s

def flagZ (n : Nat) (s : State) : Bool := statBit n 1 s
def flagN (n : Nat) (s : State) : Bool := statBit n 2 s
def flagC (n : Nat) (s : State) : Bool := statBit n 3 s
def flagV (n : Nat) (s : State) : Bool := statBit n 4 s

/-- Z and N of a result. -/
def setZN (n : Nat) (r : Word) (s : State) : State :=
  setStat n 2 (decide (2 ^ 39 ≤ r.toNat)) (setStat n 1 (decide (r.toNat = 0)) s)

def setCV (n : Nat) (c v : Bool) (s : State) : State := setStat n 4 v (setStat n 3 c s)

/-- The value as a signed integer. -/
def sInt (w : Word) : Int := sx 40 w.toNat

def inRange40 (x : Int) : Bool := decide (-(2 ^ 39) ≤ x) && decide (x < 2 ^ 39)

/-- a + b + c: the sum, its carry out and signed overflow. -/
def addFlags (a b : Word) (c : Nat) : Word × Bool × Bool :=
  let t := a.toNat + b.toNat + c
  (BitVec.ofNat 40 t, decide (2 ^ 40 ≤ t), !inRange40 (sInt a + sInt b + c))

/-- a - b - (1 - c): the difference, C = 1 when there is no borrow, and signed overflow. -/
def subFlags (a b : Word) (c : Nat) : Word × Bool × Bool :=
  let t : Int := (a.toNat : Int) - b.toNat - (1 - c)
  (BitVec.ofInt 40 t, decide (0 ≤ t), !inRange40 (sInt a - sInt b - (1 - c)))

/-- COND of Table 10.11. -/
def condTrue (n cond : Nat) (s : State) : Bool :=
  let z := flagZ n s
  let ng := flagN n s
  let c := flagC n s
  let v := flagV n s
  match cond with
  | 0 => true
  | 1 => z
  | 2 => !z
  | 3 => ng != v
  | 4 => ng == v
  | 5 => z || ng != v
  | 6 => !z && ng == v
  | 7 => c
  | 8 => !c
  | 9 => ng
  | 10 => !ng
  | 11 => v
  | 12 => !v
  | 13 => statBit n 5 s
  | 14 => statBit n 6 s
  | _ => false

/-! ### Complex values -/

def cRe (w : Word) : Int := sx 20 (w.toNat / 2 ^ 20)
def cIm (w : Word) : Int := sx 20 w.toNat

def packC (re im : Int) : Word := BitVec.ofNat 40 (fieldOf 20 re * 2 ^ 20 + fieldOf 20 im)

def sat20 (x : Int) : Int := clampI (-(2 ^ 19)) (2 ^ 19 - 1) x
def satNeeded (x : Int) : Bool := sat20 x != x

/-- Headroom of a component (R253): leading bits equal to the sign bit, minus one. -/
def headroom (x : Int) : Nat :=
  let m := if x < 0 then (-x - 1).toNat else x.toNat
  ((List.range 20).find? fun k => m < 2 ^ k).elim 0 (19 - ·)

/-- Accumulator saturation (R251). -/
def satAcc (x : Int) : Int := clampI (-(2 ^ 47 - 1)) (2 ^ 47 - 1) x

/-- rne(acc x 2^SCALE / 2^19) (R252). -/
def scaleAcc (acc scale : Int) : Int :=
  if 0 ≤ scale then rne (acc * 2 ^ scale.toNat) (2 ^ 19) else rne acc (2 ^ (19 + (-scale).toNat))

end Sys2Proof.Machine
end

