-- ==== Sys2Proof/Machine/Lenya.lean ====
section
/-!
DEFINITION. The Lenya core (10): issue and the exposed pipeline (R256-R262), every instruction of R267,
interrupts and traps (R263-R266).
-/
namespace Sys2Proof.Machine

/-! ### Halting -/

/-- DSPn_STATE shows the core's state; SBX_STATE.STATE uses the restart codes instead. -/
def showCore (n : Nat) (s : State) : State :=
  when (n != 8) (setF (R.DSP_STATE n) F.DSP_STATE_STATE (coreOf n s).mode) s

def setMode (n mode : Nat) (s : State) : State := showCore n (modCore n (fun c => { c with mode := mode }) s)

/-- The loads of an instruction that still wait for a far response. -/
def unanswered (c : Core) : Nat := (c.loads.filter (·.2.isNone)).length

/-- The core halts (3) or faults (4) with a cause; FAULT_n when a Dispatcher enters FAULT (Table 10.15). The responses
of far loads that it waited for will be discarded (DESIGN CHOICE, log 81). -/
def coreStop (n mode cause : Nat) (s : State) : State :=
  let entered := mode == 4 && (coreOf n s).mode != 4
  let s := modCore n (fun c => { c with
    inflight := [], delay := 0, target := none, trap := none, sync := false, loads := [],
    stale := c.stale + unanswered c }) s
  let s := setMode n mode s
  s |> setF (R.DSP_STATE n) F.DSP_STATE_CAUSE cause
    |> setF (R.DSP_STATE n) F.DSP_STATE_PC (pcOf n s)
    |> when (entered && n != 8) (raise (ev 12 (4 * n)))

/-! ### Results in flight (R256-R258) -/

def inFlight (n l : Nat) (x : CoreWr) (s : State) : State :=
  modCore n (fun c => { c with inflight := c.inflight ++ [(l, x)] }) s

/-- BEXP after a complex result on a transform-class core (R253). -/
def updateBexp (n : Nat) (re im : Int) (s : State) : State :=
  if n = 6 ∨ n = 7 then setNat n 47 (Nat.min (regNat n 47 s) (Nat.min (headroom re) (headroom im))) s else s

/-- A result becomes visible. -/
def applyWr (n : Nat) (x : CoreWr) (s : State) : State :=
  match x with
  | .reg r v => regWrite n r v s
  | .part r v => regWrite n r v s
  | .cplx r re im => updateBexp n re im (regWrite n r (packC re im) s)
  | .mac b rep re im =>
    let xr := (if rep then 0 else accRe n b s) + re
    let xi := (if rep then 0 else accIm n b s) + im
    when (satAcc xr != xr || satAcc xi != xi) (setStat n 5 true) (putAccu n b (satAcc xr) (satAcc xi) s)

/-- One issue slot passes: results whose latency has run out become visible, in issue order. -/
def ageResults (n : Nat) (s : State) : State :=
  let q := (coreOf n s).inflight.map fun x => (x.1 - 1, x.2)
  let s := modCore n (fun c => { c with inflight := q.filter (·.1 != 0) }) s
  (q.filter (·.1 == 0)).foldl (fun s x => applyWr n x.2 s) s

/-- Every result in flight becomes visible. -/
def drainResults (n : Nat) (s : State) : State :=
  let q := (coreOf n s).inflight
  q.foldl (fun s x => applyWr n x.2 s) (modCore n (fun c => { c with inflight := [] }) s)

/-! ### Issue -/

/-- A settled boundary (R264). -/
def settled (n : Nat) (s : State) : Bool :=
  let c := coreOf n s
  c.inflight.isEmpty && c.delay == 0 && c.loads.isEmpty && !c.sync && c.trap.isNone

/-- DSPn_IPEND as read: BELL is pending while the core's event queue is not empty (R290). -/
def ipendWord (n : Nat) (s : State) : Word := putBits (rd (R.DSP_IPEND n) s) 0 1 (b2n (!(queueOf n s).isEmpty))

/-- Interrupt sources pending and enabled, as bits of DSPn_IPEND. -/
def pendingIrqs (n : Nat) (s : State) : Nat := bitsOf (ipendWord n s) 0 5 &&& getF (R.DSP_IEN n) F.DSP_IEN_EN s

def irqDue (n : Nat) (s : State) : Bool := statBit n 0 s && pendingIrqs n s != 0

/-- Cores are clocked in Standing, Running and in transit between them (Table 14.2). -/
def coreClocked (s : State) : Bool := pstate s == 1 || pstate s == 2 || pstate s == 6

/-- Core `n` can issue its next instruction: it runs, nothing stalls it, no trap waits for the end of the
delay slots, and no interrupt is due at a settled boundary. -/
def canIssue (n : Nat) (s : State) : Bool :=
  let c := coreOf n s
  coreClocked s && c.mode == 1 && c.loads.isEmpty && !c.sync && (c.trap.isNone || c.delay != 0)
    && !(settled n s && irqDue n s)

/-- Address of the code word at the PC. -/
def codeAt (n : Nat) (s : State) : Nat := codeBase n + pcOf n s

/-- The instruction at the PC; none when the word is illegal. -/
def fetched (n : CoreId) (s : State) : Option Instr := decodeCore n (rd (codeAt n.val s) s)

/-- The PC of the instruction after this one (R260): the next address, or LB when a loop-back is due; LC
counts. -/
def stepPc (n : Nat) (s : State) : State :=
  let pc := pcOf n s
  let lc := regNat n 42 s
  if pc = regNat n 44 s ∧ lc ≠ 0 then
    let s := setNat n 42 (lc - 1) s
    setPc n (if 2 ≤ lc then regNat n 43 s else pc + 1) s
  else setPc n (pc + 1) s

/-- A trap becomes due; the lowest vector is taken (R263). -/
def setTrap (n v : Nat) (s : State) : State :=
  modCore n (fun c => { c with trap := some (match c.trap with | some u => Nat.min u v | none => v) }) s

/-- The end of an issue slot, when no load of it is outstanding: its loads enter flight, results age, delay
slots count and the branch is taken, and a core whose RUN is 0 halts at a settled boundary. -/
def endSlot (n : Nat) (s : State) : State :=
  let c := coreOf n s
  if c.loads.any (·.2.isNone) then s
  else
    let ls := c.loads.map fun x => (3, CoreWr.reg x.1 (x.2.getD 0#40))
    let s := modCore n (fun c => { c with inflight := c.inflight ++ ls, loads := [] }) s
    let s := ageResults n s
    let s := match c.delay with
      | 0 => s
      | 1 => let s := modCore n (fun c => { c with delay := 0, target := none }) s
             match c.target with | some t => setPc n t s | none => s
      | d + 1 => modCore n (fun c => { c with delay := d }) s
    let works := (coreOf n s).mode == 1 || (coreOf n s).mode == 2
    if n ≠ 8 ∧ works ∧ ¬ isSet (R.DSP_CTRL n) F.DSP_CTRL_RUN s ∧ settled n s then coreStop n 3 1 s else s

/-- The branch-class instructions (R259). -/
def branchClass : Instr → Bool
  | .br .. | .call .. | .jr .. | .loopi .. | .loopr .. | .rti .. => true
  | _ => false

/-- A branch-class instruction in a delay slot (R259), or at the last three addresses of a loop (R260). -/
def misplaced (n : Nat) (i : Instr) (s : State) : Bool :=
  branchClass i && ((coreOf n s).delay != 0 ||
    (regNat n 42 s != 0 && decide (pcOf n s ≤ regNat n 44 s) && decide (regNat n 44 s ≤ pcOf n s + 2)))

/-- Core `n` issues the instruction at its PC, which must be `i`; a code word with one wrong bit is
corrected and counted (R247). -/
def issue (n : CoreId) (i : Instr) (f : State → State) (s : State) : State :=
  if canIssue n.val s && decide (memErrAt (codeAt n.val s) s < 2) && decide (fetched n s = some i) then
    let s := when (memErrAt (codeAt n.val s) s == 1) (countCorr n.val) s
    let bad := misplaced n.val i s
    let s := stepPc n.val s
    endSlot n.val (if bad then setTrap n.val 1 s else f s)
  else s

/-! ### Arithmetic and logic (Table 10.8) -/

def w (n : Nat) (r : WReg) (s : State) : Word := regRead n r.val s

/-- A result with latency 1 and the flags Z and N. -/
def aluZN (n : Nat) (d : WReg) (r : Word) (s : State) : State := setZN n r (inFlight n 1 (.reg d.val r) s)

/-- A result with all flags. -/
def aluAll (n : Nat) (d : WReg) (x : Word × Bool × Bool) (s : State) : State :=
  setCV n x.2.1 x.2.2 (aluZN n d x.1 s)

/-- All flags without a result. -/
def flagsOnly (n : Nat) (x : Word × Bool × Bool) (s : State) : State := setCV n x.2.1 x.2.2 (setZN n x.1 s)

/-- A product: latency 2, Z and N. -/
def mulZN (n : Nat) (d : WReg) (r : Word) (s : State) : State := setZN n r (inFlight n 2 (.reg d.val r) s)

def shiftL (a : Word) (k : Nat) : Word := BitVec.ofNat 40 (a.toNat * 2 ^ k)
def shiftR (a : Word) (k : Nat) : Word := BitVec.ofInt 40 (sInt a / 2 ^ k)
def shiftRL (a : Word) (k : Nat) : Word := BitVec.ofNat 40 (a.toNat / 2 ^ k)

def absOf (a : Word) : Word := BitVec.ofInt 40 (sInt a).natAbs
def clzOf (a : Word) : Nat := ((List.range 41).find? fun k => a.toNat < 2 ^ k).elim 0 (40 - ·)

def imm24 (x : BitVec 24) : Word := BitVec.ofInt 40 x.toInt

def execNop (n : CoreId) (s : State) : Out := .next (issue n (.nop n) id s)

def execAdd (n : CoreId) (d a b : WReg) (s : State) : Out :=
  .next (issue n (.add n d a b) (fun s => aluAll n.val d (addFlags (w n.val a s) (w n.val b s) 0) s) s)
def execAddc (n : CoreId) (d a b : WReg) (s : State) : Out :=
  .next (issue n (.addc n d a b)
    (fun s => aluAll n.val d (addFlags (w n.val a s) (w n.val b s) (b2n (flagC n.val s))) s) s)
def execSub (n : CoreId) (d a b : WReg) (s : State) : Out :=
  .next (issue n (.sub n d a b) (fun s => aluAll n.val d (subFlags (w n.val a s) (w n.val b s) 1) s) s)
def execSubb (n : CoreId) (d a b : WReg) (s : State) : Out :=
  .next (issue n (.subb n d a b)
    (fun s => aluAll n.val d (subFlags (w n.val a s) (w n.val b s) (b2n (flagC n.val s))) s) s)
def execAnd (n : CoreId) (d a b : WReg) (s : State) : Out :=
  .next (issue n (.and n d a b) (fun s => aluZN n.val d (w n.val a s &&& w n.val b s) s) s)
def execOr (n : CoreId) (d a b : WReg) (s : State) : Out :=
  .next (issue n (.or n d a b) (fun s => aluZN n.val d (w n.val a s ||| w n.val b s) s) s)
def execXor (n : CoreId) (d a b : WReg) (s : State) : Out :=
  .next (issue n (.xor n d a b) (fun s => aluZN n.val d (w n.val a s ^^^ w n.val b s) s) s)
def execAndn (n : CoreId) (d a b : WReg) (s : State) : Out :=
  .next (issue n (.andn n d a b) (fun s => aluZN n.val d (w n.val a s &&& ~~~ w n.val b s) s) s)

/-- The amount of a shift: Wb[5:0]. -/
def amount (n : Nat) (b : WReg) (s : State) : Nat := (w n b s).toNat % 64

def execShl (n : CoreId) (d a b : WReg) (s : State) : Out :=
  .next (issue n (.shl n d a b) (fun s => aluZN n.val d (shiftL (w n.val a s) (amount n.val b s)) s) s)
def execShr (n : CoreId) (d a b : WReg) (s : State) : Out :=
  .next (issue n (.shr n d a b) (fun s => aluZN n.val d (shiftR (w n.val a s) (amount n.val b s)) s) s)
def execShrl (n : CoreId) (d a b : WReg) (s : State) : Out :=
  .next (issue n (.shrl n d a b) (fun s => aluZN n.val d (shiftRL (w n.val a s) (amount n.val b s)) s) s)
def execMin (n : CoreId) (d a b : WReg) (s : State) : Out :=
  .next (issue n (.min n d a b)
    (fun s => aluZN n.val d (if sInt (w n.val b s) < sInt (w n.val a s) then w n.val b s else w n.val a s) s) s)
def execMax (n : CoreId) (d a b : WReg) (s : State) : Out :=
  .next (issue n (.max n d a b)
    (fun s => aluZN n.val d (if sInt (w n.val a s) < sInt (w n.val b s) then w n.val b s else w n.val a s) s) s)
def execMinu (n : CoreId) (d a b : WReg) (s : State) : Out :=
  .next (issue n (.minu n d a b)
    (fun s => aluZN n.val d (if (w n.val b s).toNat < (w n.val a s).toNat then w n.val b s else w n.val a s) s) s)
def execMaxu (n : CoreId) (d a b : WReg) (s : State) : Out :=
  .next (issue n (.maxu n d a b)
    (fun s => aluZN n.val d (if (w n.val a s).toNat < (w n.val b s).toNat then w n.val b s else w n.val a s) s) s)
def execCmp (n : CoreId) (a b : WReg) (s : State) : Out :=
  .next (issue n (.cmp n a b) (fun s => flagsOnly n.val (subFlags (w n.val a s) (w n.val b s) 1) s) s)
def execMull (n : CoreId) (d a b : WReg) (s : State) : Out :=
  .next (issue n (.mull n d a b)
    (fun s => mulZN n.val d (BitVec.ofInt 40 (sInt (w n.val a s) * sInt (w n.val b s))) s) s)
def execMulh (n : CoreId) (d a b : WReg) (s : State) : Out :=
  .next (issue n (.mulh n d a b)
    (fun s => mulZN n.val d (BitVec.ofInt 40 (sInt (w n.val a s) * sInt (w n.val b s) / 2 ^ 40)) s) s)
def execMulhu (n : CoreId) (d a b : WReg) (s : State) : Out :=
  .next (issue n (.mulhu n d a b)
    (fun s => mulZN n.val d (BitVec.ofNat 40 ((w n.val a s).toNat * (w n.val b s).toNat / 2 ^ 40)) s) s)
def execNeg (n : CoreId) (d a : WReg) (s : State) : Out :=
  .next (issue n (.neg n d a) (fun s => aluAll n.val d (subFlags 0#40 (w n.val a s) 1) s) s)
def execNot (n : CoreId) (d a : WReg) (s : State) : Out :=
  .next (issue n (.not n d a) (fun s => aluZN n.val d (~~~ w n.val a s) s) s)
def execAbs (n : CoreId) (d a : WReg) (s : State) : Out :=
  .next (issue n (.abs n d a)
    (fun s => setStat n.val 4 (decide (sInt (w n.val a s) = -(2 ^ 39))) (aluZN n.val d (absOf (w n.val a s)) s)) s)
def execClz (n : CoreId) (d a : WReg) (s : State) : Out :=
  .next (issue n (.clz n d a) (fun s => aluZN n.val d (BitVec.ofNat 40 (clzOf (w n.val a s))) s) s)

def execAddi (n : CoreId) (d a : WReg) (imm : BitVec 24) (s : State) : Out :=
  .next (issue n (.addi n d a imm) (fun s => aluAll n.val d (addFlags (w n.val a s) (imm24 imm) 0) s) s)
def execAndi (n : CoreId) (d a : WReg) (imm : BitVec 24) (s : State) : Out :=
  .next (issue n (.andi n d a imm) (fun s => aluZN n.val d (w n.val a s &&& imm24 imm) s) s)
def execOri (n : CoreId) (d a : WReg) (imm : BitVec 24) (s : State) : Out :=
  .next (issue n (.ori n d a imm) (fun s => aluZN n.val d (w n.val a s ||| imm24 imm) s) s)
def execXori (n : CoreId) (d a : WReg) (imm : BitVec 24) (s : State) : Out :=
  .next (issue n (.xori n d a imm) (fun s => aluZN n.val d (w n.val a s ^^^ imm24 imm) s) s)
def execCmpi (n : CoreId) (a : WReg) (imm : BitVec 24) (s : State) : Out :=
  .next (issue n (.cmpi n a imm) (fun s => flagsOnly n.val (subFlags (w n.val a s) (imm24 imm) 1) s) s)
def execShli (n : CoreId) (d a : WReg) (amt : BitVec 6) (s : State) : Out :=
  .next (issue n (.shli n d a amt) (fun s => aluZN n.val d (shiftL (w n.val a s) amt.toNat) s) s)
def execShri (n : CoreId) (d a : WReg) (amt : BitVec 6) (s : State) : Out :=
  .next (issue n (.shri n d a amt) (fun s => aluZN n.val d (shiftR (w n.val a s) amt.toNat) s) s)
def execShrli (n : CoreId) (d a : WReg) (amt : BitVec 6) (s : State) : Out :=
  .next (issue n (.shrli n d a amt) (fun s => aluZN n.val d (shiftRL (w n.val a s) amt.toNat) s) s)

/-- MOVK (Table 10.7): no flags. -/
def execMovk (n : CoreId) (d : WReg) (high : Bool) (imm : BitVec 24) (s : State) : Out :=
  .next (issue n (.movk n d high imm) (fun s =>
    inFlight n.val 1 (.reg d.val (if high then
      BitVec.ofNat 40 (imm.toNat % 65536 * 2 ^ 24 + (w n.val d s).toNat % 2 ^ 24) else imm24 imm)) s) s)

/-! ### Complex functions (Table 10.9) -/

/-- A complex result, saturated, with SV; latency 2; BEXP follows on a transform-class core. -/
def cplxSat (n : Nat) (d : WReg) (re im : Int) (s : State) : State :=
  when (satNeeded re || satNeeded im) (setStat n 6 true) (inFlight n 2 (.cplx d.val (sat20 re) (sat20 im)) s)

/-- A complex result that R253 does not count. -/
def cplxPlain (n : Nat) (d : WReg) (v : Word) (s : State) : State := inFlight n 2 (.reg d.val v) s

def execCadd (n : CoreId) (d a b : WReg) (s : State) : Out :=
  .next (issue n (.cadd n d a b) (fun s =>
    let x := w n.val a s
    let y := w n.val b s
    cplxSat n.val d (cRe x + cRe y) (cIm x + cIm y) s) s)
def execCsub (n : CoreId) (d a b : WReg) (s : State) : Out :=
  .next (issue n (.csub n d a b) (fun s =>
    let x := w n.val a s
    let y := w n.val b s
    cplxSat n.val d (cRe x - cRe y) (cIm x - cIm y) s) s)
def execCmulr (n : CoreId) (d a b : WReg) (s : State) : Out :=
  .next (issue n (.cmulr n d a b) (fun s =>
    let x := w n.val a s
    let y := w n.val b s
    cplxSat n.val d (rne (cRe x * cRe y - cIm x * cIm y) (2 ^ 19)) (rne (cRe x * cIm y + cIm x * cRe y) (2 ^ 19)) s) s)
def execCmulj (n : CoreId) (d a b : WReg) (s : State) : Out :=
  .next (issue n (.cmulj n d a b) (fun s =>
    let x := w n.val a s
    let y := w n.val b s
    cplxSat n.val d (rne (cRe x * cRe y + cIm x * cIm y) (2 ^ 19)) (rne (cIm x * cRe y - cRe x * cIm y) (2 ^ 19)) s) s)
def execCneg (n : CoreId) (d a : WReg) (s : State) : Out :=
  .next (issue n (.cneg n d a) (fun s =>
    let x := w n.val a s
    cplxSat n.val d (-cRe x) (-cIm x) s) s)
/-- CCONJ: the table gives no saturation, so the conjugate of an imaginary part of -1, which no component
holds, is a free value. -/
def execCconj (n : CoreId) (d a : WReg) (s : State) : Out :=
  .next (issue n (.cconj n d a) (fun s =>
    let x := w n.val a s
    if cIm x = -(2 ^ 19) then
      let s' := { s with free := s.free + 1 }
      cplxPlain n.val d (BitVec.ofNat 40 (fieldOf 20 (cRe x) * 2 ^ 20 + (Config.freeWord s.free).toNat % 2 ^ 20)) s'
    else cplxPlain n.val d (packC (cRe x) (-cIm x)) s) s)
def execCswap (n : CoreId) (d a : WReg) (s : State) : Out :=
  .next (issue n (.cswap n d a) (fun s =>
    let x := w n.val a s
    cplxPlain n.val d (packC (cIm x) (cRe x)) s) s)
def execCshr (n : CoreId) (d a b : WReg) (s : State) : Out :=
  .next (issue n (.cshr n d a b) (fun s =>
    let x := w n.val a s
    let k := (w n.val b s).toNat % 32
    inFlight n.val 2 (.cplx d.val (rne (cRe x) (2 ^ k)) (rne (cIm x) (2 ^ k))) s) s)
def execCmag2 (n : CoreId) (d a : WReg) (s : State) : Out :=
  .next (issue n (.cmag2 n d a) (fun s =>
    let x := w n.val a s
    let m := rne (cRe x * cRe x + cIm x * cIm x) (2 ^ 19)
    when (satNeeded m) (setStat n.val 6 true) (cplxPlain n.val d (packC (sat20 m) 0) s)) s)

/-! ### Moves (R248, R252) -/

def execMva (n : CoreId) (d : WReg) (accB clr : Bool) (s : State) : Out :=
  .next (issue n (.mva n d accB clr) (fun s =>
    let k := sx 5 (regNat n.val 41 s)
    let re := scaleAcc (accRe n.val accB s) k
    let im := scaleAcc (accIm n.val accB s) k
    when clr (putAccu n.val accB 0 0) (cplxSat n.val d re im s)) s)

/-- MOVX: results are visible at once, parts of an accumulator after three slots. -/
def execMovx (n : CoreId) (dst src : Fin 64) (s : State) : Out :=
  .next (issue n (.movx n dst src) (fun s =>
    let v := regRead n.val src.val s
    if 48 ≤ dst.val then inFlight n.val 3 (.part dst.val v) s else inFlight n.val 1 (.reg dst.val v) s) s)

def execMova (n : CoreId) (dst : Fin 64) (imm : BitVec 28) (s : State) : Out :=
  .next (issue n (.mova n dst imm) (fun s => inFlight n.val 1 (.reg dst.val (BitVec.ofNat 40 imm.toNat)) s) s)

/-! ### Loads and stores (R244, R247, R254, R255, R261) -/

/-- One load into Wd: local words come at once, an uncorrectable one as zero with the FAULT trap; a far
load waits for its response. -/
def loadWord (n d ai mj mode : Nat) (s : State) : State :=
  match useAddr n ai mj mode s with
  | none => setTrap n 1 s
  | some (a, s) =>
    if ownData n a then
      let (v, s) := memRead n a s
      let s := modCore n (fun c => { c with loads := c.loads ++ [(d, some (v.getD 0#40))] }) s
      when v.isNone (setTrap n 2) s
    else farRequest n a none (modCore n (fun c => { c with loads := c.loads ++ [(d, none)] }) s)

/-- `k` more far accesses would leave more than 8 transactions of the core outstanding: the instruction stalls (R261,
R278). -/
def farStalls (n k : Nat) (s : State) : Bool :=
  k != 0 && decide (8 < (coreOf n s).posts + (coreOf n s).stale + k)

/-- An access through Ai is far: 1; local, or illegal: 0. -/
def farCount (n ai mj mode : Nat) (s : State) : Nat :=
  match useAddr n ai mj mode s with
  | none => 0
  | some (a, _) => b2n (!ownData n a)

def execLd (n : CoreId) (w : WReg) (ai mj : Fin 8) (mode : Fin 4) (s : State) : Out :=
  .next (if farStalls n.val (farCount n.val ai.val mj.val mode.val s) s then s
    else issue n (.ld n w ai mj mode) (loadWord n.val w.val ai.val mj.val mode.val) s)

def storeWord (n : Nat) (v : Word) (ai mj mode : Nat) (s : State) : State :=
  match useAddr n ai mj mode s with
  | none => setTrap n 1 s
  | some (a, s) =>
    if ownData n a then memWrite a v s
    else farRequest n a (some v) (modCore n (fun c => { c with posts := c.posts + 1 }) s)

def execSt (n : CoreId) (r : WReg) (ai mj : Fin 8) (mode : Fin 4) (s : State) : Out :=
  .next (if farStalls n.val (farCount n.val ai.val mj.val mode.val s) s then s
    else issue n (.st n r ai mj mode)
      (fun s => storeWord n.val (w n.val r s) ai.val mj.val mode.val s) s)

/-- A load descriptor; MODE 00 is no load. -/
def loadDesc (n : Nat) (l : LoadDesc) (s : State) : State :=
  if l.mode.val = 0 then s else loadWord n l.wd.val l.ai.val l.mj.val l.mode.val s

/-- A bit-reversed descriptor with an illegal length. -/
def descIllegal (n : Nat) (l : LoadDesc) (s : State) : Bool :=
  l.mode.val == 3 && (nextAddr 3 0 0 (regNat n (32 + l.ai.val) s)).isNone

/-- How many far accesses the two descriptors make, none when one is illegal; load 2 may use the address that load 1
leaves (R255). -/
def dualFar (n : Nat) (l1 l2 : LoadDesc) (s : State) : Nat :=
  let far (l : LoadDesc) (s : State) : Nat :=
    if l.mode.val = 0 then 0 else farCount n l.ai.val l.mj.val l.mode.val s
  let t := if l1.mode.val = 0 then s else ((useAddr n l1.ai.val l1.mj.val l1.mode.val s).map (·.2)).getD s
  if descIllegal n l1 s || descIllegal n l2 s then 0 else far l1 s + far l2 t

/-- Load 1, then load 2; nothing is loaded when either is illegal. -/
def dualLoad (n : Nat) (l1 l2 : LoadDesc) (s : State) : State := loadDesc n l2 (loadDesc n l1 s)

/-- The product of R251 with its sign. -/
def product2 (conj neg : Bool) (x y : Word) : Int × Int :=
  let yi := if conj then -cIm y else cIm y
  let re := cRe x * cRe y - cIm x * yi
  let im := cRe x * yi + cIm x * cRe y
  if neg then (-re, -im) else (re, im)

/-- MACL and MPYL: the product enters the accumulator three slots later; the loads follow. -/
def macWith (n : Nat) (accB rep conj neg : Bool) (a b : WReg) (l1 l2 : LoadDesc) (s : State) : State :=
  if descIllegal n l1 s || descIllegal n l2 s then setTrap n 1 s
  else
    let p := product2 conj neg (w n a s) (w n b s)
    dualLoad n l1 l2 (inFlight n 3 (.mac accB rep p.1 p.2) s)

def execMacl (n : CoreId) (accB conj neg : Bool) (a b : WReg) (l1 l2 : LoadDesc) (s : State) : Out :=
  .next (if farStalls n.val (dualFar n.val l1 l2 s) s then s
    else issue n (.macl n accB conj neg a b l1 l2) (macWith n.val accB false conj neg a b l1 l2) s)
def execMpyl (n : CoreId) (accB conj neg : Bool) (a b : WReg) (l1 l2 : LoadDesc) (s : State) : Out :=
  .next (if farStalls n.val (dualFar n.val l1 l2 s) s then s
    else issue n (.mpyl n accB conj neg a b l1 l2) (macWith n.val accB true conj neg a b l1 l2) s)
def execLdd (n : CoreId) (l1 l2 : LoadDesc) (s : State) : Out :=
  .next (if farStalls n.val (dualFar n.val l1 l2 s) s then s
    else issue n (.ldd n l1 l2) (fun s =>
      if descIllegal n.val l1 s || descIllegal n.val l2 s then setTrap n.val 1 s else dualLoad n.val l1 l2 s) s)

/-! ### Branches and loops (R259, R260) -/

/-- Two delay slots follow, taken or not. -/
def branchTo (n : Nat) (t : Option Nat) (s : State) : State := modCore n (fun c => { c with delay := 3, target := t }) s

def execBr (n : CoreId) (cond : Fin 16) (target : BitVec 18) (s : State) : Out :=
  .next (issue n (.br n cond target) (fun s =>
    branchTo n.val (if condTrue n.val cond.val s then some target.toNat else none) s) s)

/-- CALL: the PC already names the first delay slot, so the link is two on. -/
def execCall (n : CoreId) (cond : Fin 16) (target : BitVec 18) (s : State) : Out :=
  .next (issue n (.call n cond target) (fun s =>
    if condTrue n.val cond.val s then
      branchTo n.val (some target.toNat) (inFlight n.val 3 (.reg 15 (BitVec.ofNat 40 ((pcOf n.val s + 2) % memWords n.val))) s)
    else branchTo n.val none s) s)

/-- JR: a target outside the code memory takes ILLEGAL. -/
def execJr (n : CoreId) (cond : Fin 16) (a : WReg) (s : State) : Out :=
  .next (issue n (.jr n cond a) (fun s =>
    let t := (w n.val a s).toNat % 2 ^ 18
    if condTrue n.val cond.val s then
      (if t < memWords n.val then branchTo n.val (some t) s else setTrap n.val 1 s)
    else branchTo n.val none s) s)

/-- LOOP: the PC already names the address after the instruction. -/
def loopTo (n count endA : Nat) (s : State) : State :=
  let lb := pcOf n s
  if endA < lb then setTrap n 1 s
  else
    let s := s |> setNat n 43 lb |> setNat n 44 endA |> setNat n 42 count
    when (count == 0) (setPc n (endA + 1)) s

def execLoopi (n : CoreId) (count : BitVec 12) (endA : BitVec 18) (s : State) : Out :=
  .next (issue n (.loopi n count endA) (loopTo n.val count.toNat endA.toNat) s)
def execLoopr (n : CoreId) (c : WReg) (endA : BitVec 18) (s : State) : Out :=
  .next (issue n (.loopr n c endA) (fun s => loopTo n.val ((w n.val c s).toNat % 2 ^ 24) endA.toNat s) s)

/-! ### Control group (Table 10.10) -/

/-- IDLE: the core waits unless an enabled source is pending already. -/
def execIdle (n : CoreId) (s : State) : Out :=
  .next (issue n (.idle n) (fun s => if pendingIrqs n.val s = 0 then setMode n.val 2 s else s) s)
/-- HALT: the instructions issued complete; in a last delay slot the branch is taken first. -/
def haltCore (n : Nat) (s : State) : State :=
  let c := coreOf n s
  let s := match c.delay, c.target with | 1, some t => setPc n t s | _, _ => s
  coreStop n 3 2 (drainResults n s)
def execHalt (n : CoreId) (s : State) : Out := .next (issue n (.halt n) (haltCore n.val) s)
/-- RTI: the restored STAT stands over what older results set in the same cycle (R257). -/
def execRti (n : CoreId) (s : State) : Out :=
  .next (issue n (.rti n) (fun s =>
    inFlight n.val 1 (.reg 40 (regRead n.val 46 s)) (setPc n.val (regNat n.val 45 s) s)) s)
def execSync (n : CoreId) (s : State) : Out :=
  .next (issue n (.sync n) (fun s =>
    if (coreOf n.val s).posts = 0 then s else modCore n.val (fun c => { c with sync := true }) s) s)
def execTrap (n : CoreId) (s : State) : Out := .next (issue n (.trap n) (setTrap n.val 3) s)
/-- BXCLR: BEXP is 19 after the older results of the same cycle (R257). -/
def execBxclr (n : CoreId) (s : State) : Out := .next (issue n (.bxclr n) (inFlight n.val 1 (.reg 47 19#40)) s)

/-! ### Entries (R263-R265) -/

/-- The entry of vector `v`. -/
def enterVector (n v : Nat) (isTrap : Bool) (s : State) : State :=
  let s := s |> setNat n 45 (pcOf n s) |> setNat n 46 (statOf n s)
  setPc n (4 * v) (when isTrap (setStat n 8 true) (setStat n 0 false s))

/-- The lowest vector pending and enabled. -/
def lowestIrq (n : Nat) (s : State) : Option Nat := (List.range 5).find? fun b => pendingIrqs n s / 2 ^ b % 2 == 1

/-- An interrupt entry at a settled boundary; entry to vector v clears its bit. -/
def takeIrq (n : Nat) (s : State) : State :=
  match lowestIrq n s with
  | none => s
  | some b => enterVector n (4 + b) false (setBit (R.DSP_IPEND n) F.DSP_IPEND_PEND b false s)

def interruptEntry (n : Nat) (s : State) : State :=
  if coreClocked s && (coreOf n s).mode == 1 && settled n s && irqDue n s then takeIrq n s else s

/-- IDLE_WAKE: the core goes on, and an interrupt is taken at once where the boundary is settled. -/
def idleWake (n : Nat) (s : State) : State :=
  if coreClocked s && (coreOf n s).mode == 2 && pendingIrqs n s != 0 then interruptEntry n (setMode n 1 s) else s

/-- TRAP_ENTRY: an illegal word at the PC traps as it issues; once the delay slots are over the
instructions issued complete, and the core enters the vector, or faults when a trap handler runs. -/
def trapEntry (n : CoreId) (s : State) : State :=
  let s := if canIssue n.val s && decide (memErrAt (codeAt n.val s) s < 2) && (fetched n s).isNone then
      endSlot n.val (setTrap n.val 1 (stepPc n.val (when (memErrAt (codeAt n.val s) s == 1) (countCorr n.val) s))) else s
  let c := coreOf n.val s
  match c.trap with
  | none => s
  | some v =>
    if coreClocked s && c.mode == 1 && c.delay == 0 && c.loads.isEmpty then
      let s := modCore n.val (fun c => { c with trap := none, sync := false }) (drainResults n.val s)
      if statBit n.val 8 s then coreStop n.val 4 5 s else enterVector n.val v true s
    else s

def execInterruptEntry (n : CoreId) (s : State) : Out := .next (interruptEntry n.val s)
def execIdleWake (n : CoreId) (s : State) : Out := .next (idleWake n.val s)
def execTrapEntry (n : CoreId) (s : State) : Out := .next (trapEntry n s)

/-! ### Far responses (R261, R262) -/

/-- The oldest response of a kind that waits for core `n`. -/
def oldestDone (n : Nat) (write : Bool) (s : State) : Option (Req × Answer) :=
  s.ilk.done.find? fun x => x.1.master.val == coreMaster n && x.1.write.isSome == write

def takeDone (x : Req × Answer) (s : State) : State := { s with ilk := { s.ilk with done := s.ilk.done.erase x } }

/-- STAT.BE, with BUSERR when it goes from 0 to 1 (Table 10.15). -/
def setBe (n : Nat) (s : State) : State :=
  if statBit n 7 s then s else raise (busErrEvent n) (setStat n 7 true s)

def fillLoad (v : Word) : List (Nat × Option Word) → List (Nat × Option Word)
  | [] => []
  | (d, none) :: t => (d, some v) :: t
  | x :: t => x :: fillLoad v t

/-- FAR_LOAD_RESPONSE: TIMEOUT is treated as DECERR (Table 11.2). The response of an abandoned load is discarded. -/
def farLoad (n resp : Nat) (v : Word) (s : State) : State :=
  match oldestDone n false s with
  | none => s
  | some x =>
    if 0 < (coreOf n s).stale then modCore n (fun c => { c with stale := c.stale - 1 }) (takeDone x s)
    else if x.2.code = resp ∧ (resp ≠ 0 ∨ x.2.data.headD 0#40 = v) ∧ (coreOf n s).loads.any (·.2.isNone) then
      let s := takeDone x s
      let s := modCore n (fun c => { c with loads := fillLoad (if resp = 0 then v else 0#40) c.loads }) s
      let s := if resp = 0 then s
        else when (isSet (R.DSP_CTRL n) F.DSP_CTRL_BETRAP s) (setTrap n 2) (setBe n s)
      endSlot n s
    else s

/-- FAR_STORE_RESPONSE; the last one ends a SYNC. -/
def farStore (n resp : Nat) (s : State) : State :=
  match oldestDone n true s with
  | none => s
  | some x =>
    if x.2.code = resp then
      let s := takeDone x s
      let s := modCore n (fun c => { c with posts := c.posts - 1, sync := c.sync && c.posts != 1 }) s
      if resp = 0 then s else setBe n s
    else s

def execFarLoadResponse (n : CoreId) (resp : Fin 4) (w : Word) (s : State) : Out := .next (farLoad n.val resp.val w s)
def execFarStoreResponse (n : CoreId) (resp : Fin 4) (s : State) : Out := .next (farStore n.val resp.val s)

/-- FETCH_UNCORRECTABLE (R247). -/
def fetchUncorrectable (n : Nat) (s : State) : State :=
  if canIssue n s && decide (2 ≤ memErrAt (codeAt n s) s) then coreStop n 4 4 (countUncorr n s) else s

def execFetchUncorrectable (n : CoreId) (s : State) : Out := .next (fetchUncorrectable n.val s)

/-! ### Timers and watchdogs (R263, R272) -/

/-- CORE_TIMER_EXPIRY. -/
def timerExpiry (n : Nat) (s : State) : State :=
  if getF (R.DSP_TIMER n) F.DSP_TIMER_PERIOD s = 0 then s else coreIrq n 2 s

/-- DISPATCHER_WATCHDOG, whatever state the core is in. -/
def dspWatchdog (n : Nat) (s : State) : State :=
  if getF (R.DSP_WDOG n) F.DSP_WDOG_TIMEOUT s = 0 then s
  else raise (ev 12 (4 * n + 1)) (coreStop n 4 3 s)

/-- CORE_PATROL_READ (R317): a corrected word is written back, an uncorrectable one halts the core. -/
def patrolRead (n a : Nat) (s : State) : State :=
  match memErrAt a s with
  | 0 => s
  | 1 => setMemErr a 0 (countCorr n s)
  | _ => coreStop n 4 4 (countUncorr n s)

def execCoreTimerExpiry (n : CoreId) (s : State) : Out := .next (timerExpiry n.val s)
def execDispatcherWatchdog (n : Fin 8) (s : State) : Out := .next (dspWatchdog n.val s)
def execCorePatrolRead (n : CoreId) (code : Bool) (off : BitVec 18) (s : State) : Out :=
  .next (if off.toNat < memWords n.val then
    patrolRead n.val ((if code then codeBase n.val else dataBase n.val) + off.toNat) s else s)

/-! ### Reset and run (R249, R264, R286) -/

/-- The beats of an outstanding write that were transferred when its master was reset. -/
def landed (k : Nat) (r : Req) : Option Req :=
  match r.write with
  | none => none
  | some ws => if Config.cutBeats k = 0 then none else some { r with write := some (ws.take (Config.cutBeats k)) }

/-- Something of the transaction was cut: a read, or a beat that had not been transferred. -/
def wasCut (k : Nat) (r : Req) : Bool :=
  match r.write with
  | none => true
  | some ws => decide (Config.cutBeats k < ws.length)

/-- A master is reset with transactions in the Interlocking (R286): the transferred beats are left to land. -/
def masterReset (m : Nat) (s : State) : State :=
  let mine := fun r : Req => r.master.val == m
  let outs := (s.ilk.out.filter mine).zipIdx
  let cutAny := outs.any fun x => wasCut (s.free + x.2) x.1
  let lands := outs.filterMap fun x => landed (s.free + x.2) x.1
  let s := { s with
    ilk := ⟨s.ilk.wait.filter (fun r => !mine r), s.ilk.out.filter (fun r => !mine r),
      s.ilk.done.filter (fun x => !mine x.1), s.ilk.cut ++ lands⟩,
    free := s.free + outs.length,
    latches := s.latches.keep (fun k => k / 2 ^ 28 != m) }
  let s := setF (R.ILK_MST m) F.ILK_MST_OUT 0 s
  when cutAny (flagAll R.ILK_STATUS F.ILK_STATUS_MRST_CUT 0 (ev 13 4)) s

/-- The registers and the pipeline of a core are cleared (R249). -/
def clearCore (n : Nat) (s : State) : State :=
  let s := { s with regs := s.regs.keep (fun a => a < creg n 0 || creg n 63 < a) }
  showCore n (putCore n {} (masterReset (coreMaster n) s))

/-- A core that is not running starts at its PC. -/
def coreStart (n : Nat) (s : State) : State :=
  let c := coreOf n s
  if c.mode = 1 ∨ c.mode = 2 then s
  else setF (R.DSP_STATE n) F.DSP_STATE_CAUSE 0 (setMode n 1 s)

/-- RUN cleared: the core halts at a settled boundary, at once if it stands at one. -/
def coreRunOff (n : Nat) (s : State) : State :=
  let c := coreOf n s
  if (c.mode = 1 ∨ c.mode = 2) ∧ settled n s then coreStop n 3 1 s else s

/-- What a write of DSPn_CTRL does: RST, then RUN. -/
def dspCtrlEffect (n : Nat) (rst : Bool) (s : State) : State :=
  let s := when rst (clearCore n) s
  if isSet (R.DSP_CTRL n) F.DSP_CTRL_RUN s then coreStart n s else coreRunOff n s

end Sys2Proof.Machine
end

