-- ==== Sys2Proof/Machine/Map.lean ====
section
/-!
DEFINITION. The word-address map (Table 11.3), which targets answer (R281, Table 14.2), what an error
response leaves in the Interlocking (R280-R282), the answers masters hold, and the event queues and
status bits of the Block Bell (R290, R294).
-/
namespace Sys2Proof.Machine

/-- A row of Table 11.3: first and last word, the path (0 direct, 1-3 = BL0-BL2) and the power domain. -/
structure Range where
  lo   : Nat
  hi   : Nat
  path : Nat
  dom  : Nat
  deriving DecidableEq, Repr, Inhabited

/-- The rows whose domain does not depend on the address. -/
def rangeRows : List Range := [
  ⟨0xF00000, 0xF007FF, 1, 1⟩, ⟨0xF00800, 0xF008FF, 1, 1⟩, ⟨0x1000000, 0x100FFFF, 1, 1⟩,
  ⟨0x1010000, 0x101FFFF, 1, 1⟩, ⟨0x1020000, 0x102FFFF, 1, 1⟩, ⟨0x1030000, 0x103FFFF, 1, 1⟩,
  ⟨0x1040000, 0x104FFFF, 1, 1⟩, ⟨0x1050000, 0x105FFFF, 1, 0⟩, ⟨0x1060000, 0x106FFFF, 1, 0⟩,
  ⟨0x1070000, 0x107FFFF, 1, 1⟩, ⟨0x3000000, 0x30FFFFF, 2, 2⟩, ⟨0x3100000, 0x311FFFF, 2, 2⟩,
  ⟨0x3200000, 0x3FFFFFF, 2, 3⟩, ⟨0x4000000, 0x40FFFFF, 2, 4⟩, ⟨0x5000000, 0x507FFFF, 2, 5⟩,
  ⟨0x5080000, 0x50FFFFF, 2, 5⟩, ⟨0x5100000, 0x54FFFFF, 2, 5⟩, ⟨0x6000000, 0x60FFFFF, 2, 6⟩,
  ⟨0x8000000, 0xFFFFFFF, 0, 4⟩]

/-- The target of word address `a`: a core memory, a lane or lane quadrant, or a row above. -/
def targetOf (a : Nat) : Option Range :=
  match coreMemory a with
  | some (n, code, _) =>
    let lo := if code then codeBase n else dataBase n
    some ⟨lo, lo + memWords n - 1, 0, 1⟩
  | none =>
    if 0x2000000 ≤ a ∧ a < 0x2054000 then
      some ⟨0x2000000, 0x2053FFF, 3, 7 + quadOf ((a - 0x2000000) / 0x1000)⟩
    else if 0x20F0000 ≤ a ∧ a < 0x20F0004 then some ⟨0x20F0000, 0x20F0003, 3, 7 + (a - 0x20F0000)⟩
    else rangeRows.find? fun r => r.lo ≤ a && a ≤ r.hi

/-- The host log stands in the Lamp room (Table 14.1). -/
def hostLog (a : Nat) : Bool := a == R.BEL_LOGPOS || (R.BEL_LOG ≤ a && a < R.BEL_LOG + 1024)

/-- The Lamp room answers in every state but Off; the others while their domain is powered and its
register clock runs (Table 14.2). The Depot powers what its boot needs. -/
def answers (m a : Nat) (r : Range) (s : State) : Bool :=
  if r.dom = 0 ∨ hostLog a then pstate s != 5
  else if pstate s = 3 ∨ pstate s = 4 ∨ pstate s = 5 then false
  else (pstate s == 0 && m == 9) || decide (2 ≤ domState r.dom s)

/-- The Interlocking itself is clocked. -/
def ilkUp (s : State) : Bool := decide (2 ≤ domState 1 s) || (pstate s == 0 && isSet R.DEP_STATE F.DEP_STATE_STEP s)

/-- An error response is recorded (R280-R282, R304): ILK_STATUS bit code - 1, event 13:(code - 1), and
ILK_ERR when it holds none. -/
def ilkError (m a code : Nat) (isWrite : Bool) (s : State) : State :=
  let s := flagAll R.ILK_STATUS ⟨0, 0, 6⟩ (code - 1) (ev 13 (code - 1)) s
  if isSet R.ILK_ERR F.ILK_ERR_VALID s then s
  else s |> setF R.ILK_ERR F.ILK_ERR_ADDR a |> setF R.ILK_ERR F.ILK_ERR_MASTER m
    |> setF R.ILK_ERR F.ILK_ERR_KIND code |> setF R.ILK_ERR F.ILK_ERR_WRITE (b2n isWrite)
    |> setF R.ILK_ERR F.ILK_ERR_VALID 1

/-- What master `m` is answered. -/
def answerTo (m code : Nat) (data : List Word) (s : State) : State :=
  { s with ans := s.ans.set (fun _ => {}) m ⟨code, data, data.length⟩ }

/-! ### Block Bell registers -/

/-- The queue behind BEL_Qc: c = 0 the Signal Box, otherwise D(c - 1). -/
def belQueue (c : Nat) : Nat := if c = 0 then 8 else c - 1

/-- A read of BEL_Qc removes and returns the oldest entry (R290). -/
def takeEvent (c : Nat) (s : State) : Word × State :=
  match queueOf (belQueue c) s with
  | [] => (0#40, s)
  | (e, inj) :: rest => (BitVec.ofNat 40 (e + 2 ^ 10 + b2n inj * 2 ^ 11), setQueue (belQueue c) rest s)

/-- Clearing STS clears COUNT with it. -/
def clearSts (e : Nat) (s : State) : State :=
  s |> setF (R.BEL_SRC e) F.BEL_SRC_STS 0 |> setF (R.BEL_SRC e) F.BEL_SRC_COUNT 0

/-- BEL_STSw as read. -/
def stsWord (k : Nat) (s : State) : Word :=
  BitVec.ofNat 40 ((List.range 32).foldl (fun v b => v + getF (R.BEL_SRC (32 * k + b)) F.BEL_SRC_STS s * 2 ^ b) 0)

/-- BEL_STSw as written. -/
def stsWrite (k : Nat) (w : Word) (s : State) : State :=
  (List.range 32).foldl (fun s b => when (bitsOf w b 1 == 1) (clearSts (32 * k + b)) s) s

/-! ### The Depot's conditions (R409) -/

/-- DEP_STATUS bit b with event 15:b: raised on each change from 0 to 1; SEALED and BOOT_DONE always. -/
def depCond (b : Nat) (s : State) : State :=
  if b = 0 ∨ b = 5 then flagAll R.DEP_STATUS F.DEP_STATUS_EVT b (ev 15 b) s
  else flagEvt R.DEP_STATUS F.DEP_STATUS_EVT b (ev 15 b) s

def sealed (s : State) : Bool := isSet R.DEP_STATE F.DEP_STATE_SEALED s

end Sys2Proof.Machine
end

