-- ==== Sys2Proof/Machine/SignalBox.lean ====
section
/-!
DEFINITION. The Signal Box's restart (R268-R270): the hold that begins it, the lockout, and the lockstep
comparator's report. Its end, SBX_RESTARTED, stands with the Depot that loads the firmware.
-/
namespace Sys2Proof.Machine

/-- SBX_STATE.STATE: 0 in service, 1-4 the steps of Table 10.13, 5 locked out. -/
def sbxState (s : State) : Nat := getF (R.DSP_STATE 8) F.DSP_STATE_STATE s
def setSbx (x : Nat) (s : State) : State := setF (R.DSP_STATE 8) F.DSP_STATE_STATE x s

/-- Steps 1 and 2 of Table 10.13: both cores are held in reset and their transactions end. -/
def sbxHold (s : State) : State :=
  incF (R.DSP_STATE 8) F.DSP_STATE_RESTARTS 1 (raise (ev 12 32) (setSbx 1 (clearCore 8 s)))

/-- SBX_CTRL.RESTART = 1: heeded from the management port only (R269); it also ends a lockout (R270). -/
def sbxRestartWrite (m : Nat) (s : State) : State := if m = 10 then sbxHold s else s

/-- 10 s in TCLK ticks. -/
def tenSeconds : Nat := 2500000000

/-- A lockstep mismatch: the third restart that begins within 10 s of the first of three locks the Signal
Box out, and a Lead then resigns (R270, R332). -/
def lockstepMismatch (s : State) : State :=
  if sbxState s = 5 ∨ ¬ coreClocked s then s
  else
    let s := incF (R.DSP_STATE 8) F.DSP_STATE_LSCOUNT 1 s
    let t := tickNow s
    let old := s.lockTimes.filter fun x => decide (t < x + tenSeconds)
    if 2 ≤ old.length then
      resignIfLead (raise (ev 12 35) (raise (ev 12 32) (setSbx 5 (clearCore 8 { s with lockTimes := [] }))))
    else sbxHold { s with lockTimes := old ++ [t] }

def execLockstepMismatch (s : State) : Out := .next (lockstepMismatch s)

end Sys2Proof.Machine
end

