-- ==== Sys2Proof/Machine/Checks.lean ====
section
/-!
DEFINITION. Fault injection (R319, R320), the clock monitors (R318) and the report of corrected on-die bus
codewords (R316).
-/
namespace Sys2Proof.Machine

/-! ### Injections -/

def below (x n : Nat) : Bool := decide (x < n)
def oneTo (x n : Nat) : Bool := decide (1 ≤ x) && decide (x ≤ n)

/-- Table 12.7: the codes with the ranges of UNIT and ARG. -/
def injOk (x : Inj) : Bool :=
  match x.code with
  | 0x00 => x.unit == 0 && x.arg == 0
  | 0x01 => below x.unit 84 && oneTo x.arg 15
  | 0x10 => below x.unit 16 && x.arg == 0
  | 0x20 => below x.unit 256 && oneTo (x.arg % 8) 4 && below x.arg 16
  | 0x21 => below x.unit 8 && x.arg == 0
  | 0x30 => below x.unit 1024 && below x.arg 2
  | 0x31 => below x.unit 1024 && below x.arg 2
  | 0x32 => below x.unit (2 ^ 20) && below (x.arg % 32) 20 && below x.arg 128
  | 0x40 => below x.unit 1024 && oneTo x.arg 4
  | 0x41 => below x.unit 512 && x.arg == 0
  | 0x50 => below x.unit 128 && x.arg == 0
  | 0x60 => below x.unit 4 && oneTo x.arg 4
  | 0x70 => below (x.unit % 16) 9 && below x.unit 32 && below (x.arg % 2 ^ 18) (memWords (x.unit % 16))
              && below x.arg (2 ^ 19)
  | 0x71 => x.unit == 0 && x.arg == 0
  | 0x80 => below x.unit 7 && x.arg == 0
  | 0x90 => below x.unit 29 && x.arg == 0
  | 0x91 => x.unit == 0 && x.arg == 0
  | _ => false

/-- The power domain of the block an injection strikes. -/
def injDomain (x : Inj) : Nat :=
  match x.code with
  | 0x01 => 7 + quadOf x.unit
  | 0x10 => 2
  | 0x20 => 4
  | 0x21 => 4
  | 0x50 => 3
  | 0x60 => if x.unit ≤ 1 then 2 else if x.unit = 2 then 6 else 3
  | 0x70 => 1
  | 0x71 => 1
  | 0x90 => 0
  | 0x91 => 1
  | _ => 5

/-- The target block answers ASLEEP: its domain is not up, or the HBM stack does not answer (R143). -/
def injAsleep (x : Inj) (s : State) : Bool :=
  let stack := if x.code = 0x20 then some (x.unit / 32) else if x.code = 0x21 then some x.unit else none
  (decide (injDomain x ≠ 0) && decide (domState (injDomain x) s < 2))
    || (match stack with | some k => stackState k s != 1 && stackState k s != 2 | none => false)

/-- A write of GO = 1 (R319): refused, or accepted; code 0 ends a persistent injection at once, and its
trial retirements end at the next gap (R320). -/
def injSubmit (s : State) : State :=
  let x : Inj := ⟨getF R.INS_INJ F.INS_INJ_CODE s, getF R.INS_INJ F.INS_INJ_UNIT s, getF R.INS_INJ F.INS_INJ_ARG s⟩
  let taken := s.chk.busy.isSome || (x.code != 0 && s.chk.force.any Inj.stuck)
  if !isSet R.INS_CTRL F.INS_CTRL_INJ_EN s || !injOk x || injAsleep x s || taken then injResult 2 s
  else if x.code = 0 then
    let restore := s.ins.restore || s.chk.force.any Inj.stuck
    let s := { s with chk := { s.chk with force := s.chk.force.filter (!·.stuck) } }
    injDone x (putInj none { s with ins := { s.ins with restore := restore } })
  else putInj (some x) (injResult 0 s)

/-! ### Clock monitors (R318) -/

def monRunOf (c : Nat) (s : State) : Int := s.chk.clkRun.get (fun _ => 0) c
def setMonRun (c : Nat) (x : Int) (s : State) : State :=
  { s with chk := { s.chk with clkRun := s.chk.clkRun.set (fun _ => 0) c x } }

/-- A window of monitor `c` ends, failing or passing: a failing window sets FAIL and the second one in a
row raises CLK_c; two passing windows in a row clear FAIL. -/
def clockResult (c : Nat) (bad : Bool) (s : State) : State :=
  let r := monRunOf c s
  if bad then
    let k : Int := if 0 < r then min (r + 1) 3 else 1
    setMonRun c k (setF (R.INS_CLKMON c) F.INS_CLKMON_FAIL 1 s) |> when (k == 2) (insEvent (16 + c))
  else
    let k : Int := if r < 0 then max (r - 1) (-2) else -1
    setMonRun c k s |> when (k == -2) (setF (R.INS_CLKMON c) F.INS_CLKMON_FAIL 0)

/-- The nominal count of a window: the clock's frequency over 8 microseconds or 62.5 ms (Table 12.6). JCLK,
PCLK and ICLK run at the part's maximum less the plan's down-spread, which their lower limits cover. SCLK is the data
rate divided by 8 (R116). -/
def nominalCount (c : Nat) (s : State) : Nat :=
  let am := bitsOf (kps 1 s) 18 1 == 1
  match c with
  | 0 => if am then 8 * 1100 else 8 * 1250
  | 1 => 8 * 1250
  | 2 => 8 * 800
  | 3 => 8 * (match getF R.SDG_CTRL F.SDG_CTRL_RATE s with | 0 => 1000 | 1 => 800 | _ => 500)
  | 4 => 8 * 250
  | 5 => 6250000
  | _ => 2048

/-- The count lies outside the window's limits (R318). -/
def countOut (c n : Nat) (s : State) : Bool :=
  let nom := nominalCount c s
  let lo := getF (R.INS_CLKMON c) F.INS_CLKMON_LO_PPM s
  let hi := getF (R.INS_CLKMON c) F.INS_CLKMON_HI_PPM s
  (lo != 0 && decide (n * 1000000 < nom * (1000000 - lo))) || (hi != 0 && decide (nom * (1000000 + hi) < n * 1000000))

def clockWindow (c n : Nat) (s : State) : State :=
  if isSet (R.INS_CLKMON c) F.INS_CLKMON_EN s && decide (2 ≤ domState 5 s) then clockResult c (countOut c n s) s else s

/-! ### The accepted injection is applied, or expires -/

/-- The injections that no operation of another command applies: a command parity error, a memory word, the lockstep
comparator, a clock monitor. -/
def strikesAlone (code : Nat) : Bool := [0x21, 0x70, 0x71, 0x80].contains code

/-- What such an injection does. -/
def injStrike (x : Inj) (s : State) : State :=
  match x.code with
  | 0x21 => caParityError x.unit s
  | 0x70 => setMemErr ((if x.unit / 16 = 1 then codeBase (x.unit % 16) else dataBase (x.unit % 16)) + x.arg % 2 ^ 18)
      (1 + x.arg / 2 ^ 18) s
  | 0x71 => lockstepMismatch s
  | 0x80 => clockResult x.unit true (clockResult x.unit true s)
  | _ => s

/-- The target of such an injection has its opportunity: the stack's controller takes commands, the core's memory is
powered, the two Signal Box cores are compared, the monitor counts. -/
def injReady (x : Inj) (s : State) : Bool :=
  match x.code with
  | 0x21 => stackState x.unit s == 2
  | 0x70 => decide (2 ≤ domState 1 s)
  | 0x71 => sbxState s != 5 && coreClocked s
  | 0x80 => isSet (R.INS_CLKMON x.unit) F.INS_CLKMON_EN s && decide (2 ≤ domState 5 s)
  | _ => true

/-- INJECTION_APPLY: the target's next opportunity (R319); without one it waits on. An injection into an operation of another command (a train, a
write of a block, a sweep, ...) is applied by that command, which sets RESULT and raises 8:11 (`useInj`). -/
def injectionApply (s : State) : State :=
  match s.chk.busy with
  | none => s
  | some x => if strikesAlone x.code ∧ injReady x s then injStrike x (injDone x s) else s

def injectionExpire (s : State) : State :=
  if s.chk.busy.isSome then injResult 3 (putInj none s) else s

/-- BUS_CORR_REPORT (R316). -/
def busCorrReport (s : State) : State :=
  if s.chk.busCorr then insEvent 9 { s with chk := { s.chk with busCorr := false } } else s

def execInjectionApply (s : State) : Out := .next (injectionApply s)
def execInjectionExpire (s : State) : Out := .next (injectionExpire s)
def execBusCorrReport (s : State) : Out := .next (busCorrReport s)
def execClockMonitorWindow (c : Fin 7) (count : Nat) (s : State) : Out := .next (clockWindow c.val count s)

end Sys2Proof.Machine
end

