-- ==== Sys2Proof/Machine/Flash.lean ====
section
/-!
DEFINITION. The flash behind the Depot: its bytes, its layout (R385) and the commands of DEP_FLCMD (R408).
-/
namespace Sys2Proof.Machine

/-- An unlisted byte of the flash is erased. -/
def flashDefault (_ : Nat) : Byte := 0xFF#8

def flashSize (s : State) : Nat := 2 ^ getF R.DEP_FLCTRL F.DEP_FLCTRL_DENSITY s

/-- A byte of the flash; one beyond its density is a free value. -/
def flashAt (s : State) (a : Nat) : Byte :=
  if a < flashSize s then s.flash.get flashDefault a else Config.flashByte s.free a

def putFlash (a : Nat) (b : Byte) (s : State) : State :=
  if a < flashSize s then { s with flash := s.flash.set flashDefault a b } else s

/-- Bytes at consecutive addresses. -/
def putFlashBytes : Nat → List Byte → State → State
  | _, [], s => s
  | a, b :: t, s => putFlashBytes (a + 1) t (putFlash a b s)

def bufBase : Nat := 0x1041000

/-- Byte k of DEP_FLBUF: five per word, most significant first. -/
def bufByte (s : State) (k : Nat) : Byte := BitVec.ofNat 8 (bitsOf (rd (bufBase + k / 5) s) (8 * (4 - k % 5)) 8)

def putBuf : Nat → List Byte → State → State
  | _, [], s => s
  | k, b :: t, s => putBuf (k + 1) t (setF (bufBase + k / 5) ⟨0, 8 * (4 - k % 5), 8⟩ b.toNat s)

/-! ### The layout (R385) -/

/-- SLOT_MIB (Table 16.4). -/
def slotMib (s : State) : Nat :=
  let x := bitsOf (kps 1 s) 0 7
  if 1 ≤ x ∧ x ≤ 64 then x else 64

def slotSize (s : State) : Nat := slotMib s * 2 ^ 20
def slotBase (k : Nat) (s : State) : Nat := 2 ^ 20 + k * slotSize s

/-- The range lies wholly in [lo, lo + n). -/
def inRange (a len lo n : Nat) : Bool := decide (lo ≤ a) && decide (a + len ≤ lo + n)

/-- Slot k is inactive: the slot that booted is never written; in recovery both are inactive. -/
def slotInactive (k : Nat) (s : State) : Bool :=
  isSet R.DEP_STATE F.DEP_STATE_RECOVERY s || getF R.DEP_STATE F.DEP_STATE_SLOT s != k

/-- PROGRAM and ERASE are permitted on the range. -/
def flashWritable (a len : Nat) (s : State) : Bool :=
  (isSet R.DEP_FLCTRL F.DEP_FLCTRL_SLOT_WE s
    && (List.range 2).any fun k => slotInactive k s && inRange a len (slotBase k s) (slotSize s))
  || (isSet R.DEP_FLCTRL F.DEP_FLCTRL_BOARD_WE s && inRange a len 0 (2 ^ 20))

/-! ### Commands -/

/-- The checks made before a command runs: none where one fails, else its bytes. -/
def flashCheck (op a len : Nat) (s : State) : Option (List Byte) :=
  let page := Nat.max 1 s.dep.page
  let unit := Nat.max 1 s.dep.unit
  if !s.dep.flashOk then none
  else if op = 0 then some (List.replicate len 0#8)
  else if op = 1 then
    if a / page = (a + len - 1) / page ∧ flashWritable a len s then some ((List.range len).map (bufByte s)) else none
  else if op = 2 then
    if a % unit = 0 ∧ flashWritable a unit s then some (List.replicate unit 0xFF#8) else none
  else none

/-- An accepted ATTEST or DEBUG_CERT is still to be served. -/
def signWaits (s : State) : Bool :=
  match s.mgt.req with
  | some f => let op := bitsOf (f.headD 0#40) 32 8; op == 0x11 || op == 0x12
  | none => false

/-- A write of DEP_FLCMD.GO = 1. -/
def flashGo (s : State) : State :=
  if isSet R.DEP_FLCMD F.DEP_FLCMD_BUSY s then s
  else
    let op := getF R.DEP_FLCMD F.DEP_FLCMD_OP s
    let a := getF R.DEP_FLADDR F.DEP_FLADDR_ADDR s
    match flashCheck op a (getF R.DEP_FLLEN F.DEP_FLLEN_LEN s) s with
    | none => depCond 15 (setF R.DEP_FLCMD F.DEP_FLCMD_RESULT 2 s)
    | some bs => { s with dep := { s.dep with run := some (op, a, bs), ahead := signWaits s } }
        |> setF R.DEP_FLCMD F.DEP_FLCMD_BUSY 1 |> setF R.DEP_FLCMD F.DEP_FLCMD_RESULT 0

def flashEnd (r : Nat) (s : State) : State :=
  { s with dep := { s.dep with run := none } }
    |> setF R.DEP_FLCMD F.DEP_FLCMD_BUSY 0 |> setF R.DEP_FLCMD F.DEP_FLCMD_RESULT r

/-- The flash command waits for an ATTEST or DEBUG_CERT that came before it: the Depot serves them one at a time, in
order of arrival (R405). -/
def flashBehind (s : State) : Bool := s.dep.ahead && signWaits s

/-- An ATTEST or DEBUG_CERT waits for a flash command that came before it. -/
def signBehind (s : State) : Bool := s.dep.run.isSome && !s.dep.ahead

/-- FLASH_OP_COMPLETE. -/
def flashComplete (s : State) : State :=
  match s.dep.run with
  | none => s
  | some (op, a, bs) =>
    if flashBehind s then s else
    flashEnd 1 (if op = 0 then putBuf 0 ((List.range bs.length).map fun k => flashAt s (a + k)) s else putFlashBytes a bs s)

/-- FLASH_TIMEOUT: what a failed program or erase left in its range is a free value. -/
def flashTimeout (s : State) : State :=
  match s.dep.run with
  | none => s
  | some (op, a, bs) =>
    if op = 0 ∨ flashBehind s then s
    else
      let s := putFlashBytes a ((List.range bs.length).map fun k => Config.flashByte s.free (a + k)) s
      depCond 14 (flashEnd 3 { s with free := s.free + 1 })

def execFlashOpComplete (s : State) : Out := .next (flashComplete s)
def execFlashTimeout (s : State) : Out := .next (flashTimeout s)

end Sys2Proof.Machine
end

