-- ==== Sys2Proof/Machine/Bus.lean ====
section
/-!
DEFINITION. What a write and a read of one word do at their target (R7, R9, R285, R403): register fields
by access type with the effects their rules name, the double-banked table windows (R100, R106, R107,
R215, R216), core memories and registers (R246-R248), latched register pairs, computed fields, the Yard
debug window (R184) and the paged aperture (R143).
-/
namespace Sys2Proof.Machine

/-! ### Fields -/

/-- SDG_APAGE.SPACE as a write leaves it: SPACE 1 needs a debug certificate (R143). -/
def apageSpace (w : Word) (s : State) : Nat :=
  if bitsOf w 8 1 = 1 ∧ ¬ isSet R.SDG_CTRL F.SDG_CTRL_DBG s then getF R.SDG_APAGE F.SDG_APAGE_SPACE s else bitsOf w 8 1

/-- Value `v` lies in the range or set that the field's Meaning column states (R9). -/
def Rule.holds (r : Rule) (a v : Nat) (w : Word) (s : State) : Bool :=
  match r with
  | .any => true
  | .le n => decide (v ≤ n)
  | .between x y => decide (x ≤ v) && decide (v ≤ y)
  | .segLen => v % 40 == 0 && v % cfgP s == 0
  | .plen => v % 25 == 0 && decide (2075 ≤ v)
  | .dlen => v % 25 == 0 && decide (2075 ≤ v) && platLen s % v == 0
  | .cvis => v % 16 == 0 && decide (512 ≤ v) && decide (v ≤ 262144)
  | .apage => if apageSpace w s = 1 then decide (v < 256) else decide (v ≤ 5)
  | .rakeDef => v == 0 || rd (a + 1) s != 0#40
  | .nfr => if beamMode ((a - R.TBL_BEAM 0) / 2) s = 1 then v % 5 == 0 && oneTo v 8190 else oneTo v 4096

/-- The fields that the plain rule does not store: their own rule does, this instance has none, or the mark of a
committed swap stands until the swap takes effect (R107). -/
def Fld.special (a : Nat) (f : Fld) (s : State) : Bool :=
  match a / 0x10000 with
  | 0xF0 => a == R.DSP_CTRL 8 && f.lo == 0
  | 0x102 => 0x1020010 ≤ a && a < 0x1020020 && !(0x1020019 ≤ a && a ≤ 0x102001B)
  | 0x106 => (a == R.SUB_CTRL && f.lo == 0)
      || (0x1061000 ≤ a && a < 0x1061040 && (a % 16 == 0 || a % 16 == 1))
  | 0x300 => a == R.PTS_BANKS && ((f.lo == 0 && !s.pts.cswap.at_.isEmpty) || (f.lo == 1 && !s.pts.gswap.at_.isEmpty))
  | 0x320 => a == R.TBL_BANKS && f.lo == 0 && !s.tbl.gswap.at_.isEmpty
  | 0x30F => a < 0x30F0800 && a % 16 == 6 && decide (64 ≤ (a - 0x30F0000) / 16)
  | 0x400 => (a == R.SDG_CTRL && (f.lo == 1 || f.lo == 5)) || (a == R.SDG_APAGE && f.lo == 8 && bitsOf (rd a s) 8 1 == 0
      && !isSet R.SDG_CTRL F.SDG_CTRL_DBG s)
  | b => 0x200 ≤ b && b ≤ 0x205 && (a % 0x1000 == 1
      || (a % 0x1000 == 0 && ((f.lo == 1 && !isDeparture ((a - 0x2000000) / 0x1000))
          || (f.lo == 2 && decide (80 ≤ (a - 0x2000000) / 0x1000)))))

/-- A field after a write of `w` to its word at `a` (R7, R9); `free` lifts the seal. -/
def FieldDef.store (d : FieldDef) (a : Nat) (w : Word) (free : Bool) (s : State) (x : Word) : Word :=
  let v := bitsOf w d.fld.lo d.fld.w
  let set := if Fld.special a d.fld s || (d.zrej && v == 0) || !d.rule.holds a v w s then x
    else putBits x d.fld.lo d.fld.w v
  match d.acc with
  | .ro => x
  | .wo => x
  | .w1c => putBits x d.fld.lo d.fld.w (bitsOf x d.fld.lo d.fld.w &&& (2 ^ d.fld.w - 1 - v))
  | .rw => set
  | .rwl => if sealed s && !free then x else set

/-- A write to an RWL field after sealing (R403). -/
def FieldDef.locked (d : FieldDef) (free : Bool) (s : State) : Bool := d.acc == .rwl && sealed s && !free

/-- Zero in a field marked '0 rejected' (R9). DEDUCED: it is reported on every write that carries it, of a sealed
field too; log entry 14. -/
def FieldDef.zero (d : FieldDef) (w : Word) : Bool := d.zrej && bitsOf w d.fld.lo d.fld.w == 0

/-! ### Effects of register writes -/

def flag (w : Word) (f : Fld) : Bool := bitsOf w f.lo f.w == 1

def trkEffect (i off : Nat) (old w : Word) (locked : Bool) (s : State) : State :=
  match off with
  | 0 => trkCtrlEffect i old (flag w F.TRK_CTRL_PERS) (flag w F.TRK_CTRL_TRST) s
  | 1 => if locked then s else if eqValid w then wr (R.TRK_EQ i) (BitVec.ofNat 40 (w.toNat % 2 ^ 25)) s else eqReject i s
  | 6 => trkTestEffect i old (when (flag w F.TRK_TEST_CLR) (prbsClear i) s)
  | _ => s

def coreEffect (m n off : Nat) (w : Word) (s : State) : State :=
  match off with
  | 0 =>
    if n = 8 then when (flag w F.DSP_CTRL_RESTART) (sbxRestartWrite m) s
    else dspCtrlEffect n (flag w F.DSP_CTRL_RST) s
  | 4 => coreIrq n 1 s
  | 8 => when (flag w F.DSP_WDOG_KICK) (fun s => modCore n (fun c => { c with kick := tickNow s }) s) s
  | _ => s

/-- GO and STOP of a Shunter (R288). -/
def shunterRequest (k a n : Nat) (w : Option (List Word)) (s : State) : State :=
  let m := 12 + k
  { s with ilk := { s.ilk with wait := s.ilk.wait ++ [⟨Fin.ofNat 16 m, 0, BitVec.ofNat 28 a, n, w⟩] } }
    |> incF (R.ILK_MST m) F.ILK_MST_COUNT 1
    |> setF (R.ILK_MST m) F.ILK_MST_OUT (Nat.min 8 (getF (R.ILK_MST m) F.ILK_MST_OUT s + 1))

def shunterOf (k : Nat) (s : State) : Shunter := s.shunters.get (fun _ => {}) k
def putShunter (k : Nat) (x : Shunter) (s : State) : State := { s with shunters := s.shunters.set (fun _ => {}) k x }
def shunterBusy (k : Nat) (s : State) : Bool := isSet (R.ILK_SHN k) F.ILK_SHN_BUSY s

/-- The Shunter turns to the descriptor at `a`. -/
def shunterFetch (k a : Nat) (s : State) : State :=
  shunterRequest k a 4 none (setF (R.ILK_SHN k) F.ILK_SHN_CUR a (putShunter k { shunterOf k s with desc := [], pos := 0 } s))

def shunterGo (k : Nat) (s : State) : State :=
  if shunterBusy k s then s
  else
    let s := putShunter k {} s |> setF (R.ILK_SHN k) F.ILK_SHN_BUSY 1 |> setF (R.ILK_SHN k) F.ILK_SHN_RESULT 0
    shunterFetch k (getF (R.ILK_SHN k) F.ILK_SHN_DESC s) s

def shunterStop (k : Nat) (s : State) : State :=
  if shunterBusy k s then putShunter k { shunterOf k s with stop := true } s else s

/-- TARGET of SUB_CTRL (R352): a Depot write of the boot only stores it. -/
def targetEffect (m t : Nat) (s : State) : State :=
  if m = 9 ∧ pstate s = 0 then setF R.SUB_CTRL F.SUB_CTRL_TARGET t s else (requestState t s).2

/-- AOU_CTRLn and AOU_TARGETn: the Depot's loads follow R371, every other master's writes R372, R374 and R376. -/
def aouEffect (n off : Nat) (m : Nat) (w : Word) (free : Bool) (s : State) : State :=
  match off with
  | 0 =>
    let role := bitsOf w F.AOU_CTRL_ROLE.lo F.AOU_CTRL_ROLE.w
    let mode := flag w F.AOU_CTRL_MODE
    let gain := flag w F.AOU_CTRL_GAIN
    if m = 9 ∧ free then
      s |> when (flag w F.AOU_CTRL_FFORCE) (aoEnterFault n []) |> when (flag w F.AOU_CTRL_CLRFAULT) (aoClearFault n)
        |> aoDepotLoad n role mode gain
    else
      aoCtrlWrite n mode gain (flag w F.AOU_CTRL_FFORCE) (flag w F.AOU_CTRL_CLRFAULT) s |> when free (aoHostRole n role)
  | 1 => if m = 9 then aoDepotTarget n (bitsOf w 0 16) s else aoTargetWrite n (bitsOf w 0 16) s
  | _ => s

def sdgCtrlEffect (w : Word) (s : State) : State :=
  let req := flag w F.SDG_CTRL_PASR_REQ
  s |> rateWrite (bitsOf w F.SDG_CTRL_RATE.lo F.SDG_CTRL_RATE.w)
    |> when (req && !isSet R.SDG_CTRL F.SDG_CTRL_PASR_REQ s) pasrRequest
    |> when (!req && isSet R.SDG_CTRL F.SDG_CTRL_PASR_REQ s) pasrRelease

def cplEffect (w : Word) (s : State) : State :=
  s |> when (flag w F.CPL_CTRL_PROMOTE) (cplPromoteWrite (flag w F.CPL_CTRL_FORCE))
    |> when (flag w F.CPL_CTRL_RESIGN) cplResignWrite
    |> when (flag w F.CPL_CTRL_JOIN) cplJoinWrite

def belEffect (e : Nat) (w : Word) (s : State) : State :=
  s |> when (flag w F.BEL_SRC_STS) (clearSts e) |> when (flag w F.BEL_SRC_INJ) (raiseInj e true)

def psegTagSet (s : State) : State := psegReadyCheck { s with pts := { s.pts with tagNew := true } }
def psegChkSet (s : State) : State := psegReadyCheck { s with pts := { s.pts with chkNew := true } }
def tblTagSet (s : State) : State := tblReadyCheck { s with tbl := { s.tbl with tagNew := true } }
def tblChkSet (s : State) : State := tblReadyCheck { s with tbl := { s.tbl with chkNew := true } }

def ptsEffect (a : Nat) (w : Word) (s : State) : State :=
  if a = R.PTS_CTRL then when (flag w F.PTS_CTRL_CLRCNT) (clearWords 0x3020000 0x3028000) s
  else if a = R.PTS_PSEG then psegTagSet s
  else if a = R.PTS_PSEG_CHK then psegChkSet s
  else s

def tblEffect (a : Nat) (w : Word) (s : State) : State :=
  if a = R.TBL_CTRL then
    s |> when (flag w F.TBL_CTRL_CLRCNT) tblCounterClear |> when (!flag w F.TBL_CTRL_EN) tblStop
  else if a = R.TBL_DTAG then tblTagSet s
  else if a = R.TBL_DCHK then tblChkSet s
  else s

def tmnEffect (a : Nat) (w : Word) (s : State) : State :=
  if a = R.TMN_CTRL then
    s |> when (flag w F.TMN_CTRL_CLRCNT) tmnCounterClear |> when (!flag w F.TMN_CTRL_EN) tmnStop
  else if R.TMN_ROUTE 0 ≤ a ∧ a < R.TMN_ROUTE 16 ∧ a % 8 = 0 then
    let r := (a - R.TMN_ROUTE 0) / 8
    when (!isSet (R.TMN_ROUTE r) F.TMN_ROUTE_EN s) (routeStop r) s
  else s

/-- What a write of a register does beyond its fields. -/
def regEffect (m a : Nat) (old w : Word) (locked free : Bool) (s : State) : State :=
  match a / 0x10000 with
  | 0xF0 => coreEffect m ((a - 0xF00000) / 0x100) (a % 0x100) w s
  | 0x100 => if 0x1000040 ≤ a ∧ a % 4 = 3 ∧ flag w F.TTB_ENQ_GO then enqueueGo ((a - 0x1000040) / 4) s else s
  | 0x101 => if R.BEL_SRC 0 ≤ a then belEffect (a - R.BEL_SRC 0) w s else s
  | 0x102 =>
    if 0x1020020 ≤ a ∧ a % 4 = 0 then
      s |> when (flag w F.ILK_SHN_STOP) (shunterStop ((a - 0x1020020) / 4))
        |> when (flag w F.ILK_SHN_GO) (shunterGo ((a - 0x1020020) / 4))
    else s
  | 0x104 => when (a == R.DEP_FLCMD && flag w F.DEP_FLCMD_GO) flashGo s
  | 0x106 =>
    if a = R.SUB_CTRL then targetEffect m (bitsOf w 0 3) s
    else if 0x1061000 ≤ a ∧ a < 0x1061040 then aouEffect ((a - 0x1061000) / 16) (a % 16) m w free s
    else s
  | 0x107 => if a = R.CPL_CTRL then cplEffect w s else s
  | 0x300 => ptsEffect a w s
  | 0x30F => when (a % 16 == 6 && flag w F.PTS_FRCTL_CLR) (framingClear ((a - 0x30F0000) / 16)) s
  | 0x320 => tblEffect a w s
  | 0x400 => if a = R.SDG_CTRL then sdgCtrlEffect w s else s
  | 0x500 => when (a == R.JCT_CTRL && flag w F.JCT_CTRL_FORCE) forceJunction s
  | 0x508 => when (a == R.INS_INJ && flag w F.INS_INJ_GO) injSubmit s
  | 0x600 => tmnEffect a w s
  | b => if 0x200 ≤ b ∧ b ≤ 0x205 then trkEffect ((a - 0x2000000) / 0x1000) (a % 0x1000) old w locked s else s

/-- The master that owns enqueue set `k`. -/
def enqOwner (k : Nat) : Nat := if k = 0 then 10 else k - 1

/-- A write to an enqueue set from another master than its owner. -/
def foreignEnq (m a : Nat) : Bool := 0x1000040 ≤ a && a < 0x1000068 && m != enqOwner ((a - 0x1000040) / 4)

/-- A write to a register word (R7). -/
def regWrite1 (m a : Nat) (w : Word) (free : Bool) (s : State) : State :=
  match regDef a with
  | none => s
  | some d =>
    if foreignEnq m a then s
    else
      let old := rd a s
      let locked := d.fields.any fun f => f.locked free s
      let zero := d.fields.any fun f => f.zero w
      let new := d.fields.foldl (fun x f => f.store a w free s x) old
      s |> wr a new |> when locked (depCond 6) |> when zero (depCond 7) |> regEffect m a old w locked free

/-! ### Table windows (R106) -/

/-- A double-banked table: its bank's word at `base bank + k`, whether word `k` has content under the present
configuration, the stored bits, the active bank, and whether a swap to the other bank is committed. -/
structure Banked where
  base    : Nat → Nat
  content : Nat → Bool
  bits    : Nat
  active  : Nat
  commit  : Bool
  image   : Bool           -- Depot writes of a boot or reload go to both banks

def coefTable (s : State) : Banked :=
  ⟨fun b => 0x3001000 + 0x200 * b, fun k => decide (k < 8 * cfgP s), 2 ^ 18,
   getF R.PTS_CTRL F.PTS_CTRL_CBANK s, !s.pts.cswap.at_.isEmpty, true⟩
def gainTable (s : State) : Banked :=
  ⟨gainBase, fun k => decide (2 * k < cfgN s * cfgNch s), 2 ^ 32,
   getF R.PTS_CTRL F.PTS_CTRL_GBANK s, !s.pts.gswap.at_.isEmpty, true⟩
def segTable (s : State) : Banked :=
  ⟨fun b => 0x3010000 + 0x8000 * b, fun k => decide (k < 4 * cfgN s), 2 ^ 40,
   getF R.PTS_CTRL F.PTS_CTRL_PBANK s, false, false⟩
def tblGainTable (s : State) : Banked :=
  ⟨fun b => 0x3300000 + 0x80000 * b, fun k => decide (2 * k < cfgN s * cfgNch s), 2 ^ 32,
   getF R.TBL_CTRL F.TBL_CTRL_GBANK s, !s.tbl.gswap.at_.isEmpty, true⟩
def tblDelayTable (s : State) : Banked :=
  ⟨fun b => 0x3400000 + 0x100000 * b, fun k => decide (k % 8192 < cfgN s), 2 ^ 24,
   getF R.TBL_CTRL F.TBL_CTRL_DBANK s, !s.tbl.dswap.at_.isEmpty, false⟩

/-- The table, bank and word that a window address names. -/
def windowAt (a : Nat) (s : State) : Option (Banked × Nat × Nat) :=
  if 0x3001000 ≤ a ∧ a < 0x3001400 then some (coefTable s, (a - 0x3001000) / 0x200, (a - 0x3001000) % 0x200)
  else if 0x3010000 ≤ a ∧ a < 0x3020000 then some (segTable s, (a - 0x3010000) / 0x8000, (a - 0x3010000) % 0x8000)
  else if 0x3080000 ≤ a ∧ a < 0x30C0000 then
    some (gainTable s, getF R.PTS_GPAGE F.PTS_GPAGE_BANK s, getF R.PTS_GPAGE F.PTS_GPAGE_HALF s * 0x40000 + (a - 0x3080000))
  else if 0x3300000 ≤ a ∧ a < 0x3400000 then some (tblGainTable s, (a - 0x3300000) / 0x80000, (a - 0x3300000) % 0x80000)
  else if 0x3400000 ≤ a ∧ a < 0x3600000 then
    some (tblDelayTable s, (a - 0x3400000) / 0x100000, (a - 0x3400000) % 0x100000)
  else none

/-- The pair that a word of the GAU_STAT window shows lies outside the configuration. -/
def gaugeVoid (x : Nat) (s : State) : Bool :=
  decide (cfgN s ≤ 128 * getF R.GAU_SPAGE F.GAU_SPAGE_GROUP s + x / 512) || decide (cfgC s ≤ x / 8 % 64)

/-- A word of a table window that has no content under the present configuration (R279): inputs at or above N in
PTS_ICNT, PTS_DSETMEM, GAU_STAT, TTB_SNAPIC and SDG_OFSHIST, channels at or above Nch in JCT_RMASK. -/
def wordVoid (a : Nat) (s : State) : Bool :=
  match a / 0x10000 with
  | 0x500 => 0x5001000 ≤ a && a < 0x5001400 && decide (cfgNch s ≤ 32 * (a % 128))
  | 0x302 => a < 0x3028000 && decide (cfgN s ≤ (a - 0x3020000) / 4)
  | 0x303 => decide (cfgN s ≤ (a - 0x3030000) / 8)
  | 0x304 => decide (cfgN s ≤ (a - 0x3040000) / 8)
  | 0x311 => gaugeVoid (a - 0x3110000) s
  | 0x100 => 0x1008000 ≤ a && decide (cfgN s ≤ (a - 0x1008000) / 4)
  | 0x402 => decide (cfgN s ≤ a % 8192)
  | 0x403 => decide (cfgN s ≤ a % 8192)
  | _ => false

/-- The inactive segment or delay bank's signature takes the word (R100, R216). -/
def windowSign (a : Nat) (w : Word) (s : State) : State :=
  if 0x3010000 ≤ a ∧ a < 0x3020000 then psegSigWord w s
  else if 0x3400000 ≤ a ∧ a < 0x3600000 then tblSigWord w s
  else s

/-- The bits of a stored word; word 2 of a segment entry has the zero bits [7:1]. -/
def keepBits (a k bits : Nat) (w : Word) : Word :=
  if 0x3010000 ≤ a ∧ a < 0x3020000 ∧ k % 4 = 2 then putBits w 1 7 0 else BitVec.ofNat 40 (w.toNat % bits)

/-- A write to a double-banked window: discarded for the active and the committed bank; a Depot write
of the boot or a reload goes to both banks of the image's tables. -/
def windowWrite (m a : Nat) (w : Word) (reload : Bool) (t : Banked) (bank k : Nat) (s : State) : State :=
  let v := keepBits a k t.bits w
  if !t.content k then s
  else if m == 9 && t.image && (reload || !sealed s) then wr (t.base 1 + k) v (wr (t.base 0 + k) v s)
  else if bank == t.active || t.commit then s
  else windowSign a w (wr (t.base bank + k) v s)

/-! ### One word written -/

/-- The access comes from a core: its loads and stores reach no code memory (R246; DECERR is the model's response,
log 81). -/
def dataAccess (m : Nat) : Bool := decide (m ≤ 8)

def codeWriteRefused (n : Nat) (s : State) : Bool := (coreOf n s).mode == 1 || (coreOf n s).mode == 2

/-- A write of one word at a target that answers: the response code and the state. `reload` marks a Depot
write of the reloads of R359 and R401. -/
def wordWrite (m a : Nat) (w : Word) (reload : Bool) (s : State) : Nat × State :=
  let free := !sealed s || reload
  match coreMemory a with
  | some (n, code, _) =>
    if code && codeWriteRefused n s then (1, raise (ev 12 39) s)
    else if code && dataAccess m then (1, s)
    else (0, memWrite a w s)
  | none =>
    if 0xF00000 ≤ a ∧ a < 0xF00900 ∧ 0x40 ≤ a % 0x100 ∧ a % 0x100 < 0x80 then
      let n := (a - 0xF00000) / 0x100
      if codeWriteRefused n s then (1, s)
      else (0, if a % 0x100 - 0x40 ≤ 54 then regWrite n (a % 0x100 - 0x40) w s else s)
    else if 0x1010100 ≤ a ∧ a < 0x1010120 then (0, stsWrite (a - 0x1010100) w s)
    else if 0x1041000 ≤ a ∧ a < 0x1041100 then (0, wr a w s)
    else if 0x5100000 ≤ a ∧ a < 0x5500000 then (if isSet R.YRD_CFG F.YRD_CFG_DBG s then 0 else 1, s)
    else if wordVoid a s then (0, s)
    else if 0x8000000 ≤ a then
      match aperturePlace (a - 0x8000000) s with
      | none => (1, s)
      | some (pl, k) => if stackAnswers pl s then (0, p3Write pl k w s) else (2, s)
    else
      match windowAt a s with
      | some (t, bank, k) => (0, windowWrite m a w reload t bank k s)
      | none => (0, regWrite1 m a w free s)

/-! ### One word read -/

/-- The latched pairs of R285: the words whose values a read of the word at `a` latches. -/
def latches (a : Nat) : List Nat :=
  if 0x2000000 ≤ a ∧ a < 0x2054000 then (if a % 0x1000 = 7 then [a + 1, a + 2, a + 3] else [])
  else if a = 0x100000A then [a + 1, a + 2, a + 3, a + 4]
  else if [0x30F0802, 0x3100002, 0x4000002, 0x5000002, 0x1000003, 0x1000005, 0x1000031,
      0x1000034, 0x1070006, 0x1070008, 0x1050004, 0x1040007].contains a then [a + 1]
  else []

/-- The word at `a` is the HI word of a latched pair, or a word of R48. -/
def latched (a : Nat) : Bool :=
  if 0x2000000 ≤ a ∧ a < 0x2054000 then 8 ≤ a % 0x1000 && a % 0x1000 ≤ 10
  else if 0x100000B ≤ a ∧ a ≤ 0x100000E then true
  else 0 < a && (latches (a - 1)).contains a

def latchKey (m a : Nat) : Nat := m * 2 ^ 28 + a

/-- A HI word as master `m` reads it: what its last LO read latched, and its Reset value before the first one
(R48, R285; DEDUCED, log entry 15). -/
def latchedWord (m a : Nat) (s : State) : Word := (s.latches.get (fun _ => none) (latchKey m a)).getD (resetWord a)

/-- JCT words that show the configuration: nb, T, the tile order, the needed districts, the channels of
a rake. -/
def jctView (a : Nat) (s : State) : Word :=
  let nb := if planValid s then nbOf (cfgN s) else 0
  if a = R.JCT_STATE then putBits (putBits (rd a s) 0 4 nb) 4 6 (tileCount nb)
  else if a = R.JCT_DISTRICT then putBits (rd a s) 0 16 (districtsNeeded (cfgN s))
  else if 0x5000010 ≤ a ∧ a < 0x5000030 ∧ a % 4 = 0 then
    let g := (a - 0x5000010) / 4
    putBits (rd a s) 8 13 ((List.range (cfgNch s)).filter fun ch => inMask g ch s).length
  else if 0x5000100 ≤ a ∧ a < 0x5000124 then
    match (tileOrder nb)[a - 0x5000100]? with
    | some (x, y) => BitVec.ofNat 40 (x + 8 * y + 64 * b2n (x == y))
    | none => 0#40
  else rd a s

/-- The QoS in force of a core's port (ILK_MSTm). -/
def mstView (m : Nat) (s : State) : Word :=
  if m = 0 then putBits (rd (R.ILK_MST m) s) 0 4 (getF (R.DSP_CTRL 8) F.DSP_CTRL_QOS s)
  else if m ≤ 8 then putBits (rd (R.ILK_MST m) s) 0 4 (getF (R.DSP_CTRL (m - 1)) F.DSP_CTRL_QOS s)
  else rd (R.ILK_MST m) s

/-- A read of one word at a target that answers: the response code, the word, the state. -/
def wordRead (m a : Nat) (s : State) : Nat × Word × State :=
  match coreMemory a with
  | some (n, code, _) =>
    if code && dataAccess m then (1, 0#40, s)
    else match memRead n a s with
    | (some v, s) => (0, v, s)
    | (none, s) => (1, 0#40, s)
  | none =>
    if 0xF00000 ≤ a ∧ a < 0xF00900 ∧ a % 0x100 = 3 then (0, ipendWord ((a - 0xF00000) / 0x100) s, s)
    else if 0xF00000 ≤ a ∧ a < 0xF00900 ∧ 0x40 ≤ a % 0x100 ∧ a % 0x100 < 0x80 then
      let n := (a - 0xF00000) / 0x100
      if codeWriteRefused n s then (1, 0#40, s)
      else (0, if a % 0x100 - 0x40 ≤ 54 then regRead n (a % 0x100 - 0x40) s else 0#40, s)
    else if wordVoid a s then (0, 0#40, s)
    else if 0x1010100 ≤ a ∧ a < 0x1010120 then (0, stsWord (a - 0x1010100) s, s)
    else if 0x1048000 ≤ a ∧ a < 0x1048080 then (0, kps (a - 0x1048000) s, s)
    else if 0x1020010 ≤ a ∧ a < 0x1020020 then (0, mstView (a - 0x1020010) s, s)
    else if 0x1010200 ≤ a ∧ a < 0x1010209 then
      let (v, s) := takeEvent (a - 0x1010200) s
      (0, v, s)
    else if 0x3110000 ≤ a ∧ a < 0x3120000 then
      (0, rd (0x11000000 + 65536 * getF R.GAU_SPAGE F.GAU_SPAGE_GROUP s + (a - 0x3110000)) s, s)
    else if 0x5000000 ≤ a ∧ a < 0x5001000 ∧ !latched a ∧ (latches a).isEmpty then (0, jctView a s, s)
    else if 0x5100000 ≤ a ∧ a < 0x5500000 then
      if isSet R.YRD_CFG F.YRD_CFG_DBG s then (0, yardDebugWord (a - 0x5100000) s, s) else (1, 0#40, s)
    else if 0x8000000 ≤ a then
      match aperturePlace (a - 0x8000000) s with
      | none => (1, 0#40, s)
      | some (pl, k) =>
        if stackAnswers pl s then
          let (v, s) := p3Read pl k s
          (0, v, s)
        else (2, 0#40, s)
    else if latched a then (0, latchedWord m a s, s)
    else
      match windowAt a s with
      | some (t, bank, k) => (0, if t.content k then rd (t.base bank + k) s else 0#40, s)
      | none =>
        (0, rd a s, (latches a).foldl (fun s h =>
          { s with latches := s.latches.set (fun _ => none) (latchKey m h) (some (rd h s)) }) s)

/-! ### Accesses through the Interlocking -/

/-- A write by master `m` of word `a`: the default target (R280), a target that sleeps (R281), or the target. -/
def targetWrite (m a : Nat) (w : Word) (s : State) : Nat × State :=
  match targetOf a with
  | none => (1, s)
  | some r => if answers m a r s then wordWrite m a w false s else (2, s)

/-- The access waits at port P3: its block lies in a stack that trains (R137, R143). -/
def p3Waits (m a : Nat) (s : State) : Bool :=
  decide (0x8000000 ≤ a) && (targetOf a).any (fun r => answers m a r s)
    && (aperturePlace (a - 0x8000000) s).any fun x => stackWaits x.1 s

/-- One of `n` words from `a` on waits. -/
def p3WaitsAny (m a n : Nat) (s : State) : Bool := (List.range n).any fun k => p3Waits m (a + k) s

def targetRead (m a : Nat) (s : State) : Nat × Word × State :=
  match targetOf a with
  | none => (1, 0#40, s)
  | some r => if answers m a r s then wordRead m a s else (2, 0#40, s)

/-- The record of an error response, while the Interlocking runs. -/
def noteError (m a code : Nat) (isWrite : Bool) (s : State) : State := when (ilkUp s) (ilkError m a code isWrite) s

/-- What a transaction of several words has met so far: the worse response, the words that completed
before an error, the first failing address, and the part that failed last (R278, R279). -/
structure Burst where
  code : Nat := 0
  data : List Word := []
  good : Nat := 0
  fail : Option Nat := none
  last : Option (Nat × Option Range) := none
  deriving DecidableEq, Repr, Inhabited

/-- One word's response enters the transaction's. -/
def Burst.add (b : Burst) (a code : Nat) (w : Word) : Burst :=
  { code := Nat.max b.code code
    data := b.data ++ [if b.fail.isSome || code != 0 then 0#40 else w]
    good := if b.fail.isSome || code != 0 then b.good else b.good + 1
    fail := if b.fail.isSome then b.fail else if code = 0 then none else some a
    last := if code = 0 then none else some (code, targetOf a) }

/-- A word whose part of the transaction has not yet failed with this response is recorded (R280). -/
def Burst.note (b : Burst) (m a code : Nat) (isWrite : Bool) (s : State) : State :=
  if code = 0 ∨ b.last = some (code, targetOf a) then s else noteError m a code isWrite s

/-- A write transaction, word by word. -/
def burstWrite (m : Nat) : Nat → List Word → Burst → State → Burst × State
  | _, [], b, s => (b, s)
  | a, w :: t, b, s =>
    let (c, s) := targetWrite m a w s
    burstWrite m (a + 1) t (b.add a c w) (b.note m a c true s)

/-- A read transaction: a part that has failed is read no further. -/
def burstRead (m : Nat) : Nat → Nat → Burst → State → Burst × State
  | _, 0, b, s => (b, s)
  | a, n + 1, b, s =>
    if b.last.isSome ∧ b.last.map (·.2) = some (targetOf a) then
      burstRead m (a + 1) n { b with data := b.data ++ [0#40] } s
    else
      let (c, v, s) := targetRead m a s
      burstRead m (a + 1) n (b.add a c v) (b.note m a c false s)

/-- The answer that a transaction gives its master. -/
def Burst.answer (b : Burst) (isWrite : Bool) : Answer := ⟨b.code, if isWrite then [] else b.data, b.good⟩

def putAnswer (m : Nat) (x : Answer) (s : State) : State := { s with ans := s.ans.set (fun _ => {}) m x }

/-- One transaction of one word, issued and answered. -/
def countIssue (m : Nat) (s : State) : State := incF (R.ILK_MST m) F.ILK_MST_COUNT 1 s

/-- An access that waits at port P3 is outstanding, and completes as TRANSACTION_RESPONSE. The requests of cores and
Shunters are already held where they wait, so that for them nothing changes. -/
def holdAccess (m a : Nat) (w : Option Word) (s : State) : State :=
  if 9 ≤ m ∧ m ≤ 11 ∧ getF (R.ILK_MST m) F.ILK_MST_OUT s < 8 then
    { countIssue m s with ilk := { s.ilk with
        out := s.ilk.out ++ [⟨Fin.ofNat 16 m, 0, BitVec.ofNat 28 a, 1, w.map fun v => [v]⟩] } }
      |> incF (R.ILK_MST m) F.ILK_MST_OUT 1
  else s

def writeAccess (m a : Nat) (w : Word) (s : State) : State :=
  if p3Waits m a s then holdAccess m a (some w) s else
  let (b, s) := burstWrite m a [w] {} (countIssue m s)
  putAnswer m (b.answer true) s

def readAccess (m a : Nat) (s : State) : State :=
  if p3Waits m a s then holdAccess m a none s else
  let (b, s) := burstRead m a 1 {} (countIssue m s)
  putAnswer m (b.answer false) s

end Sys2Proof.Machine
end

