-- ==== Sys2Proof/Machine/Access.lean ====
section
/-!
DEFINITION. The commands that are accesses of one master to one word: register writes and reads of the
control address space. A command that names fields writes the register's word with those fields set and
the others as they stand; it then has whatever effect the common write gives.
-/
namespace Sys2Proof.Machine

/-- The word at `a` as a writer that changes one field writes it: the other fields as they stand, WO and W1C
fields 0. -/
def heldWord (a : Nat) (s : State) : Word :=
  match regDef a with
  | some d => d.fields.foldl (fun x f =>
      if f.acc = .wo ∨ f.acc = .w1c then putBits x f.fld.lo f.fld.w 0 else x) (rd a s)
  | none => rd a s

/-- A write of field `f` of the register at `base`. -/
def fieldWrite (m base : Nat) (f : Fld) (v : Nat) (s : State) : State :=
  writeAccess m (base + f.sub) (putBits (heldWord (base + f.sub) s) f.lo f.w v) s

def execRegisterWrite (m : Master) (addr : WAddr) (w : Word) (s : State) : Out := .next (writeAccess m.val addr.toNat w s)
def execLoWordLatchRead (m : Master) (addr : WAddr) (s : State) : Out := .next (readAccess m.val addr.toNat s)
def execTableWindowWrite (m : Master) (addr : WAddr) (w : Word) (s : State) : Out :=
  .next (writeAccess m.val addr.toNat w s)
def execForceDrain (m : Master) (s : State) : Out := .next (fieldWrite m.val R.JCT_CTRL F.JCT_CTRL_FORCE 1 s)
def execYardDebugRead (m : Master) (addr : WAddr) (s : State) : Out := .next (readAccess m.val addr.toNat s)

/-! ### Tracks -/

def execTrkEnSet (m : Master) (i : LaneId) (s : State) : Out :=
  .next (fieldWrite m.val (R.TRK_CTRL i.val) F.TRK_CTRL_EN 1 s)
def execTrkEnClear (m : Master) (i : LaneId) (s : State) : Out :=
  .next (fieldWrite m.val (R.TRK_CTRL i.val) F.TRK_CTRL_EN 0 s)
def execTrkTrst (m : Master) (i : LaneId) (s : State) : Out :=
  .next (fieldWrite m.val (R.TRK_CTRL i.val) F.TRK_CTRL_TRST 1 s)
def execTrkPersWrite (m : Master) (i : LaneId) (pers : Bool) (s : State) : Out :=
  .next (fieldWrite m.val (R.TRK_CTRL i.val) F.TRK_CTRL_PERS (b2n pers) s)
def execTrkEqWrite (m : Master) (i : LaneId) (w : Word) (s : State) : Out :=
  .next (writeAccess m.val (R.TRK_EQ i.val) w s)
def execTrkTestWrite (m : Master) (i : LaneId) (gen chk : Fin 4) (s : State) : Out :=
  .next (fieldWrite m.val (R.TRK_TEST i.val) ⟨0, 0, 4⟩ (gen.val + 4 * chk.val) s)
def execPrbsClear (m : Master) (i : LaneId) (s : State) : Out :=
  .next (fieldWrite m.val (R.TRK_TEST i.val) F.TRK_TEST_CLR 1 s)
def execFramingCounterClear (m : Master) (i : LaneId) (s : State) : Out :=
  .next (fieldWrite m.val (R.PTS_FRCTL i.val) F.PTS_FRCTL_CLR 1 s)

/-! ### Points -/

def execPsegBankWrite (m : Master) (addr : WAddr) (w : Word) (s : State) : Out :=
  .next (writeAccess m.val addr.toNat w s)
def execPsegTagWrite (m : Master) (tag : BitVec 16) (s : State) : Out :=
  .next (fieldWrite m.val R.PTS_PSEG F.PTS_PSEG_TAG tag.toNat s)
def execPsegChkWrite (m : Master) (chk : BitVec 32) (s : State) : Out :=
  .next (fieldWrite m.val R.PTS_PSEG_CHK F.PTS_PSEG_CHK_CHK chk.toNat s)
def execCoefReadyMark (m : Master) (s : State) : Out := .next (fieldWrite m.val R.PTS_BANKS F.PTS_BANKS_CRDY 1 s)
def execGainReadyMark (m : Master) (s : State) : Out := .next (fieldWrite m.val R.PTS_BANKS F.PTS_BANKS_GRDY 1 s)
def execPtsIcntClear (m : Master) (s : State) : Out := .next (fieldWrite m.val R.PTS_CTRL F.PTS_CTRL_CLRCNT 1 s)

/-! ### Sidings, Terminus, Turntable, Timetable -/

def execSdgRateWrite (m : Master) (rate : Fin 4) (s : State) : Out :=
  .next (fieldWrite m.val R.SDG_CTRL F.SDG_CTRL_RATE rate.val s)
def execPasrRequest (m : Master) (s : State) : Out := .next (fieldWrite m.val R.SDG_CTRL F.SDG_CTRL_PASR_REQ 1 s)
def execPasrRelease (m : Master) (s : State) : Out := .next (fieldWrite m.val R.SDG_CTRL F.SDG_CTRL_PASR_REQ 0 s)
def execApertureAccess (m : Master) (addr : WAddr) (w : Option Word) (s : State) : Out :=
  .next (match w with | some v => writeAccess m.val addr.toNat v s | none => readAccess m.val addr.toNat s)
def execTmnCounterClear (m : Master) (s : State) : Out := .next (fieldWrite m.val R.TMN_CTRL F.TMN_CTRL_CLRCNT 1 s)
def execBeamDelayBankWrite (m : Master) (addr : WAddr) (w : Word) (s : State) : Out :=
  .next (writeAccess m.val addr.toNat w s)
def execBeamDtagWrite (m : Master) (tag : BitVec 16) (s : State) : Out :=
  .next (fieldWrite m.val R.TBL_DTAG F.TBL_DTAG_TAG tag.toNat s)
def execBeamDchkWrite (m : Master) (chk : BitVec 32) (s : State) : Out :=
  .next (fieldWrite m.val R.TBL_DCHK F.TBL_DCHK_CHK chk.toNat s)
def execBeamGainReadyMark (m : Master) (s : State) : Out := .next (fieldWrite m.val R.TBL_BANKS F.TBL_BANKS_GRDY 1 s)
def execTblCounterClear (m : Master) (s : State) : Out := .next (fieldWrite m.val R.TBL_CTRL F.TBL_CTRL_CLRCNT 1 s)
def execEnqueueSubmit (m : Master) (set : Fin 10) (s : State) : Out :=
  .next (fieldWrite m.val (R.TTB_ENQ set.val) F.TTB_ENQ_GO 1 s)

/-! ### Cores -/

def execCoreRunSet (m : Master) (n : Fin 8) (s : State) : Out :=
  .next (fieldWrite m.val (R.DSP_CTRL n.val) F.DSP_CTRL_RUN 1 s)
def execCoreRunClear (m : Master) (n : Fin 8) (s : State) : Out :=
  .next (fieldWrite m.val (R.DSP_CTRL n.val) F.DSP_CTRL_RUN 0 s)
def execCoreReset (m : Master) (n : Fin 8) (s : State) : Out :=
  .next (fieldWrite m.val (R.DSP_CTRL n.val) F.DSP_CTRL_RST 1 s)
def execSbxRestart (m : Master) (s : State) : Out := .next (fieldWrite m.val (R.DSP_CTRL 8) F.DSP_CTRL_RESTART 1 s)
def execDoorbellWrite (m : Master) (n : CoreId) (msg : BitVec 32) (s : State) : Out :=
  .next (writeAccess m.val (R.DSP_DOOR n.val) (BitVec.ofNat 40 msg.toNat) s)
def execWatchdogKick (m : Master) (n : CoreId) (s : State) : Out :=
  .next (fieldWrite m.val (R.DSP_WDOG n.val) F.DSP_WDOG_KICK 1 s)
def execCodeMemoryWrite (m : Master) (addr : WAddr) (w : Word) (s : State) : Out :=
  .next (writeAccess m.val addr.toNat w s)
def execCoreRegsAccess (m : Master) (n : CoreId) (r : Fin 64) (w : Option Word) (s : State) : Out :=
  .next (match w with
    | some v => writeAccess m.val (creg n.val r.val) v s
    | none => readAccess m.val (creg n.val r.val) s)

/-! ### Shunters and the Block Bell -/

def execShunterGo (m : Master) (k : Fin 4) (s : State) : Out :=
  .next (fieldWrite m.val (R.ILK_SHN k.val) F.ILK_SHN_GO 1 s)
def execShunterStop (m : Master) (k : Fin 4) (s : State) : Out :=
  .next (fieldWrite m.val (R.ILK_SHN k.val) F.ILK_SHN_STOP 1 s)
def execEventQueueRead (m : Master) (c : Fin 9) (s : State) : Out := .next (readAccess m.val (R.BEL_Q c.val) s)
def execEventInject (m : Master) (e : Fin 1024) (s : State) : Out :=
  .next (fieldWrite m.val (R.BEL_SRC e.val) F.BEL_SRC_INJ 1 s)

/-! ### Fault injection: UNIT and ARG are written, then CODE with GO = 1 (R319) -/

def injWrite (m code : Nat) (unit : BitVec 28) (arg : Word) (s : State) : State :=
  s |> writeAccess m (R.INS_INJ + 1) (BitVec.ofNat 40 unit.toNat)
    |> writeAccess m (R.INS_INJ + 2) arg
    |> writeAccess m R.INS_INJ (BitVec.ofNat 40 (code + 256))

def execInjClear (m : Master) (unit : BitVec 28) (arg : Word) (s : State) : Out := .next (injWrite m.val 0x00 unit arg s)
def execInjTrainCodeword (m : Master) (unit : BitVec 28) (arg : Word) (s : State) : Out :=
  .next (injWrite m.val 0x01 unit arg s)
def execInjPointsResidue (m : Master) (unit : BitVec 28) (arg : Word) (s : State) : Out :=
  .next (injWrite m.val 0x10 unit arg s)
def execInjSShape (m : Master) (unit : BitVec 28) (arg : Word) (s : State) : Out := .next (injWrite m.val 0x20 unit arg s)
def execInjHbmParity (m : Master) (unit : BitVec 28) (arg : Word) (s : State) : Out :=
  .next (injWrite m.val 0x21 unit arg s)
def execInjRowParity (m : Master) (unit : BitVec 28) (arg : Word) (s : State) : Out :=
  .next (injWrite m.val 0x30 unit arg s)
def execInjColumnParity (m : Master) (unit : BitVec 28) (arg : Word) (s : State) : Out :=
  .next (injWrite m.val 0x31 unit arg s)
def execInjCellAccumulator (m : Master) (unit : BitVec 28) (arg : Word) (s : State) : Out :=
  .next (injWrite m.val 0x32 unit arg s)
def execInjYardCodeword (m : Master) (unit : BitVec 28) (arg : Word) (s : State) : Out :=
  .next (injWrite m.val 0x40 unit arg s)
def execInjPromotionResidue (m : Master) (unit : BitVec 28) (arg : Word) (s : State) : Out :=
  .next (injWrite m.val 0x41 unit arg s)
def execInjTurntableResidue (m : Master) (unit : BitVec 28) (arg : Word) (s : State) : Out :=
  .next (injWrite m.val 0x50 unit arg s)
def execInjBusCode (m : Master) (unit : BitVec 28) (arg : Word) (s : State) : Out :=
  .next (injWrite m.val 0x60 unit arg s)
def execInjCoreMemory (m : Master) (unit : BitVec 28) (arg : Word) (s : State) : Out :=
  .next (injWrite m.val 0x70 unit arg s)
def execInjLockstep (m : Master) (unit : BitVec 28) (arg : Word) (s : State) : Out :=
  .next (injWrite m.val 0x71 unit arg s)
def execInjClockMonitor (m : Master) (unit : BitVec 28) (arg : Word) (s : State) : Out :=
  .next (injWrite m.val 0x80 unit arg s)
def execInjRetentionSignature (m : Master) (unit : BitVec 28) (arg : Word) (s : State) : Out :=
  .next (injWrite m.val 0x90 unit arg s)
def execInjMirrorCrc (m : Master) (unit : BitVec 28) (arg : Word) (s : State) : Out :=
  .next (injWrite m.val 0x91 unit arg s)

/-! ### Coupling, Substation, analogue outputs, flash -/

def execCplPromote (m : Master) (force : Bool) (s : State) : Out :=
  .next (fieldWrite m.val R.CPL_CTRL ⟨0, 1, 2⟩ (1 + 2 * b2n force) s)
def execCplResign (m : Master) (s : State) : Out := .next (fieldWrite m.val R.CPL_CTRL F.CPL_CTRL_RESIGN 1 s)
def execCplJoin (m : Master) (s : State) : Out := .next (fieldWrite m.val R.CPL_CTRL F.CPL_CTRL_JOIN 1 s)
def execTargetWrite (m : Master) (target : Fin 8) (s : State) : Out :=
  .next (fieldWrite m.val R.SUB_CTRL F.SUB_CTRL_TARGET target.val s)
def execAoTargetWrite (m : Master) (n : Fin 4) (target : BitVec 16) (s : State) : Out :=
  .next (writeAccess m.val (R.AOU_TARGET n.val) (BitVec.ofNat 40 target.toNat) s)
def execAoRangeChange (m : Master) (n : Fin 4) (mode gain : Bool) (s : State) : Out :=
  .next (fieldWrite m.val (R.AOU_CTRL n.val) ⟨0, 2, 2⟩ (b2n mode + 2 * b2n gain) s)
def execAoFaultForce (m : Master) (n : Fin 4) (s : State) : Out :=
  .next (fieldWrite m.val (R.AOU_CTRL n.val) F.AOU_CTRL_FFORCE 1 s)
def execAoClearFault (m : Master) (n : Fin 4) (s : State) : Out :=
  .next (fieldWrite m.val (R.AOU_CTRL n.val) F.AOU_CTRL_CLRFAULT 1 s)
def execFlashRead (m : Master) (s : State) : Out := .next (writeAccess m.val R.DEP_FLCMD 0x04#40 s)
def execFlashProgram (m : Master) (s : State) : Out := .next (writeAccess m.val R.DEP_FLCMD 0x05#40 s)
def execFlashErase (m : Master) (s : State) : Out := .next (writeAccess m.val R.DEP_FLCMD 0x06#40 s)

end Sys2Proof.Machine
end

