-- ==== Sys2Proof/Machine/Budget.lean ====
section
/-!
DEFINITION. The checks the Depot makes of a stream map (R67) and of a plan (R22, Table 1.6, R89, R123, R126,
R134, R175, R201, R209, R223), on the configuration as it stands in a state after the plan's writes.
Rates and times are exact rationals.
-/
namespace Sys2Proof.Machine

/-- What a plan may count on: the number of working stacks, the districts and the departure tracks present. -/
structure Resources where
  k         : Nat
  districts : Nat
  deps      : Nat
  deriving DecidableEq, Repr, Inhabited

def allResources (k : Nat) : Resources := ⟨k, 0xFFFF, 0xFFFF⟩

/-- Districts and departure tracks of domains that have not failed, and the working stacks. -/
def presentResources (s : State) : Resources :=
  { k := (workStacks s).length
    districts := (List.range 16).foldl (fun m k => if domFailed (districtDomain k) s then m else m + 2 ^ k) 0
    deps := (List.range 16).foldl (fun m d => if domFailed (7 + quadOf (64 + d)) s then m else m + 2 ^ d) 0 }

def hasBit (m k : Nat) : Bool := m / 2 ^ k % 2 == 1

/-! ### Quantities of Table 1.6 -/

/-- JCLK of the ordering code (R1, Table 16.4). -/
def jclkMax (s : State) : ℚ := if bitsOf (kps 1 s) 18 1 = 1 then 1100000000 else 1250000000
def jclkEff (sp : Nat) (s : State) : ℚ := jclkMax s * (20000 - sp) / 20000
def jclkMin (sp : Nat) (s : State) : ℚ := jclkMax s * (10000 - sp) / 10000

def fcHz (s : State) : ℚ := getF R.PTS_FC F.PTS_FC_FC s
/-- B: the sampled bandwidth, which is also the fine-sample rate of one input over all channels. -/
def bandwidth (s : State) : ℚ := cfgC s * fcHz s
/-- The fine-sample rate of one channel. -/
def fineRate (s : State) : ℚ := fcHz s / cfgP s
def tau (s : State) : ℚ := platLen s / fineRate s
def nbNow (s : State) : Nat := nbOf (cfgN s)
/-- The line rate factor of SDG_CTRL.RATE (R123, R139). -/
def rateFactor (s : State) : ℚ :=
  match getF R.SDG_CTRL F.SDG_CTRL_RATE s with | 0 => 1 | 1 => 4 / 5 | _ => 1 / 2

/-- The defined rakes: each counts as open (R175). -/
def planRakes (s : State) : List Nat :=
  (List.range 8).filter fun g => isSet (R.JCT_RAKE g) F.JCT_RAKE_DEF s && rakeLen g s != 0
def rakeChannels (g : Nat) (s : State) : Nat := ((List.range (cfgNch s)).filter fun ch => inMask g ch s).length
def rakeTau (g : Nat) (s : State) : ℚ := rakeLen g s / fineRate s
/-- The visibility width: 80 bits in full format, 50 in compact. -/
def visBits (g : Nat) (s : State) : ℚ := if rakeCompact g s then 50 else 80

def sumQ (xs : List ℚ) : ℚ := xs.foldl (· + ·) 0

/-! ### Array, dwell, HBM, arrival -/

def arrayTimeOk (sp : Nat) (s : State) : Bool :=
  sumQ ((planRakes s).map fun g =>
    rakeChannels g s * tileCount (nbNow s) * (rakeLen g s + 64) / (rakeTau g s * jclkEff sp s)) ≤ 1

def dwellOk (sp : Nat) (s : State) : Bool :=
  (planRakes s).all fun g => decide ((rakeLen g s : ℚ) / jclkMin sp s ≤ 400 / 1000000)

def hbmRateOk (r : Resources) (s : State) : Bool :=
  (128 / 100 : ℚ) * (nbNow s + 2) * 8 * cfgN s * bandwidth s ≤ 70 / 100 * r.k * 8192000000000 * rateFactor s

def hbmRoomOk (r : Resources) (s : State) : Bool :=
  16 * cfgN s * cfgNch s * platLen s + 8 * cfgN s * cfgNch s * 2050 + 32000000000 ≤ r.k * 150000000000

/-- The arrival tracks of the stream map. -/
def arrivalTracks (s : State) : Nat := ((List.range 64).filter fun i => s.arr.streams.any (·.lane == i)).length

def arrivalOk (s : State) : Bool := 8 * cfgN s * bandwidth s ≤ arrivalTracks s * (53307000000 : ℚ)

/-! ### The tiles of a dwell (R206) -/

def tileVis (a b : Nat) (s : State) : Nat :=
  if a = b then blockLines a s * (blockLines a s + 1) / 2 else blockLines a s * blockLines b s

def tilePieces (g a b : Nat) (s : State) : Nat := cdiv (tileVis a b s) (cvisOf (rakeRoute g s) s)

/-- Header and manifest bits of a tile: 320 bits a piece, and 2 words an input in the manifests of a
diagonal tile. -/
def tileExtra (g a b : Nat) (s : State) : Nat :=
  320 * tilePieces g a b s
    + if a = b then ((manifestPieces a s).map fun q => 320 + 80 * manifestInputs q s).sum else 0

def tileBits (g a b : Nat) (s : State) : ℚ := visBits g s * tileVis a b s + tileExtra g a b s

/-! ### The Turntable (R223) -/

def beamsUsed (s : State) : Nat := ((List.range 128).filter fun b => 1 ≤ beamMode b s && beamMode b s ≤ 5).length

/-- The payload rate of beam b. -/
def beamPayload (b : Nat) (s : State) : ℚ :=
  match modeOf b s with
  | 1 => 16 * bandwidth s
  | 2 => 80 * bandwidth s / beamM b s
  | 3 => 80 * bandwidth s / beamM b s
  | 4 => 200 * bandwidth s / beamM b s
  | _ => 0
def beamHeaders (b : Nat) (s : State) : ℚ := if emits b s then 320 * cfgNch s * fineRate s / flen b s else 0
def beamLength (b : Nat) (s : State) : Nat := 8 + beamPayloadLen b s
def beamRoute (s : State) : Nat := getF R.TBL_CFG F.TBL_CFG_ROUTE s

def beamRate (r : Nat) (s : State) : ℚ :=
  if beamRoute s = r then sumQ ((emittingBeams s).map fun b => beamPayload b s) else 0

def turntableOk (s : State) : Bool :=
  decide (beamsUsed s * cfgN s * bandwidth s ≤ (40000000000000 : ℚ))
    && decide (bdepth s * cfgN s * cfgNch s ≤ 2 ^ 24)
    && decide (((emittingBeams s).map fun b => cfgNch s * 40 * beamLength b s).sum ≤ 48000000)
    && (List.range 128).all fun b => !pairBroken b s

/-! ### Routes (R201) and departures -/

def capRoutes (s : State) : List Nat :=
  ((List.range 256).filter fun d => bitsOf (capWord d 0 s) 0 1 == 1).map fun d => bitsOf (capWord d 4 s) 4 4

def routeSet (r : Nat) (f : Fld) (s : State) : Nat := getF (R.TMN_ROUTE r) f s
def routeEth (r : Nat) (s : State) : Bool := isSet (R.TMN_ROUTE r) F.TMN_ROUTE_PERS s
def routeOk (r : Nat) (s : State) : Bool :=
  routeSet r F.TMN_ROUTE_EN s == 1 && routeSet r F.TMN_ROUTE_LANES s != 0
    && routeSet r F.TMN_ROUTE_CVIS s % 16 == 0 && 512 ≤ routeSet r F.TMN_ROUTE_CVIS s
    && routeSet r F.TMN_ROUTE_CVIS s ≤ 262144

def routesOk (s : State) : Bool :=
  ((planRakes s).all fun g =>
    let r := rakeRoute g s
    routeOk r s && (!routeEth r s || decide (pieceWords (rakeCompact g s) (routeSet r F.TMN_ROUTE_CVIS s) ≤ 1790)))
  && ((capRoutes s).all fun r => routeOk r s && (!routeEth r s || decide (routeSet r F.TMN_ROUTE_CBLK s ≤ 356)))
  && ((emittingBeams s).all fun b =>
    routeOk (beamRoute s) s && (!routeEth (beamRoute s) s || decide (beamLength b s ≤ 1790)))

def trackRate (r : Nat) (s : State) : ℚ := if routeEth r s then 49630000000 else 53307000000
/-- Dn of the route. -/
def routeTracks (r : Nat) (res : Resources) (s : State) : Nat :=
  ((List.range 16).filter fun d => hasBit (routeSet r F.TMN_ROUTE_LANES s) d && hasBit res.deps d).length

def routesUsed (s : State) : List Nat :=
  (List.range 16).filter fun r =>
    (planRakes s).any (fun g => rakeRoute g s == r) || (capRoutes s).contains r
      || (!(emittingBeams s).isEmpty && beamRoute s == r)

/-- The departure-average load of a route (Table 1.6, R206). -/
def routeLoad (r : Nat) (s : State) : ℚ :=
  let order := tileOrder (nbNow s)
  let n := cfgN s
  sumQ ((planRakes s).map fun g =>
    if rakeRoute g s = r then
      (visBits g s * (n * (n + 1) / 2 : Nat) + (order.map fun x => tileExtra g x.1 x.2 s).sum)
        * rakeChannels g s / rakeTau g s
    else 0)
  + beamRate r s
  + (if beamRoute s = r then sumQ ((emittingBeams s).map fun b => beamHeaders b s) else 0)

def departAvgOk (res : Resources) (s : State) : Bool :=
  (routesUsed s).all fun r => decide (routeLoad r s ≤ routeTracks r res s * trackRate r s)

/-- The dwells of one Platform with every defined rake open (R171): rake, row and column block. -/
def planDwells (s : State) : List (Nat × Nat × Nat) :=
  let order := tileOrder (nbNow s)
  (List.range (cfgNch s)).flatMap fun ch =>
    (planRakes s).flatMap fun g =>
      if inMask g ch s then
        (List.range (platLen s / rakeLen g s)).flatMap fun _ => order.map fun x => (g, x.1, x.2)
      else []

/-- W (R172). -/
def planCount (s : State) : Nat :=
  ((planRakes s).map fun g => rakeChannels g s * tileCount (nbNow s) * (platLen s / rakeLen g s)).sum

/-- The departure-peak recurrence over a list of dwells: the queues by route and the peak of their sum. -/
def departPeak (res : Resources) (slot : ℚ) (s : State) : List (Nat × Nat × Nat) → List (Nat × ℚ) → ℚ → List (Nat × ℚ) × ℚ
  | [], q, peak => (q, peak)
  | (g, a, b) :: t, q, peak =>
    let q := q.map fun x =>
      let room := (routeTracks x.1 res s * trackRate x.1 s - beamRate x.1 s) * slot
      (x.1, max 0 (x.2 + (if rakeRoute g s = x.1 then tileBits g a b s else 0) - room))
    departPeak res slot s t q (max peak (sumQ (q.map (·.2))))

def departPeakOk (res : Resources) (s : State) : Bool :=
  let ds := planDwells s
  let slot := tau s / planCount s
  (departPeak res slot s (ds ++ ds) ((routesUsed s).map fun r => (r, 0)) 0).2 ≤ 48000000

/-! ### Pacing (R175) -/

/-- The pacing recurrence: the time after the dwells of the list, the k-th first. -/
def paceEnd (sp : Nat) (slot : ℚ) (s : State) : Nat → List (Nat × Nat × Nat) → ℚ → ℚ
  | _, [], t => t
  | k, (g, _, _) :: ds, t =>
    paceEnd sp slot s (k + 1) ds (max t (k * slot) + (rakeLen g s + 64) / jclkEff sp s)

def paceOk (sp : Nat) (s : State) : Bool :=
  let ds := planDwells s
  ds.isEmpty || decide (paceEnd sp (tau s / planCount s) s 0 ds 0 - 64 / jclkEff sp s ≤ tau s)

/-! ### Pseudo-channels and stacks (R123, R134) -/

/-- Inputs i of [lo, lo + n) with i mod k = w. -/
def inputsIn (lo n k w : Nat) : Nat := (lo + n + (k - 1 - w)) / k - (lo + (k - 1 - w)) / k

/-- The inputs of block `a` in the working pseudo-channels w .. w + m - 1 of k. -/
def blockInputs (a k w m : Nat) (s : State) : Nat :=
  ((List.range m).map fun x => inputsIn (1024 * a) (blockLines a s) k (w + x)).sum

def inputsOf (k w m : Nat) (s : State) : Nat := ((List.range m).map fun x => inputsIn 0 (cfgN s) k (w + x)).sum

/-- The largest number of reads that one step of any tile makes of those inputs (R123). -/
def readsMax (k w m : Nat) (s : State) : Nat :=
  (tileOrder (nbNow s)).foldl (fun r x => Nat.max r (blockInputs x.1 k w m s + blockInputs x.2 k w m s)) 0

def pseudoOk (r : Resources) (s : State) : Bool :=
  let k := 32 * r.k
  let nq := cdiv (cfgN s) k
  decide (nq * cfgNch s * (2 * (platLen s / 25 - 82) + 246) + reservedPerPc r.k ≤ pcBlocks)
    && (List.range k).all fun w =>
      decide ((128 / 100 : ℚ) * 8 * (readsMax k w 1 s * jclkMax s + inputsOf k w 1 s * bandwidth s)
        ≤ 70 / 100 * 256000000000 * rateFactor s)

/-- R134. The largest rate at which the Points write a stack's inputs is taken as the sum of the inputs' average
rates B (DESIGN CHOICE, log 85: the rule gives no figure for a peak above it). -/
def headshuntOk (r : Resources) (s : State) : Bool :=
  let k := 32 * r.k
  (List.range r.k).all fun x =>
    decide (8 * jclkMax s * readsMax k (32 * x) 32 s * 486 / 1000000000 ≤ 1600000)
      && decide (8 * (inputsOf k (32 * x) 32 s * bandwidth s) * 486 / 1000000000 ≤ 250000)

/-! ### The stream map (R67) -/

def StreamEntry.covers (e f : StreamEntry) : Bool :=
  decide (e.first < f.first + formatInputs f.fmt) && decide (f.first < e.first + formatInputs e.fmt)
    && decide (e.dev < f.dev + f.ccount) && decide (f.dev < e.dev + e.ccount)

/-- No two elements of a list stand in a relation. -/
def noPair {α : Type} (p : α → α → Bool) : List α → Bool
  | [] => true
  | x :: t => (t.all fun y => !p x y) && noPair p t

/-- The checks of a map that use N, C or f_c. -/
def mapFits (s : State) : Bool :=
  (s.arr.streams.all fun e => decide (e.first + formatInputs e.fmt ≤ cfgN s) && decide (e.dev + e.ccount ≤ cfgC s))
    && (List.range 64).all fun i =>
      decide (sumQ ((s.arr.streams.filter (·.lane == i)).map fun e => e.ccount * fcHz s / formatTimes e.fmt)
        ≤ 10411580)

def mapOk (s : State) : Bool :=
  decide (s.arr.streams.length ≤ 4096) && noPair (fun x y => x.stream == y.stream) s.arr.streams
    && noPair StreamEntry.covers s.arr.streams && mapFits s

/-- The map leaves a pair uncovered (R67). -/
def mapGap (s : State) : Bool :=
  (s.arr.streams.map fun e => formatInputs e.fmt * e.ccount).sum != cfgN s * cfgC s

/-! ### The whole check (R22, R23) -/

/-- The quantities that the budgets divide by are set. -/
def configured (s : State) : Bool :=
  cfgN s != 0 && cfgC s != 0 && getF R.PTS_FC F.PTS_FC_FC s != 0 && getF R.PTS_SEGCFG F.PTS_SEGCFG_SEGLEN s != 0

def districtsOk (r : Resources) (s : State) : Bool :=
  (List.range 16).all fun k => !hasBit (districtsNeeded (cfgN s)) k || hasBit r.districts k

/-- The plan in force passes every budget for the resources, with spread `sp`. -/
def planPasses (sp : Nat) (r : Resources) (s : State) : Bool :=
  configured s && mapFits s && districtsOk r s && decide (cfgN s * cfgNch s ≤ 1048576)
    && platLen s % 25 == 0 && decide (2075 ≤ platLen s) && decide (0 < r.k)
    && decide (cdiv ((2 * platLen s + 2048) * cfgP s) (getF R.PTS_SEGCFG F.PTS_SEGCFG_SEGLEN s) + 2 ≤ 16)
    && arrayTimeOk sp s && dwellOk sp s && hbmRateOk r s && hbmRoomOk r s && arrivalOk s && turntableOk s
    && routesOk s && departAvgOk r s && departPeakOk r s && paceOk sp s && pseudoOk r s && headshuntOk r s

/-- The pacing interval in the unit of JCT_PACE, 1/256 TCLK tick (R172): which of the two whole numbers beside a
quotient that is none is a free value where its fraction is one half or more (log entry 71); below one half it
is the smaller, as K8's 6,944,444. -/
def paceWord (s : State) : Nat :=
  let x := tau s / planCount s * (250000000 * 256 : ℚ)
  x.floor.toNat + if x.floor + 1 / 2 ≤ x ∧ Config.roundsUp x.num.toNat x.den = true then 1 else 0

end Sys2Proof.Machine
end

