-- ==== Sys2Proof/Machine/Image.lean ====
section
/-!
DEFINITION. The image format (R385, R389-R396): headers, section tables, keys and signatures (R387, R390), the
section bodies, and the copy of the image in the reserved region (R400).
-/
namespace Sys2Proof.Machine

/-- The words of a slot or of the board block, from wherever they are read. -/
abbrev Words := Nat → Word

/-- Words read from the flash at byte `base`, most significant byte first (R389). -/
def flashWords (base : Nat) (s : State) : Words := fun n =>
  (List.range 5).foldl (fun w k => BitVec.ofNat 40 (w.toNat * 256 + (flashAt s (base + 5 * n + k)).toNat)) 0#40

def boardFlash (s : State) : Words := flashWords 0 s
def slotFlash (k : Nat) (s : State) : Words := flashWords (slotBase k s) s

/-- Words read from the image copy sub-area (Table 5.7, R400). -/
def boardCopy (s : State) : Words := fun n => readReserved (75000000 + n) s
def slotCopy (s : State) : Words := fun n => readReserved (75250000 + n) s

def srcByte (f : Words) (k : Nat) : Nat := bitsOf (f (k / 5)) (8 * (4 - k % 5)) 8
def srcBytes (f : Words) (a n : Nat) : List Nat := (List.range n).map fun k => srcByte f (a + k)
def srcWords (f : Words) (a n : Nat) : List Word := (List.range n).map fun k => f (a + k)

/-! ### Header and section table (Tables 16.5, 16.6) -/

def imgMagic (f : Words) : Nat := bitsOf (f 0) 24 16
def imgFormat (f : Words) : Nat := bitsOf (f 0) 16 8
def imgNsec (f : Words) : Nat := bitsOf (f 0) 8 8
def imgKeysel (f : Words) : Nat := bitsOf (f 0) 6 2
def imgRbidx (f : Words) : Nat := bitsOf (f 0) 0 6
def imgLength (f : Words) : Nat := (f 1).toNat
def imgVersion (f : Words) : Nat := bitsOf (f 2) 0 32

/-- A section table entry. -/
structure Sect where
  typ    : Nat
  target : Nat
  index  : Nat
  offset : Nat
  nwords : Nat
  hash   : List Word
  deriving DecidableEq, Repr, Inhabited

def sectAt (f : Words) (i : Nat) : Sect :=
  let e := 3 + 10 * i
  { typ := bitsOf (f e) 32 8, target := bitsOf (f e) 24 8, index := bitsOf (f e) 16 8,
    offset := (f (e + 1)).toNat, nwords := bitsOf (f (e + 2)) 0 32, hash := srcWords f (e + 3) 7 }

def sections (f : Words) : List Sect := (List.range (imgNsec f)).map (sectAt f)

/-- The sections of one type, in INDEX order. -/
def sectionsOf (typ : Nat) (f : Words) : List Sect :=
  let xs := (sections f).filter (·.typ == typ)
  (List.range 256).flatMap fun i => xs.filter (·.index == i)

/-- The body of a section. -/
def Sect.body (x : Sect) (f : Words) : List Word := srcWords f (x.offset / 5) x.nwords

/-- The signed message (R389). -/
def signedBytes (f : Words) : List Nat := srcBytes f 0 (5 * (3 + 10 * imgNsec f))
def keyStart (f : Words) : Nat := 5 * (3 + 10 * imgNsec f)

/-- Check 2 of Table 16.10. -/
def headerOk (magic : Nat) (f : Words) : Bool := imgMagic f == magic && imgFormat f == 1 && imgNsec f != 0

def Sect.overlaps (x y : Sect) : Bool :=
  decide (x.offset < y.offset + 5 * y.nwords) && decide (y.offset < x.offset + 5 * x.nwords)

/-- Check 3: LENGTH within `limit`; every section within LENGTH, after the signature, not overlapping
(R391), and as Table 16.6 bounds its fields. -/
def layoutOk (limit : Nat) (f : Words) : Bool :=
  decide (imgLength f ≤ limit)
    && ((sections f).all fun x =>
      x.offset % 5 == 0 && x.nwords != 0 && decide (keyStart f + 772 ≤ x.offset)
        && decide (x.offset + 5 * x.nwords ≤ imgLength f))
    && noPair Sect.overlaps (sections f)

/-! ### Keys (R387) and signatures (R390) -/

/-- The keepsake hash of key k: 0 the vendor, 1-3 the owners. -/
def keyHash (k : Nat) (s : State) : List Word := (List.range 7).map fun x => kps (2 + 7 * k + x) s
/-- Key k is revoked. The revocation of the key that signed the running image acts from the next boot on (R404). -/
def keyRevoked (k : Nat) (s : State) : Bool :=
  let own := getF R.DEP_STATE F.DEP_STATE_KEYSEL s
  hasBit (if k = own ∧ own ≠ 0 then s.dep.revoked else bitsOf (kps 30 s) 0 3) (k - 1)
def keyProgrammed (k : Nat) (s : State) : Bool := (keyHash k s).any (· != 0#40)
def ownerActive (s : State) : Bool := [1, 2, 3].any fun k => keyProgrammed k s && !keyRevoked k s
def bootopt (b : Nat) (s : State) : Bool := bitsOf (kps 1 s) b 1 == 1

/-- Key k with this key block is allowed. -/
def keyAllowed (k : Nat) (block : List Nat) (s : State) : Bool :=
  packHash (sha256 block) == keyHash k s && block.drop 384 == [0, 1, 0, 1] && keyProgrammed k s
    && (if k = 0 then !(bootopt 15 s && ownerActive s) else !keyRevoked k s)

def imgKeyBlock (f : Words) : List Nat := srcBytes f (keyStart f) 388
def imgSigOk (f : Words) : Bool :=
  pssVerify (bytesNat ((imgKeyBlock f).take 384)) (signedBytes f) (srcBytes f (keyStart f + 388) 384)

/-- The rollback floor: the bits set in RBFLOOR. -/
def rbFloor (s : State) : Nat := ((List.range 40).filter fun b => hasBit (kps 31 s).toNat b).length

def Sect.hashOk (x : Sect) (f : Words) : Bool := packHash (sha256 (srcBytes f x.offset (5 * x.nwords))) == x.hash

/-! ### Section counts and bodies (R391-R395) -/

def countType (t : Nat) (f : Words) : Nat := ((sections f).filter (·.typ == t)).length

/-- The indexes of a type run from 0, each once; the target is zero where Table 16.7 says so. -/
def indexesOk (t : Nat) (f : Words) : Bool := (sectionsOf t f).map (·.index) == List.range (countType t f)

/-- Table 16.7 for a slot. -/
def slotCounts (f : Words) : Bool :=
  countType 1 f == 1 && 1 ≤ countType 2 f && countType 2 f ≤ 16 && countType 4 f ≤ 1 && countType 5 f ≤ 1
    && countType 7 f ≤ 1 && 1 ≤ countType 6 f && countType 6 f ≤ 9
    && ((sections f).all fun x => 1 ≤ x.typ && x.typ ≤ 7 && (if x.typ = 6 then x.target ≤ 8 else x.target == 0))
    && (sections f).any (fun x => x.typ == 6 && x.target == 8)
    && noPair (fun x y => x.typ == 6 && y.typ == 6 && x.target == y.target) (sections f)
    && ((List.range 8).all fun t => indexesOk t f)

/-- Table 16.7 for the board block. -/
def boardCounts (f : Words) : Bool :=
  countType 0x10 f ≤ 1 && countType 0x11 f ≤ 1 && countType 0x12 f ≤ 1
    && (sections f).all fun x => 0x10 ≤ x.typ && x.typ ≤ 0x12 && x.target == 0 && x.index == 0
      && (x.typ != 0x10 || x.nwords == 150) && (x.typ != 0x11 || x.nwords == 7)

/-- The STREAM_MAP body (R393, Table 3.5). -/
def mapEntries : List Word → List StreamEntry
  | a :: b :: t =>
    { stream := bitsOf a 24 16, lane := bitsOf a 18 6, fmt := bitsOf a 16 2, first := bitsOf a 3 13,
      base := bitsOf b 28 12, ccount := bitsOf b 21 7, dev := bitsOf b 15 6 } :: mapEntries t
  | _ => []

/-- The checks of a map's body (R66, R67). The bits of an entry's Zero field are not among them: no rule names a check
of their value, and an entry that sets them is accepted (DESIGN CHOICE, log 93). -/
def mapBodyOk (ws : List Word) : Bool :=
  match ws with
  | [] => false
  | h :: t =>
    let n := bitsOf h 0 13
    1 ≤ n && n ≤ 4096 && bitsOf h 37 3 == 0 && t.length == 2 * n
      && (mapEntries t).all fun e =>
        e.stream != 0 && e.stream != bitsOf h 13 16 && e.first % formatInputs e.fmt == 0 && e.ccount != 0 && e.ccount ≤ 64

/-- The address lies in a code memory. -/
def inCode (a : Nat) : Bool := match coreMemory a with | some (_, code, _) => code | none => false

/-- Register records (R392): address and words; none where a record is cut off, has COUNT 0 or an
address the rule forbids. -/
def parseRegs : Nat → List Word → Option (List (Nat × List Word))
  | _, [] => some []
  | 0, _ => none
  | fuel + 1, h :: t =>
    let n := bitsOf h 28 12
    let a := bitsOf h 0 28
    if n = 0 ∨ t.length < n ∨ inCode a = true
        ∨ (0x1040000 ≤ a ∧ a < 0x1050000) then none
    else (parseRegs fuel (t.drop n)).map fun rs => (a, t.take n) :: rs

def regRecords (ws : List Word) : Option (List (Nat × List Word)) := parseRegs ws.length ws

/-- The PLAN body (R394): PLAN_ID, SPREAD and its records. -/
def planBody (ws : List Word) : Option (Nat × Nat × List (Nat × List Word)) :=
  match ws with
  | [] => none
  | h :: t =>
    if bitsOf h 14 26 = 0 ∧ bitsOf h 8 6 ≤ 50 then (regRecords t).map fun rs => (bitsOf h 0 8, bitsOf h 8 6, rs)
    else none

/-- The FIRMWARE body (R395). -/
def firmwareOk (x : Sect) (f : Words) : Bool :=
  let nc := bitsOf (f (x.offset / 5)) 0 18
  let nd := bitsOf (f (x.offset / 5 + 1)) 0 18
  x.nwords == 2 + nc + nd && decide (nc ≤ memWords x.target) && decide (nd ≤ memWords x.target)

/-- The bodies of a slot, apart from what its writes show (check 8). -/
def bodiesOk (f : Words) : Bool :=
  slotCounts f && (sections f).all fun x =>
    match x.typ with
    | 1 => mapBodyOk (x.body f)
    | 2 => (planBody (x.body f)).isSome
    | 3 => (regRecords (x.body f)).isSome
    | 4 => x.nwords == 1024
    | 5 => x.nwords % 8 == 0 && decide (x.nwords ≤ 2048)
    | 6 => firmwareOk x f
    | _ => true

/-! ### The board block (R397) -/

/-- Word k of the CALIBRATION or IDENTITY section, when the block has one. -/
def boardWord (typ k : Nat) (f : Words) : Option Word := (sectionsOf typ f).head?.map fun x => f (x.offset / 5 + k)

/-- The board block passes R387, R389, R390 and the SERIAL check. -/
def boardOk (f : Words) (s : State) : Bool :=
  headerOk 0x7E52 f && layoutOk (2 ^ 20) f && keyAllowed (imgKeysel f) (imgKeyBlock f) s && imgSigOk f
    && ((sections f).all fun x => x.hashOk f) && boardCounts f
    && (match boardWord 0x10 0 f with | some w => w == kps 0 s | none => true)

/-! ### The image copy (R400) and the reserved region under a new layout -/

/-- A word of the reserved region written by the Depot or the Coupling engine. -/
def putReserved (x : Nat) (v : Word) (s : State) : State :=
  if (workStacks s).isEmpty then s else p3Write (reservedPlace (x / 5) s) (x % 5) v s

def putReservedWords : Nat → List Word → State → State
  | _, [], s => s
  | x, w :: t, s => putReservedWords (x + 1) t (putReserved x w s)

/-- The copy of LENGTH bytes of a block, in whole words. -/
def copyImage (x : Nat) (f : Words) (s : State) : State := putReservedWords x (srcWords f 0 (cdiv (imgLength f) 5)) s

/-- The home stack is READY. -/
def homeReady (s : State) : Bool :=
  !(workStacks s).isEmpty && stackState (getF R.SDG_STACKS F.SDG_STACKS_HOME s) s == 2

/-- Where a later read of the slot or of the board block takes its words from: the image copy when the home
stack is READY, and the flash otherwise (R359, R400). -/
def slotWords (s : State) : Words :=
  if homeReady s then slotCopy s else slotFlash (getF R.DEP_STATE F.DEP_STATE_SLOT s) s
def boardWords (s : State) : Words := if homeReady s then boardCopy s else boardFlash s

def maskStacks (mask : Nat) : List Nat := (List.range 8).filter (hasBit mask)

/-- The reserved block that lies at (pseudo-channel, local block) under working set `mask` (R142). -/
def reservedBlockAt (mask pc blk : Nat) : Option Nat :=
  let ks := maskStacks mask
  let k := ks.length
  let rs := cdiv 160000000 k
  let base := pcBlocks - reservedPerPc k
  match ks.findIdx? (· == pc / 32) with
  | none => none
  | some x =>
    let b := (blk - base) * 32 + pc % 32
    if base ≤ blk ∧ b < rs ∧ x * rs + b < 160000000 then some (x * rs + b) else none

/-- The contents of the reserved region move to their places under the new working set. -/
def relayout (old new : Nat) (s : State) : State :=
  if old = new ∨ old = 0 ∨ new = 0 then s
  else
    let base := pcBlocks - reservedPerPc (maskStacks new).length
    let words := s.hbm.filterMap fun x =>
      (reservedBlockAt old (x.1 / pcWords) (x.1 % pcWords / 5)).map fun r => (r, x.1 % pcWords % 5, x.2)
    let errs := s.hbmErr.filterMap fun x =>
      (reservedBlockAt old (x.1 / pcBlocks) (x.1 % pcBlocks)).map fun r => (r, x.2)
    let z := setWork new { s with
      hbm := s.hbm.keep fun a => (reservedBlockAt old (a / pcWords) (a % pcWords / 5)).isNone
        && decide (a % pcWords / 5 < base)
      hbmErr := s.hbmErr.keep fun a => (reservedBlockAt old (a / pcBlocks) (a % pcBlocks)).isNone
        && decide (a % pcBlocks < base) }
    let z := words.foldl (fun z x =>
      { z with hbm := z.hbm.set (fun _ => 0#40) (hbmKey (reservedPlace x.1 z) + x.2.1) x.2.2 }) z
    errs.foldl (fun z x => putMask (reservedPlace x.1 z) x.2 z) z

end Sys2Proof.Machine
end

