-- ==== Sys2Proof/Machine/Reset.lean ====
section
/-!
DEFINITION. What a full reset keeps (Table 14.10), the outputs at a reset (R365), and the wake order as the
resets and wakes run it (R356, R417).
-/
namespace Sys2Proof.Machine

/-! ### Survival (R366) -/

/-- Words that every full reset but a power-on keeps: the keepsake, LMP registers, the host log, the tick
counter, and the state code, which the reset itself sets. -/
def keptWord (a : Nat) : Bool :=
  (0x1048000 ≤ a && a < 0x1048080) || (0x1050000 ≤ a && a < 0x1060000) || hostLog a
    || a == R.TTB_TICK || a == R.TTB_TICK + 1 || a == R.SUB_STATE

/-- The code of a SETPOINT output stands at its present value (R365): role, range, target, driven code, and the
fault that sets its goal. The sticky bits of AOU_STAT return to their Reset value (`clearSticky`). -/
def keptOutput (a : Nat) (s : State) : Bool :=
  0x1061000 ≤ a && a < 0x1061040 && (a % 16 < 3 || a % 16 == 8) && aoRole ((a - 0x1061000) / 16) s == 1

/-- The sticky conditions of AOU_STATn, which every full reset clears (Table 14.10). -/
def clearSticky (n : Nat) (s : State) : State :=
  s |> setF (R.AOU_STAT n) F.AOU_STAT_RBERR 0 |> setF (R.AOU_STAT n) F.AOU_STAT_REJ 0

/-- The working set under which the reserved region lies: before a boot has set WORK, the one that the last full reset
kept it under (R364). -/
def keptMask (s : State) : Nat := if workMask s = 0 then s.sdg.heldWork else workMask s

/-- A word of HBM in the reserved region, by its place in its pseudo-channel. -/
def reservedKept (s : State) (block : Nat) : Bool :=
  let k := ((List.range 8).filter fun x => keptMask s / 2 ^ x % 2 == 1).length
  k != 0 && decide (pcBlocks - reservedPerPc k ≤ block)

/-- What a reset of domains 1-34 leaves: `hbm` tells whether the stacks were put into self-refresh first, so
that the reserved region, and the crash record in it, is kept (R364). -/
def resetDomains (hbm : Bool) (s : State) : State :=
  let pg := (List.range 4).map fun r => getF (R.SUB_REG r) F.SUB_REG_PG s
  let strap := (rd R.MGT_CFG s).toNat % 8
  let z : State :=
    { regs := s.regs.keep fun a => keptWord a || keptOutput a s
      hbm := if hbm then s.hbm.keep fun a => reservedKept s (a % pcWords / 5) else []
      hbmErr := if hbm then s.hbmErr.keep fun a => reservedKept s (a % pcBlocks) else []
      crash := if hbm then s.crash else {}
      sdg := { heldWork := if hbm then keptMask s else 0 }
      outs := s.outs.keep fun n => aoRole n s == 1
      pow := { crystal := s.pow.crystal, monSlot := s.pow.monSlot, monActs := s.pow.monActs }
      dep := { kpsBad := s.dep.kpsBad, idKey := s.dep.idKey }
      flash := s.flash
      phase := s.phase
      frac := s.frac
      free := s.free
      pending := s.pending }
  let z := pg.zipIdx.foldl (fun z x => setF (R.SUB_REG x.2) F.SUB_REG_PG x.1 z) z
  let z := wr R.MGT_CFG (putBits (rd R.MGT_CFG z) 0 3 strap) z
  (List.range 4).foldl (fun z n => if aoRole n s = 1 then aoCodes n (clearSticky n z) else aoPowerUp n z) z

/-- What a power-on or Off exit leaves: every register at its Reset value; the keepsake and the flash keep
their contents. -/
def resetAll (s : State) : State :=
  let z : State :=
    { regs := s.regs.keep fun a => 0x1048000 ≤ a && a < 0x1048080
      dep := { kpsBad := s.dep.kpsBad, idKey := s.dep.idKey }
      flash := s.flash
      free := s.free
      pending := s.pending }
  z

/-! ### The wake order (R356) -/

/-- The clock of a powered domain starts (R354). -/
def startClock (s : State) (d : Nat) : State := if domState d s = 2 then setDom d 3 s else s

/-- Steps 3 and 4 for the domains of `ds`: those that are down power up in order under the headway, then `exits`
take place, and the clocks start. -/
def powerDomains (ds : List Nat) (exits : List LoadStep) (s : State) : State :=
  let ups := (ds.filter fun d => decide (domState d s < 2) && !domFailed d s).map LoadStep.up
  ds.foldl startClock (runSteps (ups ++ exits) s)

/-- Step 2 is complete: the TCLK PLL has locked. -/
def pllsLocked (s : State) : State := setF R.TTB_STATE F.TTB_STATE_TCLK_LOCK 1 s

/-- The record of a completed wake. -/
def wakeDone (s : State) : State :=
  s |> incF R.LMP_WAKEREC F.LMP_WAKEREC_WAKES 1 |> setF R.LMP_WAKEREC F.LMP_WAKEREC_FAILED 0

/-- The wake order that starts every boot (R356): the regulators and PLLs are ready, and domains 1-10 come up in
order. The stacks come up with the boot (R400). -/
def bootDomains (s : State) : State := powerDomains ((List.range 10).map (· + 1)) [] (pllsLocked s)

/-- The Lamp room runs. -/
def lampUp (s : State) : State := setDom 0 3 s

/-- The full reset's record (R363) and the wake order that follows it. -/
def resetRecord (cause : Nat) (s : State) : State :=
  s |> setF R.LMP_RSTREC F.LMP_RSTREC_CAUSE cause
    |> setF R.LMP_WAKEREC F.LMP_WAKEREC_CAUSE cause
    |> setF R.LMP_WAKEREC F.LMP_WAKEREC_TRY 1
    |> setF R.SUB_STATE F.SUB_STATE_PEND 0
    |> setF R.SUB_STATE F.SUB_STATE_BUSY 0

/-- The debug nonce is drawn afresh (R406). -/
def drawNonce (s : State) : State :=
  let x := (Config.freeNonce s.free).toNat
  set2 R.DEP_DBGNONCE F.DEP_DBGNONCE_NONCE_LO F.DEP_DBGNONCE_NONCE_HI x { s with free := s.free + 1 }

/-- A full reset that leaves the Lamp room running (R363): `hbm` as above. The wake order and the boot follow as
BOOT; until then an attempt may still be aborted (R357), and domains 1-34 are off. -/
def fullReset (cause : Nat) (hbm : Bool) (s : State) : State :=
  resetDomains hbm s
    |> incF R.LMP_RSTREC F.LMP_RSTREC_COUNT 1
    |> resetRecord cause
    |> drawNonce
    |> setPstate 0
    |> lampUp

end Sys2Proof.Machine
end

