-- ==== Sys2Proof/Machine/Depot.lean ====
section
/-!
DEFINITION. The Depot (16): the boot (R383, R384, R397, R399-R404), plan selection (R23), reloads (R269, R359, R401),
attestation and debug certificates (R405, R406) and JTAG (R407).
-/
namespace Sys2Proof.Machine

/-! ### Writes by the Depot (R392) -/

/-- A field marked '0 rejected' of the word at `a` is written with zero. -/
def zeroWrite (a : Nat) (w : Word) : Bool :=
  (coreMemory a).isNone && (match regDef a with | some d => d.fields.any fun f => f.zero w | none => false)

/-- One word written by master DEP: the response and the state. -/
def depotWrite (a : Nat) (w : Word) (reload : Bool) (s : State) : Nat × State :=
  match targetOf a with
  | none => (1, noteError 9 a 1 true s)
  | some r =>
    if answers 9 a r s then
      let (c, s) := wordWrite 9 a w reload s
      (c, when (c != 0) (noteError 9 a c true) s)
    else (2, noteError 9 a 2 true s)

def depotWrites (reload : Bool) : Nat → List Word → Bool → State → Bool × State
  | _, [], ok, s => (ok, s)
  | a, w :: t, ok, s =>
    let (c, s) := depotWrite a w reload s
    depotWrites reload (a + 1) t (ok && c == 0 && !zeroWrite a w) s

/-- Register records in order: whether every write passed R392, and the state. -/
def applyRecords (reload : Bool) : List (Nat × List Word) → Bool → State → Bool × State
  | [], ok, s => (ok, s)
  | (a, ws) :: t, ok, s =>
    let (ok, s) := depotWrites reload a ws ok (incF (R.ILK_MST 9) F.ILK_MST_COUNT (cdiv ws.length 16) s)
    applyRecords reload t ok s

/-- Every REGISTERS section in INDEX order. -/
def applyRegisters (reload : Bool) (f : Words) (s : State) : Bool × State :=
  (sectionsOf 3 f).foldl (fun x sec => applyRecords reload ((regRecords (sec.body f)).getD []) x.1 x.2) (true, s)

/-! ### Sections of a slot (R400 steps 2, 3, 6) -/

/-- STREAM_MAP: the entries, and the header's fields as a write of PTS_ARRCFG, so that R9 holds for ARR_SKEW. -/
def applyMap (f : Words) (s : State) : State :=
  match (sectionsOf 1 f).head? with
  | none => s
  | some x =>
    match x.body f with
    | [] => s
    | h :: t =>
      let w := putBits (putBits (rd R.PTS_ARRCFG s) F.PTS_ARRCFG_TT_STREAM.lo F.PTS_ARRCFG_TT_STREAM.w (bitsOf h 13 16))
        F.PTS_ARRCFG_SKEW.lo F.PTS_ARRCFG_SKEW.w (bitsOf h 29 8)
      (depotWrite R.PTS_ARRCFG w false { s with arr := { s.arr with streams := mapEntries t } }).2

/-- EVENTS: word e is written to BEL_SRCe, with STS, INJ and COUNT zero. -/
def eventBits (w : Word) : Word := putBits (putBits (putBits w F.BEL_SRC_STS.lo F.BEL_SRC_STS.w 0)
  F.BEL_SRC_INJ.lo F.BEL_SRC_INJ.w 0) F.BEL_SRC_COUNT.lo F.BEL_SRC_COUNT.w 0

def applyEvents (reload : Bool) (f : Words) (s : State) : State :=
  match (sectionsOf 4 f).head? with
  | none => s
  | some x => (depotWrites reload (R.BEL_SRC 0) ((x.body f).map eventBits) true s).2

def applyCaptures (f : Words) (s : State) : State :=
  match (sectionsOf 5 f).head? with
  | none => s
  | some x => putReservedWords 12500000 (x.body f) s

/-- The words of a core memory replaced; words beyond the list are zero-filled (R395). -/
def fillMemory (base size : Nat) (ws : List Word) (s : State) : State :=
  let s := { s with regs := s.regs.keep fun a => a < base || base + size ≤ a
                    memErr := s.memErr.keep fun a => a < base || base + size ≤ a }
  ws.zipIdx.foldl (fun s x => wr (base + x.2) x.1 s) s

/-- A firmware section is written into its core's memories (R274, R395). -/
def loadFirmware (x : Sect) (f : Words) (s : State) : State :=
  let o := x.offset / 5
  let nc := bitsOf (f o) 0 18
  let nd := bitsOf (f (o + 1)) 0 18
  s |> fillMemory (codeBase x.target) (memWords x.target) (srcWords f (o + 2) nc)
    |> fillMemory (dataBase x.target) (memWords x.target) (srcWords f (o + 2 + nc) nd)

/-- The core is reset and its RUN is set (R274, R400). -/
def releaseCore (n : Nat) (s : State) : State :=
  coreStart n (setF (R.DSP_CTRL n) F.DSP_CTRL_RUN 1 (clearCore n s))

/-! ### Measurements (R396) -/

def measBase : Nat := 0x1042000
def putMeas (k : Nat) (ws : List Word) (s : State) : State := ws.zipIdx.foldl (fun s x => wr (measBase + k + x.2) x.1 s) s
def measAt (k : Nat) (s : State) : List Word := (List.range 7).map fun x => rd (measBase + k + x) s

/-- A packed hash as its 32 bytes. -/
def hashBytes (h : List Word) : List Nat :=
  match h with
  | [] => []
  | w :: t => digits 8 2 w.toNat ++ t.flatMap wordBytes

def hashOver (xs : List Sect) : List Nat := sha256 (xs.flatMap fun x => hashBytes x.hash)
def cfgHash (f : Words) : List Nat := hashOver ((sections f).filter (·.typ != 6))
def fwHash (f : Words) : List Nat := hashOver ((sections f).filter (·.typ == 6))

def measure (f b : Words) (s : State) : State :=
  let s := s |> putMeas 0 (packHash (sha256 (signedBytes f)))
    |> putMeas 7 (if isSet R.DEP_STATE F.DEP_STATE_BOARD_OK s then packHash (sha256 (signedBytes b)) else List.replicate 7 0#40)
    |> putMeas 14 (packHash (fwHash f))
    |> putMeas 21 (packHash (cfgHash f))
  let s := (sectionsOf 6 f).foldl (fun s x => putMeas (28 + 7 * x.target) x.hash s) s
  putCpl { s.cpl with cfgTag := bytesNat ((cfgHash f).take 5), fwTag := bytesNat ((fwHash f).drop 30) } s

/-! ### Plans (R22, R23, R400) -/

/-- The plan sections in INDEX order: INDEX, PLAN_ID, SPREAD, records. -/
def plansOf (f : Words) : List (Nat × Nat × Nat × List (Nat × List Word)) :=
  (sectionsOf 2 f).filterMap fun x => (planBody (x.body f)).map fun p => (x.index, p)

/-- The plan passes for the resources when its records are applied to `s`. -/
def planOk (reload : Bool) (r : Resources) (p : Nat × Nat × Nat × List (Nat × List Word)) (s : State) : Bool :=
  planPasses p.2.2.1 r (applyRecords reload p.2.2.2 true s).2

/-- The first plan that passes for the resources present is applied; with none, NO_PLAN (R23). -/
def selectPlan (reload : Bool) (f : Words) (s : State) : State :=
  let r := presentResources s
  let ok := (plansOf f).filter fun p => planOk reload r p s
  let s := s |> setF R.DEP_PLAN F.DEP_PLAN_PASS ((ok.map fun p => 2 ^ p.1).sum)
    |> setF R.DEP_PLAN F.DEP_PLAN_VALID (b2n !ok.isEmpty)
  match ok with
  | [] => depCond 3 (setF R.DEP_PLAN F.DEP_PLAN_PLAN_ID 0 (setF R.DEP_PLAN F.DEP_PLAN_ACTIVE 0 s))
  | p :: _ =>
    (applyRecords reload p.2.2.2 true s).2
      |> setF R.DEP_PLAN F.DEP_PLAN_ACTIVE p.1
      |> setF R.DEP_PLAN F.DEP_PLAN_PLAN_ID p.2.1

/-! ### Board sections (R397, Tables 16.8, 16.9) -/

def boardPut (reload : Bool) (a : Nat) (w : Word) (s : State) : State := (depotWrite a w reload s).2

/-- Column map entry `x` of the calibration: an inspection column that it has standing in for an index is out of
rotation, and one that it relieves is back (R308, R314). -/
def loadColmap (x : Nat) (w : Word) (s : State) : State :=
  let used := fun s => isSet (R.INS_COLMAP x) F.INS_COLMAP_USED s
  let t := wr (R.INS_COLMAP x) w s
  if 4 ≤ x ∧ (used s ∨ used t) then setBit R.INS_STATE F.INS_STATE_INROT (x - 4) (!used t) t else t

def applyCalibration (reload : Bool) (v : Nat → Word) (s : State) : State :=
  let low := fun (w : Word) n => BitVec.ofNat 40 (w.toNat % 2 ^ n)
  let s := setF R.DEP_BOARD F.DEP_BOARD_CALVER (bitsOf (v 1) 0 32) s
  let s := (List.range 84).foldl (fun s i => boardPut reload (R.TRK_EQ i) (low (v (2 + i)) 25) s) s
  let s := (List.range 4).foldl (fun s n => boardPut reload (R.AOU_TRIM n) (low (v (86 + n)) 28) s) s
  let s := (List.range 4).foldl (fun s n => boardPut reload (R.AOU_LIM n) (v (90 + n)) s) s
  let s := (List.range 36).foldl (fun s c => setF (R.MON_TH c) F.MON_TH_OFS (bitsOf (v (94 + c)) 0 12) s) s
  let any := !(rotation s).isEmpty
  let s := (List.range 8).foldl (fun s x => loadColmap x (BitVec.ofNat 40 (bitsOf (v (138 + x)) 0 11)) s) s
  let s := (List.range 4).foldl (fun s x => wr (R.INS_ROWMAP x) (BitVec.ofNat 40 (bitsOf (v (146 + x)) 0 11)) s) s
  insShow (when (any && (rotation s).isEmpty) (insEvent 6) s)

def applyIdentity (v : Nat → Word) (s : State) : State :=
  let s := s |> setF R.CPL_CTRL F.CPL_CTRL_EN (bitsOf (v 0) 0 1)
    |> setF R.CPL_ID F.CPL_ID_PAIR_ID (bitsOf (v 1) 0 16)
    |> setF R.CPL_ID F.CPL_ID_BOOT_ROLE (bitsOf (v 1) 16 1)
    |> setF R.TMN_ID F.TMN_ID_TWIN_ID (bitsOf (v 2) 0 16)
  (List.range 4).foldl (fun s c => wr (R.TRK_LINKID (80 + c)) (BitVec.ofNat 40 (bitsOf (v (3 + c)) 0 32)) s) s

/-- Every board section, when the board block was accepted. -/
def applyBoard (reload : Bool) (b : Words) (s : State) : State :=
  if !isSet R.DEP_STATE F.DEP_STATE_BOARD_OK s then s
  else
    let s := match (sectionsOf 0x10 b).head? with
      | some x => applyCalibration reload (fun k => b (x.offset / 5 + k)) s
      | none => s
    match (sectionsOf 0x11 b).head? with
    | some x => applyIdentity (fun k => b (x.offset / 5 + k)) s
    | none => s

def writePace (s : State) : State :=
  setF R.JCT_PACE F.JCT_PACE_SLOT (if planValid s then paceWord s else getF R.JCT_PACE F.JCT_PACE_SLOT s) s

/-- Step 5 of R400: plan, board sections, JCT_PACE. -/
def planAndBoard (reload : Bool) (f b : Words) (s : State) : State := writePace (applyBoard reload b (selectPlan reload f s))

/-- CONFIG_REAPPLY (R401): every REGISTERS section, the plan chosen anew, and the board sections. -/
def configReapply (s : State) : State :=
  let f := slotWords s
  let b := boardWords s
  planAndBoard true f b (applyRegisters true f s).2

/-! ### The keepsake (R404) -/

/-- Bits of a keepsake word are programmed. -/
def burn (k : Nat) (w : Word) (s : State) : State := wr (0x1048000 + k) (rd (0x1048000 + k) s ||| w) s

/-- One operation: its words in the body, and the keepsake words it programs; none when refused. -/
def kpsOp (key rbidx : Nat) (h : Word) (body : List Word) (s : State) : Nat × Option (List (Nat × Word)) :=
  let arg := bitsOf h 0 2
  match bitsOf h 36 4 with
  | 1 =>
    let ws := (body.take 7) ++ List.replicate (7 - body.length) 0#40
    let now := keyHash arg s
    (7, if arg = 0 ∨ body.length < 7 then none
        else if now = ws then some []
        else if now.any (· != 0#40) then none
        else some (ws.zipIdx.map fun x => (2 + 7 * arg + x.2, x.1)))
  | 2 => (0, if arg = 0 then none else some [(30, BitVec.ofNat 40 (2 ^ (arg - 1)))])
  | 3 =>
    let w := body.headD 0#40
    let now := kps (32 + arg) s
    (1, if body.isEmpty ∨ (now ≠ 0#40 ∧ now ≠ w) then none else some [(32 + arg, w)])
  | 4 => (0, if rbidx ≤ rbFloor s then some [] else some [(31, BitVec.ofNat 40 (2 ^ rbidx - 1))])
  | 5 =>
    let w := body.headD 0#40
    let new := w &&& ~~~ (kps 1 s)
    (1, if body.isEmpty ∨ bitsOf w 19 21 ≠ 0 ∨ (key ≠ 0 ∧ (bitsOf new 0 7 ≠ 0 ∨ bitsOf new 18 1 ≠ 0)) then none
        else some [(1, w)])
  | _ => (0, none)

/-- An operation takes effect; programming bits raises KPS_UPDATE, a refusal KPS_REFUSED. -/
def kpsApply (ws : Option (List (Nat × Word))) (s : State) : State :=
  match ws with
  | none => depCond 11 s
  | some xs =>
    let xs := xs.filter fun x => x.2 &&& ~~~ (rd (0x1048000 + x.1) s) != 0#40
    if xs.isEmpty then s
    else depCond 10 ((List.range 4).foldl (fun s n => aoCodes n s) (xs.foldl (fun s x => burn x.1 x.2 s) s))

def kpsRun (key rbidx : Nat) : Nat → List Word → State → State
  | 0, _, s => s
  | _, [], s => s
  | fuel + 1, h :: t, s =>
    let (n, ws) := kpsOp key rbidx h t s
    kpsRun key rbidx fuel (t.drop n) (kpsApply ws s)

def applyKeepsake (f : Words) (s : State) : State :=
  match (sectionsOf 7 f).head? with
  | none => s
  | some x => kpsRun (imgKeysel f) (imgRbidx f) x.nwords (x.body f) s

/-! ### Stacks at boot (R136, R400) -/

/-- The stack is READY: the last step of Table 5.6 was reached. -/
def stackUp (k : Nat) (s : State) : State := setStack k 2 (setF (R.SDG_STK k) F.SDG_STK_STEP 5 (beginTraining k s))

/-- The training step that a failing attempt of stack k misses, counted from 1 as Table 5.6 does. -/
def missedStep (env : BootEnv) (k : Nat) : Nat := (env.missed.getD k 0).val + 1

/-- Three attempts fail. -/
def stackFails (step k : Nat) (s : State) : State :=
  trainingFail k step (trainingFail k step (trainingFail k step (beginTraining k s)))

/-- The powered stack comes up as its training goes. -/
def stackBoot (env : BootEnv) (s : State) (k : Nat) : State :=
  let s := startClock s (stackDomain k)
  if hasBit env.trained.toNat k then stackUp k s else stackFails (missedStep env k) k s

/-- Stacks power up one per headway interval and train together (Table 16.11). -/
def stacksBoot (env : BootEnv) (ks : List Nat) (s : State) : State :=
  drainSteps (ks.foldl (stackBoot env) (runSteps (ks.map fun k => LoadStep.up (stackDomain k)) s))

/-- The home stack, the lowest that works, comes up with the stacks below it tried; the reserved region that a
full reset kept takes its place in the new layout. -/
def homeBoot (env : BootEnv) (s : State) : State :=
  let trained := env.trained.toNat
  let home := ((maskStacks trained).head?).getD 7
  let s := (List.range (home + 1)).foldl (fun s k => stacksBoot env [k] s) s
  setWork trained (relayout s.sdg.heldWork trained (setWork s.sdg.heldWork s))

def othersBoot (env : BootEnv) (s : State) : State :=
  let home := ((maskStacks env.trained.toNat).head?).getD 7
  stacksBoot env ((List.range 8).filter fun k => decide (home < k)) s

/-! ### The boot (R399-R403) -/

/-- Flash discovery (R383, R384): the read mode and clock, and whether the flash can be used. -/
def discover (env : BootEnv) (s : State) : State :=
  let mode := if bootopt 14 s && env.has888 then 3 else if env.has144 then 2 else if env.has114 then 1 else 0
  let x := bitsOf (kps 1 s) 7 7
  let mhz := if 12 ≤ x ∧ x ≤ 100 then x else 50
  let ok := env.sfdpOk && decide ((1 + 2 * slotMib s) * 2 ^ 20 ≤ 2 ^ env.density)
  let s := { s with dep := { s.dep with page := env.pageSize, unit := env.eraseUnit, flashOk := ok } }
  if env.sfdpOk then
    s |> setF R.DEP_FLCTRL F.DEP_FLCTRL_MODE mode |> setF R.DEP_FLCTRL F.DEP_FLCTRL_MHZ (400 / cdiv 400 mhz)
      |> setF R.DEP_FLCTRL F.DEP_FLCTRL_DENSITY env.density
  else s

/-- Keepsake, flash discovery and board block, with their events when `tell`. The Depot meets the words that the Lamp
room met, and may meet more. -/
def bootPrep (env : BootEnv) (tell : Bool) (s : State) : State :=
  let s := bootDomains { s with dep := { s.dep with kpsBad := (s.dep.kpsBad ++ env.kpsBad.map (·.val)).dedup } }
  let s := { s with dep := { s.dep with revoked := bitsOf (kps 30 s) 0 3 } }
  let s := when (tell && !s.dep.kpsBad.isEmpty) (depCond 16) s
  let s := discover env s
  let board := s.dep.flashOk && !env.readErrors.getLsbD 0 && !env.disagree.getLsbD 0 && boardOk (boardFlash s) s
  s |> setF R.DEP_STATE F.DEP_STATE_BOARD_OK (b2n board)
    |> when (tell && !s.dep.flashOk) (depCond 14)
    |> when (tell && !board) (depCond 9)

/-- Checks 2-7 of Table 16.10: the cause, or none. `agree` tells whether both passes of the verification came out the
same (R390). -/
def slotChecks (agree : Bool) (f : Words) (s : State) : Option Nat :=
  if !headerOk 0x7E51 f then some 2
  else if !layoutOk (slotSize s) f then some 3
  else if !keyAllowed (imgKeysel f) (imgKeyBlock f) s then some 4
  else if !(agree && imgSigOk f) then some 5
  else if imgRbidx f < rbFloor s then some 6
  else if !(sections f).all fun x => x.hashOk f then some 7
  else none

/-- A slot tried: its cause, whether configuration was written, and the state after steps 1 and 2 of R400. A header
that cannot be read is a flash read that failed (check 11). -/
def trySlot (env : BootEnv) (k : Nat) (s : State) : Nat × Bool × State :=
  let f := slotFlash k s
  if env.badHeaders.getLsbD k then (11, false, s)
  else match slotChecks (!env.disagree.getLsbD (k + 1)) f s with
  | some c => (c, false, s)
  | none =>
    if !bodiesOk f then (8, false, s)
    else
      let s := homeBoot env s
      let s := when (isSet R.DEP_STATE F.DEP_STATE_BOARD_OK s) (copyImage 75000000 (boardFlash s)) s
      let s := applyMap f (copyImage 75250000 f s)
      let (ok, s) := applyRegisters false f s
      let plans := plansOf f
      let recsOk := plans.all fun p => (applyRecords false p.2.2.2 true s).1
      if !ok || !mapOk s || !recsOk then (8, true, s)
      else
        let s := when (mapGap s) (depCond 8) (applyCaptures f (applyEvents false f s))
        if !plans.all fun p => planOk false (allResources 8) p s then (9, true, s)
        else if !plans.any fun p => planOk false (allResources 7) p s then (10, true, s)
        else if env.readErrors.getLsbD (k + 1) then (11, true, s)
        else (1, true, s)

/-- VERSION of slot k in the order of R399: 0 where its header cannot be read or fails check 2. -/
def slotVersion (env : BootEnv) (k : Nat) (s : State) : Nat :=
  if s.dep.flashOk && !env.badHeaders.getLsbD k && headerOk 0x7E51 (slotFlash k s) then imgVersion (slotFlash k s) else 0

def putSlot (k cause : Nat) (s : State) : State := setF (R.DEP_SLOT k) F.DEP_SLOT_CAUSE cause s

/-- Steps 3-7 of R400 for slot k, as it is in the state after step 2. -/
def finishSlot (env : BootEnv) (k : Nat) (s : State) : State :=
  let f := slotFlash k s
  let s := s |> setF R.DEP_STATE F.DEP_STATE_SLOT k |> setF R.DEP_STATE F.DEP_STATE_KEYSEL (imgKeysel f)
  let s := { s with dep := { s.dep with rbidx := imgRbidx f, version := imgVersion f } }
  let s := othersBoot env (applyKeepsake f s)
  let s := measure f (boardFlash s) (planAndBoard false f (boardFlash s) s)
  let s := (sectionsOf 6 f).foldl (fun s x => loadFirmware x f s) s
  let s := beamConfigCheck (depCond 5 (setF R.DEP_STATE F.DEP_STATE_SEALED 1 s))
  (sectionsOf 6 f).foldl (fun s x => releaseCore x.target s) s

/-- The slots in order (R399): a rejection after writes is followed by a full reset of domains 1-34, which
keeps DEP_SLOT0 and DEP_SLOT1. -/
def trySlots (env : BootEnv) : List Nat → State → Bool × State
  | [], s => (false, s)
  | k :: t, s =>
    let (c, wrote, z) := trySlot env k s
    let z := putSlot k c z
    if c = 1 then (true, finishSlot env k z)
    else
      let z := when (c == 9) (depCond 2) (depCond 1 z)
      if wrote then
        let y := bootPrep env false (lampUp (resetDomains false z))
        trySlots env t (wr (R.DEP_SLOT 1) (rd (R.DEP_SLOT 1) z) (wr (R.DEP_SLOT 0) (rd (R.DEP_SLOT 0) z)
          (set2 R.DEP_DBGNONCE F.DEP_DBGNONCE_NONCE_LO F.DEP_DBGNONCE_NONCE_HI
            (get2 R.DEP_DBGNONCE F.DEP_DBGNONCE_NONCE_LO F.DEP_DBGNONCE_NONCE_HI z) y)))
      else trySlots env t z

/-- No slot is accepted (R402). -/
def recovery (s : State) : State := depCond 4 (setF R.DEP_STATE F.DEP_STATE_RECOVERY 1 s)

/-- Every twin starts from boot as Banker that waits to join (R322, R324, R338). -/
def bootTwin (s : State) : State := if isTwin s then setJstate 1 (setF R.CPL_STATE F.CPL_STATE_ROLE 2 s) else s

/-- In Standing the data-plane clocks of PTS, TBL, YRD and TMN stop (Table 14.2). -/
def stopPlane (s : State) : State :=
  [2, 3, 5, 6].foldl (fun s d => if domState d s = 3 then setDom d 2 s else s) s

/-- The boot ends in Standing, or goes on to Running with AUTO_RUN (R363, R402), unless Off was requested in it (R352). -/
def bootEnd (s : State) : State :=
  let s := powerDomains (((List.range 8).filter fun k => stackState k s != 4).map stackDomain) [] s
  let s := depCond 0 (setF R.DEP_STATE F.DEP_STATE_STEP 0 (bootTwin (stopPlane s)))
  let s := endTransit 2 s
  if isSet R.SUB_CTRL F.SUB_CTRL_AUTO_RUN s && planValid s && pendOf s == 0 then (requestState 1 s).2 else s

/-- BOOT. -/
def boot (env : BootEnv) (s : State) : State :=
  if pstate s ≠ 0 ∨ s.pow.aborted = true then s
  else
    let s := wakeDone (bootPrep env true s)
    let s := (List.range 2).foldl (fun s k => setF (R.DEP_SLOT k) F.DEP_SLOT_VERSION (slotVersion env k s) s) s
    let order := if slotVersion env 0 s < slotVersion env 1 s then [1, 0] else [0, 1]
    let (ok, s) := if s.dep.flashOk then trySlots env order s else (false, s)
    bootEnd (if ok then s else recovery s)

/-! ### Core reloads (R269, R272, R359) -/

/-- The firmware section of core n as it lies in a source. -/
def firmwareOf (n : Nat) (f : Words) : Option Sect := (sectionsOf 6 f).find? (·.target == n)

/-- The firmware of core n is loaded from the image copy when its hash there equals the measurement of the boot;
from flash otherwise, with 12:36 when the copy was wrong (R269). -/
def reloadFirmware (n : Nat) (s : State) : State :=
  let flash := slotFlash (getF R.DEP_STATE F.DEP_STATE_SLOT s) s
  let f := slotWords s
  match firmwareOf n f with
  | some x =>
    if homeReady s ∧ packHash (sha256 (srcBytes f x.offset (5 * x.nwords))) = measAt (28 + 7 * n) s then loadFirmware x f s
    else if homeReady s then
      let s := when (n == 8) (raise (ev 12 36)) s
      match firmwareOf n flash with | some y => loadFirmware y flash s | none => s
    else loadFirmware x f s
  | none => match firmwareOf n flash with | some y => loadFirmware y flash (when (n == 8) (raise (ev 12 36)) s) | none => s

/-! ### Attestation (R405) -/

def popcount3 (s : State) : Nat := bitsOf (kps 30 s) 0 3

/-- Words 0-32 of the response (Table 16.13). -/
def attestWords (nonce : List Word) (s : State) : List Word :=
  let w := fun n : Nat => BitVec.ofNat 40 n
  [w (2 ^ 32 + 0xB0 * 2 ^ 24 + bitsOf (kps 1 s) 18 1 * 2 ^ 16 + twinId s), kps 0 s] ++ nonce
    ++ measAt 0 s ++ measAt 7 s ++ measAt 14 s
    ++ [w (getF R.DEP_STATE F.DEP_STATE_SLOT s + getF R.DEP_STATE F.DEP_STATE_KEYSEL s * 2 + s.dep.rbidx * 2 ^ 3
          + rbFloor s * 2 ^ 9 + popcount3 s * 2 ^ 15 + getF R.DEP_STATE F.DEP_STATE_SEALED s * 2 ^ 18
          + getF R.DEP_DBG F.DEP_DBG_SCOPE s * 2 ^ 19 + getF R.DEP_STATE F.DEP_STATE_BOARD_OK s * 2 ^ 22
          + pstate s * 2 ^ 23),
        w s.dep.version]

/-- Bytes packed five per word, the last word filled with zeros. -/
def sigWords (n : Nat) (bs : List Nat) : List Word :=
  (List.range n).map fun k => BitVec.ofNat 40 (bytesNat ((List.range 5).map fun x => bs.getD (5 * k + x) 0))

/-- IDPUB, the identity public modulus (Table 16.3). -/
def idModulus (s : State) : Nat :=
  let w := fun k => (rd (0x1048000 + k) s).toNat
  (List.range 76).foldl (fun n k => n * 2 ^ 40 + w (37 + k)) (w 36 % 2 ^ 32)

/-- The 110 words, signed with the identity key under a salt that is a free value (log entry 5), and ATTESTED. -/
def attest (nonce : List Word) (s : State) : List Word × State :=
  let ws := attestWords nonce s
  let sig := pssSign (idModulus s) s.dep.idKey (wordsBytes ws) (digits 8 32 (Config.pssSalt s.free).toNat)
  (ws ++ sigWords 77 sig, depCond 17 { s with free := s.free + 1 })

/-! ### Debug certificates (R406) -/

/-- The certificate is accepted. -/
def certOk (c : List Word) (s : State) : Bool :=
  let v := fun k => c.getD k 0#40
  let k := bitsOf (v 0) 0 2
  let bs := wordsBytes (c.drop 5)
  let block := bs.take 388
  bitsOf (v 0) 24 16 == 0xDB61 && bitsOf (v 0) 16 8 == 1 && v 1 == kps 0 s
    && bitsOf (v 2) 0 24 * 2 ^ 40 + (v 3).toNat == get2 R.DEP_DBGNONCE F.DEP_DBGNONCE_NONCE_LO F.DEP_DBGNONCE_NONCE_HI s
    && keyAllowed k block s && !bootopt 16 s && (k != 0 || bootopt 17 s)
    && pssVerify (bytesNat (block.take 384)) (wordsBytes (c.take 5)) ((bs.drop 388).take 384)

/-- DEBUG_CERT: whether it is accepted, and the state. -/
def debugCertTake (c : List Word) (s : State) : Bool × State :=
  if certOk c s then
    let sc := bitsOf (c.getD 4 0#40) 0 3
    (true, depCond 12 (s |> setF R.DEP_DBG F.DEP_DBG_SCOPE sc |> setF R.SDG_CTRL F.SDG_CTRL_DBG (sc / 2 % 2)
      |> setF R.YRD_CFG F.YRD_CFG_DBG (sc % 2)))
  else (false, depCond 13 s)

/-! ### JTAG (R407) -/

def jtagScope (s : State) : Bool := getBit R.DEP_DBG F.DEP_DBG_SCOPE 2 s

/-- The word at `a` is a register of domain `d`. -/
def onChain (d a : Nat) : Bool := (targetOf a).any fun r => r.dom == d

/-- A scan of domain `d`: bits leave its chain while those of `tdi` enter, and its registers hold what was shifted in.
The order of the chain is open, and what it does to state that no register shows is left out (log entry 42). -/
def scanDomain (d : Nat) (tdi : List Bool) (s : State) : State :=
  if tdi = [] then s
  else
    let old := s.regs.keep (onChain d)
    let new := (Config.scanIn s.free d old tdi).filter fun x => onChain d x.1
    new.foldl (fun s x => wr x.1 x.2 s) { s with
      regs := s.regs.keep fun a => !onChain d a
      dep := { s.dep with tdo := Config.scanOut s.free d old tdi }
      free := s.free + 1 }

/-- A JTAG instruction: the private ones act with JTAG scope and otherwise as BYPASS; the public ones act on
the pins alone. -/
def jtag (op : JtagOp) (s : State) : State :=
  match op with
  | .privateScan d tdi =>
    if jtagScope s && decide (2 ≤ d.val) && decide (domState d.val s ≠ 0) then scanDomain d.val tdi s else s
  | .privateRead a => if jtagScope s then readAccess 10 a.toNat s else s
  | .privateWrite a w => if jtagScope s then writeAccess 10 a.toNat w s else s
  | .bypass => s
  | .idcode => s
  | .samplePreload => s
  | .extest => s
  | .extestPulse => s
  | .extestTrain => s
  | .clamp => s
  | .highz => s
  | .other => s

def execBoot (env : BootEnv) (s : State) : Out := .next (boot env s)
def execJtagInstruction (op : JtagOp) (s : State) : Out := .next (jtag op s)

end Sys2Proof.Machine
end

