-- ==== Sys2Proof/Machine/Interlocking.lean ====
section
/-!
DEFINITION. The Interlocking's transactions (R278-R283) and the Shunters (R287, R288).
-/
namespace Sys2Proof.Machine

/-! ### Admission (R283) -/

/-- The master that owns the target of `a` in the wait-for graph, if any: a core its memories, the Depot the
DEP/KPS range, the Coupling its range. -/
def ownerOf (a : Nat) : Option Nat :=
  match coreMemory a with
  | some (n, _, _) => some (coreMaster n)
  | none =>
    if 0x1040000 ≤ a ∧ a < 0x1050000 then some 9
    else if 0x1070000 ≤ a ∧ a < 0x1080000 then some 11
    else none

/-- The edges of the wait-for graph. -/
def waitEdges (s : State) : List (Nat × Nat) :=
  s.ilk.out.filterMap fun r => (ownerOf r.addr.toNat).map fun y => (r.master.val, y)

/-- Masters that `x` waits for, in at most `n` edges. -/
def reaches (es : List (Nat × Nat)) : Nat → List Nat → List Nat
  | 0, xs => xs
  | n + 1, xs => reaches es n (xs ++ (es.filter fun e => xs.contains e.1 && !xs.contains e.2).map (·.2))

/-- Rule 2: the request would close a cycle. -/
def closesCycle (r : Req) (s : State) : Bool :=
  match ownerOf r.addr.toNat with
  | none => false
  | some y => (reaches (waitEdges s) 16 [y]).contains r.master.val

/-- Rule 1: the same master and TID are outstanding at a different target. -/
def sameIdBusy (r : Req) (s : State) : Bool :=
  s.ilk.out.any fun x => x.master == r.master && x.tid == r.tid && targetOf x.addr.toNat != targetOf r.addr.toNat

/-- Rule 3: the bridge, or the master's share of it, is full. -/
def bridgeFull (r : Req) (s : State) : Bool :=
  match (targetOf r.addr.toNat).map (·.path) with
  | none => false
  | some 0 => false
  | some p =>
    let on := s.ilk.out.filter fun x => (targetOf x.addr.toNat).map (·.path) == some p
    decide (16 ≤ on.length) || decide (4 ≤ (on.filter fun x => x.master == r.master).length)

/-- A request of 1 to 16 words under a transaction ID of its master: the Depot and the Coupling engine have eight, the
others ID 0 only (Table 11.1). -/
def reqOk (r : Req) : Bool :=
  decide (1 ≤ r.count) && decide (r.count ≤ 16) && (match r.write with | none => true | some ws => ws.length == r.count)
    && (r.master.val == 9 || r.master.val == 11 || r.tid.val == 0)

/-- The Depot, the management engine and the Coupling engine present requests of their own (R277); those of the
cores and the Shunters already wait at their port. -/
def presents (r : Req) : Bool := 9 ≤ r.master.val && r.master.val ≤ 11

/-- A request that its master issues now enters its port; a master holds at most eight (R278). -/
def enterPort (r : Req) (s : State) : State :=
  if presents r && !s.ilk.wait.contains r && decide (getF (R.ILK_MST r.master.val) F.ILK_MST_OUT s < 8) then
    { s with ilk := { s.ilk with wait := s.ilk.wait ++ [r] } }
      |> incF (R.ILK_MST r.master.val) F.ILK_MST_COUNT 1 |> incF (R.ILK_MST r.master.val) F.ILK_MST_OUT 1
  else s

/-- The request is the first that waits at its master's port; the later ones wait behind it. -/
def atPort (r : Req) (s : State) : Bool := (s.ilk.wait.find? fun x => x.master == r.master) == some r

/-- The request leaves its port. -/
def leavePort (r : Req) (s : State) : State := { s with ilk := { s.ilk with wait := s.ilk.wait.erase r } }

/-- Every word of the request lies at targets that sleep (R281). -/
def allAsleep (r : Req) (s : State) : Bool :=
  (List.range r.count).all fun k =>
    match targetOf (r.addr.toNat + k) with
    | none => false
    | some t => !answers r.master.val (r.addr.toNat + k) t s

/-- A response is delivered: the master holds one transaction less. -/
def respond (r : Req) (x : Answer) (s : State) : State :=
  let m := r.master.val
  let s := setF (R.ILK_MST m) F.ILK_MST_OUT (getF (R.ILK_MST m) F.ILK_MST_OUT s - 1) (putAnswer m x s)
  if presents r then s else { s with ilk := { s.ilk with done := s.ilk.done ++ [(r, x)] } }

def zeros (n : Nat) : List Word := List.replicate n 0#40

/-- A request at the head of its port is admitted, or waits there (R283). -/
def grantReq (r : Req) (s : State) : State :=
  if !atPort r s || sameIdBusy r s || bridgeFull r s then s
  else if closesCycle r s then flagAll R.ILK_STATUS ⟨0, 0, 6⟩ 3 (ev 13 3) s
  else if allAsleep r s then
    respond r ⟨2, if r.write.isSome then [] else zeros r.count, 0⟩
      (noteError r.master.val r.addr.toNat 2 r.write.isSome (leavePort r s))
  else
    let s := leavePort r s
    { s with ilk := { s.ilk with out := s.ilk.out ++ [r] } }

/-- TRANSACTION_ADMIT. -/
def transactionAdmit (r : Req) (s : State) : State :=
  if ilkUp s && reqOk r then grantReq r (enterPort r s) else s

/-! ### Responses -/

/-- The accesses of a transaction, in order. -/
def perform (r : Req) (s : State) : Burst × State :=
  match r.write with
  | some ws => burstWrite r.master.val r.addr.toNat ws {} s
  | none => burstRead r.master.val r.addr.toNat r.count {} s

def oldestOut (m tid : Nat) (s : State) : Option Req := s.ilk.out.find? fun r => r.master.val == m && r.tid.val == tid

def dropOut (r : Req) (s : State) : State := { s with ilk := { s.ilk with out := s.ilk.out.erase r } }

/-- The beats that reset masters had transferred land at their targets. -/
def landAll (s : State) : State :=
  s.ilk.cut.foldl (fun s r => (perform r s).2) { s with ilk := { s.ilk with cut := [] } }

/-- Every master is reset with the Interlocking (R286): a full reset or watchdog reset. -/
def mastersReset (s : State) : State := landAll ((List.range 16).foldl (fun s m => masterReset m s) s)

/-- A word of the request waits at port P3 (R137). -/
def reqWaits (r : Req) (s : State) : Bool := p3WaitsAny r.master.val r.addr.toNat r.count s

/-- TRANSACTION_RESPONSE: the oldest transaction of the ID completes at its target, unless it waits there. Beats left
by a reset master land first and answer nobody (R286). -/
def transactionResponse (m tid : Nat) (s : State) : State :=
  match s.ilk.cut.find? fun r => r.master.val == m && r.tid.val == tid with
  | some r => if reqWaits r s then s else (perform r { s with ilk := { s.ilk with cut := s.ilk.cut.erase r } }).2
  | none =>
    match oldestOut m tid s with
    | none => s
    | some r =>
      if reqWaits r s then s else
      let (b, s) := perform r (dropOut r s)
      respond r (b.answer r.write.isSome) s

/-- The words of a timed-out write that took effect all the same (R282). -/
def lateWrite (m : Nat) : Nat → List Word → State → State
  | _, [], s => s
  | a, w :: t, s =>
    let f := Config.timedOut s.free
    let s := { s with free := s.free + 1 }
    lateWrite m (a + 1) t (if f then (targetWrite m a w s).2 else s)

/-- TRANSACTION_TIMEOUT. -/
def transactionTimeout (m tid : Nat) (s : State) : State :=
  match oldestOut m tid s with
  | none => s
  | some r =>
    let s := lateWrite m r.addr.toNat (r.write.getD []) (dropOut r s)
    respond r ⟨3, if r.write.isSome then [] else zeros r.count, 0⟩ (noteError m r.addr.toNat 3 r.write.isSome s)

/-! ### Shunters -/

def dWord (x : Shunter) (k : Nat) : Word := x.desc.getD k 0#40
def dSrc (x : Shunter) : Nat := bitsOf (dWord x 0) 0 28
def dDst (x : Shunter) : Nat := bitsOf (dWord x 1) 0 28
def dCount (x : Shunter) : Nat := bitsOf (dWord x 2) 0 24
def dNotify (x : Shunter) : Nat := bitsOf (dWord x 2) 28 4
def dSfix (x : Shunter) : Bool := bitsOf (dWord x 2) 32 1 == 1
def dDfix (x : Shunter) : Bool := bitsOf (dWord x 2) 33 1 == 1
def dLast (x : Shunter) : Bool := bitsOf (dWord x 2) 34 1 == 1
def dNext (x : Shunter) : Nat := bitsOf (dWord x 3) 0 28

/-- The zero fields of Table 11.4 are zero. -/
def dClean (x : Shunter) : Bool :=
  bitsOf (dWord x 0) 28 12 == 0 && bitsOf (dWord x 1) 28 12 == 0 && bitsOf (dWord x 2) 35 5 == 0
    && bitsOf (dWord x 3) 28 12 == 0

/-- The SHUNT interrupt (vector 8) of the NOTIFY core. -/
def shunterNotify (x : Shunter) (s : State) : State :=
  if dNotify x = 1 then coreIrq 8 4 s
  else if 2 ≤ dNotify x ∧ dNotify x ≤ 9 then coreIrq (dNotify x - 2) 4 s
  else s

def shunterEnd (k r : Nat) (s : State) : State :=
  putShunter k {} s |> setF (R.ILK_SHN k) F.ILK_SHN_BUSY 0 |> setF (R.ILK_SHN k) F.ILK_SHN_RESULT r

/-- An error response stops the run: ERRADDR, ERRRESP, 13:5, and the NOTIFY core. -/
def shunterFail (k code a : Nat) (s : State) : State :=
  let x := shunterOf k s
  s |> setF (R.ILK_SHN k) F.ILK_SHN_ERRADDR a |> setF (R.ILK_SHN k) F.ILK_SHN_ERRRESP code
    |> flagAll R.ILK_STATUS ⟨0, 0, 6⟩ 5 (ev 13 5) |> shunterNotify x |> shunterEnd k 2

/-- A burst: up to 16 words, one at a fixed address. -/
def burstLen (x : Shunter) : Nat := Nat.min (if dSfix x || dDfix x then 1 else 16) (dCount x - x.pos)
def srcAt (x : Shunter) : Nat := if dSfix x then dSrc x else (dSrc x + x.pos) % 2 ^ 28
def dstAt (x : Shunter) : Nat := if dDfix x then dDst x else (dDst x + x.pos) % 2 ^ 28

/-- What follows a burst or a descriptor: the next burst, or the descriptor's end, then NEXT or done. -/
def shunterGoOn (k : Nat) (s : State) : State :=
  let x := shunterOf k s
  if x.stop then shunterEnd k 3 s
  else if x.pos < dCount x then shunterRequest k (srcAt x) (burstLen x) none s
  else
    let s := shunterNotify x s
    if dLast x then shunterEnd k 1 s else shunterFetch k (dNext x) s

/-- The response that the Shunter takes next. -/
def shunterDone (k : Nat) (s : State) : Option (Req × Answer) := s.ilk.done.find? fun x => x.1.master.val == 12 + k

/-- SHUNTER_DESCRIPTOR_READ. -/
def shunterDescriptorRead (k : Nat) (s : State) : State :=
  match shunterDone k s with
  | none => s
  | some y =>
    if !shunterBusy k s || !(shunterOf k s).desc.isEmpty then s
    else
      let s := takeDone y s
      if y.2.code ≠ 0 then shunterFail k y.2.code ((y.1.addr.toNat + y.2.good) % 2 ^ 28) s
      else
        let x := { shunterOf k s with desc := y.2.data, pos := 0 }
        let s := setF (R.ILK_MST (12 + k)) F.ILK_MST_QOS (bitsOf (dWord x 2) 24 4) (putShunter k x s)
        if dClean x then shunterGoOn k s else shunterEnd k 2 s

/-- SHUNTER_BURST_COMPLETE: the read of a burst is followed by its write, the write by what comes next. -/
def shunterBurstComplete (k : Nat) (s : State) : State :=
  match shunterDone k s with
  | none => s
  | some y =>
    let x := shunterOf k s
    if !shunterBusy k s || x.desc.isEmpty then s
    else
      let s := takeDone y s
      let bad := (y.1.addr.toNat + y.2.good) % 2 ^ 28
      match y.1.write with
      | none =>
        if y.2.code = 0 then shunterRequest k (dstAt x) y.1.count (some y.2.data) s
        else if y.2.good = 0 then shunterFail k y.2.code bad s
        else
          shunterRequest k (dstAt x) y.2.good (some (y.2.data.take y.2.good))
            (putShunter k { x with err := some (y.2.code, bad) } s)
      | some _ =>
        if y.2.code ≠ 0 then shunterFail k y.2.code bad s
        else
          match x.err with
          | some (c, a) => shunterFail k c a s
          | none => shunterGoOn k (putShunter k { x with pos := x.pos + y.1.count } s)

/-! ### The commands -/

def execTransactionAdmit (r : Req) (s : State) : Out := .next (transactionAdmit r s)
def execTransactionResponse (m : Master) (tid : Fin 8) (s : State) : Out := .next (transactionResponse m.val tid.val s)
def execTransactionTimeout (m : Master) (tid : Fin 8) (s : State) : Out := .next (transactionTimeout m.val tid.val s)
def execShunterDescriptorRead (k : Fin 4) (s : State) : Out := .next (shunterDescriptorRead k.val s)
def execShunterBurstComplete (k : Fin 4) (s : State) : Out := .next (shunterBurstComplete k.val s)

end Sys2Proof.Machine
end

