-- ==== Sys2Proof/Machine/Power.lean ====
section
/-!
DEFINITION. The Substation's transitions between Running, Standing, Halt, Laid-up and Off (R350-R355), the
retention signatures that they take (R359), the watches of Halt (R360, R361), and the changes of districts,
working stacks and HBM rate with which the Depot chooses a plan anew (R23, R136-R139, R182).
-/
namespace Sys2Proof.Machine

/-! ### The Depot chooses anew (R23, R401) -/

/-- The words of the host-originated settings of the crash record whose address `p` keeps, in order. -/
def settingWords (p : Nat → Bool) (s : State) : List (Nat × Word) :=
  s.crash.settings.flatMap fun x => (x.2.zipIdx.map fun w => (x.1 + w.2, w.1)).filter fun w => p w.1

/-- The Signal Box writes these words one after the other; a word that waits for a stack in training holds up the rest
(R137). DEDUCED: words of a code memory, which no store reaches (R246), go through a Shunter; log entry 115. -/
def applyWords : List (Nat × Word) → State → State
  | [], s => s
  | x :: t, s =>
    if p3Waits 0 x.1 s then { s with sdg := { s.sdg with late := x :: t } }
    else applyWords t (writeAccess (if inCode x.1 then 12 else 0) x.1 x.2 s)

/-- Every host-originated setting of the crash record whose address `p` keeps is applied again by the Signal
Box, in order. -/
def applySettings (p : Nat → Bool) (s : State) : State :=
  if s.sdg.late.isEmpty then applyWords (settingWords p s) s
  else { s with sdg := { s.sdg with late := s.sdg.late ++ settingWords p s } }

/-- The settings that waited for a stack go on. -/
def settingsGoOn (s : State) : State := applyWords s.sdg.late { s with sdg := { s.sdg with late := [] } }

/-- R23 runs: the first plan that passes for the resources present, with the board sections and JCT_PACE. A
configuration in recovery holds no plan. Frames of the plan that goes out of force leave first. -/
def replan (s : State) : State :=
  if isSet R.DEP_STATE F.DEP_STATE_RECOVERY s then s
  else planAndBoard true (slotWords s) (boardWords s) (flushFrames s)

/-- The same after a change of working set (R401): every REGISTERS section comes first, the host settings last. -/
def reconfigure (s : State) : State :=
  if isSet R.DEP_STATE F.DEP_STATE_RECOVERY s then s else applySettings (fun _ => true) (configReapply (flushFrames s))

/-! ### Domains -/

/-- A domain that is neither off nor failed goes to `x`. -/
def moveDom (d x : Nat) (s : State) : State :=
  if domState d s = 0 ∨ domFailed d s then s else setDom d x s

def moveDoms (ds : List Nat) (x : Nat) (s : State) : State := ds.foldl (fun s d => moveDom d x s) s

def neededDistricts (s : State) : List Nat := (List.range 16).filter (hasBit (districtsNeeded (cfgN s)))

/-- The districts whose switches are on. -/
def liveDistricts (s : State) : List Nat := (List.range 16).filter fun k => domState (districtDomain k) s != 0

/-- Power-downs of districts in descending order (Table 14.3), each a load step. -/
def dropSteps (ks : List Nat) : List LoadStep := ks.reverse.map fun k => .down (districtDomain k)

def dropDistricts (s : State) : State := requestSteps (dropSteps (liveDistricts s)) s

/-- The power-ups that wait for a district are withdrawn. -/
def withdrawUps (s : State) : State :=
  showQlen (putPow { s.pow with queue := s.pow.queue.filter fun x => match x with | .up d => decide (d < 19) | _ => true } s)

/-- R13 for a configuration put in force while districts are up: those outside it go down, and those it needs
and that are off power up. -/
def gateDistricts (s : State) : State :=
  let s := withdrawUps s
  let need := neededDistricts s
  let going := fun s : State => fun k => s.pow.queue.contains (.down (districtDomain k))
  let s := requestSteps (dropSteps ((liveDistricts s).filter fun k => !need.contains k && !going s k)) s
  requestSteps ((need.filter fun k => domState (districtDomain k) s == 0 || going s k).map fun k =>
    .up (districtDomain k)) s

/-! ### Standing to Running (R355) -/

/-- NOTCHING_UP: the data-plane clocks start, and the needed districts power up one per headway interval. -/
def notchingUp (s : State) : State :=
  if pstate s ≠ 2 ∨ pendOf s ≠ 1 ∨ !planValid s then s
  else
    let s := moveDoms [2, 3, 5, 6] 3 (beginTransit s)
    let s := requestSteps ((neededDistricts s).map fun k => .up (districtDomain k)) s
    putPow { s.pow with notching := true } s

/-- A district is awaited: the device notches up, or runs under a configuration that has just come to need it. -/
def awaited (k : Nat) (s : State) : Bool := (s.pow.notching || running s) && domState (districtDomain k) s == 2

/-- DISTRICT_READY. -/
def districtReady (k : Nat) (s : State) : State :=
  if !awaited k s then s
  else
    let s := s |> setDom (districtDomain k) 3
      |> setBit R.JCT_DISTRICT F.JCT_DISTRICT_READY k true
      |> raise (ev 7 (4 * k + 2))
    if s.pow.notching && districtsReady s then endTransit 1 (putPow { s.pow with notching := false } s) else s

/-- A transition has ended in Standing, where a deferred rate of HBM may be applied (R139). -/
def enterStanding (s : State) : State := rateDue (endTransit 2 s)

/-- Notching up is given up, and the device stays in Standing (R23, R182): the request for Running is over, the
districts go down, and the data-plane clocks stop. -/
def stayStanding (s : State) : State :=
  let s := stopPlane (dropDistricts (withdrawUps (putPow { s.pow with notching := false } s)))
  enterStanding (if pendOf s = 1 then setPend 0 s else s)

/-- What follows a change of the plan in force. In Running without a plan the device goes to Standing, on its way to
wherever a request accepted before sends it (R352); while it notches up it stays there; otherwise the districts follow
the new configuration. -/
def followPlan (s : State) : State :=
  if s.pow.notching then (if planValid s then gateDistricts s else stayStanding s)
  else if !running s then s
  else if planValid s then gateDistricts s
  else when (decide (pendOf s < 2)) (setPend 2) s

/-- The plans that pass for the resources present, in image order. -/
def passingPlans (s : State) : List Nat :=
  ((plansOf (slotWords s)).filter fun p => planOk true (presentResources s) p s).map (·.1)

/-- R23 would leave the plan in force as it is. -/
def planStands (s : State) : Bool :=
  planValid s && (passingPlans s).head? == some (getF R.DEP_PLAN F.DEP_PLAN_ACTIVE s)

/-- The data plane works, or a forced drain of it has still to complete. -/
def planeWorks (s : State) : Bool := running s || s.pow.falling

/-- R23 runs for a change of districts, of departure tracks or of the HBM rate. While the data plane works, another plan
is put in force as a change of the working set is (R138): no bank in use is written (R19), the dumps are closed first,
and a data-plane reset ends the change. A plan that stands is left as it is, with PASS shown anew. -/
def replanNow (s : State) : State :=
  if isSet R.DEP_STATE F.DEP_STATE_RECOVERY s then s
  else if !planeWorks s then followPlan (replan s)
  else if planStands s then setF R.DEP_PLAN F.DEP_PLAN_PASS ((passingPlans s).map fun k => 2 ^ k).sum s
  else { s with sdg := { s.sdg with restart := true } }

/-- A district misses its ready timeout: it is FAILED with its event, and switched off (R358). While the device
notches up it stays in Standing (R182). -/
def districtFail (k : Nat) (s : State) : State :=
  let s := s |> setF (R.SUB_DOM (districtDomain k)) F.SUB_DOM_FAILED 1 |> raise (ev 7 (4 * k + 2))
  replanNow (if s.pow.notching then stayStanding s else requestStep (.down (districtDomain k)) s)

/-- DISTRICT_READY_TIMEOUT. -/
def districtReadyTimeout (k : Nat) (s : State) : State := if awaited k s then districtFail k s else s

/-! ### Running to Standing -/

/-- The forced drain is complete. -/
def drained (s : State) : Bool := s.jct.cur.isNone && s.jct.flush.isEmpty

/-- RUNNING_TO_STANDING: a data-plane reset; the districts power down when its drain is complete, the highest
first. -/
def runningToStanding (s : State) : State :=
  if pstate s ≠ 1 ∨ pendOf s < 2 then s
  else
    let s := dataPlaneReset (beginTransit s)
    let s := putPow { s.pow with busy := true, falling := true } s
    requestSteps (dropSteps (liveDistricts s)) s

/-- The next load step, or none when the queue is empty. -/
def nextStep (s : State) : State :=
  match s.pow.queue with
  | [] => putPow { s.pow with busy := false } s
  | x :: t => doStep x (showQlen (putPow { s.pow with queue := t, busy := true } s))

/-- A district's power-down still waits. -/
def downWaits (s : State) : Bool := s.pow.queue.any fun x => match x with | .down d => decide (19 ≤ d) | _ => false

/-- LOAD_STEP_START, at the end of a headway interval (R353). The last power-down of a fall ends it in Standing. -/
def loadStepStart (s : State) : State :=
  if s.pow.falling && !drained s then s
  else
    let s := nextStep s
    if s.pow.falling && !downWaits s then
      enterStanding (stopPlane (putPow { s.pow with falling := false } s))
    else s

/-! ### Retained banks (Table 14.6) -/

/-- The domain of bank b. -/
def bankDomain (b : Nat) : Nat :=
  if b = 23 ∨ b = 24 then 3 else if b = 25 then 5 else if b = 26 then 6
  else if 18 ≤ b ∧ b ≤ 21 then 2 else 1

/-- First word and number of words of bank b. -/
def bankSpan (b : Nat) : Nat × Nat :=
  match b with
  | 0 => (codeBase 8, memWords 8)
  | 1 => (dataBase 8, memWords 8)
  | 18 => (0x3001000, 0x400)
  | 19 => (0x10000000, 0x100000)
  | 20 => (0x3030000, 0x20000)
  | 21 => (0x11000000, 0x400000)
  | 22 => (0x1000100, 0x100)
  | 23 => (0x3300000, 0x100000)
  | 24 => (0x3400000, 0x200000)
  | 25 => (0x5001000, 0x400)
  | 26 => (0x6010000, 0x8000)
  | 27 => (R.BEL_SRC 0, 1024)
  | 28 => (measBase, 0x63)
  | _ => if b < 10 then (codeBase (b - 2), memWords (b - 2)) else (dataBase (b - 10), memWords (b - 10))

def inBank (b a : Nat) : Bool := decide ((bankSpan b).1 ≤ a) && decide (a < (bankSpan b).1 + (bankSpan b).2)

/-- A word as a signature takes it. STS and COUNT of a source word (bank 27) go on with the raises of the Lamp
room while CTRL is in retention, so the signature leaves them out. -/
def signedWord (b a : Nat) (s : State) : Word := if b = 27 then eventBits (rd a s) else rd a s

/-- The CRC-32 over a bank's words. -/
def bankCrc (b : Nat) (s : State) : Nat :=
  crc32 (wordsBytes ((List.range (bankSpan b).2).map fun k => signedWord b ((bankSpan b).1 + k) s))

/-- The signature of bank b is stored in the Lamp room. -/
def signBank (s : State) (b : Nat) : State :=
  putPow { s.pow with sigs := s.pow.sigs.set (fun _ => 0) b (bankCrc b s + 1) } s

/-- The domains of `ds` enter retention with their banks signed, each as a load step in ascending order (DESIGN CHOICE, log 91). -/
def retain (ds : List Nat) (s : State) : State :=
  let up := ds.filter fun d => decide (2 ≤ domState d s)
  let s := ((List.range 29).filter fun b => up.contains (bankDomain b)).foldl signBank s
  runSteps (up.map .ret) s

/-! ### Entry to Halt, Laid-up and Off -/

/-- A Lead resigns: its RESIGN records leave before the lanes go down (R332). -/
def sendResign (s : State) (c : Nat) : State :=
  let hb := (s.cpl.hb + 1) % 2 ^ 24
  if cplOpen c s && transmits (80 + c) s then
    sendTrain (80 + c) typCoupling (ownPair s) (roleOf s * 2 ^ 10) (b2n (!coupled s)) hb
      (padCars (ownRole s ++ [headCar 10 0 0])) (fillerDue (80 + c) (putCpl { s.cpl with hb := hb } s))
  else s

def resignNow (s : State) : State := if isLead s then becomeBanker 5 ((List.range 4).foldl sendResign s) else s

/-- A twin that leaves Standing downwards wakes as Banker that waits to join (Table 14.10). -/
def twinDown (s : State) : State :=
  if isTwin s then
    setJstate 1 (setRole 2 (putCpl { s.cpl with asked := false, retry := false, join := none, logOn := false } s))
  else s

/-- The oldest request at port P3 completes, unless it waits for a stack in training. -/
def finishP3 (s : State) : State :=
  match s.ilk.out.find? fun r => decide (0x8000000 ≤ r.addr.toNat) && !reqWaits r s with
  | none => s
  | some r =>
    let (b, s) := perform r (dropOut r s)
    respond r (b.answer r.write.isSome) s

/-- R140: captures end truncated, requests at port P3 complete, and every READY stack enters self-refresh. -/
def quiesce (s : State) : State :=
  let s := (List.range s.ilk.out.length).foldl (fun s _ => finishP3 s) (endCaptures s)
  (List.range 8).foldl (fun s k => if stackState k s = 2 then setStack k 3 s else s) s

/-- A lane goes to DARK with cause POWER and stays there, its receiver off (R50). A retry holdoff that runs is dropped: the wake starts bring-up
with no holdoff (Table 14.7), and whether one lasts through Halt is left open (DESIGN CHOICE, log 92). -/
def laneOff (s : State) (i : Nat) : State :=
  modLane i (fun l => { l with energy := false, parks := 0 }) (darken i 15 false s)

/-- A watched lane first sends ten PARKED fillers, if it transmits (R50). -/
def laneHalt (s : State) (i : Nat) : State :=
  if watched i s && transmits i s then modLane i (fun l => { l with energy := false, parks := 10 }) s
  else laneOff s i

/-- PARKED fillers that have not left are cut, and their lane goes to DARK (R50). -/
def cutParks (s : State) (i : Nat) : State := if 0 < (laneOf i s).parks then laneOff s i else s

/-- The quadrants of watched lanes. -/
def watchedQuads (s : State) : List Nat := (List.range 4).filter fun q => (quadLanes q).any fun i => watched i s

def clearWatch (s : State) : State :=
  { s with gau := { s.gau with wacc := [], wfast := [], wkurt := [], wcount := [] } }

/-- HALT_ENTRY (R140, R332, R351). -/
def haltEntry (s : State) : State :=
  if pstate s ≠ 2 ∨ pendOf s ≠ 3 then s
  else
    let s := quiesce (twinDown (resignNow (beginTransit s)))
    let s := when (decide (6 < (watchLanes s).length)) (subCond 7) s
    let quads := watchedQuads s
    let s := (List.range 84).foldl laneHalt s
    let s := retain ([3, 4, 5, 6] ++ ((List.range 4).filter fun q => !quads.contains q).map (7 + ·)) s
    let s := moveDoms (2 :: quads.map (7 + ·) ++ (List.range 8).map stackDomain) 2 s
    endTransit 3 (clearWatch (putPow { s.pow with watch := false, late := false } s))

/-- The setpoint output of each enabled regulator with a RET_CODE has reached its goal: that code at the entry to
Laid-up, the nominal code in wake step 1 (R365, Table 14.5). No other output moves. -/
def settleSetpoints (s : State) : State :=
  (List.range 4).foldl (fun s n =>
    if aoRole n s = 1 ∧ isSet (R.SUB_REG n) F.SUB_REG_EN s ∧ getF (R.SUB_REG n) F.SUB_REG_RET_CODE s ≠ 0 then
      showPhase n (setF (R.AOU_DRIVEN n) F.AOU_DRIVEN_C (aoGoal n s) s) else s) s

def retHit (x : Inj) : Bool := x.code == 0x90

/-- Injection 0x90 changes the stored signature of the bank that UNIT names (Table 12.7). -/
def corruptSignature (s : State) : State :=
  match findInj retHit s with
  | some x => useInj retHit (putPow { s.pow with corrupt := x.unit :: s.pow.corrupt } s)
  | none => s

/-- The lane PLLs and the TCLK PLL stop. -/
def stopPlls (s : State) : State :=
  let s := (List.range 4).foldl (fun s q => s |> setF (R.TRK_QUAD q) F.TRK_QUAD_PLL180_LOCK 0
    |> setF (R.TRK_QUAD q) F.TRK_QUAD_PLL170_LOCK 0) s
  (List.range 84).foldl (fun s i => settleQlock i s) (setF R.TTB_STATE F.TTB_STATE_TCLK_LOCK 0 s)

/-- LAID_UP_ENTRY, from Standing or Halt. -/
def laidUpEntry (s : State) : State :=
  if (pstate s ≠ 2 ∧ pstate s ≠ 3) ∨ pendOf s ≠ 4 then s
  else
    let s := quiesce (twinDown (resignNow (beginTransit s)))
    let s := (List.range 84).foldl laneOff s
    let s := corruptSignature (retain [1, 2, 3, 4, 5, 6] s)
    let s := runSteps (([7, 8, 9, 10].filter fun d => domState d s != 0).map .down) s
    let s := moveDoms ((List.range 8).map stackDomain) 2 (stopPlls s)
    settleSetpoints (endTransit 4 (clearWatch (putPow { s.pow with watch := false, late := false } s)))

/-- OFF_ENTRY: from Running it follows the fall to Standing. The domains power down, each as a load step, the Lamp room
last (R351, R353). The outputs are no longer driven (R365). -/
def offEntry (s : State) : State :=
  if pendOf s ≠ 5 ∨ pstate s = 1 ∨ pstate s = 5 ∨ pstate s = 6 then s
  else
    let s := (List.range 84).foldl laneOff (quiesce (resignNow s))
    let s := setDom 0 0 (runSteps (((List.range 35).filter fun d => d != 0 && domState d s != 0).map .down) (stopPlls s))
    let s := (List.range 4).foldl (fun s r => wr (R.AOU_DRIVEN r) 0#40 (setF (R.SUB_REG r) F.SUB_REG_PG 0 s)) s
    endTransit 5 (putPow {} { s with wakeReq := none, outs := [] })

/-! ### Watches (R360, R361) -/

/-- A watch starts: lane clocks, the receivers of the watched lanes, the engine and the Gauges. DESIGN CHOICE: PARKED
fillers that have not left yet are cut, and their lane goes to DARK first; log entry 104. -/
def beginWatch (s : State) : State :=
  let s := clearWatch (putPow { s.pow with watch := true, late := false } s)
  let s := moveDoms (2 :: (watchedQuads s).map (7 + ·)) 3 s
  (List.range 84).foldl (fun s i => if watched i s then
    tryLeaveDark i (setF (R.TRK_STATE i) F.TRK_STATE_HOLDOFF 0 (cutParks s i))
    else s) s

/-- WATCH_START. -/
def watchStart (s : State) : State :=
  if pstate s ≠ 3 ∨ !isSet R.LMP_WAKEEN F.LMP_WAKEEN_GAUGE s ∨ s.wakeReq.isSome then s
  else if s.pow.watch then
    subCond 8 (satF R.LMP_WATCHCNT F.LMP_WATCHCNT_LONG 1 (putPow { s.pow with late := true } s))
  else beginWatch s

/-- WATCH_END: without a crossing the clocks stop and the lanes return to DARK. A watch that waited starts then,
while LMP_WAKEEN.GAUGE still allows watches (R360). -/
def watchEnd (s : State) : State :=
  if pstate s ≠ 3 ∨ !s.pow.watch ∨ s.wakeReq.isSome then s
  else
    let late := s.pow.late
    let s := (List.range 84).foldl (fun s i => if watched i s then laneOff s i else s) s
    let s := moveDoms (2 :: (watchedQuads s).map (7 + ·)) 2 s
    let s := incF R.LMP_WATCHCNT F.LMP_WATCHCNT_WATCHES 1 (clearWatch (putPow { s.pow with watch := false, late := false } s))
    if late && isSet R.LMP_WAKEEN F.LMP_WAKEEN_GAUGE s then beginWatch s else s

/-! ### Wake causes -/

/-- WAKE_N in Halt and Laid-up (R423). -/
def wakePin (edges : Nat) (s : State) : State :=
  if (pstate s = 3 ∨ pstate s = 4) ∧ isSet R.LMP_WAKEEN F.LMP_WAKEEN_WAKE_N s ∧ 2 ≤ edges then wakeRequest 8 s else s

/-- LAMP_ALARM: LMP_LCNT equals the armed value. -/
def lampAlarm (s : State) : State :=
  if isSet R.LMP_ALARM F.LMP_ALARM_ARM s
      ∧ get2 R.LMP_ALARM F.LMP_ALARM_CNT_LO F.LMP_ALARM_CNT_HI s = get2 R.LMP_LCNT F.LMP_LCNT_CNT_LO F.LMP_LCNT_CNT_HI s then
    setF R.LMP_ALARM F.LMP_ALARM_ARM 0 s
      |> when ((pstate s == 3 || pstate s == 4) && isSet R.LMP_WAKEEN F.LMP_WAKEEN_ALARM s) (wakeRequest 9)
  else s

/-! ### Stacks (R136-R139) -/

/-- A change of rate has nothing left to do but R23: RATE_DONE (R139). -/
def rateOver (s : State) : Bool := s.sdg.rateRun && !anyTraining s && !retrainWaits s

def rateEnd (s : State) : State := sdgCond 8 { s with sdg := { s.sdg with rateRun := false } }

/-- A stack has left TRAINING: what waited for it goes on. When no stack trains any more, a change of rate is complete
and R23 runs, and in Standing a deferred rate is applied (R139). -/
def trainingOver (s : State) : State :=
  let s := settingsGoOn s
  let s := if rateOver s then replanNow (rateEnd s) else s
  rateDue s

/-- TRAINING_STEP_TIMEOUT of step `step` of Table 5.6, counted from 0; a third failure ends the stack's training. -/
def trainingStepTimeout (k step : Nat) (s : State) : State :=
  if stackState k s = 1 then trainingOver (trainingFail k (step + 1) s) else s

/-- TRAINING_COMPLETE: a stack that was not in the working set changes it (R138). -/
def trainingComplete (k : Nat) (s : State) : State :=
  if stackState k s ≠ 1 then s
  else
    let new := workMask s / 2 ^ k % 2 == 0
    trainingOver (setF (R.SDG_STK k) F.SDG_STK_STEP 5
      { setStack k 2 s with sdg := { s.sdg with lost := s.sdg.lost &&& (255 ^^^ 2 ^ k), restart := s.sdg.restart || new } })

/-- The working set as the stacks stand: its members that have not failed, and the READY stacks. -/
def newWork (s : State) : Nat :=
  ((List.range 8).filter fun k => stackState k s == 2 || (stackState k s != 4 && hasBit (workMask s) k)).foldl
    (fun m k => m + 2 ^ k) 0

/-- WORKING_SET_CHANGE (R138, R401). While a dump is in progress it is closed first, as at a Platform overrun. A change
of R23 that leaves the working set as it is puts the plan in force the same way, without R401's reload. -/
def workingSetChange (s : State) : State :=
  if !s.sdg.restart || !coreClocked s then s
  else if !drained s || (running s && !s.jct.recs.isEmpty) then emptyRest (forceJunction s)
  else
    let new := newWork s
    let changed := new != workMask s
    let s := setWork new (relayout (workMask s) new s)
    let s := emptyRest (when (rateOver s) rateEnd { s with sdg := { s.sdg with restart := false } })
    let s := if changed then sdgCond 6 (reconfigure s) else replan s
    followPlan (dataPlaneReset (beamConfigCheck s))

/-! ### The commands -/

def execNotchingUp (s : State) : Out := .next (notchingUp s)
def execDistrictReady (k : Fin 16) (s : State) : Out := .next (districtReady k.val s)
def execDistrictReadyTimeout (k : Fin 16) (s : State) : Out := .next (districtReadyTimeout k.val s)
def execRunningToStanding (s : State) : Out := .next (runningToStanding s)
def execLoadStepStart (s : State) : Out := .next (loadStepStart s)
def execHaltEntry (s : State) : Out := .next (haltEntry s)
def execLaidUpEntry (s : State) : Out := .next (laidUpEntry s)
def execOffEntry (s : State) : Out := .next (offEntry s)
def execWatchStart (s : State) : Out := .next (watchStart s)
def execWatchEnd (s : State) : Out := .next (watchEnd s)
def execLampAlarm (s : State) : Out := .next (lampAlarm s)
def execWorkingSetChange (s : State) : Out := .next (workingSetChange s)

end Sys2Proof.Machine
end

