-- ==== Sys2Proof/Machine/Wake.lean ====
section
/-!
DEFINITION. Wakes (R356-R359), the tick counter of Laid-up (R362), and the resets (R363-R366, R414-R418, R423).
-/
namespace Sys2Proof.Machine

/-! ### A bank that failed its signature (R359, Table 14.6) -/

/-- The words that the image's REGISTERS sections and the active plan write, in order. -/
def imageWords (s : State) : List (Nat × Word) :=
  let f := slotWords s
  let regs := (sectionsOf 3 f).flatMap fun x => (regRecords (x.body f)).getD []
  let plan := if planValid s then
      ((plansOf f).find? (·.1 == getF R.DEP_PLAN F.DEP_PLAN_ACTIVE s)).elim [] (·.2.2.2) else []
  (regs ++ plan).flatMap fun r => r.2.zipIdx.map fun w => (r.1 + w.2, w.1)

/-- The bank's words of the image are written by the Depot, then the host settings by the Signal Box. -/
def reloadWords (p : Nat → Bool) (s : State) : State :=
  applySettings p (((imageWords s).filter fun x => p x.1).foldl (fun s x => (depotWrite x.1 x.2 true s).2) s)

/-- A CONFIG bank is emptied and reloaded. -/
def reloadBank (b : Nat) (p : Nat → Bool) (s : State) : State :=
  reloadWords p (clearWords (bankSpan b).1 ((bankSpan b).1 + (bankSpan b).2) s)

/-- The Points gain banks are written through the window that PTS_GPAGE selects. -/
def reloadGains (s : State) : State :=
  let page := rd R.PTS_GPAGE s
  wr R.PTS_GPAGE page (reloadBank 19 (fun a => a == R.PTS_GPAGE || (0x3080000 ≤ a && a < 0x30C0000)) s)

/-- A core whose memory failed, bank `b`, is reloaded and restarted, with the host settings that fall in the bank. Those
of the Signal Box's own data memory come when its firmware is back in service (`sbxInService`). -/
def restartCore (n b : Nat) (s : State) : State :=
  if n ≠ 8 then releaseCore n (applySettings (inBank b) (reloadFirmware n (clearCore n s)))
  else if sbxState s = 5 then reloadFirmware 8 s
  else if sbxState s = 1 then s
  else sbxHold s

/-- What happens to bank b, besides RET_FAIL. -/
def repairBank (s : State) (b : Nat) : State :=
  let (a, n) := bankSpan b
  match b with
  | 0 => restartCore 8 0 s
  | 1 => restartCore 8 1 s
  | 18 => setF R.PTS_BANKS F.PTS_BANKS_CRDY 0 (reloadBank 18 (inBank 18) s)
  | 19 => setF R.PTS_BANKS F.PTS_BANKS_GRDY 0 (reloadGains s)
  | 20 => clearWords (R.PTS_DSET 0) (R.PTS_DSET 2)
      (clearWords a (a + n) { s with pts := { s.pts with setT0 := [], setSpan := [] } })
  | 21 => clearWords a (a + n) s
  | 22 => ttbCond 2 (countQueue (clearWords a (a + n) { s with ttb := { s.ttb with queue := [] } }))
  | 23 => setF R.TBL_BANKS F.TBL_BANKS_GRDY 0 (reloadBank 23 (inBank 23) s)
  | 24 => setF R.TBL_DTAG F.TBL_DTAG_READY 0 (clearWords a (a + n) s)
  | 25 => reloadBank 25 (inBank 25) s
  | 26 => clearWords a (a + n) s
  | 27 => applySettings (inBank 27) (applyEvents true (slotWords s) (clearWords a (a + n) s))
  | 28 => applySettings (inBank 28) (measure (slotWords s) (boardWords s) s)
  | _ => restartCore (if b < 10 then b - 2 else b - 10) b s

/-! ### The wake (R356) -/

/-- The bank's stored signature does not agree with its contents. -/
def bankBad (b : Nat) (s : State) : Bool :=
  s.pow.corrupt.contains b || s.pow.sigs.get (fun _ => 0) b != bankCrc b s + 1

/-- The bank is checked as its domain leaves retention: RETCNT, and RET_FAIL when it fails. -/
def checkBank (s : State) (b : Nat) : State :=
  let s' := incF R.SUB_RETCNT F.SUB_RETCNT_CHECKS 1 s
  if bankBad b s then
    subCond 4 (satF R.SUB_RETCNT F.SUB_RETCNT_FAILS 1 (setBit R.SUB_RETFAIL F.SUB_RETFAIL_BANK b true s'))
  else s'

/-- The banks whose signature is checked in this wake: those that have one and whose domain has not failed. -/
def signedBanks (s : State) : List Nat :=
  (List.range 29).filter fun b => s.pow.sigs.get (fun _ => 0) b != 0 && !domFailed (bankDomain b) s

/-- A retained word as the retention left it: `x` holds the bits that have changed. Bank 27 fails whichever bits
they are. -/
def upset (s : State) (x : Nat × Word) : State :=
  if (signedBanks s).any fun b => inBank b x.1 then
    let s := when (inBank 27 x.1 && x.2 != 0#40) (fun s => putPow { s.pow with corrupt := 27 :: s.pow.corrupt } s) s
    wr x.1 (rd x.1 s ^^^ x.2) s
  else s

/-- The exits from self-refresh, but for the stacks that partial-array self-refresh keeps in it (R140, R141). -/
def stackExits (s : State) : List LoadStep :=
  if isSet R.SDG_PASR F.SDG_PASR_ACTIVE s then []
  else ((List.range 8).filter fun k => stackState k s == 3).map .exit

/-- The lanes at the wake: a parked lane enters HANDSHAKE, the others start from DARK (R50, Table 14.7). DESIGN CHOICE:
a parked lane in one-way mode enters HANDSHAKE too, log entry 103; PARKED fillers still to leave are cut, log entry 104. -/
def laneWake (s : State) (i : Nat) : State :=
  let s := cutParks s i
  if laneState i s = 3 ∧ isSet (R.TRK_STATE i) F.TRK_STATE_PARKED s then laneChange i 4 15 s
  else tryLeaveDark i (settleLane i (setF (R.TRK_STATE i) F.TRK_STATE_HOLDOFF 0 s))

/-- The cause that a wake would now have: the recorded one, or a request for Standing or Running. -/
def wakeWanted (s : State) : Option Nat :=
  match s.wakeReq with
  | some c => some c
  | none => if pendOf s = 1 ∨ pendOf s = 2 then some 6 else none

def noteTry (cause : Nat) (s : State) : State :=
  s |> setF R.LMP_WAKEREC F.LMP_WAKEREC_CAUSE cause |> setF R.LMP_WAKEREC F.LMP_WAKEREC_TRY (s.pow.tries + 1)

/-- A wake may start: Halt or Laid-up, no aborted attempt waits, and the cause is the one wanted. -/
def wakeDue (cause : Nat) (s : State) : Bool :=
  (pstate s == 3 || pstate s == 4) && !s.pow.aborted && wakeWanted s == some cause

/-- Steps 1 and 2: regulators and PLLs, which a wake from Halt does not run (R356). -/
def fullSteps (s : State) : State := settleSetpoints (pllsLocked s)

/-- WAKE_TO_STANDING: `upsets` names the retained words that come back changed. The reload of a failed bank comes in
Standing, before the data-plane reset that ends the wake (R19). -/
def wakeToStanding (cause : Nat) (upsets : List (Nat × Word)) (s : State) : State :=
  if !wakeDue cause s then s
  else
    let laid := pstate s == 4
    let s := beginTransit (noteTry cause (upsets.foldl upset s))
    let bad := (signedBanks s).filter fun b => bankBad b s
    let s := (signedBanks s).foldl checkBank s
    let s := powerDomains ((List.range 18).map (· + 1)) (stackExits s) (when laid fullSteps s)
    let again := s.pow.lost
    let s := wakeDone (putPow { s.pow with
        sigs := [], corrupt := [], watch := false, late := false, lost := false, tries := 0 }
      { s with wakeReq := none })
    let s := yardLost (clearWatch s)
    let s := bad.foldl repairBank (endTransit 2 (stopPlane s))
    let s := rateDue ((List.range 84).foldl laneWake (dataPlaneReset (when again replan s)))
    if 7 ≤ cause && isSet R.SUB_CTRL F.SUB_CTRL_WAKE_RUN s && planValid s && pendOf s == 0 then (requestState 1 s).2
    else s

/-! ### Wakes that fail (R357, R358) -/

/-- A wake is aborted: no domain has been powered, and the state returns to where it was. -/
def abortWake (evt : Option Nat) (s : State) : State :=
  let from_ := pstate s
  let s := noteTry ((wakeWanted s).getD (getF R.LMP_WAKEREC F.LMP_WAKEREC_CAUSE s)) s
  let s := when (from_ != 0) beginTransit s
  let s := match evt with | some b => subCond b s | none => s
  let s := putPow { s.pow with aborted := true, tries := s.pow.tries + 1 } s
  if from_ = 0 then s else setPstate from_ (setF R.SUB_STATE F.SUB_STATE_BUSY 0 s)

/-- Steps 1 and 2 run in a boot and in a wake from Laid-up. -/
def fullWakeDue (s : State) : Bool :=
  !s.pow.aborted && (pstate s == 0 || (pstate s == 4 && (wakeWanted s).isSome))

/-- A SUB_PGr is awaited: in the boot of a power-on or Off exit that of a keepsake entry with ROLE SETPOINT, later that
of an enabled SUB_REGr (R356, R417). -/
def pgAwaited (s : State) : Bool :=
  let c := getF R.LMP_RSTREC F.LMP_RSTREC_CAUSE s
  if pstate s = 0 ∧ (c = 1 ∨ c = 5) then (List.range 4).any fun n => aoRole n s == 1
  else (List.range 4).any fun n => isSet (R.SUB_REG n) F.SUB_REG_EN s

def regulatorTimeout (s : State) : State := if fullWakeDue s && pgAwaited s then abortWake (some 1) s else s
def pllLockTimeout (s : State) : State := if fullWakeDue s then abortWake (some 2) s else s

/-- SUBPGX_TIMEOUT: SUB_ENX rises in a power-on or Off-exit wake (R416). -/
def subpgxTimeout (s : State) : State :=
  let c := getF R.LMP_RSTREC F.LMP_RSTREC_CAUSE s
  if pstate s = 0 ∧ !s.pow.aborted ∧ (c = 1 ∨ c = 5) then abortWake (some 1) s else s

/-- WAKE_RETRY, 1 s after an aborted wake. -/
def wakeRetry (s : State) : State :=
  if !s.pow.aborted then s
  else if s.pow.tries < getF R.SUB_WAKETMO F.SUB_WAKETMO_TRIES s then
    putPow { s.pow with aborted := false } s
  else
    subCond 5 (setF R.LMP_WAKEREC F.LMP_WAKEREC_FAILED 1
      (when (pendOf s == 1 || pendOf s == 2) (setPend 0)
        (putPow { s.pow with aborted := decide (pstate s = 0), tries := if pstate s = 0 then s.pow.tries else 0 }
          { s with wakeReq := none })))

/-- DOMAIN_READY_TIMEOUT, in a boot or a wake. Departure tracks that a wake loses make the Depot choose anew (R23). -/
def domainReadyTimeout (d : Nat) (s : State) : State :=
  if 19 ≤ d then districtReadyTimeout (d - 19) s
  else if d = 0 ∨ s.pow.aborted = true ∨ domFailed d s ∨ ¬ (pstate s = 0 ∨ (wakeWanted s).isSome) ∨ ¬ (pstate s = 0 ∨ pstate s = 3 ∨ pstate s = 4) then s
  else if d = 1 then abortWake none s
  else
    let s := setF (R.SUB_DOM d) F.SUB_DOM_FAILED 1 s
    if 11 ≤ d then failStack (d - 11) s
    else requestStep (.down d) s |> fun s => subCond 3 (when (decide (7 ≤ d) && pstate s != 0) (fun s => putPow { s.pow with lost := true } s) s)

/-! ### Resets (R363-R366) -/

/-- The straps as the Lamp room samples them (R414). -/
def sampleStraps (mode : Bool) (adr : Nat) (s : State) : State :=
  s |> setF R.MGT_CFG F.MGT_CFG_MODE (b2n mode) |> setF R.MGT_CFG F.MGT_CFG_ADR adr

/-- The regulators that R417 awaits have brought SUB_PGr high. -/
def bootRegulators (s : State) : State :=
  (List.range 4).foldl (fun s n => setF (R.SUB_REG n) F.SUB_REG_PG (b2n (aoRole n s == 1)) s) s

/-- A power-on reset or an Off exit: the Lamp room restarts too, and the boot follows as BOOT. The Lamp room samples the
straps and reads the keepsake's entries of the outputs (R370, R386, R414). -/
def powerUp (cause : Nat) (env : PowerEnv) (s : State) : State :=
  let z := resetAll s
  { z with dep := { z.dep with kpsBad := env.kpsBad.map (·.val) } }
    |> sampleStraps env.mode env.adr.val
    |> (fun s => (List.range 4).foldl (fun s n => aoPowerUp n s) s)
    |> resetRecord cause
    |> drawNonce
    |> bootRegulators
    |> lampUp

def powerOnReset (env : PowerEnv) (s : State) : State := powerUp 1 env s

/-- OFF_EXIT: WAKE_N or RESET_N in Off. -/
def offExit (env : PowerEnv) (s : State) : State := if pstate s = 5 then powerUp 5 env s else s

/-- WAKE_N low for `ms` milliseconds, spanning `edges` LCLK edges; `env` is what an Off exit meets. -/
def wakeNLow (ms edges : Nat) (env : PowerEnv) (s : State) : State :=
  if pstate s = 5 then (if 1 ≤ ms then offExit env s else s) else wakePin edges s

/-- RESET_N in a state other than Off: every master is reset with the rest (R286). -/
def pinReset (s : State) : State := fullReset 2 false (mastersReset s)

/-- RESET_N low for `ns` nanoseconds (R423): from 1 to 10 microseconds a reset or nothing, left open. -/
def resetNLow (ns : Nat) (env : PowerEnv) (s : State) : State :=
  if ns < 1000 then s
  else if 10000 ≤ ns then (if pstate s = 5 then offExit env s else pinReset s)
  else
    let t := { s with free := s.free + 1 }
    if Config.resetGlitch s.free then (if pstate s = 5 then offExit env t else pinReset t) else t

/-- SBX_WATCHDOG (R271, R364): without RESIGN, the stacks enter self-refresh before the reset. -/
def sbxWatchdog (s : State) : State :=
  if getF (R.DSP_WDOG 8) F.DSP_WDOG_TIMEOUT s = 0 then s else fullReset 3 true (quiesce (mastersReset (raise (ev 12 33) s)))

/-- FULL_RESET (R332, R364). -/
def hostReset (s : State) : State := fullReset 4 true (quiesce (mastersReset (resignNow s)))

/-- CRYSTAL_SWITCH (R418). -/
def crystalSwitch (s : State) : State := if s.pow.crystal = 0 then putPow { s.pow with crystal := 1 } s else s

/-- CRYSTAL_TIMEOUT: LCLK stays on the RC oscillator, and clock monitor 6 fails. -/
def crystalTimeout (s : State) : State :=
  if s.pow.crystal = 0 then clockResult 6 true (clockResult 6 true (putPow { s.pow with crystal := 2 } s)) else s

/-- VAON_LOSS: the Lamp room stops, and IRQ_N is released (R291). -/
def vaonLoss (s : State) : State := setF R.SUB_STATE F.SUB_STATE_STATE 5 (resetAll s)

/-! ### The Signal Box's release (R269, Table 10.13 steps 3-5) -/

/-- SBX_RESTARTED: firmware from the image copy when its hash holds, from flash otherwise. -/
def sbxRestarted (s : State) : State :=
  if 1 ≤ sbxState s ∧ sbxState s ≤ 3 then raise (ev 12 34) (setSbx 4 (coreStart 8 (reloadFirmware 8 s))) else s

/-! ### The commands -/

def execWakeToStanding (cause : Fin 10) (upsets : List (Nat × Word)) (s : State) : Out :=
  .next (wakeToStanding cause.val upsets s)
def execRegulatorTimeout (s : State) : Out := .next (regulatorTimeout s)
def execPllLockTimeout (s : State) : Out := .next (pllLockTimeout s)
def execSubpgxTimeout (s : State) : Out := .next (subpgxTimeout s)
def execDomainReadyTimeout (d : Fin 35) (s : State) : Out := .next (domainReadyTimeout d.val s)
def execWakeRetry (s : State) : Out := .next (wakeRetry s)
def execWakeNLow (ms edges : Nat) (env : PowerEnv) (s : State) : Out := .next (wakeNLow ms edges env s)
def execResetNLow (ns : Nat) (env : PowerEnv) (s : State) : Out := .next (resetNLow ns env s)
def execPowerOnReset (env : PowerEnv) (s : State) : Out := .next (powerOnReset env s)
def execOffExit (env : PowerEnv) (s : State) : Out := .next (offExit env s)
def execCrystalSwitch (s : State) : Out := .next (crystalSwitch s)
def execCrystalTimeout (s : State) : Out := .next (crystalTimeout s)
def execVaonLoss (s : State) : Out := .next (vaonLoss s)
def execSbxWatchdog (s : State) : Out := .next (sbxWatchdog s)
def execSbxRestarted (s : State) : Out := .next (sbxRestarted s)

end Sys2Proof.Machine
end

