-- ==== Sys2Proof/Machine/Mgmt.lean ====
section
/-!
DEFINITION. The management port (R295-R303): request and response frames, the commands of Table 11.7, the wait
for the Signal Box, and the summary that CONSIST returns.
-/
namespace Sys2Proof.Machine

def putMgt (x : Mgmt) (s : State) : State := { s with mgt := x }

/-! ### Frames (Table 11.6) -/

def frameOp (f : List Word) : Nat := bitsOf (f.headD 0#40) 32 8
def frameTag (f : List Word) : Nat := bitsOf (f.headD 0#40) 24 8
def frameLen (f : List Word) : Nat := bitsOf (f.headD 0#40) 12 12
def frameAddr (f : List Word) : Nat := bitsOf (f.getD 1 0#40) 12 28
/-- The payload of a request. -/
def framePay (f : List Word) : List Word := (f.drop 2).dropLast

/-- Bytes as words, most significant byte first; the list must hold whole words. -/
def wordsOf (bs : List Nat) : List Word := (chunks 5 bs.length bs).map fun c => BitVec.ofNat 40 (bytesNat c)

/-- Words of a request whose NWORDS is `n`: a READ carries no payload (Table 11.7). -/
def requestWords (op n : Nat) : Nat := if op = 1 then 3 else 3 + n

/-- The CRC-32 of every byte before the last word. -/
def frameCrc (f : List Word) : Nat := crc32 (wordsBytes f.dropLast)

/-- The length agrees with NWORDS and the CRC holds (R296). -/
def frameOk (bs : List Nat) : Bool :=
  let f := wordsOf bs
  bs.length % 5 == 0 && 3 ≤ f.length && f.length == requestWords (frameOp f) (frameLen f)
    && bitsOf (f.getLastD 0#40) 0 32 == frameCrc f

/-- STATUS codes of a response. -/
inductive MgtStatus where
  | ok | badOp | badLen | decerr | asleep | timeout | notLead | noSbx | denied
  deriving DecidableEq, Repr

def MgtStatus.code : MgtStatus → Nat
  | .ok => 0 | .badOp => 1 | .badLen => 2 | .decerr => 3 | .asleep => 4 | .timeout => 5 | .notLead => 6 | .noSbx => 7
  | .denied => 8

/-- The response frame. -/
def responseFrame (f : List Word) (st : MgtStatus) (addr : Nat) (pay : List Word) : List Word :=
  let h := [BitVec.ofNat 40 (frameOp f * 2 ^ 32 + frameTag f * 2 ^ 24 + pay.length % 4096 * 2 ^ 12 + st.code * 2 ^ 4),
            BitVec.ofNat 40 (addr % 2 ^ 28 * 2 ^ 12)] ++ pay
  h ++ [BitVec.ofNat 40 (crc32 (wordsBytes h))]

/-- The command ends with a response; DENIED raises MGT_DENIED (R304). -/
def answerAt (f : List Word) (st : MgtStatus) (addr : Nat) (pay : List Word) (s : State) : State :=
  putMgt { s.mgt with req := none, resp := some (responseFrame f st addr pay) } s
    |> when (st == .denied) (flagAll R.MGT_STATUS F.MGT_STATUS_DENIED 0 (ev 13 17))

def answer (f : List Word) (st : MgtStatus) (pay : List Word) (s : State) : State := answerAt f st (frameAddr f) pay s

/-! ### Selectors (R296) -/

/-- A frame is discarded, with FERR. -/
def frameDiscard (fld : Fld) (e : Nat) (s : State) : State :=
  incF R.MGT_CNT F.MGT_CNT_DISCARDED 1 (flagAll R.MGT_STATUS fld 0 (ev 13 e) (putMgt { s.mgt with ferr := true } s))

def opKnown (op : Nat) : Bool :=
  [0x01, 0x02, 0x03, 0x04, 0x05, 0x10, 0x11, 0x12, 0x20, 0x21, 0x22].contains op

/-- REQUEST_FRAME_WRITE: the bytes after selector 0x01. An OP that Table 11.7 does not list ends at once. -/
def requestFrame (bs : List Nat) (s : State) : State :=
  if pstate s = 5 then s
  else if s.mgt.req.isSome then frameDiscard F.MGT_STATUS_OVERRUN 18 s
  else
    let s := putMgt { s.mgt with resp := none } s
    if !frameOk bs then frameDiscard F.MGT_STATUS_FRAME 16 s
    else
      let f := wordsOf bs
      let s := incF R.MGT_CNT F.MGT_CNT_ACCEPTED 1 (putMgt { s.mgt with req := some f, ferr := false }
        { s with dep := { s.dep with ahead := false } })
      if opKnown (frameOp f) then s else answer f .badOp [] s

/-- STATUS_SELECTOR: one byte, BUSY, RDY and FERR. -/
def statusSelector (s : State) : State :=
  if pstate s = 5 then s
  else putMgt { s.mgt with out := [BitVec.ofNat 8 (b2n s.mgt.req.isSome + 2 * b2n s.mgt.resp.isSome + 4 * b2n s.mgt.ferr)] } s

/-- RESPONSE_READ of n bytes: the frame from its first byte, then zeros; its final byte clears RDY. -/
def responseRead (n : Nat) (s : State) : State :=
  if pstate s = 5 then s
  else
    let bs := wordsBytes (s.mgt.resp.getD [])
    let out := (List.range n).map fun k => BitVec.ofNat 8 (bs.getD k 0)
    putMgt { s.mgt with out := out, resp := if bs.length ≤ n then none else s.mgt.resp } s

/-! ### Which commands run (R298, R300) -/

/-- The command cannot run in this power state. -/
def opAsleep (op : Nat) (s : State) : Bool :=
  let low := pstate s == 3 || pstate s == 4
  !(op == 0x04 || op == 0x05 || op == 0x20) && (low || (pstate s == 0 && op != 0x01))

/-- The command of the accepted frame is run by `run` when its OP is `op` and NWORDS passes `lenOk`. -/
def runOp (op : Nat) (lenOk : Nat → Bool) (run : List Word → State → State) (s : State) : State :=
  match s.mgt.req with
  | none => s
  | some f =>
    if frameOp f ≠ op ∨ pstate s = 5 then s
    else if opAsleep op s then answer f .asleep [] s
    else if !lenOk (frameLen f) then answer f .badLen [] s
    else run f s

/-! ### READ and WRITE -/

def respStatus (code : Nat) : MgtStatus :=
  match code with | 0 => .ok | 1 => .decerr | 2 => .asleep | _ => .timeout

/-- Bursts of up to 16 words until the first error: its code and address, and the words completed. Of burst `late`
the target does not respond in time (R282). -/
def mgtReads (late : Option Nat) : Nat → Nat → Nat → List Word → State → (Nat × Nat × List Word) × State
  | 0, a, _, acc, s => ((0, a, acc), s)
  | _, a, 0, acc, s => ((0, a, acc), s)
  | fuel + 1, a, n, acc, s =>
    let k := Nat.min 16 n
    if late = some 0 then ((3, a, acc), noteError 10 a 3 false (countIssue 10 s)) else
    let (b, s) := burstRead 10 a k {} (countIssue 10 s)
    if b.code = 0 then mgtReads (late.map (· - 1)) fuel (a + k) (n - k) (acc ++ b.data) s
    else ((b.code, b.fail.getD a, acc ++ b.data.take b.good), s)

def mgtWrites (late : Option Nat) : Nat → Nat → List Word → Nat → State → (Nat × Nat × Nat) × State
  | 0, a, _, done, s => ((0, a, done), s)
  | _, a, [], done, s => ((0, a, done), s)
  | fuel + 1, a, ws, done, s =>
    let part := ws.take 16
    if late = some 0 then ((3, a, done), noteError 10 a 3 true (lateWrite 10 a part (countIssue 10 s))) else
    let (b, s) := burstWrite 10 a part {} (countIssue 10 s)
    if b.code = 0 then mgtWrites (late.map (· - 1)) fuel (a + part.length) (ws.drop 16) (done + part.length) s
    else ((b.code, b.fail.getD a, done + b.good), s)

/-- The command's bursts before the late one meet a stack that trains: the command waits (R137). -/
def opWaits (late : Option Nat) (f : List Word) (s : State) : Bool :=
  p3WaitsAny 10 (frameAddr f) (late.elim (frameLen f) fun b => Nat.min (frameLen f) (16 * b)) s

/-- A READ accepted before the CTRL domain runs returns ASLEEP (R300). -/
def readRun (late : Option Nat) (f : List Word) (s : State) : State :=
  if domState 1 s < 2 then answer f .asleep [] s else
  if opWaits late f s then s else
  let (r, s) := mgtReads late (frameLen f) (frameAddr f) (frameLen f) [] s
  answerAt f (respStatus r.1) (if r.1 = 0 then frameAddr f else r.2.1) r.2.2 s

def writeRun (late : Option Nat) (f : List Word) (s : State) : State :=
  if !isSet R.MGT_CFG F.MGT_CFG_WRITE_EN s then answer f .denied [] s
  else if opWaits late f s then s
  else
    let (r, s) := mgtWrites late (frameLen f) (frameAddr f) (framePay f) 0 s
    answerAt f (respStatus r.1) (if r.1 = 0 then frameAddr f else r.2.1) [] s

/-- READ. -/
def mgtRead (late : Option Nat) (s : State) : State := runOp 0x01 (fun n => decide (1 ≤ n)) (readRun late) s
/-- WRITE. -/
def mgtWrite (late : Option Nat) (s : State) : State := runOp 0x02 (fun n => decide (1 ≤ n)) (writeRun late) s

/-! ### Commands that need the Signal Box (R301) -/

def sbxRuns (s : State) : Bool := (coreOf 8 s).mode == 1 || (coreOf 8 s).mode == 2
def sbxReady (s : State) : Bool := sbxState s == 0 && sbxRuns s

/-- Locked out, or in recovery, where no core runs (R270, R402). -/
def sbxGone (s : State) : Bool := sbxState s == 5 || isSet R.DEP_STATE F.DEP_STATE_RECOVERY s

/-- The Signal Box takes the command when it is in service; until then the command waits. -/
def withSbx (run : List Word → State → State) (f : List Word) (s : State) : State :=
  if sbxGone s then answer f .noSbx [] s else if sbxReady s then run f s else s

/-- SBX_WAIT_TIMEOUT, 200 ms after the frame's acceptance. -/
def sbxWaitTimeout (s : State) : State :=
  match s.mgt.req with
  | some f => if (frameOp f = 0x03 ∨ frameOp f = 0x10) ∧ ¬ sbxReady s then answer f .noSbx [] s else s
  | none => s

/-! ### CONFIG_WRITE (R302) -/

/-- Words applied as a setting of the host: recorded in the crash record. -/
def recordSetting (a : Nat) (ws : List Word) (s : State) : State :=
  { s with crash := { s.crash with settings := s.crash.settings ++ [(a, ws)] } }

/-- The words are written as a WRITE would; those that completed are the change. -/
def configRun (late : Option Nat) (f : List Word) (s : State) : State :=
  if isBanker s then answer f .notLead [] s
  else if opWaits late f s then s
  else
    let (r, s) := mgtWrites late (frameLen f) (frameAddr f) (framePay f) 0 s
    let ws := (framePay f).take r.2.2
    let seq := (getF R.MGT_CSEQ F.MGT_CSEQ_CSEQ s + 1) % 2 ^ 16
    let s := if ws.isEmpty then s else
      recordSetting (frameAddr f) ws s
        |> setF R.MGT_CSEQ F.MGT_CSEQ_CSEQ seq
        |> setF R.MGT_CSEQ F.MGT_CSEQ_LAST_TAG (frameTag f)
        |> mirrorChange seq (frameTag f) (frameAddr f) ws
        |> flagAll R.MGT_STATUS F.MGT_STATUS_CFGW 0 (ev 13 19)
    answerAt f (respStatus r.1) (if r.1 = 0 then frameAddr f else r.2.1) [] s

def configWrite (late : Option Nat) (s : State) : State :=
  runOp 0x03 (fun n => decide (1 ≤ n)) (withSbx (configRun late)) s

/-! ### STATUS and SET_STATE (R299, R352) -/

def statusWord (s : State) : Word :=
  BitVec.ofNat 40 (pstate s + b2n (sbxState s == 0) * 2 ^ 3 + b2n (irqAsserted s) * 2 ^ 4
    + getF R.LMP_WAKEREC F.LMP_WAKEREC_CAUSE s * 2 ^ 5)

def mgtStatus (s : State) : State := runOp 0x04 (· == 0) (fun f s => answer f .ok [statusWord s] s) s

def setStateRun (f : List Word) (s : State) : State :=
  let (ok, s) := requestState (bitsOf ((framePay f).headD 0#40) 0 3) s
  answer f (if ok then .ok else .denied) [] s

def mgtSetState (s : State) : State := runOp 0x05 (· == 1) setStateRun s

/-! ### CONSIST (Table 11.9) -/

/-- A 48-bit index in two words with VALID. -/
def indexWords (x : Nat) (valid : Bool) : List Word :=
  [BitVec.ofNat 40 x, BitVec.ofNat 40 (x / 2 ^ 40 % 256 + b2n valid * 256)]

/-- JOPEN [47:40] of a rake. -/
def jopenHigh (g : Nat) (s : State) : Nat :=
  let low := getF (R.JCT_RAKE g) F.JCT_RAKE_JOPEN s
  ((spansOf g s).reverse.find? fun x => x.1 % 2 ^ 40 == low).elim 0 (·.1 / 2 ^ 40 % 256)

def rakeWords (s : State) (g : Nat) : List Word :=
  let r := R.JCT_RAKE g
  [BitVec.ofNat 40 (getF r F.JCT_RAKE_JOPEN s),
   BitVec.ofNat 40 (jopenHigh g s + getF r F.JCT_RAKE_DEF s * 2 ^ 8 + getF r F.JCT_RAKE_OPEN s * 2 ^ 9
     + getF r F.JCT_RAKE_FMT s * 2 ^ 10 + getF r F.JCT_RAKE_ROUTE s * 2 ^ 11 + getF r F.JCT_RAKE_DUMPS s % 2 ^ 25 * 2 ^ 15)]

def bankWord (s : State) : Word :=
  BitVec.ofNat 40 (getF R.PTS_CTRL F.PTS_CTRL_CBANK s + getF R.PTS_CTRL F.PTS_CTRL_GBANK s * 2
    + getF R.PTS_CTRL F.PTS_CTRL_PBANK s * 2 ^ 2 + getF R.TBL_CTRL F.TBL_CTRL_GBANK s * 2 ^ 3
    + getF R.TBL_CTRL F.TBL_CTRL_DBANK s * 2 ^ 4 + getF R.PTS_GCTL F.PTS_GCTL_MODE s * 2 ^ 5
    + getF R.TTB_STATE F.TTB_STATE_QIN s * 2 ^ 7 + getF R.TTB_STATE F.TTB_STATE_QLOC s * 2 ^ 13
    + getF R.TTB_STATE F.TTB_STATE_DPR_PEND s * 2 ^ 18)

def enableWord (s : State) : Word :=
  BitVec.ofNat 40 (((List.range 16).map fun r => getF (R.TMN_ROUTE r) F.TMN_ROUTE_EN s * 2 ^ r).sum
    + getF R.TMN_CTRL F.TMN_CTRL_EN s * 2 ^ 16 + getF R.TBL_CTRL F.TBL_CTRL_EN s * 2 ^ 17
    + getF R.JCT_CTRL F.JCT_CTRL_EN s * 2 ^ 18 + getF R.PTS_CTRL F.PTS_CTRL_EN s * 2 ^ 19
    + getF R.SDG_CTRL F.SDG_CTRL_EN s * 2 ^ 20 + getF R.GAU_CFG F.GAU_CFG_EN s * 2 ^ 21)

def laneWord (s : State) (w : Nat) : Word :=
  BitVec.ofNat 40 (((List.range 12).map fun i => laneState (12 * w + i) s * 2 ^ (3 * i)).sum)

/-- The 81 words; the front is read once, so F0 = F1. -/
def consistWords (s : State) : List Word :=
  let w := fun n : Nat => BitVec.ofNat 40 n
  let front := indexWords (frontNow s) (frontValid s)
  let key := get2 R.TTB_DPR F.TTB_DPR_KEY_LO F.TTB_DPR_KEY_HI s
  [w (2 ^ 32 + 0xB0 * 2 ^ 24 + bitsOf (kps 1 s) 18 1 * 2 ^ 16 + twinId s), kps 0 s,
   w (pstate s + (if isTwin s then roleOf s else 0) * 2 ^ 3 + b2n (uncoupled s) * 2 ^ 5 + b2n (sealed s) * 2 ^ 6
     + b2n (isSet R.DEP_DBG F.DEP_DBG_SCOPE s) * 2 ^ 7 + getF R.DEP_STATE F.DEP_STATE_SLOT s * 2 ^ 8)]
  ++ measAt 0 s ++ front ++ front ++ indexWords (originNow s) (frontValid s)
  ++ [w (getF R.SDG_PERIOD F.SDG_PERIOD_M s),
      w (workMask s + getF R.SDG_STACKS F.SDG_STACKS_FAILED s * 2 ^ 8 + getF R.JCT_DISTRICT F.JCT_DISTRICT_READY s * 2 ^ 16)]
  ++ (List.range 8).flatMap (rakeWords s)
  ++ [bankWord s,
      w (getF R.MGT_CSEQ F.MGT_CSEQ_CSEQ s + getF R.MGT_CSEQ F.MGT_CSEQ_LAST_TAG s * 2 ^ 16),
      w (Config.settingsCrc s.crash.settings).toNat,
      w (getF R.BEL_LOGPOS F.BEL_LOGPOS_NEXT s % 2 ^ 16)]
  ++ indexWords key (key != 0)
  ++ (List.range 32).map (fun k => stsWord k s)
  ++ (List.range 7).map (laneWord s)
  ++ [enableWord s,
      w (sbxState s + getF (R.DSP_STATE 8) F.DSP_STATE_LSCOUNT s * 2 ^ 3
        + getF (R.DSP_STATE 8) F.DSP_STATE_RESTARTS s * 2 ^ 11)]

def consistRun (f : List Word) (s : State) : State := answer f .ok (consistWords s) s

def mgtConsist (s : State) : State := runOp 0x10 (· == 0) (withSbx consistRun) s

/-! ### ATTEST, DEBUG_CERT and the resets -/

def attestRun (f : List Word) (s : State) : State :=
  let (ws, s) := attest (framePay f) s
  answer f .ok ws s

/-- The Depot takes the command once the flash command that came before it has ended (R405). -/
def whenServed (run : List Word → State → State) (f : List Word) (s : State) : State :=
  if signBehind s then s else run f s

def mgtAttest (s : State) : State := runOp 0x11 (· == 8) (whenServed attestRun) s

def certRun (f : List Word) (s : State) : State :=
  let (ok, s) := debugCertTake (framePay f) s
  answer f (if ok then .ok else .denied) [] s

def mgtDebugCert (s : State) : State := runOp 0x12 (· == 160) (whenServed certRun) s

/-- An accepted reset command raises MGT_RESET. -/
def resetAccepted (s : State) : State := flagAll R.MGT_STATUS F.MGT_STATUS_RESET 0 (ev 13 20) s

def fullResetRun (f : List Word) (s : State) : State :=
  if (framePay f).headD 0#40 = 0x5AA55A0001#40 then hostReset (resetAccepted (putMgt { s.mgt with req := none } s))
  else answer f .denied [] s

/-- FULL_RESET: no response is formed. -/
def mgtFullReset (s : State) : State := runOp 0x20 (· == 1) fullResetRun s

def mgtPlaneReset (s : State) : State :=
  runOp 0x21 (· == 0) (fun f s => answer f .ok [] (dataPlaneReset (resetAccepted s))) s

def trackResetRun (f : List Word) (s : State) : State :=
  let i := frameAddr f
  if 83 < i then answer f .decerr [] s else answer f .ok [] (settleLane i (trackReset i (resetAccepted s)))

def mgtTrackReset (s : State) : State := runOp 0x22 (· == 0) trackResetRun s

/-! ### The commands -/

def execRequestFrameWrite (bytes : List Byte) (s : State) : Out := .next (requestFrame (bytes.map (·.toNat)) s)
def execStatusSelector (s : State) : Out := .next (statusSelector s)
def execResponseRead (n : Nat) (s : State) : Out := .next (responseRead n s)
def execRead (late : Option Nat) (s : State) : Out := .next (mgtRead late s)
def execWrite (late : Option Nat) (s : State) : Out := .next (mgtWrite late s)
def execConfigWrite (late : Option Nat) (s : State) : Out := .next (configWrite late s)
def execStatus (s : State) : Out := .next (mgtStatus s)
def execSetState (s : State) : Out := .next (mgtSetState s)
def execConsist (s : State) : Out := .next (mgtConsist s)
def execAttest (s : State) : Out := .next (mgtAttest s)
def execDebugCert (s : State) : Out := .next (mgtDebugCert s)
def execFullReset (s : State) : Out := .next (mgtFullReset s)
def execDataPlaneReset (s : State) : Out := .next (mgtPlaneReset s)
def execTrackReset (s : State) : Out := .next (mgtTrackReset s)
def execSbxWaitTimeout (s : State) : Out := .next (sbxWaitTimeout s)

end Sys2Proof.Machine
end

