-- ==== Sys2Proof/Machine/Install.lean ====
section
/-!
DEFINITION. What a Banker receives: mirror transactions (R335-R337) and the join record with its install
(R341-R344); and the Signal Box's return to service, which takes the commits that waited.
-/
namespace Sys2Proof.Machine

/-! ### Mirror staging (R335, R336) -/

def clearStage (s : State) : State := putCpl { s.cpl with stage := [], stageCars := [] } s

/-- MDATA: its body goes to mirror staging; staged data of another CSEQ is discarded. -/
def mdata (cseq addr : Nat) (ws : List Word) (s : State) : State :=
  if !isBanker s || !coupled s then s
  else
    let s := if s.cpl.stageSeq = cseq then s else clearStage s
    let body := BitVec.ofNat 40 addr :: ws
    let s := when (homeReady s) (putReservedWords (25000000 + s.cpl.stageCars.length) body) s
    putCpl { s.cpl with stageSeq := cseq, stage := s.cpl.stage ++ [(addr, ws)], stageCars := s.cpl.stageCars ++ body } s

/-- MACK is sent. -/
def sendMack (cseq result : Nat) (s : State) : State :=
  queueAny [headCar 5 0 (result * 2 ^ 16 + cseq)] (setF R.CPL_MIRROR F.CPL_MIRROR_RESULT result s)

/-- The GO word of TTB_ENQ0. -/
def enqGoWord : Nat := R.TTB_ENQ 0 + F.TTB_ENQ_GO.sub

/-- Runs that follow one another at consecutive addresses, as one. -/
def joinRuns : List (Nat × List Word) → List (Nat × List Word)
  | [] => []
  | x :: t =>
    match joinRuns t with
    | y :: rest => if y.1 = x.1 + x.2.length then (x.1, x.2 ++ y.2) :: rest else x :: y :: rest
    | [] => [x]

/-- The words of a commit, through the MGT master; a write of TTB_ENQ0 that came too late is MIRROR_LATE. -/
def applyRun (s : State) (x : Nat × List Word) : State :=
  let s := (mgtWrites none x.2.length x.1 x.2 0 s).2
  let s := recordSetting x.1 x.2 s
  when (decide (x.1 ≤ enqGoWord ∧ enqGoWord < x.1 + x.2.length) && getF (R.TTB_ENQ 0) F.TTB_ENQ_RESULT s == 2) (cplCond 12) s

/-- The runs of commit `c`, one after the other; one whose words meet a stack in training waits with those behind it
(R137). -/
def applyRuns (c : Commit) : List (Nat × List Word) → State → State
  | [], s => s
    |> setF R.MGT_CSEQ F.MGT_CSEQ_CSEQ c.cseq
    |> setF R.MGT_CSEQ F.MGT_CSEQ_LAST_TAG c.tag
    |> setF R.CPL_MIRROR F.CPL_MIRROR_ACKED c.cseq
    |> sendMack c.cseq 1
  | x :: t, s =>
    if p3WaitsAny 10 x.1 x.2.length s then
      setF R.CPL_MIRROR F.CPL_MIRROR_PENDING 1 (putCpl { s.cpl with waitq := { c with runs := x :: t } :: s.cpl.waitq } s)
    else applyRuns c t (applyRun s x)

/-- A commit is applied whole, as CONFIG_WRITE applies its words (R302 steps 2 and 3): one setting of the host, as on the
Lead. -/
def applyCommit (c : Commit) (s : State) : State := applyRuns c (joinRuns c.runs) s

def nextSeq (s : State) : Nat := (getF R.MGT_CSEQ F.MGT_CSEQ_CSEQ s + 1) % 2 ^ 16

/-- A commit out of sequence (R337). -/
def mirrorGap (cseq : Nat) (s : State) : State := waitJoin (cplCond 5 (sendMack cseq 3 s))

/-- A commit that waited: applied when it is the next one, acknowledged when the install already carried it, and otherwise
out of sequence. -/
def takeCommit (c : Commit) (s : State) : State :=
  let ahead := (c.cseq + 2 ^ 16 - getF R.MGT_CSEQ F.MGT_CSEQ_CSEQ s) % 2 ^ 16
  if ahead = 1 then applyCommit c s
  else if ahead = 0 ∨ 2 ^ 15 ≤ ahead then sendMack c.cseq 1 s
  else mirrorGap c.cseq s

/-- Commits in order, until one waits for a stack in training. -/
def takeCommits : List Commit → State → State
  | [], s => setF R.CPL_MIRROR F.CPL_MIRROR_PENDING 0 s
  | c :: t, s =>
    let s := takeCommit c s
    if s.cpl.waitq.isEmpty then takeCommits t s else putCpl { s.cpl with waitq := s.cpl.waitq ++ t } s

/-- Every commit that waits, in order. -/
def takeWaiting (s : State) : State := takeCommits s.cpl.waitq (putCpl { s.cpl with waitq := [] } s)

/-- A join is under way. -/
def joining (s : State) : Bool := jstate s == 2 || jstate s == 3

/-- MCOMMIT. -/
def mcommit (cseq tag crc count : Nat) (s : State) : State :=
  if !isBanker s || !coupled s then s
  else
    let runs := if s.cpl.stageSeq = cseq then s.cpl.stage else []
    let cars := if s.cpl.stageSeq = cseq then s.cpl.stageCars else []
    let s := clearStage s
    let c : Commit := ⟨cseq, tag, runs⟩
    if crc32 (wordsBytes cars) ≠ crc ∨ (runs.map fun x => x.2.length).sum ≠ count then
      cplCond 4 (sendMack cseq 2 s)
    else if joining s then
      setF R.CPL_MIRROR F.CPL_MIRROR_PENDING 1 (putCpl { s.cpl with waitq := s.cpl.waitq ++ [c] } s)
    else if cseq ≠ nextSeq s then mirrorGap cseq s
    else if sbxReady s then applyCommit c s
    else setF R.CPL_MIRROR F.CPL_MIRROR_PENDING 1 (putCpl { s.cpl with waitq := [c] } s)

/-! ### The join record (R341, R342) -/

/-- JDATA: a run is staged, under its run number; the Lead's front may reach J first. -/
def jdata (run addr : Nat) (ws : List Word) (s : State) : State :=
  if !isBanker s || !coupled s || !joining s then s
  else putCpl { s.cpl with cut := s.cpl.cut ++ [(run * 2 ^ 28 + addr, ws)]
                           cutCars := s.cpl.cutCars ++ (BitVec.ofNat 40 addr :: ws) } s

/-- The defined bits of word `a` of a window, counted from bit 0; 0 for a word that no window holds, for the HBM, and for
the keepsake, whose bits no install changes (R5, R386; Tables 4.9, 8.6, 9.6, 16.16 and the windows of 05 to 12). -/
def windowWidth (a : Nat) : Nat :=
  if (coreMemory a).isSome then 40
  else match a / 0x10000 with
  | 0x100 =>
    if 0x1000100 ≤ a ∧ a < 0x1000200 then (if a % 4 = 1 then 22 else 40)
    else if 0x1001000 ≤ a ∧ a < 0x1001080 then 40
    else if 0x1008000 ≤ a ∧ a % 4 ≠ 3 then 40 else 0
  | 0x101 => if 0x1012000 ≤ a ∧ a < 0x1012400 then (if a % 2 = 0 then 28 else 40) else 0
  | 0x104 => if 0x1041000 ≤ a ∧ a < 0x1041100 ∨ measBase ≤ a ∧ a < measBase + 0x63 then 40 else 0
  | 0x300 => if 0x3001000 ≤ a ∧ a < 0x3001400 then 18 else 0
  | 0x301 => 40
  | 0x302 => if a < 0x3028000 ∧ a % 4 ≠ 3 then 40 else 0
  | 0x303 => if a % 8 < 6 then 40 else if a % 8 = 6 then 1 else 0
  | 0x304 => if a % 8 < 6 then 40 else if a % 8 = 6 then 1 else 0
  | 0x402 => 12
  | 0x403 => 12
  | 0x500 => if 0x5002100 ≤ a ∧ a < 0x5002180 then 40 else 0
  | 0x508 => if 0x5080100 ≤ a ∧ a < 0x5080140 then (if a % 4 = 0 then 27 else if a % 4 = 3 then 16 else 40) else 0
  | 0x601 => if a < 0x6018000 then 40 else 0
  | b => if 0x330 ≤ b ∧ b < 0x340 then 32 else if 0x340 ≤ b ∧ b < 0x360 then 24 else 0

/-- The bits of word `a` that the manual defines: of a register its fields, of a window its content (R5). -/
def definedBits (a : Nat) (w : Word) : Word :=
  match regDef a with
  | some d => d.fields.foldl (fun x f => putBits x f.fld.lo f.fld.w (bitsOf w f.fld.lo f.fld.w)) 0#40
  | none => keepBits a (a % 4) (2 ^ windowWidth a) w

/-- Fields of word `a` that the install takes from `w`: of the bank selections and ready marks only these. -/
def installField (a : Nat) (f : Fld) (w : Word) (s : State) : State := setF a f (bitsOf w f.lo f.w) s

/-- One word of the cut, whatever its access type or bank protection. -/
def installWord (a : Nat) (w : Word) (s : State) : State :=
  if 0x3080000 ≤ a ∧ a < 0x30C0000 then
    wr (gainBase (getF R.PTS_GPAGE F.PTS_GPAGE_BANK s) + getF R.PTS_GPAGE F.PTS_GPAGE_HALF s * 0x40000 + (a - 0x3080000))
      (BitVec.ofNat 40 (w.toNat % 2 ^ 32)) s
  else if a = R.PTS_CTRL then installField a F.PTS_CTRL_CBANK w (installField a F.PTS_CTRL_GBANK w s)
  else if a = R.PTS_BANKS then installField a F.PTS_BANKS_CRDY w (installField a F.PTS_BANKS_GRDY w s)
  else if a = R.TBL_CTRL then installField a F.TBL_CTRL_GBANK w s
  else if a = R.TBL_BANKS then installField a F.TBL_BANKS_GRDY w s
  else if a = dsetMem 0 0 7 ∨ a = dsetMem 1 0 7 then
    { s with pts := { s.pts with setT0 := s.pts.setT0.set (fun _ => 0) ((a - dsetMem 0 0 7) / 0x10000) w.toNat } }
  else if a = dsetMem 0 1 7 ∨ a = dsetMem 1 1 7 then
    let k := (a - dsetMem 0 1 7) / 0x10000
    let t0 := s.pts.setT0.get (fun _ => 0) k % 2 ^ 40
    { s with pts := { s.pts with setT0 := s.pts.setT0.set (fun _ => 0) k (t0 + bitsOf w 0 8 * 2 ^ 40)
                                 setSpan := s.pts.setSpan.set (fun _ => 0) k (bitsOf w 8 32) } }
  else if (regDef a).isNone && windowWidth a == 0 then s
  else if R.SDG_CAP 0 ≤ a ∧ a < R.SDG_CAP 4 ∧ a % 4 = 0 then wr a w s
  else wr a (definedBits a w) s

def installWords (s : State) (x : Nat × List Word) : State :=
  x.2.zipIdx.foldl (fun s w => installWord (x.1 + w.2) w.1 s) s

/-- The queue as its words show it (Table 9.6); the high bits of a stamp are those of its key, or one less. -/
def queueEntry (s : State) (k : Nat) : Option Entry :=
  let a := queueAddr k
  let w := fun n => rd (a + n) s
  let key := (w 0).toNat + bitsOf (w 1) 0 8 * 2 ^ 40
  let sig := key / 2 ^ 40 * 2 ^ 40 + (w 3).toNat
  let sigma := if key < sig then sig - 2 ^ 40 else sig
  if bitsOf (w 1) 20 1 = 0 then none
  else some ⟨k, key, bitsOf (w 1) 8 8, (w 2).toNat, bitsOf (w 1) 16 4, if k < 48 then sigma else 0, false, 0,
      if sigma ≤ frontNow s then sigma else 0⟩

/-- The queue from its words: in-band entries in the order of their stamps, before what is accepted later. -/
def rebuildQueue (s : State) : State :=
  let es := ((List.range 64).filterMap (queueEntry s)).insertionSort fun a b => a.sigma ≤ b.sigma
  countQueue { s with ttb := { s.ttb with queue := es, lastSub := [], gone := [] } }

/-- The opening of an open rake: JOPEN at or above the platform origin. -/
def rebuildRake (s : State) (g : Nat) : State :=
  let low := getF (R.JCT_RAKE g) F.JCT_RAKE_JOPEN s
  let jp := originNow s
  let j := jp / 2 ^ 40 * 2 ^ 40 + low
  setSpans g (if isSet (R.JCT_RAKE g) F.JCT_RAKE_OPEN s then [(if j < jp then j + 2 ^ 40 else j, none)] else []) s

/-- A capture slot from its words: the window as its descriptor and WSTART give it (R145). -/
def rebuildCapture (s : State) (c : Nat) : State :=
  let a := R.SDG_CAP c
  let d := bitsOf (rd a s) 0 8
  let tn := bitsOf (rd a s) 10 30
  let jp := originNow s
  let high := fun x : Nat => let y := jp / 2 ^ 40 * 2 ^ 40 + x; if y < jp then y + 2 ^ 40 else y
  let ws := high (rd (a + 1) s).toNat
  let m := (ws - jp) / platLen s
  let s := wr a (BitVec.ofNat 40 ((rd a s).toNat % 2 ^ 10)) s
  if capState c s = 0 then putCapture c {} s
  else
    putCapture c { (captureOf c s) with
      m := m, jp := jp, f0 := bitsOf (capWord d 0 s) 1 12, fn := bitsOf (capWord d 0 s) 13 13,
      i0 := bitsOf (capWord d 1 s) 0 13, inN := bitsOf (capWord d 1 s) 13 14,
      t0 := (ws - jp) % platLen s / 25, tn := tn, wstart := ws, rel := high (rd (a + 2) s).toNat,
      route := bitsOf (capWord d 4 s) 4 4, rate := bitsOf (capWord d 4 s) 8 16, from_ := tickNow s, sent := (rd (a + 3) s).toNat, pos := (rd (a + 3) s).toNat } s

/-- A record of the join log is applied again (R342). -/
def replayRecord (s : State) (r : TRec) : State :=
  let w := fun n => r.body.getD n 0#40
  let idx := (w 0).toNat * 2 ^ 8 + bitsOf (w 1) 32 8
  let low := bitsOf (w 1) 0 32
  let sigma := r.sigma.getD 0
  match r.kind with
  | 1 => epochRecord (w 0).toNat ((w 1).toNat * 2 ^ 8 + bitsOf (w 2) 32 8) (bitsOf (w 2) 0 32) s
  | 2 => inbandEntry sigma idx (r.head / 2 ^ 24) low false s
  | 3 => inbandEntry sigma idx 0x10 (r.head / 2 ^ 24 * 2 ^ 32 + low) true s
  | 4 => sethdr r.lane (r.head / 2 ^ 24) (r.head / 2 ^ 10 % 2 ^ 14) idx low s
  | 5 => delayRecord (r.head / 2 ^ 24) (r.head / 2 ^ 11 % 2 ^ 13) r.body s
  | _ => s

/-- An entry that had become due leaves the rebuilt queue where its key lies below the front; another is due again. -/
def replayDue (code key arg : Nat) (s : State) : State :=
  match s.ttb.queue.find? fun e => e.code == code && e.key == key && e.arg == arg with
  | some e => if key < frontNow s then removeEntry e s else s
  | none => s

/-- Entries due below front `f` that no item of the log has taken out leave the rebuilt queue (R342). -/
def dropPast (f : Nat) (s : State) : State :=
  (s.ttb.queue.filter fun e => decide (e.key / 40 * 40 < f)).foldl (fun s e => removeEntry e s) s

/-- An item of the join log is applied again, in its order (R342); what was due below a record's stamp no longer
takes a place. -/
def replayItem (s : State) (x : LogItem) : State :=
  match x with
  | .record r => replayRecord (dropPast (r.sigma.getD 0) s) r
  | .due code key arg => replayDue code key arg s

/-- The first segment start that is at least `n` (R343). -/
def segmentFrom (n : Nat) (s : State) : Nat := cdiv n (segLen s) * segLen s

/-- The cut is installed, the log replayed, and the send start fixed (R342, R343). -/
def installCut (s : State) : State :=
  let page := rd R.PTS_GPAGE s
  let runs := s.cpl.cut
  let settings := (joinRuns (runs.filter fun x => decide (0x8000 ≤ x.1 / 2 ^ 28))).map fun x => (x.1 % 2 ^ 28, x.2)
  let tables := (runs.filter fun x => decide (x.1 / 2 ^ 28 < 0x8000)).map fun x => (x.1 % 2 ^ 28, x.2)
  let s := wr R.PTS_GPAGE page (tables.foldl installWords s)
  let s := { s with crash := { s.crash with settings := settings } }
  let s := rebuildQueue s
  let s := (List.range 4).foldl rebuildCapture ((List.range 8).foldl rebuildRake s)
  let log := s.cpl.log
  let s := log.foldl replayItem (putCpl { s.cpl with logOn := false, log := [], cut := [], cutCars := [], commitIn := none } s)
  let s := dropPast (frontNow s) s
  let p := cfgP s
  let ji := cdiv (frontNow s) p
  let js := Nat.max (ji + 2048) (segmentFrom (p * ji + segLen s) s / p + 2048)
  let s := set2 R.CPL_JSTART F.CPL_JSTART_JS_LO F.CPL_JSTART_JS_HI js s
  setJstate 4 (putCpl { s.cpl with sendFrom := js } s)

/-- JCOMMIT; one that comes before this front has reached J waits for it. -/
def jcommit (crc count : Nat) (s : State) : State :=
  if !isBanker s || !coupled s || !joining s then s
  else if jstate s = 2 then putCpl { s.cpl with commitIn := some (crc, count) } s
  else if crc32 (wordsBytes s.cpl.cutCars) ≠ crc ∨ (s.cpl.cut.map fun x => x.2.length).sum ≠ count then joinFail s
  else
    let s := installCut s
    if sbxReady s then takeWaiting s else s

/-- The front has moved, or the Gauges have ended a block: a join acts at J once the blocks that end there have ended
(R340), and takes a JCOMMIT that waited. -/
def joinStep (s : State) : State :=
  if s.gau.acts ≠ [] then s
  else
    let s := joinReached s
    match s.cpl.commitIn with
    | some x => if jstate s = 3 then jcommit x.1 x.2 (putCpl { s.cpl with commitIn := none } s) else s
    | none => s

/-! ### Release of the next block (R68, R71) -/

def releaseNext (s : State) : State := joinReady (joinStep (releaseBlock s))

def blockRelease (s : State) : State :=
  if releaseOk s && blockComplete (frontNow s) s then releaseNext s else s

def arrSkewExpiry (s : State) : State :=
  if releaseOk s && dataWaits (frontNow s) s then releaseNext s else s

def nominalRelease (s : State) : State :=
  if releaseOk s && !dataWaits (frontNow s) s then releaseNext s else s

/-! ### The Signal Box returns to service (Table 10.13 step 6) -/

/-- The commits that waited go on when the Signal Box is in service and no join is under way. -/
def commitsGoOn (s : State) : State :=
  if sbxReady s && !joining s && !s.cpl.waitq.isEmpty then takeWaiting s else s

/-- The firmware has rebuilt its state: STATE becomes 0, the host settings that fall in its own data memory are applied
again (R269, R359), and so are the commits that waited. -/
def sbxInService (s : State) : State :=
  if sbxState s = 4 then commitsGoOn (applySettings (inBank 1) (setSbx 0 s)) else s

/-! ### A stack ends its training: the commits that waited for it go on (R137) -/

def execTrainingStepTimeout (k : StackId) (step : Fin 5) (s : State) : Out :=
  .next (commitsGoOn (trainingStepTimeout k step.val s))
def execTrainingComplete (k : StackId) (s : State) : Out := .next (commitsGoOn (trainingComplete k s))

/-! ### The commands -/

def execBlockRelease (s : State) : Out := .next (blockRelease s)
def execArrSkewExpiry (s : State) : Out := .next (arrSkewExpiry s)
def execNominalRelease (s : State) : Out := .next (nominalRelease s)
def execFastBlockEnd (s : State) : Out := .next (joinStep (fastBlocks s))
def execKurtosisBlockEnd (s : State) : Out := .next (joinStep (kurtosisBlocks s))
def execGaugeSnapshot (s : State) : Out := .next (joinStep (gaugeSnapshot s))

def execMdata (cseq : BitVec 16) (addr : WAddr) (words : List Word) (s : State) : Out :=
  .next (mdata cseq.toNat addr.toNat words s)
def execMcommit (cseq : BitVec 16) (tag : BitVec 8) (crc : BitVec 32) (count : BitVec 24) (s : State) : Out :=
  .next (mcommit cseq.toNat tag.toNat crc.toNat count.toNat s)
def execJdata (run : BitVec 16) (addr : WAddr) (words : List Word) (s : State) : Out :=
  .next (jdata run.toNat addr.toNat words s)
def execJcommit (_cseq : BitVec 16) (crc : BitVec 32) (count : BitVec 24) (s : State) : Out :=
  .next (jcommit crc.toNat count.toNat s)

end Sys2Proof.Machine
end

