-- ==== Sys2Proof/Machine/Dispatch.lean ====
section
/-!
DEFINITION. The dispatch of a command to its meaning: one arm per constructor.
-/
namespace Sys2Proof.Machine

def exec (i : Instr) (s : State) : Host.Outcome State Fault Refusal :=
  match i with
  | .registerWrite m addr w => Sys2Proof.Machine.execRegisterWrite m addr w s
  | .loWordLatchRead m addr => Sys2Proof.Machine.execLoWordLatchRead m addr s
  | .tableWindowWrite m addr w => Sys2Proof.Machine.execTableWindowWrite m addr w s
  | .dwellStart => Sys2Proof.Machine.execDwellStart s
  | .promotionSweep ups => Sys2Proof.Machine.execPromotionSweep ups s
  | .flushComplete => Sys2Proof.Machine.execFlushComplete s
  | .drainRow cycle => Sys2Proof.Machine.execDrainRow cycle s
  | .platformSwitch => Sys2Proof.Machine.execPlatformSwitch s
  | .forceDrain m => Sys2Proof.Machine.execForceDrain m s
  | .feedParityError k isRow off => Sys2Proof.Machine.execFeedParityError k isRow off s
  | .yardDebugRead m addr => Sys2Proof.Machine.execYardDebugRead m addr s
  | .workingSetChange => Sys2Proof.Machine.execWorkingSetChange s
  | .districtReady k => Sys2Proof.Machine.execDistrictReady k s
  | .districtReadyTimeout k => Sys2Proof.Machine.execDistrictReadyTimeout k s
  | .trkEnSet m x => Sys2Proof.Machine.execTrkEnSet m x s
  | .trkEnClear m x => Sys2Proof.Machine.execTrkEnClear m x s
  | .trkTrst m x => Sys2Proof.Machine.execTrkTrst m x s
  | .trkPersWrite m x pers => Sys2Proof.Machine.execTrkPersWrite m x pers s
  | .trkEqWrite m x w => Sys2Proof.Machine.execTrkEqWrite m x w s
  | .trkTestWrite m x gen chk => Sys2Proof.Machine.execTrkTestWrite m x gen chk s
  | .prbsClear m x => Sys2Proof.Machine.execPrbsClear m x s
  | .prbsLock x syms => Sys2Proof.Machine.execPrbsLock x syms s
  | .prbsLoss x syms => Sys2Proof.Machine.execPrbsLoss x syms s
  | .energyPresent x => Sys2Proof.Machine.execEnergyPresent x s
  | .cdrLock x => Sys2Proof.Machine.execCdrLock x s
  | .signalTimeout x => Sys2Proof.Machine.execSignalTimeout x s
  | .commaReceive x spacing levels => Sys2Proof.Machine.execCommaReceive x spacing levels s
  | .commaTimeout x => Sys2Proof.Machine.execCommaTimeout x s
  | .alignmentLoss x windows => Sys2Proof.Machine.execAlignmentLoss x windows s
  | .frameAcquired x seqs => Sys2Proof.Machine.execFrameAcquired x seqs s
  | .frameTimeout x => Sys2Proof.Machine.execFrameTimeout x s
  | .handshakeTimeout x => Sys2Proof.Machine.execHandshakeTimeout x s
  | .tokenLoss x => Sys2Proof.Machine.execTokenLoss x s
  | .energyLost x => Sys2Proof.Machine.execEnergyLost x s
  | .retryHoldoffEnd x => Sys2Proof.Machine.execRetryHoldoffEnd x s
  | .rateAbort x => Sys2Proof.Machine.execRateAbort x s
  | .qpllLost q x170 => Sys2Proof.Machine.execQpllLost q x170 s
  | .qpllRelock q x170 => Sys2Proof.Machine.execQpllRelock q x170 s
  | .rxlinkChange x up => Sys2Proof.Machine.execRxlinkChange x up s
  | .uncorrRunLimit x => Sys2Proof.Machine.execUncorrRunLimit x s
  | .trainTransmit x => Sys2Proof.Machine.execTrainTransmit x s
  | .dataTrainReceive x syms => Sys2Proof.Machine.execDataTrainReceive x syms s
  | .fillerReceive x syms => Sys2Proof.Machine.execFillerReceive x syms s
  | .fillerMiss x => Sys2Proof.Machine.execFillerMiss x s
  | .timetableTrainReceive x syms => Sys2Proof.Machine.execTimetableTrainReceive x syms s
  | .testTrainReceive x syms => Sys2Proof.Machine.execTestTrainReceive x syms s
  | .couplingTrainReceive x syms => Sys2Proof.Machine.execCouplingTrainReceive x syms s
  | .uncorrectableTrain x => Sys2Proof.Machine.execUncorrectableTrain x s
  | .blockRelease => Sys2Proof.Machine.execBlockRelease s
  | .arrSkewExpiry => Sys2Proof.Machine.execArrSkewExpiry s
  | .nominalRelease => Sys2Proof.Machine.execNominalRelease s
  | .timetableTrainProcess => Sys2Proof.Machine.execTimetableTrainProcess s
  | .epoch sec n48 frac => Sys2Proof.Machine.execEpoch sec n48 frac s
  | .action sigma code key arg zero => Sys2Proof.Machine.execAction sigma code key arg zero s
  | .trigger sigma desc key len => Sys2Proof.Machine.execTrigger sigma desc key len s
  | .sethdr x set count t0 span => Sys2Proof.Machine.execSethdr x set count t0 span s
  | .delay set input coefs => Sys2Proof.Machine.execDelay set input coefs s
  | .pointsBlockFilter bad full bus => Sys2Proof.Machine.execPointsBlockFilter bad full bus s
  | .busCorrReport => Sys2Proof.Machine.execBusCorrReport s
  | .psegBankWrite m addr w => Sys2Proof.Machine.execPsegBankWrite m addr w s
  | .psegTagWrite m tag => Sys2Proof.Machine.execPsegTagWrite m tag s
  | .psegChkWrite m chk => Sys2Proof.Machine.execPsegChkWrite m chk s
  | .coefReadyMark m => Sys2Proof.Machine.execCoefReadyMark m s
  | .gainReadyMark m => Sys2Proof.Machine.execGainReadyMark m s
  | .ptsIcntClear m => Sys2Proof.Machine.execPtsIcntClear m s
  | .framingCounterClear m x => Sys2Proof.Machine.execFramingCounterClear m x s
  | .fastBlockEnd => Sys2Proof.Machine.execFastBlockEnd s
  | .kurtosisBlockEnd => Sys2Proof.Machine.execKurtosisBlockEnd s
  | .gaugeSnapshot => Sys2Proof.Machine.execGaugeSnapshot s
  | .hbmReadComplete port pc at_ flips empty => Sys2Proof.Machine.execHbmReadComplete port pc at_ flips empty s
  | .refresh k => Sys2Proof.Machine.execRefresh k s
  | .stackTrainingStart k => Sys2Proof.Machine.execStackTrainingStart k s
  | .trainingStepTimeout k step => Sys2Proof.Machine.execTrainingStepTimeout k step s
  | .trainingComplete k => Sys2Proof.Machine.execTrainingComplete k s
  | .phyLockLoss k => Sys2Proof.Machine.execPhyLockLoss k s
  | .caParityError k => Sys2Proof.Machine.execCaParityError k s
  | .caParityLimit k => Sys2Proof.Machine.execCaParityLimit k s
  | .sdgRateWrite m rate => Sys2Proof.Machine.execSdgRateWrite m rate s
  | .sdgRateAbort => Sys2Proof.Machine.execSdgRateAbort s
  | .pasrRequest m => Sys2Proof.Machine.execPasrRequest m s
  | .pasrRelease m => Sys2Proof.Machine.execPasrRelease m s
  | .apertureAccess m addr w => Sys2Proof.Machine.execApertureAccess m addr w s
  | .srExitTimeout k => Sys2Proof.Machine.execSrExitTimeout k s
  | .captureStreamStart c => Sys2Proof.Machine.execCaptureStreamStart c s
  | .capturePieceRead c => Sys2Proof.Machine.execCapturePieceRead c s
  | .captureRelease c => Sys2Proof.Machine.execCaptureRelease c s
  | .scrubRead => Sys2Proof.Machine.execScrubRead s
  | .stackTempRead k temp => Sys2Proof.Machine.execStackTempRead k temp s
  | .consignmentBoundary d bus => Sys2Proof.Machine.execConsignmentBoundary d bus s
  | .tmnCounterClear m => Sys2Proof.Machine.execTmnCounterClear m s
  | .beamSampleForm bad => Sys2Proof.Machine.execBeamSampleForm bad s
  | .integrationEnd b f => Sys2Proof.Machine.execIntegrationEnd b f s
  | .beamFrameEmit b f => Sys2Proof.Machine.execBeamFrameEmit b f s
  | .beamDelayBankWrite m addr w => Sys2Proof.Machine.execBeamDelayBankWrite m addr w s
  | .beamDtagWrite m tag => Sys2Proof.Machine.execBeamDtagWrite m tag s
  | .beamDchkWrite m chk => Sys2Proof.Machine.execBeamDchkWrite m chk s
  | .beamGainReadyMark m => Sys2Proof.Machine.execBeamGainReadyMark m s
  | .tblCounterClear m => Sys2Proof.Machine.execTblCounterClear m s
  | .ptsCswap key => Sys2Proof.Machine.execPtsCswap key s
  | .ptsGswap key => Sys2Proof.Machine.execPtsGswap key s
  | .tblGswap key => Sys2Proof.Machine.execTblGswap key s
  | .tblDswap key => Sys2Proof.Machine.execTblDswap key s
  | .rakeOpen g key => Sys2Proof.Machine.execRakeOpen g key s
  | .rakeClose g key => Sys2Proof.Machine.execRakeClose g key s
  | .capture desc len key => Sys2Proof.Machine.execCapture desc len key s
  | .snapshot tag key => Sys2Proof.Machine.execSnapshot tag key s
  | .mark val key => Sys2Proof.Machine.execMark val key s
  | .dpReset key => Sys2Proof.Machine.execDpReset key s
  | .dprBackHalf => Sys2Proof.Machine.execDprBackHalf s
  | .snapshotCopyDone => Sys2Proof.Machine.execSnapshotCopyDone s
  | .enqueueSubmit m set => Sys2Proof.Machine.execEnqueueSubmit m set s
  | .trefLoss => Sys2Proof.Machine.execTrefLoss s
  | .trefReturn => Sys2Proof.Machine.execTrefReturn s
  | .ppsEdge rising => Sys2Proof.Machine.execPpsEdge rising s
  | .ppsTimeout => Sys2Proof.Machine.execPpsTimeout s
  | .nop n => Sys2Proof.Machine.execNop n s
  | .idle n => Sys2Proof.Machine.execIdle n s
  | .idleWake n => Sys2Proof.Machine.execIdleWake n s
  | .halt n => Sys2Proof.Machine.execHalt n s
  | .rti n => Sys2Proof.Machine.execRti n s
  | .sync n => Sys2Proof.Machine.execSync n s
  | .trap n => Sys2Proof.Machine.execTrap n s
  | .bxclr n => Sys2Proof.Machine.execBxclr n s
  | .add n d a b => Sys2Proof.Machine.execAdd n d a b s
  | .addc n d a b => Sys2Proof.Machine.execAddc n d a b s
  | .sub n d a b => Sys2Proof.Machine.execSub n d a b s
  | .subb n d a b => Sys2Proof.Machine.execSubb n d a b s
  | .and n d a b => Sys2Proof.Machine.execAnd n d a b s
  | .or n d a b => Sys2Proof.Machine.execOr n d a b s
  | .xor n d a b => Sys2Proof.Machine.execXor n d a b s
  | .andn n d a b => Sys2Proof.Machine.execAndn n d a b s
  | .shl n d a b => Sys2Proof.Machine.execShl n d a b s
  | .shr n d a b => Sys2Proof.Machine.execShr n d a b s
  | .shrl n d a b => Sys2Proof.Machine.execShrl n d a b s
  | .min n d a b => Sys2Proof.Machine.execMin n d a b s
  | .max n d a b => Sys2Proof.Machine.execMax n d a b s
  | .minu n d a b => Sys2Proof.Machine.execMinu n d a b s
  | .maxu n d a b => Sys2Proof.Machine.execMaxu n d a b s
  | .cmp n a b => Sys2Proof.Machine.execCmp n a b s
  | .mull n d a b => Sys2Proof.Machine.execMull n d a b s
  | .mulh n d a b => Sys2Proof.Machine.execMulh n d a b s
  | .mulhu n d a b => Sys2Proof.Machine.execMulhu n d a b s
  | .neg n d a => Sys2Proof.Machine.execNeg n d a s
  | .not n d a => Sys2Proof.Machine.execNot n d a s
  | .abs n d a => Sys2Proof.Machine.execAbs n d a s
  | .clz n d a => Sys2Proof.Machine.execClz n d a s
  | .addi n d a imm => Sys2Proof.Machine.execAddi n d a imm s
  | .andi n d a imm => Sys2Proof.Machine.execAndi n d a imm s
  | .ori n d a imm => Sys2Proof.Machine.execOri n d a imm s
  | .xori n d a imm => Sys2Proof.Machine.execXori n d a imm s
  | .cmpi n a imm => Sys2Proof.Machine.execCmpi n a imm s
  | .shli n d a amt => Sys2Proof.Machine.execShli n d a amt s
  | .shri n d a amt => Sys2Proof.Machine.execShri n d a amt s
  | .shrli n d a amt => Sys2Proof.Machine.execShrli n d a amt s
  | .movk n d high imm => Sys2Proof.Machine.execMovk n d high imm s
  | .cadd n d a b => Sys2Proof.Machine.execCadd n d a b s
  | .csub n d a b => Sys2Proof.Machine.execCsub n d a b s
  | .cmulr n d a b => Sys2Proof.Machine.execCmulr n d a b s
  | .cmulj n d a b => Sys2Proof.Machine.execCmulj n d a b s
  | .cneg n d a => Sys2Proof.Machine.execCneg n d a s
  | .cconj n d a => Sys2Proof.Machine.execCconj n d a s
  | .cswap n d a => Sys2Proof.Machine.execCswap n d a s
  | .cshr n d a b => Sys2Proof.Machine.execCshr n d a b s
  | .cmag2 n d a => Sys2Proof.Machine.execCmag2 n d a s
  | .mva n d accB clr => Sys2Proof.Machine.execMva n d accB clr s
  | .movx n dst src => Sys2Proof.Machine.execMovx n dst src s
  | .mova n dst imm => Sys2Proof.Machine.execMova n dst imm s
  | .ld n w ai mj mode => Sys2Proof.Machine.execLd n w ai mj mode s
  | .st n w ai mj mode => Sys2Proof.Machine.execSt n w ai mj mode s
  | .br n cond target => Sys2Proof.Machine.execBr n cond target s
  | .call n cond target => Sys2Proof.Machine.execCall n cond target s
  | .jr n cond a => Sys2Proof.Machine.execJr n cond a s
  | .loopi n count endA => Sys2Proof.Machine.execLoopi n count endA s
  | .loopr n c endA => Sys2Proof.Machine.execLoopr n c endA s
  | .macl n accB conj neg a b l1 l2 => Sys2Proof.Machine.execMacl n accB conj neg a b l1 l2 s
  | .mpyl n accB conj neg a b l1 l2 => Sys2Proof.Machine.execMpyl n accB conj neg a b l1 l2 s
  | .ldd n l1 l2 => Sys2Proof.Machine.execLdd n l1 l2 s
  | .interruptEntry n => Sys2Proof.Machine.execInterruptEntry n s
  | .trapEntry n => Sys2Proof.Machine.execTrapEntry n s
  | .farLoadResponse n resp w => Sys2Proof.Machine.execFarLoadResponse n resp w s
  | .farStoreResponse n resp => Sys2Proof.Machine.execFarStoreResponse n resp s
  | .fetchUncorrectable n => Sys2Proof.Machine.execFetchUncorrectable n s
  | .coreRunSet m n => Sys2Proof.Machine.execCoreRunSet m n s
  | .coreRunClear m n => Sys2Proof.Machine.execCoreRunClear m n s
  | .coreReset m n => Sys2Proof.Machine.execCoreReset m n s
  | .sbxRestart m => Sys2Proof.Machine.execSbxRestart m s
  | .lockstepMismatch => Sys2Proof.Machine.execLockstepMismatch s
  | .doorbellWrite m n msg => Sys2Proof.Machine.execDoorbellWrite m n msg s
  | .coreTimerExpiry n => Sys2Proof.Machine.execCoreTimerExpiry n s
  | .dispatcherWatchdog n => Sys2Proof.Machine.execDispatcherWatchdog n s
  | .sbxWatchdog => Sys2Proof.Machine.execSbxWatchdog s
  | .watchdogKick m n => Sys2Proof.Machine.execWatchdogKick m n s
  | .codeMemoryWrite m addr w => Sys2Proof.Machine.execCodeMemoryWrite m addr w s
  | .coreRegsAccess m n r w => Sys2Proof.Machine.execCoreRegsAccess m n r w s
  | .corePatrolRead n code off => Sys2Proof.Machine.execCorePatrolRead n code off s
  | .transactionAdmit r => Sys2Proof.Machine.execTransactionAdmit r s
  | .transactionResponse m tid => Sys2Proof.Machine.execTransactionResponse m tid s
  | .transactionTimeout m tid => Sys2Proof.Machine.execTransactionTimeout m tid s
  | .shunterGo m k => Sys2Proof.Machine.execShunterGo m k s
  | .shunterStop m k => Sys2Proof.Machine.execShunterStop m k s
  | .shunterDescriptorRead k => Sys2Proof.Machine.execShunterDescriptorRead k s
  | .shunterBurstComplete k => Sys2Proof.Machine.execShunterBurstComplete k s
  | .eventQueueRead m c => Sys2Proof.Machine.execEventQueueRead m c s
  | .eventInject m e => Sys2Proof.Machine.execEventInject m e s
  | .requestFrameWrite bytes => Sys2Proof.Machine.execRequestFrameWrite bytes s
  | .statusSelector => Sys2Proof.Machine.execStatusSelector s
  | .responseRead n => Sys2Proof.Machine.execResponseRead n s
  | .read late => Sys2Proof.Machine.execRead late s
  | .write late => Sys2Proof.Machine.execWrite late s
  | .configWrite late => Sys2Proof.Machine.execConfigWrite late s
  | .status => Sys2Proof.Machine.execStatus s
  | .setState => Sys2Proof.Machine.execSetState s
  | .consist => Sys2Proof.Machine.execConsist s
  | .attest => Sys2Proof.Machine.execAttest s
  | .debugCert => Sys2Proof.Machine.execDebugCert s
  | .fullReset => Sys2Proof.Machine.execFullReset s
  | .dataPlaneReset => Sys2Proof.Machine.execDataPlaneReset s
  | .trackReset => Sys2Proof.Machine.execTrackReset s
  | .sbxWaitTimeout => Sys2Proof.Machine.execSbxWaitTimeout s
  | .injClear m unit arg => Sys2Proof.Machine.execInjClear m unit arg s
  | .injTrainCodeword m unit arg => Sys2Proof.Machine.execInjTrainCodeword m unit arg s
  | .injPointsResidue m unit arg => Sys2Proof.Machine.execInjPointsResidue m unit arg s
  | .injSShape m unit arg => Sys2Proof.Machine.execInjSShape m unit arg s
  | .injHbmParity m unit arg => Sys2Proof.Machine.execInjHbmParity m unit arg s
  | .injRowParity m unit arg => Sys2Proof.Machine.execInjRowParity m unit arg s
  | .injColumnParity m unit arg => Sys2Proof.Machine.execInjColumnParity m unit arg s
  | .injCellAccumulator m unit arg => Sys2Proof.Machine.execInjCellAccumulator m unit arg s
  | .injYardCodeword m unit arg => Sys2Proof.Machine.execInjYardCodeword m unit arg s
  | .injPromotionResidue m unit arg => Sys2Proof.Machine.execInjPromotionResidue m unit arg s
  | .injTurntableResidue m unit arg => Sys2Proof.Machine.execInjTurntableResidue m unit arg s
  | .injBusCode m unit arg => Sys2Proof.Machine.execInjBusCode m unit arg s
  | .injCoreMemory m unit arg => Sys2Proof.Machine.execInjCoreMemory m unit arg s
  | .injLockstep m unit arg => Sys2Proof.Machine.execInjLockstep m unit arg s
  | .injClockMonitor m unit arg => Sys2Proof.Machine.execInjClockMonitor m unit arg s
  | .injRetentionSignature m unit arg => Sys2Proof.Machine.execInjRetentionSignature m unit arg s
  | .injMirrorCrc m unit arg => Sys2Proof.Machine.execInjMirrorCrc m unit arg s
  | .injectionApply => Sys2Proof.Machine.execInjectionApply s
  | .injectionExpire => Sys2Proof.Machine.execInjectionExpire s
  | .clockMonitorWindow c count => Sys2Proof.Machine.execClockMonitorWindow c count s
  | .role c r => Sys2Proof.Machine.execRole c r s
  | .health event tick => Sys2Proof.Machine.execHealth event tick s
  | .mdata cseq addr words => Sys2Proof.Machine.execMdata cseq addr words s
  | .mcommit cseq tag crc count => Sys2Proof.Machine.execMcommit cseq tag crc count s
  | .mack cseq result => Sys2Proof.Machine.execMack cseq result s
  | .mackTimeout => Sys2Proof.Machine.execMackTimeout s
  | .jreq => Sys2Proof.Machine.execJreq s
  | .jgrant j jp => Sys2Proof.Machine.execJgrant j jp s
  | .jdata run addr words => Sys2Proof.Machine.execJdata run addr words s
  | .jcommit cseq crc count => Sys2Proof.Machine.execJcommit cseq crc count s
  | .jcommitTimeout => Sys2Proof.Machine.execJcommitTimeout s
  | .jreqRetry => Sys2Proof.Machine.execJreqRetry s
  | .resign => Sys2Proof.Machine.execResign s
  | .takeover term => Sys2Proof.Machine.execTakeover term s
  | .couplingTrainSend c => Sys2Proof.Machine.execCouplingTrainSend c s
  | .couplingLoss => Sys2Proof.Machine.execCouplingLoss s
  | .bootRoleTimeout => Sys2Proof.Machine.execBootRoleTimeout s
  | .cplPromote m force => Sys2Proof.Machine.execCplPromote m force s
  | .cplResign m => Sys2Proof.Machine.execCplResign m s
  | .cplJoin m => Sys2Proof.Machine.execCplJoin m s
  | .targetWrite m target => Sys2Proof.Machine.execTargetWrite m target s
  | .notchingUp => Sys2Proof.Machine.execNotchingUp s
  | .runningToStanding => Sys2Proof.Machine.execRunningToStanding s
  | .haltEntry => Sys2Proof.Machine.execHaltEntry s
  | .laidUpEntry => Sys2Proof.Machine.execLaidUpEntry s
  | .offEntry => Sys2Proof.Machine.execOffEntry s
  | .wakeToStanding cause upsets => Sys2Proof.Machine.execWakeToStanding cause upsets s
  | .loadStepStart => Sys2Proof.Machine.execLoadStepStart s
  | .regulatorTimeout => Sys2Proof.Machine.execRegulatorTimeout s
  | .pllLockTimeout => Sys2Proof.Machine.execPllLockTimeout s
  | .subpgxTimeout => Sys2Proof.Machine.execSubpgxTimeout s
  | .domainReadyTimeout d => Sys2Proof.Machine.execDomainReadyTimeout d s
  | .wakeRetry => Sys2Proof.Machine.execWakeRetry s
  | .watchStart => Sys2Proof.Machine.execWatchStart s
  | .watchEnd => Sys2Proof.Machine.execWatchEnd s
  | .wakeNLow ms edges env => Sys2Proof.Machine.execWakeNLow ms edges env s
  | .lampAlarm => Sys2Proof.Machine.execLampAlarm s
  | .resetNLow ns env => Sys2Proof.Machine.execResetNLow ns env s
  | .powerOnReset env => Sys2Proof.Machine.execPowerOnReset env s
  | .offExit env => Sys2Proof.Machine.execOffExit env s
  | .crystalSwitch => Sys2Proof.Machine.execCrystalSwitch s
  | .crystalTimeout => Sys2Proof.Machine.execCrystalTimeout s
  | .aoTargetWrite m n target => Sys2Proof.Machine.execAoTargetWrite m n target s
  | .aoRangeChange m n mode gain => Sys2Proof.Machine.execAoRangeChange m n mode gain s
  | .aoRangeSettle n => Sys2Proof.Machine.execAoRangeSettle n s
  | .aoFaultForce m n => Sys2Proof.Machine.execAoFaultForce m n s
  | .aoClearFault m n => Sys2Proof.Machine.execAoClearFault m n s
  | .aoSlewTick n => Sys2Proof.Machine.execAoSlewTick n s
  | .aoHeadroomCheck n good => Sys2Proof.Machine.execAoHeadroomCheck n good s
  | .monConversion x => Sys2Proof.Machine.execMonConversion x s
  | .boot env => Sys2Proof.Machine.execBoot env s
  | .flashRead m => Sys2Proof.Machine.execFlashRead m s
  | .flashProgram m => Sys2Proof.Machine.execFlashProgram m s
  | .flashErase m => Sys2Proof.Machine.execFlashErase m s
  | .flashOpComplete => Sys2Proof.Machine.execFlashOpComplete s
  | .flashTimeout => Sys2Proof.Machine.execFlashTimeout s
  | .sbxRestarted => Sys2Proof.Machine.execSbxRestarted s
  | .vaonLoss => Sys2Proof.Machine.execVaonLoss s
  | .jtagInstruction op => Sys2Proof.Machine.execJtagInstruction op s

end Sys2Proof.Machine
end

