-- ==== Sys2Proof/Machine/Tick.lean ====
section
/-!
DEFINITION. What time alone does: one TCLK tick of the counters (R225), one LCLK period in Laid-up (R362), the
Signal Box's return to service (Table 10.13).
-/
namespace Sys2Proof.Machine

/-- TTB_TICK moves by `n`, modulo 2^64. -/
def advanceTick (n : Nat) (s : State) : State :=
  set2 R.TTB_TICK F.TTB_TICK_TICK_LO F.TTB_TICK_TICK_HI ((tickNow s + n) % 2 ^ 64) s

/-- LMP_LCNT counts one LCLK period. -/
def countLclk (s : State) : State :=
  set2 R.LMP_LCNT F.LMP_LCNT_CNT_LO F.LMP_LCNT_CNT_HI
    ((get2 R.LMP_LCNT F.LMP_LCNT_CNT_LO F.LMP_LCNT_CNT_HI s + 1) % 2 ^ 48) s

/-- An LCLK period holds 7,629 + 101/256 ticks: the phase counts 256ths of a tick. -/
def lclkTicks : Nat := 7629 * 256 + 101

/-- A tick with TCLK running: the tick counter, and LMP_LCNT when a whole LCLK period has gone by. -/
def tclkTick (s : State) : State :=
  let ph := s.phase + 256
  let s := advanceTick 1 { s with phase := ph % lclkTicks }
  sbxInService (when (decide (lclkTicks ≤ ph)) countLclk s)

/-- An LCLK period in Laid-up: the Lamp room adds 7,629 + 101/256 and keeps the fraction. -/
def lclkTick (s : State) : State :=
  let x := s.frac + 101
  countLclk (advanceTick (7629 + x / 256) { s with frac := x % 256 })

/-- What the block does when no command waits. In Off nothing runs. -/
def idleTick (s : State) : State :=
  if pstate s = 5 then s else if pstate s = 4 then lclkTick s else tclkTick s

end Sys2Proof.Machine
end

