-- ==== Sys2Proof/WellFormed.lean ====
section
/-!
DEFINITION. Which commands are well formed: operands in the ranges that the spec gives them where the type of the
operand does not say so itself.
-/
namespace Sys2Proof

/-- The symbols of one train on a lane: 2,700, or 2,720 of one clause 134 codeword on a departure with the Ethernet
personality (R53, R80). -/
def lineWf (syms : List (BitVec 2)) : Bool := syms.length == 2700 || syms.length == 2720

/-- One request: 1 to 16 words, as many words to write, and an ID of its master (R278, Table 11.1). -/
def Req.wf (r : Req) : Bool :=
  decide (1 ≤ r.count) && decide (r.count ≤ 16) && (match r.write with | none => true | some ws => ws.length == r.count)
    && (r.master.val == 9 || r.master.val == 11 || r.tid.val == 0)

/-- A load descriptor that a word may hold: MODE 00 is no load, and its other fields are zero (Table 10.4). -/
def LoadDesc.wf (n : CoreId) (l : LoadDesc) : Bool := descOk n (descBits l)

/-- A core instruction that core `n` may hold in its code memory (R243, R254, R267, Tables 10.2, 10.7-10.11). -/
def coreWf (n : CoreId) (i : Instr) : Bool :=
  match i with
  | .bxclr _ => transformCore n
  | .movk _ _ h imm => !h || decide (imm.toNat < 65536)
  | .movx _ dst src => movxReg n dst.val && movxReg n src.val
  | .mova _ dst _ => decide (16 ≤ dst.val) && decide (dst.val ≤ 39)
  | .ld _ _ _ _ mode => modeOk n mode.val
  | .st _ _ _ _ mode => modeOk n mode.val
  | .br _ _ t => decide (t.toNat < coreWords n)
  | .call _ _ t => decide (t.toNat < coreWords n)
  | .loopi _ _ e => decide (e.toNat < coreWords n)
  | .loopr _ _ e => decide (e.toNat < coreWords n)
  | .macl _ _ _ _ _ _ l1 l2 => l1.wf n && l2.wf n
  | .mpyl _ _ _ _ _ _ l1 l2 => l1.wf n && l2.wf n
  | .ldd _ l1 l2 => l1.wf n && l2.wf n
  | _ => true

/-- The core that a core instruction runs on. -/
def Instr.core : Instr → Option CoreId
  | .nop n => some n | .idle n => some n | .halt n => some n | .rti n => some n | .sync n => some n | .trap n => some n
  | .bxclr n => some n | .add n .. => some n | .addc n .. => some n | .sub n .. => some n | .subb n .. => some n
  | .and n .. => some n | .or n .. => some n | .xor n .. => some n | .andn n .. => some n | .shl n .. => some n
  | .shr n .. => some n | .shrl n .. => some n | .min n .. => some n | .max n .. => some n | .minu n .. => some n
  | .maxu n .. => some n | .cmp n .. => some n | .mull n .. => some n | .mulh n .. => some n | .mulhu n .. => some n
  | .neg n .. => some n | .not n .. => some n | .abs n .. => some n | .clz n .. => some n
  | .addi n .. => some n | .andi n .. => some n | .ori n .. => some n | .xori n .. => some n | .cmpi n .. => some n
  | .shli n .. => some n | .shri n .. => some n | .shrli n .. => some n | .movk n .. => some n
  | .cadd n .. => some n | .csub n .. => some n | .cmulr n .. => some n | .cmulj n .. => some n | .cneg n .. => some n
  | .cconj n .. => some n | .cswap n .. => some n | .cshr n .. => some n | .cmag2 n .. => some n
  | .mva n .. => some n | .movx n .. => some n | .mova n .. => some n | .ld n .. => some n | .st n .. => some n
  | .br n .. => some n | .call n .. => some n | .jr n .. => some n | .loopi n .. => some n | .loopr n .. => some n
  | .macl n .. => some n | .mpyl n .. => some n | .ldd n .. => some n
  | _ => none

/-- Well-formedness of a command. -/
def Instr.wf (i : Instr) : Bool :=
  match i.core with
  | some n => coreWf n i
  | none =>
    match i with
    | .dataTrainReceive _ syms => lineWf syms
    | .fillerReceive _ syms => lineWf syms
    | .commaReceive _ _ levels => levels.length == 20
    | .alignmentLoss _ windows => windows.length == 4 && windows.all (·.length == 20)
    | .frameAcquired _ seqs => seqs.length == 4
    | .timetableTrainReceive _ syms => lineWf syms
    | .testTrainReceive _ syms => lineWf syms
    | .couplingTrainReceive _ syms => lineWf syms
    | .delay _ _ coefs => coefs.length == 6
    | .mdata _ _ words => decide (1 ≤ words.length) && decide (words.length ≤ 120)
    | .jdata _ _ words => decide (1 ≤ words.length) && decide (words.length ≤ 120)
    | .transactionAdmit r => r.wf
    | .drainRow cycle => decide (cycle < 2 ^ 32)
    | .hbmReadComplete _ _ a _ _ => decide (a.row * 1536 + 32 * (16 * a.sid.val + 4 * a.bg.val + a.bank.val) + a.col.val < 23437500)
    | _ => true

end Sys2Proof
end

