-- ==== Sys2Proof/Safety.lean ====
section
/-!
DEFINITION. The terms in which claims about the machine are stated: a step that goes on, what it may change,
a target that answers an access, and what makes a run safe (no step stops, the stores keep their canonical
form, every waiting command is well formed).
-/
namespace Sys2Proof.Safety
open Sys2Proof.Machine

/-! ### Outcomes -/

/-- The step answers a next state. -/
def Goes (o : Host.Outcome State Fault Refusal) : Prop := ∃ t, o = .next t

/-- The step answers a next state, and it has `p`. -/
def After (o : Host.Outcome State Fault Refusal) (p : State → Prop) : Prop := ∃ t, o = .next t ∧ p t

/-! ### What a command leaves unchanged -/

/-- The components of the state beside the words of the control space and the queue of commands. -/
inductive Part where
  | latches | lanes | bellq | arr | hbm | hbmErr | sdg | chk | tbl | gau | pts | jct | ins | cpl | crash | ans | ttb
  | outs | pow | cores | memErr | lockTimes | ilk | shunters | mgt | dep | flash | wakeReq | tmnHeld | beamHeld
  | health | phase | frac | free
  deriving DecidableEq, Repr

/-- Both states hold the same in this component. -/
def Part.same (p : Part) (s t : State) : Prop :=
  match p with
  | .latches => t.latches = s.latches
  | .lanes => t.lanes = s.lanes
  | .bellq => t.bellq = s.bellq
  | .arr => t.arr = s.arr
  | .hbm => t.hbm = s.hbm
  | .hbmErr => t.hbmErr = s.hbmErr
  | .sdg => t.sdg = s.sdg
  | .chk => t.chk = s.chk
  | .tbl => t.tbl = s.tbl
  | .gau => t.gau = s.gau
  | .pts => t.pts = s.pts
  | .jct => t.jct = s.jct
  | .ins => t.ins = s.ins
  | .cpl => t.cpl = s.cpl
  | .crash => t.crash = s.crash
  | .ans => t.ans = s.ans
  | .ttb => t.ttb = s.ttb
  | .outs => t.outs = s.outs
  | .pow => t.pow = s.pow
  | .cores => t.cores = s.cores
  | .memErr => t.memErr = s.memErr
  | .lockTimes => t.lockTimes = s.lockTimes
  | .ilk => t.ilk = s.ilk
  | .shunters => t.shunters = s.shunters
  | .mgt => t.mgt = s.mgt
  | .dep => t.dep = s.dep
  | .flash => t.flash = s.flash
  | .wakeReq => t.wakeReq = s.wakeReq
  | .tmnHeld => t.tmnHeld = s.tmnHeld
  | .beamHeld => t.beamHeld = s.beamHeld
  | .health => t.health = s.health
  | .phase => t.phase = s.phase
  | .frac => t.frac = s.frac
  | .free => t.free = s.free

/-- From `s` to `t` nothing changes but the components `ps` and the control words of `w`. -/
def Only (ps : List Part) (w : Nat → Prop) (s t : State) : Prop :=
  t.pending = s.pending ∧ (∀ p, p ∉ ps → p.same s t) ∧ ∀ a, ¬ w a → rd a t = rd a s

/-- The words that a raise of event `e` may write: its source, and the host log (R289, R292). -/
def bellWord (e a : Nat) : Prop := a = R.BEL_SRC e ∨ a = R.BEL_LOGPOS ∨ (R.BEL_LOG ≤ a ∧ a < R.BEL_LOG + 1024)

/-- The registers of lane `i`. -/
def laneWord (i a : Nat) : Prop := R.TRK_CTRL i ≤ a ∧ a < R.TRK_CTRL i + 0x1000

/-- The status of event `e` is set. -/
def Raised (e : Nat) (t : State) : Prop := isSet (R.BEL_SRC e) F.BEL_SRC_STS t = true

/-- The framing registers of lane `i`. -/
def frameWord (i a : Nat) : Prop := R.PTS_FRSTAT i ≤ a ∧ a < R.PTS_FRSTAT i + 16

/-- The registers and tables of one chapter: the words from `lo` up to `hi`. -/
def within (lo hi a : Nat) : Prop := lo ≤ a ∧ a < hi

/-! ### Accesses -/

/-- Word `a` has a target that answers master `m` (R280, R281, Table 14.2). -/
def Reaches (m a : Nat) (s : State) : Prop := ∃ r, targetOf a = some r ∧ answers m a r s = true

/-- What master `m` was answered last. -/
def answered (m : Nat) (t : State) : Answer := t.ans.get (fun _ => {}) m

/-- The access was answered OKAY. -/
def Okay (m : Nat) (t : State) : Prop := (answered m t).code = 0

/-! ### Safe runs -/

/-- Every waiting command is well formed. -/
def queueWf (s : State) : Bool := s.pending.all Instr.wf

/-- The stores that hold words by address are in the canonical form: the control space, HBM with the errors it
holds, the core memories' errors and the flash. -/
def storesWf (s : State) : Bool :=
  s.regs.wf resetWord && s.hbm.wf (fun _ => 0#40) && s.hbmErr.wf (fun _ => 0) && s.memErr.wf (fun _ => 0)
    && s.flash.wf flashDefault

end Sys2Proof.Safety
end

