-- ==== Sys2Proof/Certificates/Slice0/Obligations.lean ====
section
/-!
DEFINITION. The statements for the provers, family by family. `After o p` says that the command answers a next
state and that this state has `p`; `Only ps w s t` is a frame: from `s` to `t` nothing changes but the components
`ps` and the control words that `w` holds of.
-/
namespace Sys2Proof.Safety
open Sys2Proof.Machine

/-- Lane `i` has changed to state `st` with cause `c`: one more transition, one raise of the state event (R37). -/
def Moved (i st c : Nat) (s t : State) : Prop :=
  laneState i t = st ∧ getF (R.TRK_STATE i) F.TRK_STATE_CAUSE t = c
    ∧ getF (R.TRK_STATE i) F.TRK_STATE_TRANS t = (getF (R.TRK_STATE i) F.TRK_STATE_TRANS s + 1) % 2 ^ 16
    ∧ Raised (laneEvent i) t

/-- The components that a lane's step may change: a coupling lane's also the records it had not sent (R328). -/
def laneParts (i : Nat) : List Part := [.lanes, .bellq, .health] ++ if 80 ≤ i then [.cpl] else []

/-- The frame of a lane's advance: its registers, what it holds, and its state event. -/
def LaneStep (i : Nat) (s t : State) : Prop :=
  Only (laneParts i) (fun a => laneWord i a ∨ bellWord (laneEvent i) a) s t
    ∧ ∀ k, k ≠ i → laneOf k t = laneOf k s

/-- The frame of a lane's loss: beside the lane, a departure's consignments and their routes' counters. -/
def LaneLoss (i : Nat) (s t : State) : Prop :=
  (∀ p, p ∉ laneParts i ++ [Part.tmnHeld, .beamHeld] → p.same s t) ∧ t.pending = s.pending
    ∧ (∀ k, k ≠ i → laneOf k t = laneOf k s) ∧ (isDeparture i = false → ratePend i s = false → LaneStep i s t)

/-- The retry holdoff that a cause starts: it runs until 1 s after the lane last left DARK (R36). -/
def HoldsOff (i : Nat) (s t : State) : Prop :=
  getF (R.TRK_STATE i) F.TRK_STATE_HOLDOFF t = b2n (decide (tickNow s < (laneOf i s).leftDark + 250000000))

/-- A personality change that waited is in force (R42). -/
def Applied (i : Nat) (s t : State) : Prop := (laneOf i t).rate170 = (laneOf i s).ratePers ∧ ratePend i t = false

/-- The pattern that the checker of lane `i` compares with. -/
def chkOf (i : Nat) (s : State) : Nat := getF (R.TRK_TEST i) F.TRK_TEST_CHK s

/-- Lane `i` is in TEST with a checker pattern selected, and its receiver takes the symbols of its pins uninverted. -/
def Checking (i : Nat) (s : State) : Prop :=
  laneState i s = 6 ∧ chkOf i s ≠ 0 ∧ isSet (R.TRK_CTRL i) F.TRK_CTRL_LPBK s = false
    ∧ isSet (R.TRK_CTRL i) F.TRK_CTRL_POL_RX s = false

/-- The bit errors of a received symbol against the checker's next one. -/
def symbolErrors (i : Nat) (x : BitVec 2) (s : State) : Nat :=
  pairErrors (prbsPair (chkOf i s) (laneOf i s).chk.reg).1 (ungray x)

end Sys2Proof.Safety

open Sys2Proof Sys2Proof.Machine Sys2Proof.Safety

/-! ### Tracks -/

/-- From R34, Table 2.3: the receiver's advance. A lane in DARK that is enabled, whose PLL is locked and whose holdoff
does not run goes to SIGNAL when energy has been present for 1.0 ms, and at the end of the holdoff; from SIGNAL to
COMMA when the CDR locks; to FRAME at the third comma match at exactly 2,700 symbols; from FRAME, after four trains with
consecutive SEQ (R58), to HANDSHAKE in full mode and to OPEN in one-way mode. -/
def Sys2Proof.Safety.LaneBringUpFollowsTable23 : Prop :=
  (∀ (i : LaneId) (s : State), laneState i s = 0 → laneEn i s = true → pllLocked i s = true → deaf i s = false →
      receiverOn i s = true → isSet (R.TRK_STATE i) F.TRK_STATE_HOLDOFF s = false →
      After (exec (.energyPresent i) s) fun t =>
        Moved i 1 12 s t ∧ (laneOf i t).energy = true ∧ LaneStep i s t)
  ∧ (∀ (i : LaneId) (s : State), laneState i s = 0 → laneEn i s = true → pllLocked i s = true → deaf i s = false →
      receiverOn i s = true → (laneOf i s).energy = true →
      After (exec (.retryHoldoffEnd i) s) fun t =>
        Moved i 1 12 s t ∧ isSet (R.TRK_STATE i) F.TRK_STATE_HOLDOFF t = false ∧ LaneStep i s t)
  ∧ (∀ (i : LaneId) (s : State), laneState i s = 1 →
      After (exec (.cdrLock i) s) fun t => Moved i 2 12 s t ∧ (laneOf i t).commas = 0 ∧ LaneStep i s t)
  ∧ (∀ (i : LaneId) (n : Nat) (levels : List (BitVec 2)) (s : State), laneState i s = 2 →
      commaMatch (invert (isSet (R.TRK_CTRL i) F.TRK_CTRL_POL_RX s) levels) = true →
      After (exec (.commaReceive i n levels) s) fun t => LaneStep i s t
        ∧ (n = 2700 → 2 ≤ (laneOf i s).commas → Moved i 3 12 s t)
        ∧ (n ≠ 2700 → laneState i t = 2 ∧ (laneOf i t).commas = 1))
  ∧ (∀ (i : LaneId) (a b c d : BitVec 12) (s : State), laneState i s = 3 → pstate s ≠ 3 →
      b = a + 1 → c = b + 1 → d = c + 1 →
      isSet (R.TRK_STATE i) F.TRK_STATE_PARKED s = false → ratePend i s = false →
      After (exec (.frameAcquired i [a, b, c, d]) s) fun t =>
        Moved i (if oneWay i s then 5 else 4) 12 s t ∧ (laneOf i t).rxSeq = d.toNat)
  ∧ (∀ (i : LaneId) (a b c d : BitVec 12) (s : State), ¬ (b = a + 1 ∧ c = b + 1 ∧ d = c + 1) →
      exec (.frameAcquired i [a, b, c, d]) s = .next s)

/-- From R34-R36, R42, Table 2.3: the ways back to DARK by a timeout, by TOKEN_LOSS and by ENERGY_LOST, with the causes of
Table 2.4; the holdoff starts for a timeout, TOKEN_LOSS and IDENTITY and for no other of them, and lasts until 1 s after
the lane last left DARK. A personality change that waited is then in force. -/
def Sys2Proof.Safety.LaneTimeoutsReturnToDark : Prop :=
  (∀ (i : LaneId) (s : State), laneState i s = 1 →
      After (exec (.signalTimeout i) s) fun t => LaneLoss i s t ∧ HoldsOff i s t
        ∧ (ratePend i s = false → Moved i 0 5 s t) ∧ (ratePend i s = true → Applied i s t))
  ∧ (∀ (i : LaneId) (s : State), laneState i s = 2 →
      After (exec (.commaTimeout i) s) fun t => LaneLoss i s t ∧ HoldsOff i s t
        ∧ (ratePend i s = false → Moved i 0 6 s t) ∧ (ratePend i s = true → Applied i s t))
  ∧ (∀ (i : LaneId) (s : State), laneState i s = 3 → isSet (R.TRK_STATE i) F.TRK_STATE_PARKED s = false →
      After (exec (.frameTimeout i) s) fun t => LaneLoss i s t ∧ HoldsOff i s t
        ∧ (ratePend i s = false → Moved i 0 7 s t) ∧ (ratePend i s = true → Applied i s t))
  ∧ (∀ (i : LaneId) (s : State), laneState i s = 4 →
      After (exec (.handshakeTimeout i) s) fun t => LaneLoss i s t ∧ HoldsOff i s t
        ∧ (ratePend i s = false →
            Moved i 0 (if getF (R.TRK_LINKID i) F.TRK_LINKID_PEER_ID s ≠ 0 ∧ (laneOf i s).wrongId = true
              ∧ (laneOf i s).gotValid = false then 8 else 9) s t)
        ∧ (ratePend i s = true → Applied i s t))
  ∧ (∀ (i : LaneId) (s : State), laneState i s = 5 → deaf i s = false → oneWay i s = false →
      After (exec (.tokenLoss i) s) fun t => LaneLoss i s t ∧ HoldsOff i s t
        ∧ (ratePend i s = false → Moved i 0 10 s t) ∧ (ratePend i s = true → Applied i s t))
  ∧ (∀ (i : LaneId) (s : State), laneState i s ≠ 0 → laneState i s ≠ 6 → deaf i s = false →
      After (exec (.energyLost i) s) fun t => LaneLoss i s t ∧ (laneOf i t).energy = false
        ∧ getF (R.TRK_STATE i) F.TRK_STATE_HOLDOFF t = 0
        ∧ (ratePend i s = false → Moved i 0 4 s t) ∧ (ratePend i s = true → Applied i s t))

/-- From R33, R35, R42, R44, R47: a lane in OPEN that loses alignment at four positions in a row, or meets eight uncorrectable
codewords in a row, goes to COMMA with its CDR locked; a personality change still pending after 100 ms is forced
through DARK; the PRBS checker locks at the 64th error-free symbol, counts bit errors and compared bits while it is
locked, and loses the lock at 16 bit errors in 128 symbols; RXLINK with its event. -/
def Sys2Proof.Safety.LaneConditionsAndTestPatterns : Prop :=
  (∀ (i : LaneId) (windows : List (List (BitVec 2))) (s : State), laneState i s = 5 → deaf i s = false →
      4 ≤ windows.length →
      (∀ x ∈ windows, commaMatch (invert (isSet (R.TRK_CTRL i) F.TRK_CTRL_POL_RX s) x) = false) →
      After (exec (.alignmentLoss i windows) s) (Moved i 2 6 s))
  ∧ (∀ (i : LaneId) (s : State), laneState i s = 5 → deaf i s = false → 7 ≤ (laneOf i s).uncSince →
      After (exec (.uncorrRunLimit i) s) fun t => Moved i 2 7 s t ∧ (laneOf i t).uncSince = (laneOf i s).uncSince + 1)
  ∧ (∀ (i : LaneId) (s : State), (laneOf i s).uncSince < 7 → exec (.uncorrRunLimit i) s = .next s)
  ∧ (∀ (i : LaneId) (s : State), ratePend i s = true → laneState i s ≠ 0 →
      After (exec (.rateAbort i) s) fun t => Applied i s t ∧ getF (R.TRK_STATUS i) F.TRK_STATUS_RATE_ABORT t = 1)
  ∧ (∀ (i : LaneId) (x : BitVec 2) (s : State), Checking i s → isSet (R.TRK_TEST i) F.TRK_TEST_CHK_LOCK s = false →
      (ungray x = (prbsPair (chkOf i s) (laneOf i s).chk.reg).1 → prbsLen (chkOf i s) ≤ (laneOf i s).chk.fill →
        After (exec (.prbsLock i [x]) s) fun t => (laneOf i t).chk.good = (laneOf i s).chk.good + 1
          ∧ isSet (R.TRK_TEST i) F.TRK_TEST_CHK_LOCK t = decide (63 ≤ (laneOf i s).chk.good)
          ∧ Only [.lanes] (fun a => a = R.TRK_TEST i) s t)
      ∧ (ungray x ≠ (prbsPair (chkOf i s) (laneOf i s).chk.reg).1 →
        After (exec (.prbsLock i [x]) s) fun t => (laneOf i t).chk.good = 0
          ∧ isSet (R.TRK_TEST i) F.TRK_TEST_CHK_LOCK t = false ∧ Only [.lanes] (fun _ => False) s t))
  ∧ (∀ (i : LaneId) (x : BitVec 2) (s : State), Checking i s → isSet (R.TRK_TEST i) F.TRK_TEST_CHK_LOCK s = true →
      After (exec (.prbsLoss i [x]) s) fun t =>
        get2 (R.TRK_PERR i) F.TRK_PERR_ERR_LO F.TRK_PERR_ERR_HI t
            = Nat.min (get2 (R.TRK_PERR i) F.TRK_PERR_ERR_LO F.TRK_PERR_ERR_HI s + symbolErrors i x s) (2 ^ 48 - 1)
        ∧ get2 (R.TRK_PCMP i) F.TRK_PCMP_CMP_LO F.TRK_PCMP_CMP_HI t
            = Nat.min (get2 (R.TRK_PCMP i) F.TRK_PCMP_CMP_LO F.TRK_PCMP_CMP_HI s + 2) (2 ^ 48 - 1)
        ∧ (symbolErrors i x s + ((laneOf i s).chk.errs.take 127).sum < 16 →
            isSet (R.TRK_TEST i) F.TRK_TEST_CHK_LOCK t = true
            ∧ Only [.lanes] (fun a => laneWord i a) s t)
        ∧ (16 ≤ symbolErrors i x s + ((laneOf i s).chk.errs.take 127).sum →
            isSet (R.TRK_TEST i) F.TRK_TEST_CHK_LOCK t = false ∧ isSet (R.TRK_STATUS i) F.TRK_STATUS_PRBS_LOSS t = true
            ∧ Raised (laneErrEvent i) t
            ∧ Only [.lanes, .bellq, .health] (fun a => laneWord i a ∨ bellWord (laneErrEvent i) a) s t))
  ∧ (∀ (i : LaneId) (up : Bool) (s : State), isDeparture i = true → (laneOf i s).rate170 = true →
      isSet (R.TRK_STATE i) F.TRK_STATE_RXLINK s = !up →
      After (exec (.rxlinkChange i up) s) fun t => isSet (R.TRK_STATE i) F.TRK_STATE_RXLINK t = up
        ∧ Raised (laneErrEvent i) t
        ∧ Only [.bellq, .health] (fun a => a = R.TRK_STATE i ∨ bellWord (laneErrEvent i) a) s t)

/-- From R27: when a quadrant PLL loses lock, every enabled lane that uses it is in DARK afterwards with cause QPLL_LOST
and has lost its energy count (the model's choice, log entry 76), the loss is counted and 2:(40 + q) raised; lanes of other quadrants, and lanes at the other rate, are
not affected. A relock restores the lock bit, sets LREF_PRESENT (the model's choice, log entry 78) and starts no
holdoff. -/
def Sys2Proof.Safety.QuadrantPllLossAndRelock : Prop :=
  (∀ (q : Fin 4) (x170 : Bool) (s : State),
      isSet (R.TRK_QUAD q) (if x170 then F.TRK_QUAD_PLL170_LOCK else F.TRK_QUAD_PLL180_LOCK) s = true →
      After (exec (.qpllLost q x170) s) fun t =>
        isSet (R.TRK_QUAD q) (if x170 then F.TRK_QUAD_PLL170_LOCK else F.TRK_QUAD_PLL180_LOCK) t = false
        ∧ Raised (ev 2 (40 + q)) t
        ∧ getF (R.TRK_QUAD q) F.TRK_QUAD_LOSS_COUNT t
            = (getF (R.TRK_QUAD q) F.TRK_QUAD_LOSS_COUNT s + 1) % 2 ^ F.TRK_QUAD_LOSS_COUNT.w
        ∧ (∀ i : LaneId, (laneOf i s).rate170 = (!x170) →
            laneOf i t = laneOf i s ∧ rd (R.TRK_STATE i) t = rd (R.TRK_STATE i) s)
        ∧ (∀ i : LaneId, quadOf i = q → laneEn i s = true → (laneOf i s).rate170 = x170 → ratePend i s = false →
            (laneState i s ≠ 0 → getF (R.TRK_STATE i) F.TRK_STATE_CAUSE t = 1) ∧ laneState i t = 0 ∧ (laneOf i t).energy = false ∧ getF (R.TRK_STATE i) F.TRK_STATE_HOLDOFF t = 0)
        ∧ (∀ i : LaneId, quadOf i ≠ q → laneOf i t = laneOf i s ∧ rd (R.TRK_STATE i) t = rd (R.TRK_STATE i) s))
  ∧ (∀ (q : Fin 4) (x170 : Bool) (s : State), (x170 = true → isSet (R.TRK_QUAD q) F.TRK_QUAD_PLL170_RUN s = true) →
      After (exec (.qpllRelock q x170) s) fun t =>
        ((x170 = true → ∀ i : LaneId, quadOf i = q → ratePend i s = false) →
          isSet (R.TRK_QUAD q) (if x170 then F.TRK_QUAD_PLL170_LOCK else F.TRK_QUAD_PLL180_LOCK) t = true)
        ∧ isSet (R.TRK_QUAD q) F.TRK_QUAD_LREF_PRESENT t = true
        ∧ (∀ i : LaneId, isSet (R.TRK_STATE i) F.TRK_STATE_HOLDOFF s = false →
            isSet (R.TRK_STATE i) F.TRK_STATE_HOLDOFF t = false)
        ∧ ∀ i : LaneId, quadOf i ≠ q → laneOf i t = laneOf i s ∧ rd (R.TRK_STATE i) t = rd (R.TRK_STATE i) s)

/-- From R39, R42, R49: TRK_CTRL. EN = 1 enables the lane; EN = 0 and TRST = 1 act as a per-track reset: DARK with cause
DISABLED, no holdoff, the FIFOs emptied. A PERS write takes effect at once in DARK, OPEN and TEST, and is deferred
in the states between. -/
def Sys2Proof.Safety.TrackControlWrites : Prop :=
  (∀ (m : Master) (i : LaneId) (s : State), Reaches m (R.TRK_CTRL i) s →
      After (exec (.trkEnSet m i) s) fun t => Okay m t ∧ laneEn i t = true)
  ∧ (∀ (m : Master) (i : LaneId) (s : State), Reaches m (R.TRK_CTRL i) s →
      After (exec (.trkEnClear m i) s) fun t => Okay m t ∧ laneEn i t = false ∧ laneState i t = 0
        ∧ getF (R.TRK_STATE i) F.TRK_STATE_HOLDOFF t = 0 ∧ (laneOf i t).fifo = []
        ∧ (isDeparture i = true → laneConsigs (laneOf i t) = [])
        ∧ (laneState i s ≠ 0 → getF (R.TRK_STATE i) F.TRK_STATE_CAUSE t = 2)
        ∧ ∀ k, k ≠ i → laneOf k t = laneOf k s)
  ∧ (∀ (m : Master) (i : LaneId) (s : State), Reaches m (R.TRK_CTRL i) s →
      After (exec (.trkTrst m i) s) fun t => Okay m t ∧ getF (R.TRK_STATE i) F.TRK_STATE_HOLDOFF t = 0
        ∧ (laneOf i t).fifo = [] ∧ (isDeparture i = true → laneConsigs (laneOf i t) = [])
        ∧ (∀ k, k ≠ i → laneOf k t = laneOf k s)
        ∧ (deaf i s = false → testOn i s = false → ratePend i s = false →
            (isDeparture i = true → getF (R.TRK_CTRL i) F.TRK_CTRL_PERS s = b2n (laneOf i s).rate170) →
            laneState i t = 0 ∧ (laneState i s ≠ 0 → getF (R.TRK_STATE i) F.TRK_STATE_CAUSE t = 2)))
  ∧ (∀ (m : Master) (i : LaneId) (pers : Bool) (s : State), Reaches m (R.TRK_CTRL i) s → isDeparture i = true →
      laneEn i s = true → getF (R.TRK_CTRL i) F.TRK_CTRL_PERS s = b2n (!pers) → (laneOf i s).rate170 = (!pers) →
      ratePend i s = false →
      After (exec (.trkPersWrite m i pers) s) fun t => Okay m t
        ∧ getF (R.TRK_CTRL i) F.TRK_CTRL_PERS t = b2n pers
        ∧ (laneState i s = 0 ∨ laneState i s = 5 ∨ laneState i s = 6 → (laneOf i t).rate170 = pers ∧ ratePend i t = false)
        ∧ (1 ≤ laneState i s → laneState i s ≤ 4 → testOn i s = false → deaf i s = false → (laneOf i t).rate170 = (!pers) ∧ (laneOf i t).ratePers = pers
            ∧ ratePend i t = true ∧ laneState i t = laneState i s))

/-- From R32, R46, R47, R83: a TRK_EQ word with MAIN of at least 24 and PRE + MAIN + POST of at most 63 is stored before the
seal, and any other is rejected with EQ_REJ and the lane's error event; the test fields put an enabled lane into
TEST; CLR clears both PRBS counters; PTS_FRCTL.CLR clears the framing counters. -/
def Sys2Proof.Safety.TrackEqualisationTestAndCounters : Prop :=
  (∀ (m : Master) (i : LaneId) (w : Word) (s : State), Reaches m (R.TRK_EQ i) s → sealed s = false →
      After (exec (.trkEqWrite m i w) s) fun t => Okay m t
        ∧ (eqValid w = true → rd (R.TRK_EQ i) t = BitVec.ofNat 40 (w.toNat % 2 ^ 25))
        ∧ (eqValid w = false → rd (R.TRK_EQ i) t = rd (R.TRK_EQ i) s
            ∧ getF (R.TRK_STATUS i) F.TRK_STATUS_EQ_REJ t = 1 ∧ Raised (laneErrEvent i) t))
  ∧ (∀ (m : Master) (i : LaneId) (gen chk : Fin 4) (s : State), Reaches m (R.TRK_TEST i) s → gen.val ≤ 2 →
      chk.val ≤ 2 → gen.val + chk.val ≠ 0 → laneEn i s = true → pllLocked i s = true → pstate s ≤ 2 →
      After (exec (.trkTestWrite m i gen chk) s) fun t => Okay m t
        ∧ getF (R.TRK_TEST i) F.TRK_TEST_GEN t = gen.val ∧ getF (R.TRK_TEST i) F.TRK_TEST_CHK t = chk.val
        ∧ laneState i t = 6 ∧ (laneState i s ≠ 6 → getF (R.TRK_STATE i) F.TRK_STATE_CAUSE t = 13))
  ∧ (∀ (m : Master) (i : LaneId) (s : State), Reaches m (R.TRK_TEST i) s →
      After (exec (.prbsClear m i) s) fun t => Okay m t
        ∧ get2 (R.TRK_PERR i) F.TRK_PERR_ERR_LO F.TRK_PERR_ERR_HI t = 0
        ∧ get2 (R.TRK_PCMP i) F.TRK_PCMP_CMP_LO F.TRK_PCMP_CMP_HI t = 0)
  ∧ (∀ (m : Master) (i : LaneId) (s : State), Reaches m (R.PTS_FRCTL i) s →
      After (exec (.framingCounterClear m i) s) fun t => Okay m t
        ∧ getF (R.PTS_FRTRN i) F.PTS_FRTRN_COUNT t = 0 ∧ getF (R.PTS_FRCSYM i) F.PTS_FRCSYM_COUNT t = 0
        ∧ getF (R.PTS_FRUNC i) F.PTS_FRUNC_COUNT t = 0 ∧ getF (R.PTS_FRLATE i) F.PTS_FRLATE_COUNT t = 0
        ∧ getF (R.PTS_FRLOST i) F.PTS_FRLOST_COUNT t = 0)

/-! ### Trains -/

/-- The symbols carry train `t`, `corr` code symbols of it corrected, to a lane that receives it (R29, R30, R54-R56),
and no injected burst waits for it (Table 12.7). -/
def Sys2Proof.Safety.Carries (i : Nat) (syms : List (BitVec 2)) (t : Train) (corr : Nat) (s : State) : Prop :=
  receivedTrain i syms s = some (t, corr) ∧ corr ≤ 8 ∧ (laneOf i s).rate170 = false ∧ ignored i s = false
    ∧ findInj (fun x : Inj => x.code == 1 && x.unit == i) s = none

/-- From R58-R66, R432: a DATA train that passes every check of R432 on a lane in OPEN of a running device enters the arrival
FIFO with its extended index, place and BAD flag, and its block counts as written for R68; the train and its corrected
symbols are counted and SEQ taken. -/
def Sys2Proof.Safety.DataTrainEntersArrivalFifo : Prop :=
  ∀ (i : LaneId) (syms : List (BitVec 2)) (t : Train) (corr : Nat) (e : StreamEntry) (s : State),
    laneState i s = 5 → pstate s = 1 → Carries i syms t corr s → isArrival i = true →
    t.typ = 1#4 → t.fmt.toNat ≤ 3 → streamEntry t.stream.toNat s = some e → e.lane = i → e.fmt = t.fmt.toNat →
    e.base ≤ t.cchan.toNat → t.cchan.toNat < e.base + e.ccount → frontValid s = true →
    extendIndex (frontNow s) t.tlow.toNat % (formatTimes t.fmt.toNat : Int) = 0 →
    (s.arr.base : Int) ≤ extendIndex (frontNow s) t.tlow.toNat →
    (frontNow s : Int) ≤ extendIndex (frontNow s) t.tlow.toNat → (laneOf i s).fifo.length < 256 →
    After (exec (.dataTrainReceive i syms) s) fun u =>
      (laneOf i u).fifo = (laneOf i s).fifo ++ [⟨false, (extendIndex (frontNow s) t.tlow.toNat).toNat, t.fmt.toNat, e.first,
          e.dev + (t.cchan.toNat - e.base), t.flags.toNat % 2 == 1, t.cars⟩]
      ∧ (laneOf i u).rxSeq = t.seq.toNat ∧ (laneOf i u).uncSince = 0
      ∧ getF (R.PTS_FRTRN i) F.PTS_FRTRN_COUNT u = Nat.min (getF (R.PTS_FRTRN i) F.PTS_FRTRN_COUNT s + 1) (2 ^ 40 - 1)
      ∧ getF (R.PTS_FRCSYM i) F.PTS_FRCSYM_COUNT u
          = Nat.min (getF (R.PTS_FRCSYM i) F.PTS_FRCSYM_COUNT s + corr) (2 ^ 40 - 1)
      ∧ u.arr = { s.arr with top := Nat.max s.arr.top ((extendIndex (frontNow s) t.tlow.toNat).toNat / 40 * 40 + 40) }
      ∧ Only [.lanes, .arr, .bellq, .health] (fun a => frameWord i a ∨ bellWord (frameEvent i) a) s u
      ∧ ∀ k, k ≠ i → laneOf k u = laneOf k s

/-- From R432: the first failing check decides. A reserved FMT is BAD_INDEX whatever the STREAM, an unknown STREAM is
BAD_STREAM, a STREAM of another lane is BAD_STREAM, a wrong FMT is BAD_INDEX and a channel outside the entry's range is
BAD_CCHAN; in each case the train does not reach the FIFO. -/
def Sys2Proof.Safety.DataTrainChecksInOrder : Prop :=
  ∀ (i : LaneId) (syms : List (BitVec 2)) (t : Train) (corr : Nat) (s : State),
    laneState i s = 5 → pstate s = 1 → Carries i syms t corr s → isArrival i = true → t.typ = 1#4 →
    (3 < t.fmt.toNat → After (exec (.dataTrainReceive i syms) s) fun u =>
        getBit (R.PTS_FRSTAT i) ⟨0, 0, 12⟩ 4 u = true ∧ (laneOf i u).fifo = (laneOf i s).fifo)
    ∧ (t.fmt.toNat ≤ 3 → streamEntry t.stream.toNat s = none →
        After (exec (.dataTrainReceive i syms) s) fun u =>
          getBit (R.PTS_FRSTAT i) ⟨0, 0, 12⟩ 3 u = true ∧ (laneOf i u).fifo = (laneOf i s).fifo)
    ∧ (∀ e, t.fmt.toNat ≤ 3 → streamEntry t.stream.toNat s = some e → e.lane ≠ i →
        After (exec (.dataTrainReceive i syms) s) fun u =>
          getBit (R.PTS_FRSTAT i) ⟨0, 0, 12⟩ 3 u = true ∧ (laneOf i u).fifo = (laneOf i s).fifo)
    ∧ (∀ e, t.fmt.toNat ≤ 3 → streamEntry t.stream.toNat s = some e → e.lane = i → e.fmt ≠ t.fmt.toNat →
        After (exec (.dataTrainReceive i syms) s) fun u =>
          getBit (R.PTS_FRSTAT i) ⟨0, 0, 12⟩ 4 u = true ∧ (laneOf i u).fifo = (laneOf i s).fifo)
    ∧ (∀ e, t.fmt.toNat ≤ 3 → streamEntry t.stream.toNat s = some e → e.lane = i → e.fmt = t.fmt.toNat →
        (t.cchan.toNat < e.base ∨ e.base + e.ccount ≤ t.cchan.toNat) →
        After (exec (.dataTrainReceive i syms) s) fun u =>
          getBit (R.PTS_FRSTAT i) ⟨0, 0, 12⟩ 5 u = true ∧ (laneOf i u).fifo = (laneOf i s).fifo)

/-- From R35, R38, R58-R62, R73, R76, R327: the other trains. A valid token updates TRK_PEER, and one of stage HELLO or PARKED
on a lane in OPEN sends it to HANDSHAKE; a TIMETABLE train waits in the FIFO behind the highest block of the DATA trains
before it; a TEST train sets TEST_ERR exactly when a car is not zero; a COUPLING train with another PAIR_ID is
BAD_STREAM; an uncorrectable codeword is counted and flagged; 2,048 trains without a filler are FILLER_MISS. -/
def Sys2Proof.Safety.OtherTrainsReceived : Prop :=
  (∀ (i : LaneId) (syms : List (BitVec 2)) (t : Train) (corr : Nat) (s : State),
      laneState i s = 5 → Carries i syms t corr s → oneWay i s = false → t.typ = 2#4 →
      tokenForm (t.cars.headD 0#40) = true → peerOk i (t.cars.headD 0#40) s = true →
      After (exec (.fillerReceive i syms) s) fun u => (laneOf i u).nonFill = 0
        ∧ getF (R.TRK_PEER i) F.TRK_PEER_LINK_ID u = bitsOf (t.cars.headD 0#40) 0 16
        ∧ getF (R.TRK_PEER i) F.TRK_PEER_STAGE u = bitsOf (t.cars.headD 0#40) 30 2
        ∧ getF (R.TRK_PEER i) F.TRK_PEER_ANY u = 1
        ∧ (bitsOf (t.cars.headD 0#40) 30 2 = 0 ∨ bitsOf (t.cars.headD 0#40) 30 2 = 3 → Moved i 4 11 s u)
        ∧ (bitsOf (t.cars.headD 0#40) 30 2 = 1 ∨ bitsOf (t.cars.headD 0#40) 30 2 = 2 → laneState i u = 5))
  ∧ (∀ (i : LaneId) (syms : List (BitVec 2)) (t : Train) (corr : Nat) (s : State),
      laneState i s = 5 → pstate s = 1 → Carries i syms t corr s → isArrival i = true →
      t.typ = 3#4 → isSet (R.PTS_FRCTL i) F.PTS_FRCTL_TT_EN s = true →
      t.stream.toNat = getF R.PTS_ARRCFG F.PTS_ARRCFG_TT_STREAM s → frontValid s = true → (laneOf i s).fifo.length < 256 →
      After (exec (.timetableTrainReceive i syms) s) fun u =>
        (laneOf i u).fifo = (laneOf i s).fifo ++ [⟨true, (match (laneOf i s).hiBlock with | some b => 40 * (b + 1) | none => 0),
          0, t.tlow.toNat, 0, (laneOf i s).hiBlock.isNone, t.cars⟩])
  ∧ (∀ (i : LaneId) (syms : List (BitVec 2)) (t : Train) (corr : Nat) (s : State),
      3 ≤ laneState i s → laneState i s ≤ 5 → Carries i syms t corr s → t.typ = 4#4 →
      After (exec (.testTrainReceive i syms) s) fun u =>
        getBit (R.PTS_FRSTAT i) ⟨0, 0, 12⟩ 11 u
          = (getBit (R.PTS_FRSTAT i) ⟨0, 0, 12⟩ 11 s || t.cars.any (· != 0#40)))
  ∧ (∀ (i : LaneId) (syms : List (BitVec 2)) (t : Train) (corr : Nat) (s : State),
      80 ≤ i.val → laneState i s = 5 → Carries i syms t corr s → t.typ = 5#4 →
      After (exec (.couplingTrainReceive i syms) s) fun u =>
        getBit (R.PTS_FRSTAT i) ⟨0, 0, 12⟩ 3 u = (getBit (R.PTS_FRSTAT i) ⟨0, 0, 12⟩ 3 s
          || t.stream.toNat != ownPair s || !carsParse 128 t.cars) ∧ u.cpl = s.cpl)
  ∧ (∀ (i : LaneId) (s : State), 3 ≤ laneState i s → laneState i s ≤ 5 → ignored i s = false →
      laneState i s ≠ 5 ∨ deaf i s = true ∨ (laneOf i s).uncSince < 7 →
      After (exec (.uncorrectableTrain i) s) fun u => (laneOf i u).tokAny = 0 ∧ (laneOf i u).tokSeen = 0 ∧
        getF (R.PTS_FRUNC i) F.PTS_FRUNC_COUNT u = Nat.min (getF (R.PTS_FRUNC i) F.PTS_FRUNC_COUNT s + 1) (2 ^ 40 - 1)
        ∧ (laneOf i u).uncSince = (laneOf i s).uncSince + 1 ∧ getBit (R.PTS_FRSTAT i) ⟨0, 0, 12⟩ 0 u = true
        ∧ Only [.lanes, .bellq, .health] (fun a => frameWord i a ∨ bellWord (frameEvent i) a) s u)
  ∧ (∀ (i : LaneId) (s : State), 3 ≤ laneState i s → laneState i s ≤ 5 → ignored i s = false →
      2048 ≤ (laneOf i s).nonFill →
      After (exec (.fillerMiss i) s) fun u => getBit (R.PTS_FRSTAT i) ⟨0, 0, 12⟩ 8 u = true
        ∧ Only [.bellq, .health] (fun a => a = R.PTS_FRSTAT i ∨ bellWord (frameEvent i) a) s u)

/-- From R39, R54-R58, R61, R78: a transmitting lane with nothing ready sends a filler with its token and the next SEQ; a
departure in OPEN of a running device sends the next 128 words of the consignment in transmission, and no frame of
another lane changes. -/
def Sys2Proof.Safety.TrainsLeaveWithNextSeq : Prop :=
  (∀ (i : LaneId) (s : State), transmits i s = true → isDeparture i = false → (pstate s = 3 → 1 < (laneOf i s).parks) →
      After (exec (.trainTransmit i) s) fun u =>
        (laneOf i u).lastTx = some ⟨2#4, BitVec.ofNat 12 (laneOf i s).txSeq, 0#16, 0#12, 0#4, 0#8, 0#24, fillerCars i s⟩
        ∧ (laneOf i u).txSeq = ((laneOf i s).txSeq + 1) % 4096 ∧ (laneOf i u).sinceFill = 0
        ∧ Only [.lanes] (fun _ => False) s u ∧ ∀ k, k ≠ i → laneOf k u = laneOf k s)
  ∧ (∀ (i : LaneId) (c : Consig) (sent : Nat) (s : State), transmits i s = true → isDeparture i = true →
      laneState i s = 5 → pstate s = 1 → (laneOf i s).sinceFill < 2047 → (laneOf i s).cur = some (c, sent) →
      0 < sent → sent + 128 < c.words.length → (∀ x ∈ laneConsigs (laneOf i s), twinMutes x s = false) →
      After (exec (.trainTransmit i) s) fun u =>
        (laneOf i u).lastTx = some ⟨6#4, BitVec.ofNat 12 (laneOf i s).txSeq, 0#16, 0xFFF#12, 0#4, 0#8, 0#24,
          (c.words.drop sent).take 128⟩
        ∧ (laneOf i u).cur = some (c, sent + 128) ∧ (laneOf i u).txSeq = ((laneOf i s).txSeq + 1) % 4096
        ∧ Only [.lanes] (fun _ => False) s u ∧ ∀ k, k ≠ i → laneOf k u = laneOf k s)

/-- No join index lies at or below `n`, and no cut waits to be installed (R340). -/
def Sys2Proof.Safety.NoJoinAt (n : Nat) (s : State) : Prop :=
  (∀ j, s.cpl.anchor = some j → n < j) ∧ (∀ j, s.cpl.join = some j → n < j) ∧ s.cpl.commitIn = none

/-- From R68, R71: the front advances by one block of 40 when the block is complete, when the skew has run out with data
waiting, and at the nominal rate with none. -/
def Sys2Proof.Safety.ReleaseAdvancesTheFront : Prop :=
  (∀ s : State, releaseOk s = true → NoJoinAt (frontNow s + 40) s → blockComplete (frontNow s) s = true →
      After (exec .blockRelease s) fun u => frontNow u = (frontNow s + 40) % 2 ^ 48 ∧ u.gau.limit = frontNow s + 40)
  ∧ (∀ s : State, releaseOk s = true → NoJoinAt (frontNow s + 40) s → dataWaits (frontNow s) s = true →
      After (exec .arrSkewExpiry s) fun u => frontNow u = (frontNow s + 40) % 2 ^ 48 ∧ u.gau.limit = frontNow s + 40)
  ∧ (∀ s : State, releaseOk s = true → NoJoinAt (frontNow s + 40) s → dataWaits (frontNow s) s = false →
      After (exec .nominalRelease s) fun u => frontNow u = (frontNow s + 40) % 2 ^ 48 ∧ u.gau.limit = frontNow s + 40)


/-! ### Timetable -/

/-- The next record is one that `p` names, `rest` follow it, and no join comes first (R74, R340). -/
def Sys2Proof.Safety.Heads (p : TRec → Bool) (rest : List TRec) (s : State) : Prop :=
  (∃ r, s.ttb.recs = r :: rest ∧ p r = true) ∧ joinPending s = false

/-- No record that `p` names is the next one. -/
def Sys2Proof.Safety.NoHead (p : TRec → Bool) (s : State) : Prop := ∀ r rest, s.ttb.recs = r :: rest → p r = false

/-- The record that an EPOCH command names. -/
def Sys2Proof.Safety.isEpoch (sec : BitVec 40) (n48 : BitVec 48) (frac : BitVec 32) (r : TRec) : Bool :=
  r.kind == 1 && r.body == epochBody sec.toNat n48.toNat frac.toNat

/-- From R73, R74, R231: the next timetable train that the release handed on is taken. A TTSER that is new is stored and the
train's records wait in car order; a gap in TTSER sets TT_GAP and a malformed record TT_FORMAT on its lane. A TTSER
that is not new changes nothing else. -/
def Sys2Proof.Safety.TimetableTrainIsTaken : Prop :=
  ∀ (t : TTrain) (rest : List TTrain) (s : State), s.ttb.ready = t :: rest → s.ttb.recs = [] → joinPending s = false →
    t.lane < 84 → t.ttser < 2 ^ 24 →
    (ttserFresh t.ttser s = true →
      After (exec .timetableTrainProcess s) fun u => u.ttb.ready = rest
        ∧ u.ttb.recs = (parseRecords t.sigma t.lane 128 t.cars).1
        ∧ getF R.PTS_TTSER F.PTS_TTSER_LAST u = t.ttser ∧ isSet R.PTS_TTSER F.PTS_TTSER_VALID u = true
        ∧ ((parseRecords t.sigma t.lane 128 t.cars).2 = true → getBit (R.PTS_FRSTAT t.lane) ⟨0, 0, 12⟩ 10 u = true)
        ∧ (isSet R.PTS_TTSER F.PTS_TTSER_VALID s = true →
            t.ttser ≠ (getF R.PTS_TTSER F.PTS_TTSER_LAST s + 1) % 2 ^ 24 →
            getBit (R.PTS_FRSTAT t.lane) ⟨0, 0, 12⟩ 9 u = true)
        ∧ Only [.ttb, .bellq, .health]
            (fun a => a = R.PTS_TTSER ∨ a = R.PTS_FRSTAT t.lane ∨ bellWord (frameEvent t.lane) a) s u)
    ∧ (ttserFresh t.ttser s = false →
      After (exec .timetableTrainProcess s) fun u => u.ttb.ready = rest ∧ u.ttb.recs = []
        ∧ Only [.ttb] (fun _ => False) s u)

/-- From R74, R227, R228: the EPOCH record that heads its train's records is applied and leaves them; another one is not. It replaces the epoch mark and makes it valid; the first one after a data-plane reset establishes the front at the first multiple of 40 that is not below N48, and a later one leaves the front alone. -/
def Sys2Proof.Safety.EpochRecordSetsMarkAndFront : Prop :=
  ∀ (sec : BitVec 40) (n48 : BitVec 48) (frac : BitVec 32) (rest : List TRec) (s : State),
    (NoHead (isEpoch sec n48 frac) s → exec (.epoch sec n48 frac) s = .next s)
    ∧ (Heads (isEpoch sec n48 frac) rest s → 40 * cdiv n48.toNat 40 < 2 ^ 48 →
      After (exec (.epoch sec n48 frac) s) fun u => u.ttb.recs = rest
      ∧ getF R.TTB_EPOCH F.TTB_EPOCH_SEC u = sec.toNat ∧ epochN48 u = n48.toNat
      ∧ getF R.TTB_EPOCH F.TTB_EPOCH_FRAC u = frac.toNat ∧ isSet R.TTB_STATE F.TTB_STATE_EPOCH_VALID u = true
      ∧ (s.ttb.newFront = true → frontNow u = 40 * cdiv n48.toNat 40 ∧ frontValid u = true ∧ u.ttb.newFront = false
          ∧ u.arr.base = 40 * cdiv n48.toNat 40 ∧ originNow u = cdiv (40 * cdiv n48.toNat 40) (cfgP s))
      ∧ (s.ttb.newFront = false → frontNow u = frontNow s ∧ originNow u = originNow s))

/-- From R231, R233, Tables 9.1 and 9.2: an ACTION record meets the checks in their order, BAD_CODE, BAD_KEY, LATE, TOO_FAR,
FULL; the first that fails sets its bit of TTB_STATUS and the queue stays; one that meets them all takes the lowest free
in-band entry. CAPTURE is BAD_CODE in an ACTION. -/
def Sys2Proof.Safety.ActionRecordIsCheckedAndQueued : Prop :=
  ∀ (sigma : Nat) (code : BitVec 8) (key : BitVec 48) (arg : BitVec 32) (zero : BitVec 24) (rest : List TRec) (s : State),
    let named := isAction sigma code.toNat zero.toNat (keyBody key.toNat arg.toNat) s
    let rejected (b : Nat) := After (exec (.action sigma code key arg zero) s) fun u => u.ttb.recs = rest ∧
      getBit R.TTB_STATUS F.TTB_STATUS_EVT b u = true ∧ u.ttb.queue = s.ttb.queue
    (NoHead named s → exec (.action sigma code key arg zero) s = .next s)
    ∧ (Heads named rest s →
    (codeOk code.toNat arg.toNat = false ∨ code = 0x10#8 → rejected 5)
    ∧ (codeOk code.toNat arg.toNat = true → code ≠ 0x10#8 →
        (code = 0x18#8 ∧ dpKeyOk key.toNat s = false → rejected 6)
        ∧ ((code = 0x18#8 → dpKeyOk key.toNat s = true) →
          (key.toNat < sigma + getF R.TTB_LEAD F.TTB_LEAD_LEAD s → rejected 2)
          ∧ (sigma + getF R.TTB_LEAD F.TTB_LEAD_LEAD s ≤ key.toNat →
            (sigma + 2 ^ 40 ≤ key.toNat → rejected 3)
            ∧ (key.toNat < sigma + 2 ^ 40 → inbandFull sigma s = true → rejected 4)
            ∧ (∀ k, key.toNat < sigma + 2 ^ 40 → inbandFull sigma s = false → freeSlot false s = some k →
                After (exec (.action sigma code key arg zero) s) fun u =>
                  u.ttb.recs = rest
                  ∧ u.ttb.queue = s.ttb.queue ++ [⟨k, key.toNat, code.toNat, arg.toNat, 0, sigma, false, s.ttb.turn, sigma⟩]
                  ∧ rd (queueAddr k) u = BitVec.ofNat 40 key.toNat
                  ∧ rd (queueAddr k + 2) u = BitVec.ofNat 40 arg.toNat
                  ∧ (s.cpl.logOn = false → Only [.ttb, .cpl]
                      (fun a => a = R.TTB_STATE ∨ within (queueAddr k) (queueAddr k + 4) a) s u))))))

/-- From R231, R234, Table 9.3: a TRIGGER that meets the checks is queued as a CAPTURE whose ARG joins descriptor and length, and one
below its lead is LATE. -/
def Sys2Proof.Safety.TriggerRecordQueuesCapture : Prop :=
  ∀ (sigma : Nat) (desc : BitVec 8) (key : BitVec 48) (len : BitVec 32) (rest : List TRec) (s : State),
    (NoHead (isTrigger sigma desc.toNat (keyBody key.toNat len.toNat) s) s →
      exec (.trigger sigma desc key len) s = .next s)
    ∧ (Heads (isTrigger sigma desc.toNat (keyBody key.toNat len.toNat) s) rest s →
    (key.toNat < sigma + getF R.TTB_LEAD F.TTB_LEAD_LEAD s →
      After (exec (.trigger sigma desc key len) s) fun u =>
        getBit R.TTB_STATUS F.TTB_STATUS_EVT 2 u = true ∧ u.ttb.queue = s.ttb.queue)
    ∧ (∀ k, sigma + getF R.TTB_LEAD F.TTB_LEAD_LEAD s ≤ key.toNat → key.toNat < sigma + 2 ^ 40 →
        inbandFull sigma s = false → freeSlot false s = some k →
        After (exec (.trigger sigma desc key len) s) fun u =>
          u.ttb.queue = s.ttb.queue
            ++ [⟨k, key.toNat, 0x10, desc.toNat * 2 ^ 32 + len.toNat, 1, sigma, false, s.ttb.turn, sigma⟩]
          ∧ u.ttb.recs = rest))

/-- No word of either delay set has changed. -/
def Sys2Proof.Safety.SetsKept (s t : State) : Prop :=
  (∀ k, k < 2 → rd (R.PTS_DSET k) t = rd (R.PTS_DSET k) s) ∧ ∀ a, within 0x3030000 0x3050000 a → rd a t = rd a s

/-- From R97: a SETHDR with COUNT or SPAN 0 is TT_FORMAT on its lane; otherwise its set holds a slot with no record received. A
DELAY record for a set that holds a slot stores its six coefficients and counts a new input, and COMPLETE follows the
count; a set without a slot, an input beyond N, or one more input than COUNT is DSET_ERR and stores nothing. -/
def Sys2Proof.Safety.DelaySetRecords : Prop :=
  (∀ (i : LaneId) (set : BitVec 8) (count : BitVec 14) (t0 : BitVec 48) (span : BitVec 32) (rest : List TRec) (s : State),
      (NoHead (isSethdr i set.toNat count.toNat (keyBody t0.toNat span.toNat)) s →
        exec (.sethdr i set count t0 span) s = .next s)
      ∧ (Heads (isSethdr i set.toNat count.toNat (keyBody t0.toNat span.toNat)) rest s →
      (count = 0#14 ∨ span = 0#32 → After (exec (.sethdr i set count t0 span) s) fun u =>
        u.ttb.recs = rest ∧ getBit (R.PTS_FRSTAT i) ⟨0, 0, 12⟩ 10 u = true ∧ dsetOf u set.toNat = dsetOf s set.toNat)
      ∧ (count ≠ 0#14 → span ≠ 0#32 → After (exec (.sethdr i set count t0 span) s) fun u =>
        u.ttb.recs = rest ∧ ∃ k, k < 2 ∧ dsetOf u set.toNat = some k ∧ getF (R.PTS_DSET k) F.PTS_DSET_COUNT u = count.toNat
          ∧ getF (R.PTS_DSET k) F.PTS_DSET_RCVD u = 0 ∧ isSet (R.PTS_DSET k) F.PTS_DSET_COMPLETE u = false
          ∧ u.pts.setT0.get (fun _ => 0) k = t0.toNat ∧ u.pts.setSpan.get (fun _ => 0) k = span.toNat)))
  ∧ (∀ (set : BitVec 8) (input : BitVec 13) (coefs : List Word) (rest : List TRec) (s : State),
      (NoHead (isDelay set.toNat input.toNat coefs) s → exec (.delay set input coefs) s = .next s)
      ∧ (Heads (isDelay set.toNat input.toNat coefs) rest s →
      (dsetOf s set.toNat = none → After (exec (.delay set input coefs) s) fun u => u.ttb.recs = rest ∧
        getBit R.PTS_STATUS ⟨0, 0, 9⟩ 5 u = true ∧ SetsKept s u)
      ∧ (∀ k, dsetOf s set.toNat = some k →
          cfgN s ≤ input.toNat ∨ (bitsOf (rd (dsetMem k input.toNat 6) s) 0 1 = 0
            ∧ getF (R.PTS_DSET k) F.PTS_DSET_RCVD s = getF (R.PTS_DSET k) F.PTS_DSET_COUNT s) →
          After (exec (.delay set input coefs) s) fun u => u.ttb.recs = rest ∧
            getBit R.PTS_STATUS ⟨0, 0, 9⟩ 5 u = true ∧ SetsKept s u)
      ∧ (∀ k, dsetOf s set.toNat = some k → input.toNat < cfgN s → coefs.length = 6 →
          bitsOf (rd (dsetMem k input.toNat 6) s) 0 1 = 0 →
          getF (R.PTS_DSET k) F.PTS_DSET_RCVD s < getF (R.PTS_DSET k) F.PTS_DSET_COUNT s →
          After (exec (.delay set input coefs) s) fun u =>
            (∀ w, w < 6 → rd (dsetMem k input.toNat w) u = coefs.getD w 0#40)
            ∧ bitsOf (rd (dsetMem k input.toNat 6) u) 0 1 = 1
            ∧ getF (R.PTS_DSET k) F.PTS_DSET_RCVD u = getF (R.PTS_DSET k) F.PTS_DSET_RCVD s + 1
            ∧ getF (R.PTS_DSET k) F.PTS_DSET_COMPLETE u
                = (if getF (R.PTS_DSET k) F.PTS_DSET_RCVD s + 1 = getF (R.PTS_DSET k) F.PTS_DSET_COUNT s then 1 else 0))))

/-- From R234: GO = 1 in an enqueue set, written by the set's owner, submits KEY, CODE and ARG: RESULT tells the outcome, an
accepted or provisional entry takes the lowest free local place and no other submission changes the queue. -/
def Sys2Proof.Safety.EnqueueSetSubmits : Prop :=
  ∀ (m : Master) (set : Fin 10) (s : State), m.val = enqOwner set → Reaches m (R.TTB_ENQ set + 3) s →
    let key := get2 (R.TTB_ENQ set) F.TTB_ENQ_KEY_LO F.TTB_ENQ_KEY_HI s
    let code := getF (R.TTB_ENQ set) F.TTB_ENQ_CODE s
    let arg := getF (R.TTB_ENQ set) F.TTB_ENQ_ARG s
    After (exec (.enqueueSubmit m set) s) fun u => Okay m u
      ∧ getF (R.TTB_ENQ set) F.TTB_ENQ_RESULT u = (localCheck key code arg s).code
      ∧ (localCheck key code arg s = .accepted ∨ localCheck key code arg s = .provisional →
          ∃ k, freeSlot true s = some k ∧ u.ttb.queue = s.ttb.queue ++ [⟨k, key, code, arg, 2 + set, 0,
            localCheck key code arg s == .provisional, s.ttb.turn, 0⟩])
      ∧ (localCheck key code arg s ≠ .accepted → localCheck key code arg s ≠ .provisional → u.ttb.queue = s.ttb.queue)

/-- From R235: the entry that is delivered next is held and due, and no due entry has a smaller KEY. -/
def Sys2Proof.Safety.DueEntriesLeaveInKeyOrder : Prop :=
  ∀ (e : Entry) (s : State), dueNext s = some e → e ∈ s.ttb.queue ∧ e.due (frontNow s) = true
    ∧ (∀ x ∈ s.ttb.queue, x.due (frontNow s) = true → e.key ≤ x.key)
    ∧ (∀ x ∈ s.ttb.queue, x.due (frontNow s) = true → x.key = e.key → e.code = 0x18 → x.code = 0x18)

/-- From R106, R107, R215, R235: a bank swap that becomes due leaves the queue. When the inactive bank is marked ready the
swap is committed for the first sample at or after KEY; otherwise, and for gains always in HOLD mode, the swap is missed
and counted in CMISS or GMISS. -/
def Sys2Proof.Safety.SwapsThatBecomeDue : Prop :=
  ∀ (e : Entry) (key : BitVec 48) (s : State), dueNext s = some e → e.key = key.toNat →
    (e.code = 0x01 → s.pts.cswap.last ≠ some (cdiv e.key (cfgP s)) →
      After (exec (.ptsCswap key) s) fun u => u.ttb.queue = s.ttb.queue.filter (·.slot != e.slot)
        ∧ (isSet R.PTS_BANKS F.PTS_BANKS_CRDY s = true →
            u.pts.cswap = ⟨s.pts.cswap.at_ ++ [cdiv e.key (cfgP s)], some (cdiv e.key (cfgP s))⟩)
        ∧ (isSet R.PTS_BANKS F.PTS_BANKS_CRDY s = false → u.pts.cswap.at_ = s.pts.cswap.at_
            ∧ getF R.PTS_BANKS F.PTS_BANKS_CMISS u
                = (getF R.PTS_BANKS F.PTS_BANKS_CMISS s + 1) % 2 ^ F.PTS_BANKS_CMISS.w
            ∧ getBit R.PTS_STATUS ⟨0, 0, 9⟩ 0 u = true))
    ∧ (e.code = 0x02 → s.pts.gswap.last ≠ some (cdiv e.key (cfgP s)) →
      After (exec (.ptsGswap key) s) fun u => u.ttb.queue = s.ttb.queue.filter (·.slot != e.slot)
        ∧ (isSet R.PTS_BANKS F.PTS_BANKS_GRDY s = true → getF R.PTS_GCTL F.PTS_GCTL_MODE s ≠ 0 →
            u.pts.gswap = ⟨s.pts.gswap.at_ ++ [cdiv e.key (cfgP s)], some (cdiv e.key (cfgP s))⟩)
        ∧ (isSet R.PTS_BANKS F.PTS_BANKS_GRDY s = false ∨ getF R.PTS_GCTL F.PTS_GCTL_MODE s = 0 →
            u.pts.gswap.at_ = s.pts.gswap.at_
            ∧ getF R.PTS_BANKS F.PTS_BANKS_GMISS u
                = (getF R.PTS_BANKS F.PTS_BANKS_GMISS s + 1) % 2 ^ F.PTS_BANKS_GMISS.w
            ∧ getBit R.PTS_STATUS ⟨0, 0, 9⟩ 0 u = true))

/-- From R240: a SNAPSHOT that becomes due copies every lane's late and lost counts, stores TAG and KEY, counts and sets
BUSY; the copy's end clears BUSY and raises 11:11. R233: MARK stores its value, counts and raises 11:10. -/
def Sys2Proof.Safety.SnapshotsAndMarks : Prop :=
  (∀ (e : Entry) (tag : BitVec 32) (key : BitVec 48) (s : State), dueNext s = some e → e.key = key.toNat →
      e.code = 0x11 → e.arg = tag.toNat →
      After (exec (.snapshot tag key) s) fun u => u.ttb.queue = s.ttb.queue.filter (·.slot != e.slot)
        ∧ getF R.TTB_SNAP F.TTB_SNAP_TAG u = tag.toNat
        ∧ get2 R.TTB_SNAP ⟨1, 0, 40⟩ ⟨2, 0, 8⟩ u = key.toNat
        ∧ getF R.TTB_SNAP F.TTB_SNAP_COUNT u = (getF R.TTB_SNAP F.TTB_SNAP_COUNT s + 1) % 256
        ∧ isSet R.TTB_SNAP F.TTB_SNAP_BUSY u = true
        ∧ ∀ i, i < 64 → rd (0x1001000 + 2 * i) u = rd (R.PTS_FRLATE i) s ∧ rd (0x1001001 + 2 * i) u = rd (R.PTS_FRLOST i) s)
  ∧ (∀ s : State, isSet R.TTB_SNAP F.TTB_SNAP_BUSY s = true → s.ttb.snapJ = none → s.ttb.snapB = none →
      After (exec .snapshotCopyDone s) fun u => isSet R.TTB_SNAP F.TTB_SNAP_BUSY u = false ∧ Raised (ev 11 11) u
        ∧ Only [.bellq, .health] (fun a => a = R.TTB_SNAP + 2 ∨ a = R.TTB_STATUS ∨ bellWord (ev 11 11) a) s u)
  ∧ (∀ (e : Entry) (val : BitVec 32) (key : BitVec 48) (s : State), dueNext s = some e → e.key = key.toNat →
      e.code = 0x12 → e.arg = val.toNat →
      After (exec (.mark val key) s) fun u => u.ttb.queue = s.ttb.queue.filter (·.slot != e.slot)
        ∧ getF R.TTB_MARK F.TTB_MARK_VALUE u = val.toNat
        ∧ getF R.TTB_MARK F.TTB_MARK_COUNT u = (getF R.TTB_MARK F.TTB_MARK_COUNT s + 1) % 256 ∧ Raised (ev 11 10) u)

/-- From R225, R226: TREF's loss sets HOLDOVER and its condition, its return clears HOLDOVER; the selected PPS edge latches the
tick and counts when its spacing is within the tolerance, and is a PPS fault otherwise, as is a missing edge. -/
def Sys2Proof.Safety.TrefAndPps : Prop :=
  (∀ s : State, isSet R.TTB_STATE F.TTB_STATE_HOLDOVER s = false →
      After (exec .trefLoss s) fun u => isSet R.TTB_STATE F.TTB_STATE_HOLDOVER u = true
        ∧ getBit R.TTB_STATUS F.TTB_STATUS_EVT 8 u = true
        ∧ Only [.bellq, .health] (fun a => a = R.TTB_STATE ∨ a = R.TTB_STATUS ∨ bellWord (ev 11 8) a) s u)
  ∧ (∀ s : State, isSet R.TTB_STATE F.TTB_STATE_HOLDOVER s = true →
      After (exec .trefReturn s) fun u => isSet R.TTB_STATE F.TTB_STATE_HOLDOVER u = false
        ∧ getBit R.TTB_STATUS F.TTB_STATUS_EVT 9 u = true
        ∧ Only [.bellq, .health] (fun a => a = R.TTB_STATE ∨ a = R.TTB_STATUS ∨ bellWord (ev 11 9) a) s u)
  ∧ (∀ (rising : Bool) (s : State), isSet R.TTB_CLKCFG F.TTB_CLKCFG_PPS_EN s = true →
      isSet R.TTB_CLKCFG F.TTB_CLKCFG_PPS_EDGE s = (!rising) → tclkRuns s = true →
      (∀ t0, s.ttb.ppsLast = some t0 →
        (((tickNow s : Int) - t0 - 250000000).natAbs ≤ getF R.TTB_CLKCFG F.TTB_CLKCFG_PPS_TOL s →
          After (exec (.ppsEdge rising) s) fun u => u.ttb.ppsLast = some (tickNow s)
            ∧ get2 R.TTB_PPSTICK F.TTB_PPSTICK_PPS_LO F.TTB_PPSTICK_PPS_HI u = tickNow s
            ∧ getF R.TTB_PPSCNT F.TTB_PPSCNT_COUNT u = (getF R.TTB_PPSCNT F.TTB_PPSCNT_COUNT s + 1) % 2 ^ 32
            ∧ Only [.ttb] (fun a => within R.TTB_PPSTICK (R.TTB_PPSCNT + 1) a) s u)
        ∧ (getF R.TTB_CLKCFG F.TTB_CLKCFG_PPS_TOL s < ((tickNow s : Int) - t0 - 250000000).natAbs →
          After (exec (.ppsEdge rising) s) fun u => getBit R.TTB_STATUS F.TTB_STATUS_EVT 7 u = true
            ∧ u.ttb.ppsLast = none ∧ rd R.TTB_PPSCNT u = rd R.TTB_PPSCNT s)))
  ∧ (∀ (rising : Bool) (s : State), tclkRuns s = false → exec (.ppsEdge rising) s = .next s)
  ∧ (∀ (t0 : Nat) (s : State), isSet R.TTB_CLKCFG F.TTB_CLKCFG_PPS_EN s = true → s.ttb.ppsLast = some t0 →
      tclkRuns s = true → t0 + 250000000 + getF R.TTB_CLKCFG F.TTB_CLKCFG_PPS_TOL s < tickNow s →
      After (exec .ppsTimeout s) fun u => getBit R.TTB_STATUS F.TTB_STATUS_EVT 7 u = true ∧ u.ttb.ppsLast = none
        ∧ Only [.ttb, .bellq, .health] (fun a => a = R.TTB_STATUS ∨ bellWord (ev 11 7) a) s u)

/-! ### Points -/

/-- From R85, R132, R315: once block b + 2 is released, POINTS_BLOCK_FILTER moves the Points on by one block and forms every
fine sample whose window the block completes; a residue mismatch sets its engine's error bit, and a full headshunt
raises its stack's event. -/
def Sys2Proof.Safety.BlockFilterAdvancesByOneBlock : Prop :=
  ∀ (bad : List (Fin 16 × Nat × Nat)) (full : List StackId) (bus : List (Nat × Nat)) (s : State),
    frontValid s = true → pstate s = 1 → s.pts.blocks + 120 ≤ frontNow s → s.gau.acts = [] → 1 ≤ cfgP s →
    s.pts.blocks < cfgP s * s.pts.nextJ + 8 * cfgP s →
    After (exec (.pointsBlockFilter bad full bus) s) fun t => t.pts.blocks = s.pts.blocks + 40
      ∧ s.pts.blocks + 40 < cfgP s * t.pts.nextJ + 8 * cfgP s
      ∧ (t.pts.nextJ ≠ s.pts.nextJ → cfgP s * t.pts.nextJ + 7 * cfgP s ≤ s.pts.blocks + 40)
      ∧ (∀ v ∈ bad, getBit R.PTS_STATUS F.PTS_STATUS_ENGINE_ERR v.1 t = true)
      ∧ (isSet R.SDG_CTRL F.SDG_CTRL_EN s = true → ∀ k ∈ full, Raised (ev 5 (8 * k + 4)) t)

/-- From R95, R103: a fine sample is invalid when the Points are disabled, its visit met a residue mismatch, its gain code is
0, its input has no usable model, or INV_LIM coarse samples of its window are invalid; otherwise it is a valid sample
whose components lie in -7 .. 7. -/
def Sys2Proof.Safety.FineSamplesAreValidOrInvalid : Prop :=
  ∀ (i f j : Nat) (win : List (Option (Int × Int))) (badVisit : Bool) (s : State),
    (isSet R.PTS_CTRL F.PTS_CTRL_EN s = false ∨ badVisit = true ∨ modelUsable i s = false ∨ gainAt i f s = 0
        ∨ getF R.PTS_CFG F.PTS_CFG_INV_LIM s ≤ invalidCount win → fineSample i f j win badVisit s = none)
    ∧ (isSet R.PTS_CTRL F.PTS_CTRL_EN s = true → badVisit = false → modelUsable i s = true → gainAt i f s ≠ 0 →
        invalidCount win < getF R.PTS_CFG F.PTS_CFG_INV_LIM s →
        ∃ b k, fineSample i f j win badVisit s = some (b, k) ∧ isValid b = true ∧ -7 ≤ reOf b ∧ reOf b ≤ 7
          ∧ -7 ≤ imOf b ∧ imOf b ≤ 7 ∧ k ≤ 2)

/-- From R316: the report of corrected bus codewords raises 8:9 once per second in which there was one. -/
def Sys2Proof.Safety.BusCorrectionsAreReported : Prop :=
  ∀ s : State, (s.chk.busCorr = true → After (exec .busCorrReport s) fun t =>
      getBit R.INS_STATUS F.INS_STATUS_EVT 9 t = true ∧ Raised (ev 8 9) t ∧ t.chk.busCorr = false
      ∧ Only [.chk, .bellq, .health] (fun a => a = R.INS_STATUS ∨ bellWord (ev 8 9) a) s t)
    ∧ (s.chk.busCorr = false → exec .busCorrReport s = .next s)

/-- From R100: a word written to the inactive phase segment bank is stored and enters the signature. Once TAG and the check
word have both been written, READY is set exactly when the check word equals the signature. -/
def Sys2Proof.Safety.SegmentBankIsSigned : Prop :=
  (∀ (m : Master) (addr : WAddr) (v : Word) (k : Nat) (s : State), Reaches m addr.toNat s →
      addr.toNat = 0x3010000 + 0x8000 * (1 - getF R.PTS_CTRL F.PTS_CTRL_PBANK s) + k → k < 4 * cfgN s → k < 0x8000 →
      After (exec (.psegBankWrite m addr v) s) fun t => Okay m t
        ∧ rd addr.toNat t = (if k % 4 = 2 then putBits v 1 7 0 else v)
        ∧ t.pts.segBytes = s.pts.segBytes ++ wordBytes v
        ∧ getF R.PTS_PSEG_SIG F.PTS_PSEG_SIG_SIG t = crc32 (s.pts.segBytes ++ wordBytes v) % 2 ^ 32
        ∧ Only [.pts, .ans] (fun a => a = addr.toNat ∨ a = R.PTS_PSEG_SIG ∨ a = R.ILK_MST m) s t)
  ∧ (∀ (m : Master) (tag : BitVec 16) (s : State), Reaches m R.PTS_PSEG s →
      After (exec (.psegTagWrite m tag) s) fun t => Okay m t ∧ getF R.PTS_PSEG F.PTS_PSEG_TAG t = tag.toNat
        ∧ t.pts.tagNew = true
        ∧ (s.pts.chkNew = true → getF R.PTS_PSEG_CHK F.PTS_PSEG_CHK_CHK s = getF R.PTS_PSEG_SIG F.PTS_PSEG_SIG_SIG s →
            isSet R.PTS_PSEG F.PTS_PSEG_READY t = true)
        ∧ (s.pts.chkNew = true → getF R.PTS_PSEG_CHK F.PTS_PSEG_CHK_CHK s ≠ getF R.PTS_PSEG_SIG F.PTS_PSEG_SIG_SIG s →
            isSet R.PTS_PSEG F.PTS_PSEG_READY t = false ∧ getBit R.PTS_STATUS ⟨0, 0, 9⟩ 3 t = true))
  ∧ (∀ (m : Master) (chk : BitVec 32) (s : State), Reaches m R.PTS_PSEG_CHK s →
      After (exec (.psegChkWrite m chk) s) fun t => Okay m t
        ∧ getF R.PTS_PSEG_CHK F.PTS_PSEG_CHK_CHK t = chk.toNat ∧ t.pts.chkNew = true
        ∧ (s.pts.tagNew = true → chk.toNat = getF R.PTS_PSEG_SIG F.PTS_PSEG_SIG_SIG s →
            isSet R.PTS_PSEG F.PTS_PSEG_READY t = true)
        ∧ (s.pts.tagNew = true → chk.toNat ≠ getF R.PTS_PSEG_SIG F.PTS_PSEG_SIG_SIG s →
            isSet R.PTS_PSEG F.PTS_PSEG_READY t = false ∧ getBit R.PTS_STATUS ⟨0, 0, 9⟩ 3 t = true))

/-- From R96, R106: the ready marks of the coefficient and gain banks are set by a write and nothing else of the register
changes; while a committed swap keeps its mark (R107), a write leaves the mark at 1; CLRCNT clears the counts of every input. -/
def Sys2Proof.Safety.PointsMarksAndCounters : Prop :=
  (∀ (m : Master) (s : State), Reaches m R.PTS_BANKS s →
      s.pts.cswap.at_ = [] ∨ getF R.PTS_BANKS F.PTS_BANKS_CRDY s = 1 →
      After (exec (.coefReadyMark m) s) fun t => Okay m t ∧ getF R.PTS_BANKS F.PTS_BANKS_CRDY t = 1
        ∧ getF R.PTS_BANKS F.PTS_BANKS_GRDY t = getF R.PTS_BANKS F.PTS_BANKS_GRDY s
        ∧ Only [.ans] (fun a => a = R.PTS_BANKS ∨ a = R.ILK_MST m) s t)
  ∧ (∀ (m : Master) (s : State), Reaches m R.PTS_BANKS s →
      s.pts.gswap.at_ = [] ∨ getF R.PTS_BANKS F.PTS_BANKS_GRDY s = 1 →
      After (exec (.gainReadyMark m) s) fun t => Okay m t ∧ getF R.PTS_BANKS F.PTS_BANKS_GRDY t = 1
        ∧ getF R.PTS_BANKS F.PTS_BANKS_CRDY t = getF R.PTS_BANKS F.PTS_BANKS_CRDY s
        ∧ Only [.ans] (fun a => a = R.PTS_BANKS ∨ a = R.ILK_MST m) s t)
  ∧ (∀ (m : Master) (s : State), Reaches m R.PTS_CTRL s →
      After (exec (.ptsIcntClear m) s) fun t => Okay m t ∧ (∀ i k, i < 8192 → k < 4 → rd (icnt i k) t = 0#40)
        ∧ Only [.ans] (fun a => within 0x3020000 0x3028000 a ∨ a = R.PTS_CTRL ∨ a = R.ILK_MST m) s t)

/-! ### Accesses of masters -/

/-- From R7, R9, R403 over the Timetable's configuration and status words: a write leaves a read-only field, clears the ones
written to a W1C field, stores an RWL field before the seal when its range takes the value, and after the seal discards
it and reports RWL_LOCKED; zero in a field that rejects zero is CFG_ZERO. -/
def Sys2Proof.Safety.WritesFollowAccessTypes : Prop :=
  ∀ (m : Master) (a : WAddr) (v : Word) (d : WordDef) (f : FieldDef) (s : State), within 0x1000000 0x1000040 a.toNat →
    regDef a.toNat = some d → f ∈ d.fields → Reaches m a.toNat s →
    After (exec (.registerWrite m a v) s) fun t =>
      let old := bitsOf (rd a.toNat s) f.fld.lo f.fld.w
      let new := bitsOf (rd a.toNat t) f.fld.lo f.fld.w
      let x := bitsOf v f.fld.lo f.fld.w
      Okay m t ∧ (f.acc = .ro → new = old)
      ∧ (f.acc = .w1c → new = old &&& (2 ^ f.fld.w - 1 - x))
      ∧ (f.acc = .rwl → sealed s = true → new = old ∧ getBit R.DEP_STATUS F.DEP_STATUS_EVT 6 t = true)
      ∧ (f.acc = .rwl → sealed s = false → (f.zrej = true → x ≠ 0) → f.rule.holds a.toNat x v s = true → new = x)
      ∧ (f.acc = .rwl → sealed s = false → f.zrej = true → x = 0 →
          new = old ∧ getBit R.DEP_STATUS F.DEP_STATUS_EVT 7 t = true)
      ∧ Only [.ans, .bellq, .health] (fun b => b = a.toNat ∨ b = R.ILK_MST m ∨ b = R.DEP_STATUS
          ∨ bellWord (ev 15 6) b ∨ bellWord (ev 15 7) b) s t

/-- From R7, R277, R279: an access to a register word or a table window whose target answers is answered OKAY, a read with one
word of data; it is one more transaction of its master. -/
def Sys2Proof.Safety.RegisterAccessesComplete : Prop :=
  ∀ (m : Master) (a : WAddr) (s : State), Reaches m a.toNat s → coreMemory a.toNat = none →
    (within 0xF00000 0xF00900 a.toNat ∧ a.toNat % 0x100 < 0x40) ∨ within 0x1000000 0x5100000 a.toNat
      ∨ within 0x6000000 0x8000000 a.toNat →
    (∀ v : Word, After (exec (.registerWrite m a v) s) (Okay m))
    ∧ After (exec (.loWordLatchRead m a) s) fun t => Okay m t ∧ (∃ v, (answered m t).data = [v])
        ∧ getF (R.ILK_MST m) F.ILK_MST_COUNT t = (getF (R.ILK_MST m) F.ILK_MST_COUNT s + 1) % 2 ^ F.ILK_MST_COUNT.w
        ∧ t.hbm = s.hbm ∧ t.lanes = s.lanes ∧ t.cores = s.cores

/-- Words whose writes have no other effect on them than their fields' access types. -/
def Sys2Proof.Safety.plainWords : List Nat :=
  [0x1010000, 0x1020000, 0x104000B, 0x104000C, 0x1050000, 0x1050001, 0x1050002, 0x1050003, 0x1050010, 0x1050013, 0x3000001,
   0x300000E, 0x3100000, 0x3100005, 0x3200000, 0x400000A, 0x5000000, 0x5002000, 0x5080000, 0x5080021, 0x5080022, 0x6000000]

/-- From R7, R9: a write stores an RW field when its range takes the value, leaves it and raises CFG_ZERO when it rejects
zero, and leaves a WO field at what it reads, 0. -/
def Sys2Proof.Safety.ReadWriteAndWriteOnlyFields : Prop :=
  ∀ (m : Master) (a : WAddr) (v : Word) (d : WordDef) (f : FieldDef) (s : State), a.toNat ∈ plainWords →
    regDef a.toNat = some d → f ∈ d.fields → Reaches m a.toNat s →
    After (exec (.registerWrite m a v) s) fun t =>
      let old := bitsOf (rd a.toNat s) f.fld.lo f.fld.w
      let new := bitsOf (rd a.toNat t) f.fld.lo f.fld.w
      let x := bitsOf v f.fld.lo f.fld.w
      Okay m t ∧ (f.acc = .rw → (f.zrej = true → x ≠ 0) → f.rule.holds a.toNat x v s = true → new = x)
      ∧ (f.acc = .rw → f.rule.holds a.toNat x v s = false → new = old)
      ∧ (f.acc = .rw → f.zrej = true → x = 0 → new = old ∧ getBit R.DEP_STATUS F.DEP_STATUS_EVT 7 t = true)
      ∧ (f.acc = .wo → new = old)

/-- From R280, R281: a write to an address without a target is answered DECERR and one to a target that sleeps ASLEEP; the
error is flagged, and recorded when ILK_ERR holds none. No register of a target changes. -/
def Sys2Proof.Safety.FailedAccessesAreAnswered : Prop :=
  ∀ (m : Master) (a : WAddr) (v : Word) (s : State), ilkUp s = true →
    let failed (code : Nat) := After (exec (.registerWrite m a v) s) fun t => (answered m t).code = code
      ∧ getBit R.ILK_STATUS ⟨0, 0, 6⟩ (code - 1) t = true ∧ Raised (ev 13 (code - 1)) t
      ∧ (isSet R.ILK_ERR F.ILK_ERR_VALID s = false → getF R.ILK_ERR F.ILK_ERR_ADDR t = a.toNat
          ∧ getF R.ILK_ERR F.ILK_ERR_MASTER t = m ∧ getF R.ILK_ERR F.ILK_ERR_KIND t = code
          ∧ isSet R.ILK_ERR F.ILK_ERR_VALID t = true)
      ∧ Only [.ans, .bellq, .health] (fun b => b = R.ILK_MST m ∨ b = R.ILK_STATUS ∨ within R.ILK_ERR (R.ILK_ERR + 4) b
          ∨ bellWord (ev 13 (code - 1)) b) s t
    (targetOf a.toNat = none → failed 1)
    ∧ (∀ r, targetOf a.toNat = some r → answers m a.toNat r s = false → failed 2)

/-- From R285: a read of the LO word of a pair answers the word and latches the HI word for the master that reads; a read of
the HI word answers what was latched, and its Reset value before that master's first LO read. The LO word of TTB_EPOCH's
N48 latches the four words that follow it, and TRK_PERR_LO of a lane the other three words of its PRBS counters (R48). -/
def Sys2Proof.Safety.LoReadsLatchHiWords : Prop :=
  ∀ (m : Master) (a : WAddr) (s : State), Reaches m a.toNat s →
    (a.toNat ∈ [0x30F0802, 0x3100002, 0x4000002, 0x5000002, 0x1000003, 0x1000005, 0x1000031,
        0x1000034, 0x1070006, 0x1070008, 0x1050004, 0x1040007] → wordVoid a.toNat s = false →
      After (exec (.loWordLatchRead m a) s) fun t => Okay m t ∧ (answered m t).data = [rd a.toNat s]
        ∧ t.latches.get (fun _ => none) (latchKey m (a.toNat + 1)) = some (rd (a.toNat + 1) s)
        ∧ Only [.latches, .ans] (fun b => b = R.ILK_MST m) s t)
    ∧ (a.toNat ∈ [0x30F0803, 0x3100003, 0x4000003, 0x5000003, 0x1000004, 0x1000006, 0x100000B, 0x100000C, 0x100000D, 0x100000E, 0x1000032,
        0x1000035, 0x1070007, 0x1070009, 0x1050005, 0x1040008] →
      After (exec (.loWordLatchRead m a) s) fun t => Okay m t
        ∧ (answered m t).data = [(s.latches.get (fun _ => none) (latchKey m a.toNat)).getD (resetWord a.toNat)]
        ∧ Only [.ans] (fun b => b = R.ILK_MST m) s t)
    ∧ (a.toNat = 0x100000A → After (exec (.loWordLatchRead m a) s) fun t => Okay m t ∧ (answered m t).data = [rd a.toNat s]
        ∧ (∀ k ∈ [1, 2, 3, 4], t.latches.get (fun _ => none) (latchKey m (a.toNat + k)) = some (rd (a.toNat + k) s))
        ∧ Only [.latches, .ans] (fun b => b = R.ILK_MST m) s t)
    ∧ (∀ i : LaneId, (a.toNat = R.TRK_PERR i →
        After (exec (.loWordLatchRead m a) s) fun t => Okay m t ∧ (answered m t).data = [rd a.toNat s]
          ∧ (∀ k ∈ [1, 2, 3], t.latches.get (fun _ => none) (latchKey m (a.toNat + k)) = some (rd (a.toNat + k) s))
          ∧ Only [.latches, .ans] (fun b => b = R.ILK_MST m) s t)
      ∧ (∀ k ∈ [1, 2, 3], a.toNat = R.TRK_PERR i + k →
        After (exec (.loWordLatchRead m a) s) fun t => Okay m t
          ∧ (answered m t).data = [(s.latches.get (fun _ => none) (latchKey m a.toNat)).getD (resetWord a.toNat)]
          ∧ Only [.ans] (fun b => b = R.ILK_MST m) s t))

/-- From R106: a write to a table window is stored in the bank it names, and discarded when that bank is active, when a swap
to it is committed, or when the word has no content under the present configuration. -/
def Sys2Proof.Safety.TableWindowWritesInactiveBank : Prop :=
  ∀ (m : Master) (addr : WAddr) (v : Word) (b : Banked) (bank k : Nat) (s : State), Reaches m addr.toNat s → m ≠ 9 →
    windowAt addr.toNat s = some (b, bank, k) →
    After (exec (.tableWindowWrite m addr v) s) fun t => Okay m t
      ∧ (b.content k = true → bank ≠ b.active → b.commit = false → rd (b.base bank + k) t = keepBits addr.toNat k b.bits v)
      ∧ (b.content k = false ∨ bank = b.active ∨ b.commit = true → rd (b.base bank + k) t = rd (b.base bank + k) s)
      ∧ ∀ a, a ≠ b.base bank + k → a ≠ R.ILK_MST m → a ≠ R.PTS_PSEG_SIG → a ≠ R.TBL_DSIG → rd a t = rd a s

/-- From R215, R216: a word written to the inactive beam delay bank is stored and enters the signature; TAG and check word make
the bank ready exactly when the check word equals the signature; the gain bank's ready mark and CLRCNT. -/
def Sys2Proof.Safety.BeamBanksAreSignedAndMarked : Prop :=
  (∀ (m : Master) (addr : WAddr) (v : Word) (k : Nat) (s : State), Reaches m addr.toNat s → s.tbl.dswap.at_ = [] →
      addr.toNat = 0x3400000 + 0x100000 * (1 - getF R.TBL_CTRL F.TBL_CTRL_DBANK s) + k → k < 0x100000 →
      k % 8192 < cfgN s →
      After (exec (.beamDelayBankWrite m addr v) s) fun t => Okay m t
        ∧ rd addr.toNat t = BitVec.ofNat 40 (v.toNat % 2 ^ 24) ∧ t.tbl.bytes = s.tbl.bytes ++ wordBytes v
        ∧ getF R.TBL_DSIG F.TBL_DSIG_SIG t = crc32 (s.tbl.bytes ++ wordBytes v) % 2 ^ 32
        ∧ Only [.tbl, .ans] (fun a => a = addr.toNat ∨ a = R.TBL_DSIG ∨ a = R.ILK_MST m) s t)
  ∧ (∀ (m : Master) (tag : BitVec 16) (s : State), Reaches m R.TBL_DTAG s →
      After (exec (.beamDtagWrite m tag) s) fun t => Okay m t ∧ getF R.TBL_DTAG F.TBL_DTAG_TAG t = tag.toNat
        ∧ t.tbl.tagNew = true
        ∧ (s.tbl.chkNew = true → (isSet R.TBL_DTAG F.TBL_DTAG_READY t = true ↔
            getF R.TBL_DCHK F.TBL_DCHK_CHK s = getF R.TBL_DSIG F.TBL_DSIG_SIG s)))
  ∧ (∀ (m : Master) (chk : BitVec 32) (s : State), Reaches m R.TBL_DCHK s →
      After (exec (.beamDchkWrite m chk) s) fun t => Okay m t ∧ getF R.TBL_DCHK F.TBL_DCHK_CHK t = chk.toNat
        ∧ t.tbl.chkNew = true
        ∧ (s.tbl.tagNew = true → (isSet R.TBL_DTAG F.TBL_DTAG_READY t = true ↔
            chk.toNat = getF R.TBL_DSIG F.TBL_DSIG_SIG s)))
  ∧ (∀ (m : Master) (s : State), Reaches m R.TBL_BANKS s → s.tbl.gswap.at_ = [] ∨ getF R.TBL_BANKS F.TBL_BANKS_GRDY s = 1 →
      After (exec (.beamGainReadyMark m) s) fun t => Okay m t ∧ getF R.TBL_BANKS F.TBL_BANKS_GRDY t = 1
        ∧ Only [.ans] (fun a => a = R.TBL_BANKS ∨ a = R.ILK_MST m) s t)
  ∧ (∀ (m : Master) (s : State), Reaches m R.TBL_CTRL s → isSet R.TBL_CTRL F.TBL_CTRL_EN s = true →
      After (exec (.tblCounterClear m) s) fun t => Okay m t ∧ getF R.TBL_STORE F.TBL_STORE_BDROP t = 0
        ∧ getF R.TBL_STORE F.TBL_STORE_PEAK t = 0 ∧ getF R.TBL_BANKS F.TBL_BANKS_GMISS t = 0
        ∧ getF R.TBL_BANKS F.TBL_BANKS_DMISS t = 0
        ∧ Only [.ans] (fun a => a = R.TBL_CTRL ∨ a = R.TBL_STORE ∨ a = R.TBL_STORE + 1 ∨ a = R.TBL_BANKS ∨ a = R.ILK_MST m) s t)

/-- From R143, R184: the paged aperture reads and writes the word at its place while the place's stack answers, is DECERR where
no word lies and ASLEEP where the stack does not answer; on a stack that trains the access of the Depot, the port or
the Coupling is outstanding (the model's choice, log entry 97); the Yard's debug window reads with DBG = 1 and is DECERR
otherwise. -/
def Sys2Proof.Safety.ApertureAndDebugWindows : Prop :=
  (∀ (m : Master) (addr : WAddr) (wopt : Option Word) (s : State), Reaches m addr.toNat s → 0x8000000 ≤ addr.toNat →
      (aperturePlace (addr.toNat - 0x8000000) s = none →
        After (exec (.apertureAccess m addr wopt) s) fun t => (answered m t).code = 1 ∧ t.hbm = s.hbm)
      ∧ (∀ pl k, aperturePlace (addr.toNat - 0x8000000) s = some (pl, k) →
        (stackAnswers pl s = false → stackWaits pl s = false → After (exec (.apertureAccess m addr wopt) s) fun t =>
          (answered m t).code = 2 ∧ t.hbm = s.hbm)
        ∧ (stackWaits pl s = true → 9 ≤ m.val → m.val ≤ 11 → getF (R.ILK_MST m) F.ILK_MST_OUT s < 8 →
          After (exec (.apertureAccess m addr wopt) s) fun t =>
            t.ilk = { s.ilk with out := s.ilk.out ++ [⟨m, 0, BitVec.ofNat 28 addr.toNat, 1, wopt.map fun v => [v]⟩] }
              ∧ Only [.ilk] (fun a => a = R.ILK_MST m) s t)
        ∧ (stackAnswers pl s = true → wopt = none → After (exec (.apertureAccess m addr wopt) s) fun t => Okay m t
          ∧ (answered m t).data = [(storedWords pl s).getD k 0#40] ∧ t.hbm = s.hbm ∧ t.hbmErr = s.hbmErr)
        ∧ (∀ v, stackAnswers pl s = true → wopt = some v → errsAt pl s ≤ 3 → s.chk.force = [] → s.chk.busy = none → k < 5 →
          After (exec (.apertureAccess m addr wopt) s) fun t => Okay m t
            ∧ (∀ x, x < 5 → t.hbm.get (fun _ => 0#40) (hbmKey pl + x)
                = if x = k then v else s.hbm.get (fun _ => 0#40) (hbmKey pl + x))
            ∧ errsAt pl t = 0
            ∧ ∀ a, a < hbmKey pl ∨ hbmKey pl + 5 ≤ a → t.hbm.get (fun _ => 0#40) a = s.hbm.get (fun _ => 0#40) a)))
  ∧ (∀ (m : Master) (addr : WAddr) (s : State), Reaches m addr.toNat s → within 0x5100000 0x5500000 addr.toNat →
      (isSet R.YRD_CFG F.YRD_CFG_DBG s = true → After (exec (.yardDebugRead m addr) s) fun t => Okay m t
        ∧ (answered m t).data = [yardDebugWord (addr.toNat - 0x5100000) s] ∧ Only [.ans] (fun a => a = R.ILK_MST m) s t)
      ∧ (isSet R.YRD_CFG F.YRD_CFG_DBG s = false →
        After (exec (.yardDebugRead m addr) s) fun t => (answered m t).code = 1))

/-- From R139, R141: RATE written in Standing with no stack training changes at once, and every working stack that is READY or
in self-refresh trains, at once or when its turn under the headway comes (R353); with a stack training it is deferred; in
another state it is refused (the model's reading, log entry 94). PASR keeps the home stack and those of KEEP in
self-refresh and switches the others off; its release brings the kept ones back, one per headway interval (R353). -/
def Sys2Proof.Safety.SidingsRateAndPasr : Prop :=
  (∀ (m : Master) (rate : Fin 4) (s : State), Reaches m R.SDG_CTRL s → rate.val ≤ 2 →
      getF R.SDG_CTRL F.SDG_CTRL_RATE s ≠ rate →
      (pstate s ≠ 2 → After (exec (.sdgRateWrite m rate) s) fun t => Okay m t
        ∧ getF R.SDG_CTRL F.SDG_CTRL_RATE t = getF R.SDG_CTRL F.SDG_CTRL_RATE s
        ∧ getBit R.SDG_STATUS ⟨0, 0, 9⟩ 7 t = true)
      ∧ (pstate s = 2 → anyTraining s = true → After (exec (.sdgRateWrite m rate) s) fun t => Okay m t
        ∧ getF R.SDG_CTRL F.SDG_CTRL_RATE t = getF R.SDG_CTRL F.SDG_CTRL_RATE s
        ∧ isSet R.SDG_STACKS F.SDG_STACKS_RATE_PEND t = true ∧ t.sdg.rateTo = rate)
      ∧ (pstate s = 2 → anyTraining s = false → After (exec (.sdgRateWrite m rate) s) fun t => Okay m t
        ∧ getF R.SDG_CTRL F.SDG_CTRL_RATE t = rate ∧ isSet R.SDG_STACKS F.SDG_STACKS_RATE_PEND t = false
        ∧ ∀ k ∈ workStacks s, stackState k s = 2 ∨ stackState k s = 3 →
            stackState k t = 1 ∨ (stackState k t = 3 ∧ LoadStep.retrain k ∈ t.pow.queue)))
  ∧ (∀ (m : Master) (s : State), Reaches m R.SDG_CTRL s → isSet R.SDG_CTRL F.SDG_CTRL_PASR_REQ s = false →
      isSet R.SDG_STACKS F.SDG_STACKS_RATE_PEND s = false →
      (pstate s = 1 ∨ isSet R.SDG_CTRL F.SDG_CTRL_EN s = true → After (exec (.pasrRequest m) s) fun t => Okay m t
        ∧ isSet R.SDG_CTRL F.SDG_CTRL_PASR_REQ t = false ∧ Raised (ev 5 7) t)
      ∧ (pstate s ≠ 1 → pstate s ≠ 6 → isSet R.SDG_CTRL F.SDG_CTRL_EN s = false →
        After (exec (.pasrRequest m) s) fun t => Okay m t ∧ isSet R.SDG_CTRL F.SDG_CTRL_PASR_REQ t = true
          ∧ isSet R.SDG_PASR F.SDG_PASR_ACTIVE t = true
          ∧ ∀ k, k < 8 →
            (k = getF R.SDG_STACKS F.SDG_STACKS_HOME s ∨ getF R.SDG_PASR F.SDG_PASR_KEEP s / 2 ^ k % 2 = 1 →
              stackState k s = 2 → stackState k t = 3)
            ∧ (k ≠ getF R.SDG_STACKS F.SDG_STACKS_HOME s → getF R.SDG_PASR F.SDG_PASR_KEEP s / 2 ^ k % 2 = 0 →
              stackState k s ≠ 4 → stackState k t = 0)))
  ∧ (∀ (m : Master) (s : State), Reaches m R.SDG_CTRL s → isSet R.SDG_CTRL F.SDG_CTRL_PASR_REQ s = true →
      isSet R.SDG_STACKS F.SDG_STACKS_RATE_PEND s = false → isSet R.SDG_PASR F.SDG_PASR_ACTIVE s = true →
      After (exec (.pasrRelease m) s) fun t => Okay m t ∧ isSet R.SDG_CTRL F.SDG_CTRL_PASR_REQ t = false
        ∧ isSet R.SDG_PASR F.SDG_PASR_ACTIVE t = false ∧ getF R.SDG_PASR F.SDG_PASR_KEPT t = 0
        ∧ ∀ k, k < 8 → stackState k s = 3 → stackState k t = 2 ∨ LoadStep.exit k ∈ t.pow.queue)

/-- From R179, R204: FORCE = 1 marks the dwell in progress for a forced drain and has no effect without one; the Terminus'
CLRCNT clears the counters of every route and departure. -/
def Sys2Proof.Safety.ForcedDrainAndTerminusCounters : Prop :=
  (∀ (m : Master) (s : State), Reaches m R.JCT_CTRL s →
      After (exec (.forceDrain m) s) fun t => Okay m t
        ∧ (s.jct.cur ≠ none → t.jct = { s.jct with force := true }) ∧ (s.jct.cur = none → t.jct = s.jct)
        ∧ Only [.jct, .ans] (fun a => a = R.JCT_CTRL ∨ a = R.ILK_MST m) s t)
  ∧ (∀ (m : Master) (s : State), Reaches m R.TMN_CTRL s → isSet R.TMN_CTRL F.TMN_CTRL_EN s = true →
      After (exec (.tmnCounterClear m) s) fun t => Okay m t ∧ getF R.TMN_BUF F.TMN_BUF_PEAK t = 0
        ∧ ∀ r, r < 16 → getF (R.TMN_ROUTE r) F.TMN_ROUTE_SENT t = 0 ∧ getF (R.TMN_ROUTE r) F.TMN_ROUTE_DROPPED t = 0
          ∧ getF (R.TMN_DEP r) F.TMN_DEP_SENT t = 0)

/-- From R249, R268, R269: RUN = 1 starts a core that is not running; RUN = 0 halts a running one at a settled boundary; RST
clears its registers and pipeline, and it then runs again exactly when RUN is set. RESTART of the Signal Box is heeded
from the management port only. -/
def Sys2Proof.Safety.CoreControlWrites : Prop :=
  (∀ (m : Master) (n : Fin 8) (s : State), Reaches m (R.DSP_CTRL n) s →
      After (exec (.coreRunSet m n) s) fun t => Okay m t ∧ isSet (R.DSP_CTRL n) F.DSP_CTRL_RUN t = true
        ∧ ((coreOf n s).mode = 1 ∨ (coreOf n s).mode = 2 → coreOf n t = coreOf n s)
        ∧ ((coreOf n s).mode ≠ 1 → (coreOf n s).mode ≠ 2 → coreOf n t = { coreOf n s with mode := 1 }
            ∧ getF (R.DSP_STATE n) F.DSP_STATE_STATE t = 1 ∧ getF (R.DSP_STATE n) F.DSP_STATE_CAUSE t = 0)
        ∧ Only [.cores, .ans] (fun a => a = R.DSP_CTRL n ∨ a = R.DSP_STATE n ∨ a = R.ILK_MST m) s t
        ∧ ∀ k, k ≠ n → coreOf k t = coreOf k s)
  ∧ (∀ (m : Master) (n : Fin 8) (s : State), Reaches m (R.DSP_CTRL n) s →
      After (exec (.coreRunClear m n) s) fun t => Okay m t ∧ isSet (R.DSP_CTRL n) F.DSP_CTRL_RUN t = false
        ∧ ((coreOf n s).mode = 1 ∨ (coreOf n s).mode = 2 → settled n s = true → (coreOf n t).mode = 3
            ∧ getF (R.DSP_STATE n) F.DSP_STATE_STATE t = 3 ∧ getF (R.DSP_STATE n) F.DSP_STATE_CAUSE t = 1)
        ∧ (settled n s = false → coreOf n t = coreOf n s)
        ∧ Only [.cores, .ans] (fun a => a = R.DSP_CTRL n ∨ a = R.DSP_STATE n ∨ a = R.ILK_MST m) s t
        ∧ ∀ k, k ≠ n → coreOf k t = coreOf k s)
  ∧ (∀ (m : Master) (n : Fin 8) (s : State), Reaches m (R.DSP_CTRL n) s →
      After (exec (.coreReset m n) s) fun t => Okay m t ∧ (∀ r, r < 64 → rd (creg n r) t = 0#40)
        ∧ coreOf n t = { ({} : Core) with mode := b2n (isSet (R.DSP_CTRL n) F.DSP_CTRL_RUN s) }
        ∧ ∀ k, k ≠ n → coreOf k t = coreOf k s)
  ∧ (∀ (m : Master) (s : State), Reaches m (R.DSP_CTRL 8) s →
      After (exec (.sbxRestart m) s) fun t => Okay m t
        ∧ (m.val = 10 → sbxState t = 1 ∧ coreOf 8 t = {} ∧ Raised (ev 12 32) t
            ∧ getF (R.DSP_STATE 8) F.DSP_STATE_RESTARTS t
                = (getF (R.DSP_STATE 8) F.DSP_STATE_RESTARTS s + 1) % 2 ^ F.DSP_STATE_RESTARTS.w)
        ∧ (m.val ≠ 10 → sbxState t = sbxState s ∧ coreOf 8 t = coreOf 8 s))

/-- From R246, R248, R263, R272: a message in a core's doorbell makes its interrupt pending; a kick restarts the watchdog's
time; a word is written to a core's code memory by a master that is no core while the core stands, and the write is an error
while it runs (that a core's own access is answered DECERR is the model's choice, log entry 81); a
stopped core's registers are read and written over the Interlocking, a running core's are not. -/
def Sys2Proof.Safety.CoreMailboxAndMemoryAccesses : Prop :=
  (∀ (m : Master) (n : CoreId) (msg : BitVec 32) (s : State), Reaches m (R.DSP_DOOR n) s →
      After (exec (.doorbellWrite m n msg) s) fun t => Okay m t ∧ getF (R.DSP_DOOR n) F.DSP_DOOR_MSG t = msg.toNat
        ∧ getBit (R.DSP_IPEND n) F.DSP_IPEND_PEND 1 t = true
        ∧ Only [.ans] (fun a => a = R.DSP_DOOR n ∨ a = R.DSP_IPEND n ∨ a = R.ILK_MST m) s t)
  ∧ (∀ (m : Master) (n : CoreId) (s : State), Reaches m (R.DSP_WDOG n) s →
      After (exec (.watchdogKick m n) s) fun t => Okay m t ∧ coreOf n t = { coreOf n s with kick := tickNow s }
        ∧ getF (R.DSP_WDOG n) F.DSP_WDOG_TIMEOUT t = getF (R.DSP_WDOG n) F.DSP_WDOG_TIMEOUT s
        ∧ ∀ k, k ≠ n → coreOf k t = coreOf k s)
  ∧ (∀ (m : Master) (addr : WAddr) (v : Word) (n off : Nat) (s : State), Reaches m addr.toNat s →
      coreMemory addr.toNat = some (n, true, off) →
      (codeWriteRefused n s = false → m.val ≤ 8 → After (exec (.codeMemoryWrite m addr v) s) fun t =>
        (answered m t).code = 1 ∧ rd addr.toNat t = rd addr.toNat s)
      ∧ (codeWriteRefused n s = false → 8 < m.val → After (exec (.codeMemoryWrite m addr v) s) fun t => Okay m t
        ∧ rd addr.toNat t = v ∧ memErrAt addr.toNat t = 0
        ∧ Only [.memErr, .ans] (fun a => a = addr.toNat ∨ a = R.ILK_MST m) s t)
      ∧ (codeWriteRefused n s = true → After (exec (.codeMemoryWrite m addr v) s) fun t =>
        (answered m t).code = 1 ∧ rd addr.toNat t = rd addr.toNat s ∧ Raised (ev 12 39) t))
  ∧ (∀ (m : Master) (n : CoreId) (r : Fin 64) (wopt : Option Word) (s : State), Reaches m (creg n r) s →
      (codeWriteRefused n s = true → After (exec (.coreRegsAccess m n r wopt) s) fun t =>
        (answered m t).code = 1 ∧ rd (creg n r) t = rd (creg n r) s)
      ∧ (codeWriteRefused n s = false → wopt = none → After (exec (.coreRegsAccess m n r wopt) s) fun t => Okay m t
        ∧ (answered m t).data = [if r.val ≤ 54 then regRead n r s else 0#40] ∧ Only [.ans] (fun a => a = R.ILK_MST m) s t)
      ∧ (∀ v, codeWriteRefused n s = false → wopt = some v → After (exec (.coreRegsAccess m n r wopt) s) fun t =>
        Okay m t ∧ (r.val ≤ 54 → regRead n r t = regNorm n r v)
        ∧ Only [.ans] (fun a => a = creg n r ∨ a = R.ILK_MST m) s t))

/-- From R287, R288: GO = 1 starts an idle Shunter: BUSY, RESULT 0 and a read of its first descriptor at DESC, issued as master
12 + k; STOP = 1 is noted by a busy one. -/
def Sys2Proof.Safety.ShunterGoAndStop : Prop :=
  (∀ (m : Master) (k : Fin 4) (s : State), Reaches m (R.ILK_SHN k) s → shunterBusy k s = false →
      After (exec (.shunterGo m k) s) fun t => Okay m t ∧ shunterBusy k t = true
        ∧ getF (R.ILK_SHN k) F.ILK_SHN_RESULT t = 0
        ∧ getF (R.ILK_SHN k) F.ILK_SHN_CUR t = getF (R.ILK_SHN k) F.ILK_SHN_DESC s
        ∧ t.ilk.wait = s.ilk.wait ++ [⟨Fin.ofNat 16 (12 + k.val), 0,
            BitVec.ofNat 28 (getF (R.ILK_SHN k) F.ILK_SHN_DESC s), 4, none⟩])
  ∧ (∀ (m : Master) (k : Fin 4) (s : State), Reaches m (R.ILK_SHN k) s → shunterBusy k s = true →
      After (exec (.shunterStop m k) s) fun t => Okay m t
        ∧ shunterOf k t = { shunterOf k s with stop := true } ∧ shunterBusy k t = true ∧ t.ilk = s.ilk)

/-- From R290, R294: a read of BEL_Qc removes and answers the oldest entry, and answers 0 when the queue is empty; an injected
raise sets STS, counts and is delivered marked as injected. -/
def Sys2Proof.Safety.EventQueuesAndInjection : Prop :=
  (∀ (m : Master) (c : Fin 9) (s : State), Reaches m (R.BEL_Q c) s →
      (queueOf (belQueue c) s = [] → After (exec (.eventQueueRead m c) s) fun t => Okay m t
        ∧ (answered m t).data = [0#40] ∧ Only [.ans] (fun a => a = R.ILK_MST m) s t)
      ∧ (∀ e inj rest, queueOf (belQueue c) s = (e, inj) :: rest →
        After (exec (.eventQueueRead m c) s) fun t => Okay m t
          ∧ (answered m t).data = [BitVec.ofNat 40 (e + 2 ^ 10 + b2n inj * 2 ^ 11)]
          ∧ queueOf (belQueue c) t = rest ∧ Only [.bellq, .ans] (fun a => a = R.ILK_MST m) s t))
  ∧ (∀ (m : Master) (e : Fin 1024) (s : State), Reaches m (R.BEL_SRC e) s →
      After (exec (.eventInject m e) s) fun t => Okay m t ∧ Raised e t
        ∧ getF (R.BEL_SRC e) F.BEL_SRC_COUNT t
            = Nat.min (getF (R.BEL_SRC e) F.BEL_SRC_COUNT s + 1) (2 ^ F.BEL_SRC_COUNT.w - 1)
        ∧ (isSet (R.BEL_SRC e) F.BEL_SRC_EN s = true → isSet (R.BEL_SRC e) F.BEL_SRC_R_SBX s = true →
            queueOf 8 s = [] → (e.val, true) ∈ queueOf 8 t)
        ∧ Only [.bellq, .health, .ans] (fun a => a = R.ILK_MST m ∨ bellWord e a) s t)

/-- The injection commands with their codes (Table 12.7). -/
def Sys2Proof.Safety.injections : List (Nat × (Master → BitVec 28 → Word → Instr)) :=
  [(0x01, .injTrainCodeword), (0x10, .injPointsResidue), (0x20, .injSShape), (0x21, .injHbmParity),
   (0x30, .injRowParity), (0x31, .injColumnParity), (0x32, .injCellAccumulator), (0x40, .injYardCodeword),
   (0x41, .injPromotionResidue), (0x50, .injTurntableResidue), (0x60, .injBusCode), (0x70, .injCoreMemory),
   (0x71, .injLockstep), (0x80, .injClockMonitor), (0x90, .injRetentionSignature), (0x91, .injMirrorCrc)]

/-- The block that injection `x` strikes is awake: its domain is up, and for an HBM stack the stack runs. -/
def Sys2Proof.Safety.BlockAwake (x : Inj) (s : State) : Prop :=
  (injDomain x = 0 ∨ 2 ≤ domState (injDomain x) s) ∧ (x.code = 0x20 → stackState (x.unit / 32) s ∈ [1, 2])
    ∧ (x.code = 0x21 → stackState x.unit s ∈ [1, 2])

/-- From R319, R320, Table 12.7: an injection whose UNIT and ARG lie in its ranges is accepted when INJ_EN is set, its block is
awake and none is in force; otherwise RESULT is 2. Code 0 ends a persistent injection at once. -/
def Sys2Proof.Safety.InjectionsAreAcceptedOrRefused : Prop :=
  (∀ (p : Nat × (Master → BitVec 28 → Word → Instr)) (m : Master) (unit : BitVec 28) (arg : Word) (s : State),
      p ∈ injections → Reaches m R.INS_INJ s →
      (injOk ⟨p.1, unit.toNat, arg.toNat⟩ = true → isSet R.INS_CTRL F.INS_CTRL_INJ_EN s = true → s.chk.busy = none → s.chk.force.any Inj.stuck = false →
        BlockAwake ⟨p.1, unit.toNat, arg.toNat⟩ s →
        After (exec (p.2 m unit arg) s) fun t => Okay m t ∧ t.chk.busy = some ⟨p.1, unit.toNat, arg.toNat⟩
          ∧ t.chk.force = s.chk.force ∧ isSet R.INS_INJ F.INS_INJ_BUSY t = true
          ∧ getF R.INS_INJ F.INS_INJ_RESULT t = 0)
      ∧ (isSet R.INS_CTRL F.INS_CTRL_INJ_EN s = false ∨ s.chk.busy ≠ none
          ∨ injOk ⟨p.1, unit.toNat, arg.toNat⟩ = false ∨ ¬ BlockAwake ⟨p.1, unit.toNat, arg.toNat⟩ s →
        After (exec (p.2 m unit arg) s) fun t => t.chk = s.chk ∧ getF R.INS_INJ F.INS_INJ_RESULT t = 2))
  ∧ (∀ (m : Master) (s : State), Reaches m R.INS_INJ s → isSet R.INS_CTRL F.INS_CTRL_INJ_EN s = true →
      s.chk.busy = none → 2 ≤ domState 5 s →
      After (exec (.injClear m 0#28 0#40) s) fun t => Okay m t ∧ t.chk.force = s.chk.force.filter (!·.stuck)
        ∧ isSet R.INS_INJ F.INS_INJ_BUSY t = false ∧ getF R.INS_INJ F.INS_INJ_RESULT t = 1 ∧ Raised (ev 8 11) t)

/-- From R352, R371-R376, R408: the writes of SUB_CTRL.TARGET, of an output's target and range, FFORCE and CLRFAULT, and of the
flash command register. -/
def Obligations.SubstationOutputAndFlashWrites : Prop :=
  (∀ (m : Master) (target : Fin 8) (s : State), Reaches m R.SUB_CTRL s → pstate s ≠ 0 →
      (stateRefused target s = true → After (exec (.targetWrite m target) s) fun t => Okay m t ∧ pendOf t = pendOf s
        ∧ getBit R.SUB_STATUS F.SUB_STATUS_EVT 6 t = true)
      ∧ (stateRefused target s = false → After (exec (.targetWrite m target) s) fun t => Okay m t
        ∧ getF R.SUB_CTRL F.SUB_CTRL_TARGET t = target ∧ pendOf t = (if pstate s = target then 0 else target)
        ∧ pstate t = pstate s))
  ∧ (∀ (m : Master) (n : Fin 4) (target : BitVec 16) (s : State), Reaches m (R.AOU_TARGET n) s → m.val ≠ 9 →
      (aoRole n s = 0 ∨ aoRole n s = 2 ∨ (aoRole n s = 1 ∧ getF (R.AOU_LIM n) F.AOU_LIM_LO s ≤ target.toNat
          ∧ target.toNat ≤ getF (R.AOU_LIM n) F.AOU_LIM_HI s ∧ getF (R.AOU_LIM n) F.AOU_LIM_HI s ≠ 0) →
        After (exec (.aoTargetWrite m n target) s) fun t => Okay m t ∧ aoTarget n t = target.toNat
          ∧ aoDriven n t = aoDriven n s ∧ t.outs = s.outs)
      ∧ (aoRole n s = 1 → target.toNat < getF (R.AOU_LIM n) F.AOU_LIM_LO s
          ∨ getF (R.AOU_LIM n) F.AOU_LIM_HI s < target.toNat →
        After (exec (.aoTargetWrite m n target) s) fun t => Okay m t ∧ aoTarget n t = aoTarget n s
          ∧ isSet (R.AOU_STAT n) F.AOU_STAT_REJ t = true))
  ∧ (∀ (m : Master) (n : Fin 4) (mode gain : Bool) (s : State), Reaches m (R.AOU_CTRL n) s → sealed s = true →
      (mode ≠ aoMode n s ∨ gain ≠ aoGain n s) →
      (aoRole n s = 0 → After (exec (.aoRangeChange m n mode gain) s) fun t => Okay m t ∧ aoMode n t = mode
        ∧ aoGain n t = gain)
      ∧ (aoRole n s = 1 → After (exec (.aoRangeChange m n mode gain) s) fun t => Okay m t ∧ aoMode n t = aoMode n s
        ∧ aoGain n t = aoGain n s ∧ isSet (R.AOU_STAT n) F.AOU_STAT_REJ t = true)
      ∧ (aoRole n s = 3 → aoFault n s = false → (outOf n s).range = 0 →
        After (exec (.aoRangeChange m n mode gain) s) fun t => Okay m t ∧ aoMode n t = aoMode n s
          ∧ outOf n t = { outOf n s with range := 1, mode := mode, gain := gain, role := none }))
  ∧ (∀ (m : Master) (n : Fin 4) (s : State), Reaches m (R.AOU_CTRL n) s → sealed s = true →
      (After (exec (.aoFaultForce m n) s) fun t => Okay m t ∧ aoFault n t = true ∧ (outOf n t).range = 0)
      ∧ (aoFault n s = true → (outOf n s).causes.any (fun c => getBit R.MON_STATUS F.MON_STATUS_ACTIVE c s) = false →
        After (exec (.aoClearFault m n) s) fun t => Okay m t ∧ aoFault n t = false ∧ (outOf n t).causes = []))
  ∧ (∀ (m : Master) (s : State), Reaches m R.DEP_FLCMD s → isSet R.DEP_FLCMD F.DEP_FLCMD_BUSY s = false →
      ∀ p ∈ [(0, Instr.flashRead m), (1, Instr.flashProgram m), (2, Instr.flashErase m)],
        (∀ bs, flashCheck p.1 (getF R.DEP_FLADDR F.DEP_FLADDR_ADDR s) (getF R.DEP_FLLEN F.DEP_FLLEN_LEN s) s = some bs →
          After (exec p.2 s) fun t => Okay m t ∧ isSet R.DEP_FLCMD F.DEP_FLCMD_BUSY t = true
            ∧ getF R.DEP_FLCMD F.DEP_FLCMD_RESULT t = 0 ∧ t.flash = s.flash
            ∧ t.dep.run = some (p.1, getF R.DEP_FLADDR F.DEP_FLADDR_ADDR s, bs))
        ∧ (flashCheck p.1 (getF R.DEP_FLADDR F.DEP_FLADDR_ADDR s) (getF R.DEP_FLLEN F.DEP_FLLEN_LEN s) s = none →
          After (exec p.2 s) fun t => Okay m t ∧ isSet R.DEP_FLCMD F.DEP_FLCMD_BUSY t = false
            ∧ getF R.DEP_FLCMD F.DEP_FLCMD_RESULT t = 2 ∧ getBit R.DEP_STATUS F.DEP_STATUS_EVT 15 t = true
            ∧ t.flash = s.flash))

/-! ### Gauges -/

/-- From R109-R113: the end of a fast block loads FAST and V of every pair with the block's sums, the end of a kurtosis block
loads S1 and S2, and a snapshot copies CLIP and PEAK and stores its index; in Halt the blocks of the watch are evaluated
and none is left. -/
def Sys2Proof.Safety.GaugeBlocksAndSnapshots : Prop :=
  ∀ (i c : Nat) (s : State), (i, c) ∈ allPairs s → cfgN s ≤ 8192 → cfgC s ≤ 64 →
    NoJoinAt (frontNow s) s →
    (pstate s ≠ 3 → s.gau.acts.head? = some 0 → After (exec .fastBlockEnd s) fun t =>
      getF (gauKey i c 0) F.GAU_STAT_FAST t = (accOf (pairOf i c) s).fast % 2 ^ 13
      ∧ getF (gauKey i c 0) F.GAU_STAT_V t = (accOf (pairOf i c) s).v % 2 ^ 7)
    ∧ (pstate s ≠ 3 → s.gau.acts.head? = some 1 → After (exec .kurtosisBlockEnd s) fun t =>
      getF (gauKey i c 0) F.GAU_STAT_SK_S1 t = (accOf (pairOf i c) s).s1 % 2 ^ 40
      ∧ getF (gauKey i c 0) F.GAU_STAT_SK_S2 t = (accOf (pairOf i c) s).s2 % 2 ^ 40)
    ∧ (s.gau.acts.head? = some 2 → After (exec .gaugeSnapshot s) fun t =>
      getF (gauKey i c 0) F.GAU_STAT_SNAP_CLIP t = getF (gauKey i c 0) F.GAU_STAT_CLIP s
      ∧ getF (gauKey i c 0) F.GAU_STAT_SNAP_PEAK t = getF (gauKey i c 0) F.GAU_STAT_PEAK s
      ∧ get2 R.GAU_SNAPIDX F.GAU_SNAPIDX_IDX_LO F.GAU_SNAPIDX_IDX_HI t = s.gau.pos % 2 ^ 48)
    ∧ (pstate s = 3 → After (exec .fastBlockEnd s) fun t => t.gau.wfast = [] ∧ t.lanes = s.lanes ∧ t.pts = s.pts)
    ∧ (pstate s = 3 → After (exec .kurtosisBlockEnd s) fun t => t.gau.wkurt = [] ∧ t.lanes = s.lanes ∧ t.pts = s.pts)

/-! ### Sidings -/

/-- From R118, R122, R132, R143, R148, R150: a burst read from a READY stack, at the place that its HBM coordinates name and
with the bits that have flipped in it, is handed to its port and its errors are counted. Up to three wrong symbols are
corrected; four are found: ports 1 and 2 receive -8 throughout, the group event is raised, and port 3 sets APERTURE_ERR.
With SDG_CTRL.EN = 0 port 1 receives -8 and touches no stack. -/
def Sys2Proof.Safety.HbmReadsAreDecoded : Prop :=
  (∀ a, a < pcBlocks → hbmLocal (hbmCoords a) = a ∧ (hbmCoords a).row < 15260)
  ∧ (∀ x y : HbmAt, hbmLocal x = hbmLocal y → x = y)
  ∧ (∀ (port : Fin 5) (pc : Fin 256) (a : HbmAt) (flips : List (Fin 32 × Fin 8)) (empty : Bool) (s : State),
    let pl := (pc.val, hbmLocal a)
    let m := if flips = [] then maskAt pl s else maskAt pl s ^^^ dqMask flips
    let e := wrongSymbols 32 m
    stackState (pc.val / 32) s = 2 → hbmLocal a < pcBlocks → (port = 1 → isSet R.SDG_CTRL F.SDG_CTRL_EN s = true) →
    After (exec (.hbmReadComplete port pc a flips empty) s) fun t =>
      (e ≤ 3 → t.sdg.handed.get (fun _ => []) port = blockWords pl s)
      ∧ (e = 4 → port = 1 ∨ port = 2 → t.sdg.handed.get (fun _ => []) port = List.replicate 5 0x8888888888#40)
      ∧ (e = 4 → port = 3 → getBit R.SDG_STATUS ⟨0, 0, 9⟩ 5 t = true)
      ∧ (m = 0 → rd (eccCorr pc) t = rd (eccCorr pc) s ∧ rd (eccUncorr pc) t = rd (eccUncorr pc) s)
      ∧ (m ≠ 0 → e ≤ 3 → (rd (eccCorr pc) t).toNat = Nat.min ((rd (eccCorr pc) s).toNat + 1) (2 ^ 40 - 1))
      ∧ (e = 4 → Raised (ev 6 (pc / 8)) t
          ∧ (rd (eccUncorr pc) t).toNat = Nat.min ((rd (eccUncorr pc) s).toNat + 1) (2 ^ 40 - 1))
      ∧ (empty = true → port = 1 → Raised (ev 5 (8 * (pc / 32) + 4)) t)
      ∧ t.hbm = s.hbm ∧ maskAt pl t = m)
  ∧ ∀ (pc : Fin 256) (a : HbmAt) (flips : List (Fin 32 × Fin 8)) (empty : Bool) (s : State),
      isSet R.SDG_CTRL F.SDG_CTRL_EN s = false →
      After (exec (.hbmReadComplete 1 pc a flips empty) s) fun t =>
        t.sdg.handed.get (fun _ => []) 1 = List.replicate 5 0x8888888888#40 ∧ Only [.sdg] (fun _ => False) s t

/-- Neither a host setting nor a mirrored commit waits for a stack in training (R137). -/
def Sys2Proof.Safety.NoneWaits (s : State) : Prop := s.sdg.late = [] ∧ s.cpl.waitq = []

/-- From R135-R137, R140, R150: the commands of one stack. Training starts in a stack without power training, is counted and
tried again at a limit, and fails at the third, its words reading 0 from then on (the model's choice, log entry 9); a READY stack that loses its PHY lock or meets the parity limit trains
in place with its contents; a stack whose exit from self-refresh fails trains, its exit a load step (R353); that STEP
tells the last step reached is the model's reading, log entry 94; a parity error and a temperature above the limit
are reported. -/
def Sys2Proof.Safety.StackTrainingAndConditions : Prop :=
  ∀ (k : StackId) (s : State),
    (stackState k s = 0 → 2 ≤ domState (stackDomain k) s → After (exec (.stackTrainingStart k) s) fun t =>
      stackState k t = 1 ∧ getF (R.SDG_STK k) F.SDG_STK_ATTEMPTS t = 0 ∧ Raised (ev 5 (8 * k + 7)) t
      ∧ getF (R.SDG_STK k) F.SDG_STK_STEP t = 1
      ∧ Only [.bellq, .health] (fun a => a = R.SDG_STK k ∨ bellWord (ev 5 (8 * k + 7)) a) s t)
    ∧ (∀ step : Fin 5, stackState k s = 1 → getF (R.SDG_STK k) F.SDG_STK_ATTEMPTS s < 2 → NoneWaits s →
      After (exec (.trainingStepTimeout k step) s) fun t => getF (R.SDG_STK k) F.SDG_STK_STEP t = step.val + 1 ∧
      stackState k t = 1 ∧ getF (R.SDG_STK k) F.SDG_STK_ATTEMPTS t = getF (R.SDG_STK k) F.SDG_STK_ATTEMPTS s + 1
      ∧ Raised (ev 5 (8 * k)) t ∧ t.hbm = s.hbm)
    ∧ (∀ step : Fin 5, stackState k s = 1 → getF (R.SDG_STK k) F.SDG_STK_ATTEMPTS s = 2 →
      isSet R.SDG_STACKS F.SDG_STACKS_RATE_PEND s = false → s.sdg.rateRun = false → NoneWaits s →
      After (exec (.trainingStepTimeout k step) s) fun t => getF (R.SDG_STK k) F.SDG_STK_STEP t = step.val + 1 ∧
      stackState k t = 4 ∧ getBit R.SDG_STACKS F.SDG_STACKS_FAILED k t = true ∧ Raised (ev 5 (8 * k + 1)) t
      ∧ (s.pow.busy = false → s.pow.queue = [] → domState (stackDomain k) t = 0)
      ∧ (s.pow.busy = true ∨ s.pow.queue ≠ [] → t.pow.queue = s.pow.queue ++ [.down (stackDomain k)])
      ∧ ∀ a, a / (32 * pcWords) = k → t.hbm.get (fun _ => 0#40) a = 0#40)
    ∧ (stackState k s = 1 → isSet R.SDG_STACKS F.SDG_STACKS_RATE_PEND s = false → s.sdg.rateRun = false → NoneWaits s →
      After (exec (.trainingComplete k) s) fun t => stackState k t = 2 ∧ getF (R.SDG_STK k) F.SDG_STK_STEP t = 5
        ∧ t.hbm = s.hbm ∧ (workMask s / 2 ^ k.val % 2 = 0 → t.sdg.restart = true))
    ∧ (stackState k s = 2 → ∀ c ∈ [Instr.phyLockLoss k, Instr.caParityLimit k], After (exec c s) fun t =>
      stackState k t = 1 ∧ t.sdg.lost = s.sdg.lost ||| 2 ^ k.val ∧ t.hbm = s.hbm ∧ workMask t = workMask s)
    ∧ (stackState k s = 2 → After (exec (.caParityError k) s) fun t => stackState k t = 2 ∧ Raised (ev 5 (8 * k + 3)) t
      ∧ Only [.bellq, .health] (bellWord (ev 5 (8 * k + 3))) s t)
    ∧ (stackState k s = 3 → After (exec (.srExitTimeout k) s) fun t => Raised (ev 5 (8 * k + 5)) t
      ∧ (s.pow.busy = false → s.pow.queue = [] → stackState k t = 1 ∧ getF (R.SDG_STK k) F.SDG_STK_STEP t = 1)
      ∧ (s.pow.busy = true ∨ s.pow.queue ≠ [] → stackState k t = 3 ∧ LoadStep.retrain k ∈ t.pow.queue
          ∧ LoadStep.exit k ∉ t.pow.queue))
    ∧ (∀ temp : BitVec 8, stackState k s ≠ 0 → stackState k s ≠ 4 → After (exec (.stackTempRead k temp) s) fun t =>
      getF (R.SDG_STK k) F.SDG_STK_TEMP t = temp.toNat
      ∧ (getF R.SDG_TEMP F.SDG_TEMP_LIMIT s < temp.toNat → Raised (ev 5 (8 * k + 2)) t)
      ∧ Only [.bellq, .health] (fun a => a = R.SDG_STK k ∨ bellWord (ev 5 (8 * k + 2)) a) s t)
    ∧ After (exec (.refresh k) s) fun t => t = s

/-- From R139: in Standing, when training does not end in time, a deferred rate change aborts the stacks that train and takes
effect; in another state it waits. -/
def Sys2Proof.Safety.DeferredRateAborts : Prop :=
  (∀ s : State, pstate s ≠ 2 → exec .sdgRateAbort s = .next s)
  ∧ ∀ s : State, isSet R.SDG_STACKS F.SDG_STACKS_RATE_PEND s = true → pstate s = 2 →
    After (exec .sdgRateAbort s) fun t => isSet R.SDG_STACKS F.SDG_STACKS_RATE_PEND t = false
      ∧ getF R.SDG_CTRL F.SDG_CTRL_RATE t = s.sdg.rateTo % 4
      ∧ (∀ k, k < 8 → stackState k s = 1 → stackState k t = 1 ∧ Raised (ev 5 (8 * k + 6)) t)
      ∧ ∀ k ∈ workStacks s, stackState k s = 2 ∨ stackState k s = 3 →
          stackState k t = 1 ∨ (stackState k t = 3 ∧ LoadStep.retrain k ∈ t.pow.queue)

/-- From R140, R149: while the controllers' clocks run, the patrol reads the reserved region block by block, writes a corrected
block back, and counts a pass at the end; with the clocks stopped it stands. -/
def Sys2Proof.Safety.PatrolWalksTheReservedRegion : Prop :=
  (∀ s : State, domState 4 s ≠ 3 → exec .scrubRead s = .next s)
  ∧ ∀ s : State, isSet R.SDG_CTRL F.SDG_CTRL_SCRUB_EN s = true → workStacks s ≠ [] → domState 4 s = 3 →
    After (exec .scrubRead s) fun t =>
      (getF R.SDG_SCRUBPOS F.SDG_SCRUBPOS_BLOCK s + 1 < 160000000 →
        getF R.SDG_SCRUBPOS F.SDG_SCRUBPOS_BLOCK t = getF R.SDG_SCRUBPOS F.SDG_SCRUBPOS_BLOCK s + 1
        ∧ getF R.SDG_SCRUBPOS F.SDG_SCRUBPOS_PASSES t = getF R.SDG_SCRUBPOS F.SDG_SCRUBPOS_PASSES s)
      ∧ (getF R.SDG_SCRUBPOS F.SDG_SCRUBPOS_BLOCK s + 1 = 160000000 → getF R.SDG_SCRUBPOS F.SDG_SCRUBPOS_BLOCK t = 0
        ∧ getF R.SDG_SCRUBPOS F.SDG_SCRUBPOS_PASSES t
            = (getF R.SDG_SCRUBPOS F.SDG_SCRUBPOS_PASSES s + 1) % 2 ^ F.SDG_SCRUBPOS_PASSES.w)
      ∧ (stackState ((reservedPlace (getF R.SDG_SCRUBPOS F.SDG_SCRUBPOS_BLOCK s) s).1 / 32) s = 2 →
          errsAt (reservedPlace (getF R.SDG_SCRUBPOS F.SDG_SCRUBPOS_BLOCK s) s) s ≤ 3 →
          errsAt (reservedPlace (getF R.SDG_SCRUBPOS F.SDG_SCRUBPOS_BLOCK s) s) t = 0
          ∧ ∀ a, t.hbm.get (fun _ => 0#40) a = s.hbm.get (fun _ => 0#40) a)
      ∧ (stackState ((reservedPlace (getF R.SDG_SCRUBPOS F.SDG_SCRUBPOS_BLOCK s) s).1 / 32) s ≠ 2
          ∨ errsAt (reservedPlace (getF R.SDG_SCRUBPOS F.SDG_SCRUBPOS_BLOCK s) s) s = 4 →
          t.hbm = s.hbm ∧ t.hbmErr = s.hbmErr)

/-- From R144-R147, R197, R198: a capture that becomes due takes the lowest idle slot when its descriptor is usable and is
refused when no slot is idle; its stream starts when its window is written, gives one piece per read, and its slot is
idle again at the release index. -/
def Obligations.CapturesRunTheirCourse : Prop :=
  (∀ (e : Entry) (desc : BitVec 8) (len : BitVec 32) (key : BitVec 48) (s : State), dueNext s = some e →
      e.key = key.toNat → e.code = 0x10 → e.arg = desc.toNat * 2 ^ 32 + len.toNat →
      (idleCapture s = none → After (exec (.capture desc len key) s) fun t =>
        getBit R.SDG_STATUS ⟨0, 0, 9⟩ 0 t = true ∧ t.sdg.caps = s.sdg.caps)
      ∧ (∀ k, idleCapture s = some k → capDescOk desc.toNat s = true →
        let c := (capWindow desc.toNat key.toNat len.toNat (getF R.TMN_CAPNUM F.TMN_CAPNUM_NEXT s) s).1
        c.f0 + c.fn ≤ cfgNch s → c.i0 + c.inN ≤ cfgN s → capTooFast desc.toNat c s = false →
        After (exec (.capture desc len key) s) fun t => capState k t = 1 ∧ captureOf k t = c
          ∧ getF R.TMN_CAPNUM F.TMN_CAPNUM_NEXT t
              = (getF R.TMN_CAPNUM F.TMN_CAPNUM_NEXT s + 1) % 2 ^ F.TMN_CAPNUM_NEXT.w))
  ∧ (∀ (c : Fin 4) (s : State), capState c s = 1 → (captureOf c s).wstart + 25 * (captureOf c s).tn ≤ s.pts.nextJ →
      After (exec (.captureStreamStart c) s) fun t => capState c t = 2
        ∧ captureOf c t = { captureOf c s with from_ := tickNow s } ∧ Only [.sdg] (fun a => a = R.SDG_CAP c) s t)
  ∧ (∀ (c : Fin 4) (s : State), capState c s = 2 → pstate s = 1 → (captureOf c s).pos < capBlocks (captureOf c s) →
      (∀ x, x < pieceLen (captureOf c s) s →
        stackState ((capPlace (captureOf c s) ((captureOf c s).pos + x) s).1 / 32) s = 2) →
      bufferRoom (8 + 5 * pieceLen (captureOf c s) s) s = true →
      capturePaced (captureOf c s) (pieceLen (captureOf c s) s) s = true →
      After (exec (.capturePieceRead c) s) fun t =>
        (captureOf c t).pos = (captureOf c s).pos + pieceLen (captureOf c s) s
        ∧ (captureOf c t).pieces = (captureOf c s).pieces + 1
        ∧ (captureOf c t).sent = (captureOf c s).sent + pieceLen (captureOf c s) s
        ∧ (capBlocks (captureOf c s) ≤ (captureOf c t).pos → capState c t = 3)
        ∧ ((captureOf c t).pos < capBlocks (captureOf c s) → capState c t = 2))
  ∧ (∀ (c : Fin 4) (s : State), capState c s ≠ 0 → frontValid s = true → (captureOf c s).rel * cfgP s ≤ frontNow s →
      After (exec (.captureRelease c) s) fun t => capState c t = 0 ∧ captureOf c t = {}
        ∧ (capState c s ≠ 3 → getBit R.SDG_STATUS ⟨0, 0, 9⟩ 1 t = true))

/-! ### Terminus and Turntable -/

/-- From R81, R202, R204, R316: at a consignment boundary a departure in OPEN takes its oldest beam consignment, else the oldest
of the buffer, and sends it; at the x170 rate it travels as one frame behind its preamble. It is counted when it has left
whole. A consignment with a codeword that the bus code cannot correct is discarded and counted, and the lane takes the one
after it. -/
def Obligations.DepartureTakesItsNextConsignment : Prop :=
  ∀ (d : Fin 16) (c : Consig) (s : State), let i := 64 + d.val
    (laneOf i s).cur = none → (laneOf i s).eth.open_ = false → (laneOf i s).eth.left = [] → laneState i s = 5 →
    tmnEn s = true → pstate s = 1 → nextConsig i s = some c → (∀ x ∈ laneConsigs (laneOf i s), twinMutes x s = false) →
    s.chk.force = [] → s.chk.busy = none → (laneOf i s).bus = [] → c.route < 16 →
    let popped := fun (t : State) =>
      ((laneOf i s).beamq ≠ [] → (laneOf i t).beamq = (laneOf i s).beamq.tail ∧ (laneOf i t).txq = (laneOf i s).txq)
      ∧ ((laneOf i s).beamq = [] → (laneOf i t).beamq = [] ∧ (laneOf i t).txq = (laneOf i s).txq.tail)
      ∧ ∀ k, k ≠ i → laneOf k t = laneOf k s
    (After (exec (.consignmentBoundary d []) s) fun t => popped t
      ∧ ((laneOf i s).rate170 = false → (laneOf i t).cur = some (c, 0) ∧ Only [.lanes] (fun _ => False) s t)
      ∧ ((laneOf i s).rate170 = true → (laneOf i t).cur = some (c, 0)
        ∧ (laneOf i t).frame = (ethernetFrame d c.route c.words s).map (BitVec.ofNat 8)
        ∧ (laneOf i t).eth.left = preamble ++ (laneOf i t).frame
        ∧ Only [.lanes] (fun _ => False) s t))
    ∧ ∀ (mask : Nat) (after : Option Consig), wrongSymbols 32 mask = 4 → c.words ≠ [] →
      (laneOf i s).beamq ++ (laneOf i s).txq = c :: after.toList →
      After (exec (.consignmentBoundary d [(0, mask)]) s) fun t =>
        (laneOf i t).beamq = [] ∧ (laneOf i t).txq = [] ∧ (laneOf i t).cur = after.map (·, 0)
        ∧ getF (R.TMN_ROUTE c.route) F.TMN_ROUTE_DROPPED t
            = Nat.min (getF (R.TMN_ROUTE c.route) F.TMN_ROUTE_DROPPED s + 1) (2 ^ F.TMN_ROUTE_DROPPED.w - 1)
        ∧ getF R.INS_BUSERR F.INS_BUSERR_UNCORR t
            = Nat.min (getF R.INS_BUSERR F.INS_BUSERR_UNCORR s + 1) (2 ^ F.INS_BUSERR_UNCORR.w - 1)

/-- From R212-R222: a beam sample is formed when its last tap has arrived and no frame waits; the end of an integration closes
its sums into the frame, and a full frame leaves the assembly with its space freed, counted in BDROP when the store has
no room for it. -/
def Sys2Proof.Safety.BeamSamplesIntegrationsAndFrames : Prop :=
  (∀ (bad : List (Fin 128)) (s : State), beamWaits s = false → s.tbl.resetAt = none → beamReady s.tbl.next s = true →
      After (exec (.beamSampleForm bad) s) fun t => t.tbl.next = s.tbl.next + 1
        ∧ ∀ x, s.tbl.next + 1 ≤ x % 2 ^ 48 + (boff s + bdepth s) →
          t.tbl.line.get (fun _ => invalidSample) x = s.tbl.line.get (fun _ => invalidSample) x)
  ∧ (∀ (b : Fin 128) (f : Fin 4096) (s : State), intFull b (frameOf b f s) s = true →
      After (exec (.integrationEnd b f) s) fun t => (frameOf b f t).ints = (frameOf b f s).ints + 1
        ∧ (frameOf b f t).sums = zeroSums b s ∧ (frameOf b f t).cnt = 0
        ∧ (frameOf b f t).items = (frameOf b f s).items ++ ((frameOf b f s).sums.zipIdx.map fun x =>
            fieldOf 32 (satSum x.2 (rne x.1 (2 ^ getF (R.TBL_BEAM b) F.TBL_BEAM_OSHIFT s)))) ++ [(frameOf b f s).cnt]
        ∧ ∀ b' f', b' * 4096 + f' ≠ b.val * 4096 + f.val → frameOf b' f' t = frameOf b' f' s)
  ∧ (∀ (b : Fin 128) (f : Fin 4096) (s : State), frameFull b (frameOf b f s) s = true →
      intFull b (frameOf b f s) s = false →
      After (exec (.beamFrameEmit b f) s) fun t => frameOf b f t = {} ∧ t.tbl.held = s.tbl.held - (8 + beamPayloadLen b s)
        ∧ (64000000 < (s.beamHeld + s.tbl.held) * 40 → getBit R.TMN_STATUS ⟨0, 0, 5⟩ 2 t = true
            ∧ t.lanes = s.lanes ∧ getF R.TBL_STORE F.TBL_STORE_BDROP t
              = Nat.min (getF R.TBL_STORE F.TBL_STORE_BDROP s + 1) (2 ^ F.TBL_STORE_BDROP.w - 1)))

/-- From R215: a gain or delay swap of the Turntable that becomes due is committed when its bank is ready, and otherwise
missed: counted and reported. -/
def Sys2Proof.Safety.BeamSwapsThatBecomeDue : Prop :=
  ∀ (e : Entry) (key : BitVec 48) (s : State), dueNext s = some e → e.key = key.toNat →
    (e.code = 0x03 → s.tbl.gswap.last ≠ some (cdiv e.key (cfgP s)) →
      After (exec (.tblGswap key) s) fun t => t.ttb.queue = s.ttb.queue.filter (·.slot != e.slot)
        ∧ (isSet R.TBL_BANKS F.TBL_BANKS_GRDY s = true →
            t.tbl.gswap = ⟨s.tbl.gswap.at_ ++ [cdiv e.key (cfgP s)], some (cdiv e.key (cfgP s))⟩)
        ∧ (isSet R.TBL_BANKS F.TBL_BANKS_GRDY s = false → t.tbl.gswap.at_ = s.tbl.gswap.at_
            ∧ getF R.TBL_BANKS F.TBL_BANKS_GMISS t = (getF R.TBL_BANKS F.TBL_BANKS_GMISS s + 1) % 256
            ∧ getBit R.TBL_STATUS ⟨0, 0, 5⟩ 0 t = true))
    ∧ (e.code = 0x04 → s.tbl.dswap.last ≠ some (cdiv e.key (cfgP s)) →
      After (exec (.tblDswap key) s) fun t => t.ttb.queue = s.ttb.queue.filter (·.slot != e.slot)
        ∧ (isSet R.TBL_DTAG F.TBL_DTAG_READY s = true →
            t.tbl.dswap = ⟨s.tbl.dswap.at_ ++ [cdiv e.key (cfgP s)], some (cdiv e.key (cfgP s))⟩)
        ∧ (isSet R.TBL_DTAG F.TBL_DTAG_READY s = false → t.tbl.dswap.at_ = s.tbl.dswap.at_
            ∧ getF R.TBL_BANKS F.TBL_BANKS_DMISS t = (getF R.TBL_BANKS F.TBL_BANKS_DMISS s + 1) % 256
            ∧ getBit R.TBL_STATUS ⟨0, 0, 5⟩ 0 t = true))

/-! ### Junction and Yard -/

/-- From R15, R16, R169: the next dwell of the schedule starts when the Junction runs, its districts are ready, no dwell is in
progress, its pacing instant has come and its road is free; the roads alternate. A busy road is an overrun, reported
once. -/
def Sys2Proof.Safety.DwellStartTakesTheNextSlot : Prop :=
  ∀ (x : Slot) (rest : List Slot) (s : State), running s = true → isSet R.JCT_CTRL F.JCT_CTRL_EN s = true →
    s.jct.cur = none → districtsReady s = true → s.jct.todo = x :: rest → heldSlot x s = false → paced s = true →
    (roadBusy (s.jct.g % 2) s = false → After (exec .dwellStart s) fun t =>
      t.jct.todo = rest ∧ t.jct.g = s.jct.g + 1 ∧ t.jct.idx = s.jct.idx + 1 ∧ isSet R.JCT_STATE F.JCT_STATE_BUSY t = true
      ∧ ∃ w, t.jct.cur = some w ∧ w.slot = x ∧ w.g = s.jct.g ∧ w.road = s.jct.g % 2 ∧ w.done = 0)
    ∧ (roadBusy (s.jct.g % 2) s = true → s.jct.late = false → After (exec .dwellStart s) fun t =>
      t.jct = { s.jct with late := true } ∧ getBit R.JCT_STATUS ⟨0, 0, 8⟩ 1 t = true ∧ Raised (ev 7 7) t
      ∧ Only [.jct, .bellq, .health] (fun a => a = R.JCT_STATUS ∨ bellWord (ev 7 7) a) s t)

/-- From R159, R160, R179: a sweep brings the dwell in progress to its next boundary; at the dwell's length, and at a forced
boundary before it, the dwell ends there and waits for its flush. -/
def Sys2Proof.Safety.SweepReachesTheNextBoundary : Prop :=
  ∀ (ups : List ArrayUpset) (w : Dwell) (s : State), s.jct.cur = some w →
    After (exec (.promotionSweep ups) s) fun t =>
      (w.slot.d ≤ nextBoundary w ∨ s.jct.force = true →
        t.jct.cur = none ∧ isSet R.JCT_STATE F.JCT_STATE_BUSY t = false
        ∧ ∃ w', t.jct.flush = s.jct.flush ++ [w'] ∧ w'.slot = w.slot ∧ w'.road = w.road ∧ w'.done = nextBoundary w)
      ∧ (nextBoundary w < w.slot.d → s.jct.force = false →
        t.jct.flush = s.jct.flush
        ∧ ∃ w', t.jct.cur = some w' ∧ w'.slot = w.slot ∧ w'.road = w.road ∧ w'.done = nextBoundary w)

/-- From R151-R153, R159, R160, R164, R165: without faults and corrections, a sweep adds to the Yard's sum of every cell the
sum of the products of its lines since the last boundary, from zero at the first, saturating at ±(2^39 − 1). A saturation
is reported, and one that the dwell's record drains marks it. -/
def Sys2Proof.Safety.SweepAddsTheIntervalSums : Prop :=
  ∀ (w : Dwell) (s : State), s.jct.cur = some w → w.fresh = [] → injs s = [] → s.jct.shadow = [] → s.jct.carry = [] →
    s.jct.yardErr = [] → s.jct.poison = [] →
    let n := nextBoundary w - w.done
    let line := fun b k => feedLine w.slot.ch (1024 * b + k) (w.slot.j0 + w.done) n s
    let sum := fun r c => if r < blockLines w.slot.a s ∧ c < blockLines w.slot.b s then
      wrap20 (dotVis (line w.slot.a r) (line w.slot.b c) (0, 0)) else (0, 0)
    let new := fun r c => addVis (if w.done = 0 then (0, 0) else visAt w.road r c s) (sum r c)
    let full := fun r c => r < cUsed s ∧ c < cUsed s ∧ satVis (new r c) ≠ new r c
    After (exec (.promotionSweep []) s) fun t =>
      (∀ r c, r < cUsed s → c < cUsed s → visAt w.road r c t = satVis (new r c))
      ∧ ((∃ r c, full r c) → getBit R.JCT_STATUS ⟨0, 0, 8⟩ 4 t = true ∧ Raised (ev 7 19) t)
      ∧ ∃ w', (t.jct.cur = some w' ∨ t.jct.flush = s.jct.flush ++ [w'])
        ∧ (w'.visSat = true ↔ w.visSat = true ∨ ∃ r c, full r c ∧ drains w.slot r c s = true)

/-- From R307-R314, Table 12.3: a cell that differs from the one of the inspection column that shadows it is a MISMATCH: it is
logged, makes the dwell suspect, and schedules a recheck. At the first boundary of the recheck dwell a column that differs
from both inspection columns takes a free spare, an inspection column that differs from the other two leaves rotation, and
where all agree nothing is retired; without AUTO_RETIRE nothing is. The spare is in service from the next dwell on. -/
def Sys2Proof.Safety.InspectionComparesAndRetires : Prop :=
  (∀ (i c r : Nat) (imag : Bool) (b : Fin 20) (w : Dwell) (s : State), s.jct.cur = some w → w.fresh = [] → injs s = [] →
    isSet R.INS_CTRL F.INS_CTRL_EN s = true → c < cUsed s → r < cUsed s → inRot i s = true → i < 4 →
    (∀ k, k < 8 → isSet (R.INS_COLMAP k) F.INS_COLMAP_USED s = false) →
    (∀ k, k < 4 → isSet (R.INS_ROWMAP k) F.INS_ROWMAP_USED s = false) →
    (∀ x ∈ s.ins.shadow, x.2 < 1024) →
    let flip := fun p => exec (.promotionSweep [.cell r p imag b]) s
    let suspect := fun (t : State) => ∃ w', (t.jct.cur = some w' ∨ t.jct.flush = s.jct.flush ++ [w']) ∧ w'.suspect = true
    let told := fun k (t : State) => getBit R.INS_STATUS ⟨0, 0, 40⟩ k t = true ∧ Raised (ev 8 k) t
    (s.ins.run = [] → s.ins.raised = [] → s.ins.shadow.Nodup → (∀ x ∈ s.ins.shadow, x.2 = c → x.1 = i) → (i, c) ∈ s.ins.shadow →
      After (flip c) fun t => suspect t ∧ told 0 t ∧ t.ins.wait = s.ins.wait ++ [{ col := c, insp := i, row := r, tries := 0 }]
        ∧ getF R.INS_LOGPOS F.INS_LOGPOS_NEXT t
            = (getF R.INS_LOGPOS F.INS_LOGPOS_NEXT s + 1) % 2 ^ F.INS_LOGPOS_NEXT.w
        ∧ t.ins.subst = s.ins.subst)
    ∧ ∀ (i2 : Nat) (k : Recheck), s.ins.run = [(k, i, i2)] → k.col = c → w.done = 0 → i2 < 4 → i ≠ i2 →
        (∀ x ∈ s.ins.shadow, x.1 ≠ i → x.1 ≠ i2 → x.2 ≠ c) → s.ins.subst = [] →
        let auto := isSet R.INS_CTRL F.INS_CTRL_AUTO_RETIRE s
        After (exec (.promotionSweep []) s) (fun t => told 1 t ∧ t.ins.subst = [] ∧ inRot i t = true)
        ∧ After (flip (1028 + i)) (fun t => suspect t ∧ t.ins.subst = [] ∧ inRot i t = !auto ∧ (auto = true → told 5 t))
        ∧ After (flip c) fun t => suspect t ∧ inRot i t = true
          ∧ (auto = false → t.ins.subst = [])
          ∧ ∀ x, auto = true → freeSpare false s = some x → told 3 t ∧ t.ins.subst = [⟨false, x, c, trialNow s⟩])
  ∧ ∀ (k : Nat) (x : Subst) (y : Slot) (rest : List Slot) (s : State), running s = true →
      isSet R.JCT_CTRL F.JCT_CTRL_EN s = true → s.jct.cur = none → districtsReady s = true → s.jct.todo = y :: rest →
      heldSlot y s = false → paced s = true → roadBusy (s.jct.g % 2) s = false → s.ins.restore = false →
      s.ins.subst = [x] → x.isRow = false → k = x.spare → k < 4 → x.line < 1024 →
      (∀ m, m < 8 → isSet (R.INS_COLMAP m) F.INS_COLMAP_USED s = true → m < k ∧ getF (R.INS_COLMAP m) F.INS_COLMAP_INDEX s ≠ x.line) →
      After (exec .dwellStart s) fun t => t.ins.subst = [] ∧ physCol x.line t = 1024 + k

/-- From R17, R161, R176: the flush of the oldest ended dwell hands over its record with the steps it covered and what the dwell
noted, and behind it the records without visibilities that follow the dwell; with no dwell to flush nothing happens. -/
def Sys2Proof.Safety.FlushHandsOverTheRecord : Prop :=
  (∀ (w : Dwell) (rest : List Dwell) (s : State), s.jct.flush = w :: rest →
    After (exec .flushComplete s) fun t => t.jct.flush.map (·.slot) = rest.map (·.slot)
      ∧ t.jct.cur.map (·.slot) = s.jct.cur.map (·.slot)
      ∧ ∃ r, r.slot = w.slot ∧ r.road = some w.road ∧ r.count = w.done ∧ r.partial_ = w.partial_ ∧ r.visSat = w.visSat
        ∧ r.capture = false ∧ r.counts = w.counts ∧ (w.suspect = true → r.suspect = true)
        ∧ t.jct.recs = s.jct.recs ++ r :: w.then_)
  ∧ ∀ s : State, s.jct.flush = [] → exec .flushComplete s = .next s

/-- From R166, R167, R176, R203: the oldest record drains row by row. A record without visibilities leaves at once; a row of
another is handed over with its visibilities, the last row ends the record; without room in the departure buffer the
drain stalls and nothing of the record changes; before the flush, in the final sweep, and in the cycle of a row 1,024
before it the row waits. -/
def Sys2Proof.Safety.DrainRowByRow : Prop :=
  (∀ (cycle : Nat) (r : Rec) (rs : List Rec) (s : State), s.jct.recs = r :: rs →
    pstate s = 1 ∨ pstate s = 2 ∨ pstate s = 6 →
    let free := drainsFreely (rakeRoute r.slot.rake s) s
    let words := wordsUpTo (rakeCompact r.slot.rake s) (cvisOf (rakeRoute r.slot.rake s) s)
    let last := decide (blockLines r.slot.a s ≤ s.jct.row + 1)
    let need := words (s.jct.v + rowCols r.slot s.jct.row s) - words s.jct.v + (if last then manifestWords r s else 0)
    let waits := s.jct.flush.isEmpty = false ∨ inFinal cycle s = true ∨ cycle ∈ s.jct.cycles.map (· + 1024)
    (r.road = none → free = true ∨ bufferRoom (8 + manifestWords r s) s = true →
      After (exec (.drainRow cycle) s) fun t => t.jct.recs = rs)
    ∧ (∀ road, r.road = some road → waits → exec (.drainRow cycle) s = .next s)
    ∧ (∀ road, r.road = some road → ¬ waits → free = true ∨ bufferRoom need s = true →
        (last = false → After (exec (.drainRow cycle) s) fun t =>
          t.jct.row = s.jct.row + 1 ∧ t.jct.v = s.jct.v + rowCols r.slot s.jct.row s
          ∧ t.jct.recs.map (·.slot) = s.jct.recs.map (·.slot))
        ∧ (last = true → After (exec (.drainRow cycle) s) fun t =>
          t.jct.row = 0 ∧ t.jct.v = 0 ∧ t.jct.recs = rs))
    ∧ (r.road = none → free = false → bufferRoom (8 + manifestWords r s) s = false →
      After (exec (.drainRow cycle) s) fun t => t.jct = s.jct ∧ getBit R.TMN_STATUS ⟨0, 0, 5⟩ 0 t = true)
    ∧ (∀ road, r.road = some road → ¬ waits → free = false → bufferRoom need s = false →
      After (exec (.drainRow cycle) s) fun t => t.jct = s.jct ∧ getBit R.TMN_STATUS ⟨0, 0, 5⟩ 0 t = true))
  ∧ ∀ (cycle : Nat) (s : State), s.jct.recs = [] → exec (.drainRow cycle) s = .next s

/-- From R186-R189, R192-R194, R200: a record without visibilities leaves as one consignment of a bare header; the last row of
another record closes its last piece, whose consignment has the header of Table 7.1, the sequence number of Table 7.4, and
its visibilities in the format of the rake. It is queued on the lane that R200 chooses. -/
def Sys2Proof.Safety.ConsignmentsOfARecord : Prop :=
  ∀ (cycle i : Nat) (skip : Bool) (r : Rec) (rs : List Rec) (s : State), s.jct.recs = r :: rs →
    pstate s = 1 ∨ pstate s = 2 ∨ pstate s = 6 → tmnEn s = true →
    isSet (R.TMN_ROUTE (rakeRoute r.slot.rake s)) F.TMN_ROUTE_EN s = true →
    let x := r.slot
    let route := rakeRoute x.rake s
    let cvis := cvisOf route s
    let seq := fun q => x.m % 2 ^ 14 * 2 ^ 32 + x.rake % 8 * 2 ^ 29 + x.ch % 4096 * 2 ^ 17 + x.k % 64 * 2 ^ 11 + q % 2048
    let flags := b2n r.partial_ + 2 * b2n r.suspect + 4 * b2n r.visSat + 8 * b2n r.capture + 32
      + (if uncoupled s then 16 else 0)
    let header := fun (v0 n len : Nat) => ([(if rakeCompact x.rake s then 2 else 1) * 2 ^ 36 + 2 ^ 32 + x.rake % 8 * 2 ^ 29 + len,
      seq (v0 / cvis) / 2 ^ 8,
      seq (v0 / cvis) % 2 ^ 8 * 2 ^ 32 + x.ch % 2 ^ 12 * 2 ^ 20 + x.k % 64 * 2 ^ 14 + x.a % 8 * 2 ^ 11 + x.b % 8 * 2 ^ 8,
      x.j0 / 2 ^ 8 % 2 ^ 40, x.j0 % 2 ^ 8 * 2 ^ 32 + r.count % 2 ^ 32, v0 % 2 ^ 21 * 2 ^ 19 + n % 2 ^ 19,
      flags * 2 ^ 32 + x.m % 2 ^ 32, getF R.TMN_ID F.TMN_ID_TWIN_ID s * 2 ^ 24] : List Nat).map (BitVec.ofNat 40)
    let leaves := fun (v0 : Nat) (words : List Word) =>
      let c : Consig := ⟨route, false, words, none, x.j0⟩
      twinMutes c s = false → laneSelect route (x.ch * tileCount (nbOf (cfgN s)) + x.k + v0 / cvis) s = some (i, skip) →
      After (exec (.drainRow cycle) s) fun t => t.jct.recs = rs
        ∧ (laneOf i t).txq.take ((laneOf i s).txq.length + 1) = (laneOf i s).txq ++ [c]
    (r.road = none → bufferRoom (8 + manifestWords r s) s = true → leaves 0 (header 0 0 8))
    ∧ ∀ road, r.road = some road →
      let n := rowCols x s.jct.row s
      let vs := s.jct.open_ ++ (List.range n).map fun c => visAt road s.jct.row c s
      let payload := if rakeCompact x.rake s then compactPayload vs
        else vs.flatMap fun v => [BitVec.ofNat 40 (fieldOf 40 v.1), BitVec.ofNat 40 (fieldOf 40 v.2)]
      let words := wordsUpTo (rakeCompact x.rake s) cvis
      ¬ (s.jct.flush.isEmpty = false ∨ inFinal cycle s = true ∨ cycle ∈ s.jct.cycles.map (· + 1024)) →
      s.jct.yardErr = [] → s.jct.poison = [] → blockLines x.a s ≤ s.jct.row + 1 → 0 < n → vs.length ≤ cvis →
      s.jct.open_.length ≤ s.jct.v → 8 + payload.length < 2 ^ 24 →
      bufferRoom (words (s.jct.v + n) - words s.jct.v + manifestWords r s) s = true →
      leaves (s.jct.v - s.jct.open_.length) (header (s.jct.v - s.jct.open_.length) vs.length (8 + payload.length) ++ payload)

/-- From R17, R128, R171: at a Platform switch the period just written becomes readable and its dwells are planned; a Platform
not yet finished is an overrun. -/
def Sys2Proof.Safety.PlatformSwitchPlansThePeriod : Prop :=
  ∀ s : State, running s = true → frontValid s = true → s.sdg.restart = false → platLen s ≠ 0 →
    s.sdg.nextSwitch + platLen s ≤ s.pts.nextJ →
    After (exec .platformSwitch s) fun t => t.sdg.readable = some s.sdg.nextSwitch
      ∧ t.sdg.nextSwitch = s.sdg.nextSwitch + platLen s ∧ t.jct.t0 = tickNow s
      ∧ (s.jct.cur ≠ none ∨ s.jct.todo ≠ [] ∨ s.jct.waitPlat ≠ [] → getBit R.JCT_STATUS ⟨0, 0, 8⟩ 0 t = true)
      ∧ (isSet R.TTB_STATE F.TTB_STATE_DPR_PEND s = false → t.jct.idx = 0 ∧ t.jct.waitPlat = []
          ∧ ∀ x ∈ t.jct.todo, x.per = s.sdg.nextSwitch)

/-- From R156, R178, R311: a feed parity error that a needed district finds in a fed line makes the dwell suspect, the one in
progress or else the one that flushes next, and is reported per district and side; a district that is not needed, and a
line that is not fed, find none. -/
def Sys2Proof.Safety.FeedParityMarksTheDwell : Prop :=
  ∀ (k : Fin 16) (isRow : Bool) (off : Fin 256) (s : State),
    let line := 256 * (if isRow then k.val / 4 else k.val % 4) + off
    let needed := districtsNeeded (cfgN s) / 2 ^ k.val % 2 = 1
    let fed := fun (w : Dwell) => line < blockLines (if isRow then w.slot.a else w.slot.b) s
    let told := fun (t : State) => Raised (ev 7 (4 * k + b2n (!isRow))) t ∧ isSet R.JCT_STATUS F.JCT_STATUS_PARITY t = true
    let marked := fun (w w' : Dwell) => w'.suspect = true ∧ w'.slot = w.slot ∧ w'.errs = w.errs ++ [(isRow, line)]
    (∀ w, s.jct.cur = some w → needed → fed w →
      After (exec (.feedParityError k isRow off) s) fun t => told t ∧ t.jct.flush = s.jct.flush
        ∧ ∃ w', t.jct.cur = some w' ∧ marked w w')
    ∧ (∀ w rest, s.jct.cur = none → s.jct.flush = w :: rest → needed → fed w →
      After (exec (.feedParityError k isRow off) s) fun t => told t ∧ t.jct.cur = none
        ∧ ∃ w', t.jct.flush = w' :: rest ∧ marked w w')
    ∧ (¬ needed ∨ (∀ w, s.jct.cur = some w ∨ (s.jct.cur = none ∧ s.jct.flush.head? = some w) → ¬ fed w) →
      exec (.feedParityError k isRow off) s = .next s)

/-- From R173, R174: RAKE_OPEN opens a defined rake at the first dump boundary at or after KEY, RAKE_CLOSE closes an open one;
for an undefined or open rake, and for one not open, each is an error of the Junction. -/
def Sys2Proof.Safety.RakesOpenAndClose : Prop :=
  ∀ (g : Fin 8) (e : Entry) (key : BitVec 48) (s : State), dueNext s = some e → e.key = key.toNat → e.arg = g →
    (e.code = 0x08 → isSet (R.JCT_RAKE g) F.JCT_RAKE_DEF s = true → isSet (R.JCT_RAKE g) F.JCT_RAKE_OPEN s = false →
      After (exec (.rakeOpen g key) s) fun t => isSet (R.JCT_RAKE g) F.JCT_RAKE_OPEN t = true
        ∧ ∃ j, spansOf g t = spansOf g s ++ [(j, none)] ∧ originNow s ≤ j
          ∧ (0 < rakeLen g s → cdiv key.toNat (cfgP s) ≤ j ∧ (j - originNow s) % rakeLen g s = 0))
    ∧ (e.code = 0x08 → isSet (R.JCT_RAKE g) F.JCT_RAKE_DEF s = false ∨ isSet (R.JCT_RAKE g) F.JCT_RAKE_OPEN s = true →
      After (exec (.rakeOpen g key) s) fun t => t.jct.spans = s.jct.spans ∧ getBit R.JCT_STATUS ⟨0, 0, 8⟩ 3 t = true)
    ∧ (e.code = 0x09 → isSet (R.JCT_RAKE g) F.JCT_RAKE_OPEN s = true →
      After (exec (.rakeClose g key) s) fun t => isSet (R.JCT_RAKE g) F.JCT_RAKE_OPEN t = false
        ∧ ∀ x ∈ spansOf g t, x.2 ≠ none)
    ∧ (e.code = 0x09 → isSet (R.JCT_RAKE g) F.JCT_RAKE_OPEN s = false →
      After (exec (.rakeClose g key) s) fun t => t.jct.spans = s.jct.spans ∧ getBit R.JCT_STATUS ⟨0, 0, 8⟩ 3 t = true)

/-- From R238: a keyed data-plane reset takes the platform origin to KEY while the front runs on; its back half ends the
pending state once the last old dwell has flushed. -/
def Sys2Proof.Safety.KeyedResetHasTwoHalves : Prop :=
  (∀ (e : Entry) (key : BitVec 48) (s : State), dueNext s = some e → e.key = key.toNat → e.code = 0x18 → e.arg = 0 →
      s.gau.acts = [] → cdiv key.toNat (cfgP s) < 2 ^ 48 →
      After (exec (.dpReset key) s) fun t => originNow t = cdiv key.toNat (cfgP s) ∧ frontNow t = frontNow s
        ∧ t.arr.base = key.toNat ∧ t.tbl.resetAt = some (cdiv key.toNat (cfgP s)) ∧ t.sdg.jpOld = originNow s
        ∧ isSet R.TTB_STATE F.TTB_STATE_DPR_PEND t = true ∧ isSet R.PTS_TTSER F.PTS_TTSER_VALID t = false
        ∧ getBit R.TTB_STATUS F.TTB_STATUS_EVT 12 t = true)
  ∧ (∀ s : State, oldFlushed s = true →
      After (exec .dprBackHalf s) fun t => isSet R.TTB_STATE F.TTB_STATE_DPR_PEND t = false
        ∧ getF R.TMN_CAPNUM F.TMN_CAPNUM_NEXT t = 0 ∧ getBit R.TTB_STATUS F.TTB_STATUS_EVT 13 t = true)

/-- From R23, R138, R401: a change of the working set waits for the dump in progress to drain; it then takes the stacks that are
READY or have not failed, reports the change, and is a data-plane reset. A change of R23 that keeps the working set puts the
first plan that passes in force the same way; with none, Running is left for Standing. -/
def Sys2Proof.Safety.WorkingSetChangeIsADataPlaneReset : Prop :=
  ∀ s : State, s.sdg.restart = true → coreClocked s = true →
    (drained s = false ∨ (running s = true ∧ s.jct.recs ≠ []) →
      After (exec .workingSetChange s) fun t => t.sdg = s.sdg ∧ t.jct.todo = [] ∧ t.hbm = s.hbm)
    ∧ (drained s = true → (running s = true → s.jct.recs = []) →
      let u := flushFrames { setWork (newWork s) s with sdg := { s.sdg with restart := false } }
      After (exec .workingSetChange s) fun t => t.sdg.restart = false ∧ workMask t = newWork s
        ∧ frontValid t = false ∧ t.ttb.newFront = true ∧ t.jct.todo = [] ∧ t.sdg.readable = none
        ∧ (newWork s ≠ workMask s → getBit R.SDG_STATUS ⟨0, 0, 9⟩ 6 t = true ∧ Raised (ev 6 38) t)
        ∧ (newWork s = workMask s → isSet R.DEP_STATE F.DEP_STATE_RECOVERY s = false → s.jct.todo = [] →
          s.sdg.rateRun = false →
            planValid t = !(passingPlans u).isEmpty
            ∧ getF R.DEP_PLAN F.DEP_PLAN_ACTIVE t = (passingPlans u).headD 0 % 2 ^ F.DEP_PLAN_ACTIVE.w
            ∧ (passingPlans u = [] → running s = true → s.pow.notching = false → pendOf t = Nat.max 2 (pendOf s))))

namespace Sys2Proof.Safety

/-- Core `n` issues instruction `i` next: it can issue, and its code word at the PC is intact and spells `i`. -/
def Fetches (n : CoreId) (i : Instr) (s : State) : Prop :=
  canIssue n.val s = true ∧ fetched n s = some i ∧ memErrAt (codeAt n.val s) s = 0

/-- No result in flight becomes visible in this slot, and the core is to go on after it. -/
def Quiet (n : CoreId) (s : State) : Prop :=
  (∀ x ∈ (coreOf n.val s).inflight, 2 ≤ x.1) ∧ (n.val = 8 ∨ isSet (R.DSP_CTRL n.val) F.DSP_CTRL_RUN s = true)

/-- The PC lies outside a loop, or before its last three addresses (R260). -/
def OffLoopEnd (n : CoreId) (s : State) : Prop :=
  regNat n.val 42 s = 0 ∨ pcOf n.val s + 2 < regNat n.val 44 s ∨ regNat n.val 44 s < pcOf n.val s

/-- Core `n` issues `i` in an ordinary slot: no delay slot, no loop end, no result that matures. -/
def Ready (n : CoreId) (i : Instr) (s : State) : Prop :=
  Fetches n i s ∧ Quiet n s ∧ OffLoopEnd n s ∧ (coreOf n.val s).delay = 0

/-- Core `n` after a slot in which nothing matures, with the results `l` begun by it. -/
def aged (n : CoreId) (l : List (Nat × CoreWr)) (s : State) : Core :=
  { coreOf n.val s with inflight := (coreOf n.val s).inflight.map (fun x => (x.1 - 1, x.2)) ++ l }

/-- One slot of core `n`: core data becomes `c`; of memory and registers only PC, STAT and `ws` are written; of
STAT only the bits listed change. -/
def Slot (n : CoreId) (ps : List Part) (ws : List Nat) (fl : List (Nat × Bool)) (c : Core) (s t : State) : Prop :=
  Only (.cores :: ps) (fun a => a = creg n.val 54 ∨ a = creg n.val 40 ∨ a ∈ ws) s t
    ∧ (∀ b, statBit n.val b t = (fl.lookup b).getD (statBit n.val b s))
    ∧ coreOf n.val t = c ∧ ∀ k, k ≠ n.val → coreOf k t = coreOf k s

/-- The PC of core `n` advances by one address of its code memory. -/
def Advances (n : CoreId) (s t : State) : Prop := pcOf n.val t = (pcOf n.val s + 1) % memWords n.val

/-- Z and N of a result. -/
def znOf (r : Word) : List (Nat × Bool) := [(1, r == 0#40), (2, r.msb)]

/-- `i` writes `r` into register `d`, visible to the next slot, and the STAT bits `fl`. -/
def Result1 (n : CoreId) (i : Instr) (d : Nat) (r : Word) (fl : List (Nat × Bool)) (s : State) : Prop :=
  Ready n i s → After (exec i s) fun t =>
    regRead n.val d t = r ∧ Advances n s t ∧ Slot n [] [creg n.val d] fl (aged n [] s) s t

/-- `i` writes only the STAT bits `fl`, and begins the results `l`. -/
def Begins (n : CoreId) (i : Instr) (l : List (Nat × CoreWr)) (fl : List (Nat × Bool)) (s : State) : Prop :=
  Ready n i s → After (exec i s) fun t => Advances n s t ∧ Slot n [] [] fl (aged n l s) s t

/-- A signed value outside 40 bits. -/
def over40 (z : Int) : Bool := decide (z < -2 ^ 39 ∨ 2 ^ 39 ≤ z)

end Sys2Proof.Safety

/-- From Tables 10.7, 10.8 (R256): ADD, ADDC, SUB, SUBB, NEG, ADDI, CMP and CMPI on every core: the 40-bit result is in Wd
for the next instruction; Z, N, C (carry, or no borrow) and V (signed overflow) are written, the other STAT bits
and everything else kept. -/
def Obligations.CoreSumsSetAllFlags : Prop :=
  ∀ (n : CoreId) (d a b : WReg) (imm : BitVec 24) (s : State),
    let x := regRead n.val a.val s
    let y := regRead n.val b.val s
    let m := imm.signExtend 40
    let c : Nat := if statBit n.val 3 s then 1 else 0
    let all := fun (r : Word) (cf : Prop) [Decidable cf] (z : Int) => znOf r ++ [(3, decide cf), (4, over40 z)]
    Result1 n (.add n d a b) d.val (x + y) (all (x + y) (2 ^ 40 ≤ x.toNat + y.toNat) (x.toInt + y.toInt)) s
    ∧ Result1 n (.addc n d a b) d.val (x + y + BitVec.ofNat 40 c)
        (all (x + y + BitVec.ofNat 40 c) (2 ^ 40 ≤ x.toNat + y.toNat + c) (x.toInt + y.toInt + c)) s
    ∧ Result1 n (.sub n d a b) d.val (x - y) (all (x - y) (y.toNat ≤ x.toNat) (x.toInt - y.toInt)) s
    ∧ Result1 n (.subb n d a b) d.val (x - y - BitVec.ofNat 40 (1 - c))
        (all (x - y - BitVec.ofNat 40 (1 - c)) (y.toNat + (1 - c) ≤ x.toNat) (x.toInt - y.toInt - (1 - c : Nat))) s
    ∧ Result1 n (.neg n d a) d.val (-x) (all (-x) (x = 0#40) (-x.toInt)) s
    ∧ Result1 n (.addi n d a imm) d.val (x + m) (all (x + m) (2 ^ 40 ≤ x.toNat + m.toNat) (x.toInt + m.toInt)) s
    ∧ Begins n (.cmp n a b) [] (all (x - y) (y.toNat ≤ x.toNat) (x.toInt - y.toInt)) s
    ∧ Begins n (.cmpi n a imm) [] (all (x - m) (m.toNat ≤ x.toNat) (x.toInt - m.toInt)) s

/-- From Tables 10.7, 10.8 (R256): the logical, shift, minimum and maximum functions, NOT, ABS, CLZ, their immediate forms and
MOVK (latency 1), and the products MULL, MULH, MULHU (latency 2): the result and the flags Z and N (V too for ABS; none
for MOVK), everything else kept. -/
def Obligations.CoreLogicShiftsAndProducts : Prop :=
  ∀ (n : CoreId) (d a b : WReg) (imm : BitVec 24) (amt : BitVec 6) (s : State),
    let x := regRead n.val a.val s
    let y := regRead n.val b.val s
    let m := imm.signExtend 40
    let k := y.toNat % 64
    let one := fun (i : Instr) (r : Word) => Result1 n i d.val r (znOf r) s
    let two := fun (i : Instr) (r : Word) => Begins n i [(1, .reg d.val r)] (znOf r) s
    one (.and n d a b) (x &&& y) ∧ one (.or n d a b) (x ||| y) ∧ one (.xor n d a b) (x ^^^ y)
    ∧ one (.andn n d a b) (x &&& ~~~y) ∧ one (.not n d a) (~~~x)
    ∧ one (.shl n d a b) (x <<< k) ∧ one (.shr n d a b) (x.sshiftRight k) ∧ one (.shrl n d a b) (x >>> k)
    ∧ one (.min n d a b) (if x.toInt ≤ y.toInt then x else y) ∧ one (.max n d a b) (if y.toInt ≤ x.toInt then x else y)
    ∧ one (.minu n d a b) (if x ≤ y then x else y) ∧ one (.maxu n d a b) (if y ≤ x then x else y)
    ∧ one (.clz n d a) (BitVec.ofNat 40 (40 - x.toNat.size))
    ∧ Result1 n (.abs n d a) d.val x.abs (znOf x.abs ++ [(4, decide (x = BitVec.intMin 40))]) s
    ∧ one (.andi n d a imm) (x &&& m) ∧ one (.ori n d a imm) (x ||| m) ∧ one (.xori n d a imm) (x ^^^ m)
    ∧ one (.shli n d a amt) (x <<< amt.toNat) ∧ one (.shri n d a amt) (x.sshiftRight amt.toNat)
    ∧ one (.shrli n d a amt) (x >>> amt.toNat)
    ∧ Result1 n (.movk n d false imm) d.val m [] s
    ∧ Result1 n (.movk n d true imm) d.val
        (BitVec.ofNat 40 (imm.toNat % 2 ^ 16 * 2 ^ 24 + (regRead n.val d.val s).toNat % 2 ^ 24)) [] s
    ∧ two (.mull n d a b) (x * y) ∧ two (.mulh n d a b) (BitVec.ofInt 40 (x.toInt * y.toInt / 2 ^ 40))
    ∧ two (.mulhu n d a b) (BitVec.ofNat 40 (x.toNat * y.toNat / 2 ^ 40))

/-- From R250, R253, Table 10.9: the complex functions begin a result of latency 2 with each component rounded to nearest
even and saturated to 20 bits; a saturation sets SV; CCONJ, CSWAP and CMAG2 give plain words (no BEXP). Log entry 20: the
conjugate of an imaginary part of -1 has a free imaginary part. -/
def Sys2Proof.Safety.CoreComplexFunctions : Prop :=
  (∀ (z : Int) (k : Nat), 1 ≤ k → let q := rne z (2 ^ k)
    2 * |z - q * 2 ^ k| ≤ 2 ^ k ∧ (2 * |z - q * 2 ^ k| = 2 ^ k → q % 2 = 0))
  ∧ ∀ (n : CoreId) (d a b : WReg) (s : State),
    let x := regRead n.val a.val s
    let y := regRead n.val b.val s
    let xr := (x.extractLsb' 20 20).toInt
    let xi := (x.extractLsb' 0 20).toInt
    let yr := (y.extractLsb' 20 20).toInt
    let yi := (y.extractLsb' 0 20).toInt
    let sat := fun (z : Int) => max (-2 ^ 19) (min (2 ^ 19 - 1) z)
    let sv := fun (re im : Int) => if sat re ≠ re ∨ sat im ≠ im then [(6, true)] else []
    let cpx := fun (i : Instr) (re im : Int) => Begins n i [(1, .cplx d.val (sat re) (sat im))] (sv re im) s
    let plain := fun (i : Instr) (re im : Int) (fl : List (Nat × Bool)) =>
      Begins n i [(1, .reg d.val ((BitVec.ofInt 20 re) ++ (BitVec.ofInt 20 im)))] fl s
    let half := fun (z : Int) => rne z (2 ^ 19)
    cpx (.cadd n d a b) (xr + yr) (xi + yi) ∧ cpx (.csub n d a b) (xr - yr) (xi - yi)
    ∧ cpx (.cmulr n d a b) (half (xr * yr - xi * yi)) (half (xr * yi + xi * yr))
    ∧ cpx (.cmulj n d a b) (half (xr * yr + xi * yi)) (half (xi * yr - xr * yi))
    ∧ cpx (.cneg n d a) (-xr) (-xi)
    ∧ Begins n (.cshr n d a b) [(1, .cplx d.val (rne xr (2 ^ (y.toNat % 32))) (rne xi (2 ^ (y.toNat % 32))))] [] s
    ∧ plain (.cswap n d a) xi xr []
    ∧ plain (.cmag2 n d a) (sat (half (xr * xr + xi * xi))) 0 (sv (half (xr * xr + xi * xi)) 0)
    ∧ (xi ≠ -2 ^ 19 → plain (.cconj n d a) xr (-xi) [])
    ∧ (xi = -2 ^ 19 → Ready n (.cconj n d a) s → After (exec (.cconj n d a) s) fun t =>
        ∃ im : BitVec 20, Advances n s t
          ∧ Slot n [.free] [] [] (aged n [(1, .reg d.val ((BitVec.ofInt 20 xr) ++ im))] s) s t)

/-- From R248, R250-R252, R258: MVA rounds and saturates both parts of an accumulator scaled by SCALE, and clears it with
CLR; MOVX writes any register of Table 10.2 (an accumulator part three slots on), MOVA an address, offset or length
register, each as wide as the table says. -/
def Sys2Proof.Safety.CoreMoves : Prop :=
  (∀ (n : CoreId) (d : WReg) (accB clr : Bool) (s : State), Ready n (.mva n d accB clr) s →
    let k : Int := ((regRead n.val 41 s).setWidth 5).toInt
    let sat := fun (z : Int) => max (-2 ^ 19) (min (2 ^ 19 - 1) z)
    let mv := fun (acc : Int) => if 0 ≤ k then rne (acc * 2 ^ k.toNat) (2 ^ 19) else rne acc (2 ^ (19 + (-k).toNat))
    let re := mv (accRe n.val accB s)
    let im := mv (accIm n.val accB s)
    After (exec (.mva n d accB clr) s) fun t => Advances n s t
      ∧ Slot n [] (if clr then [creg n.val (accBase accB), creg n.val (accBase accB + 1), creg n.val (accBase accB + 2)]
          else []) (if sat re ≠ re ∨ sat im ≠ im then [(6, true)] else []) (aged n [(1, .cplx d.val (sat re) (sat im))] s) s t
      ∧ (clr = true → accRe n.val accB t = 0 ∧ accIm n.val accB t = 0))
  ∧ (∀ (n : CoreId) (dst src : Fin 64) (s : State), Ready n (.movx n dst src) s →
    let v := regRead n.val src.val s
    After (exec (.movx n dst src) s) fun t => Advances n s t
      ∧ (if dst.val < 48 then
          regRead n.val dst.val t = regNorm n.val dst.val v
            ∧ Only [.cores] (fun a => a = creg n.val 54 ∨ a = creg n.val dst.val) s t ∧ coreOf n.val t = aged n [] s
            ∧ ∀ k, k ≠ n.val → coreOf k t = coreOf k s
        else Slot n [] [] [] (aged n [(2, .part dst.val v)] s) s t))
  ∧ ∀ (n : CoreId) (dst : Fin 64) (imm : BitVec 28) (s : State),
    Result1 n (.mova n dst imm) dst.val (regNorm n.val dst.val (imm.setWidth 40)) [] s

/-- From R256-R258, R251, R253: when its slots have passed, a register result stands in its register; the later issued of two
results for one W register remains; a product is added to its accumulator, or replaces it, saturated at
±(2^47 - 1) with AV; a complex result lowers BEXP of a transform-class core. -/
def Sys2Proof.Safety.ResultsBecomeVisibleInTime : Prop :=
  ∀ (n : CoreId) (s : State), Fetches n (.nop n) s → (coreOf n.val s).delay = 0 → OffLoopEnd n s →
    (n.val = 8 ∨ isSet (R.DSP_CTRL n.val) F.DSP_CTRL_RUN s = true) →
    let q := (coreOf n.val s).inflight
    (∃ t, exec (.nop n) s = .next t)
    ∧ ∀ t, exec (.nop n) s = .next t →
      (coreOf n.val t).inflight = (q.map (fun x => (x.1 - 1, x.2))).filter (·.1 != 0)
      ∧ (∀ (r : WReg) (v : Word) (p u : List (Nat × CoreWr)), q = p ++ (1, .reg r.val v) :: u →
          (∀ x ∈ u, x.1 ≤ 1 → ∀ v' re im, x.2 ≠ .reg r.val v' ∧ x.2 ≠ .part r.val v' ∧ x.2 ≠ .cplx r.val re im) →
          regRead n.val r.val t = v)
      ∧ (∀ (r : WReg) (re im : Int), q = [(1, .cplx r.val re im)] →
          regRead n.val r.val t = (BitVec.ofInt 20 re) ++ (BitVec.ofInt 20 im)
          ∧ ((n.val = 6 ∨ n.val = 7) → regNat n.val 47 t
              = min (regNat n.val 47 s) (min (headroom re) (headroom im)) % 32))
      ∧ ∀ (accB rep : Bool) (re im : Int), q = [(1, .mac accB rep re im)] →
          let sum := fun (acc x : Int) => (if rep then 0 else acc) + x
          let sat := fun (z : Int) => max (-(2 ^ 47 - 1)) (min (2 ^ 47 - 1) z)
          let zr := sum (accRe n.val accB s) re
          let zi := sum (accIm n.val accB s) im
          accRe n.val accB t = sat zr ∧ accIm n.val accB t = sat zi
          ∧ statBit n.val 5 t = (statBit n.val 5 s || decide (sat zr ≠ zr ∨ sat zi ≠ zi))

/-- From Table 10.4 (R254): the update of an address register: none; linear modulo 2^28; modulo Li within its block of the
smallest power of two that holds Li; bit-reversed in the low k bits when Li is 2^k, illegal otherwise. -/
def Sys2Proof.Safety.AddressModesFollowTable104 : Prop :=
  ∀ a m l : Nat, a < 2 ^ 28 → m < 2 ^ 28 → l < 2 ^ 20 →
    nextAddr 0 a m l = some a
    ∧ nextAddr 1 a m l = some ((a + m) % 2 ^ 28)
    ∧ nextAddr 2 a m 0 = some ((a + m) % 2 ^ 28)
    ∧ (∀ k base off : Nat, l ≤ 2 ^ k → (∀ j, l ≤ 2 ^ j → k ≤ j) → 0 < l → a = base * 2 ^ k + off → off < 2 ^ k →
        ∀ z : Int, ((BitVec.ofNat 28 m).toInt = z) →
          nextAddr 2 a m l = some (base * 2 ^ k + (((off : Int) + z) % (l : Int)).toNat))
    ∧ (∀ k : Nat, 1 ≤ k → k ≤ 16 → ∃ b, nextAddr 3 a m (2 ^ k) = some b ∧ b / 2 ^ k = a / 2 ^ k
        ∧ revBits k (b % 2 ^ k) = (revBits k (a % 2 ^ k) + revBits k (m % 2 ^ k)) % 2 ^ k)
    ∧ ((∀ k, 1 ≤ k → k ≤ 16 → l ≠ 2 ^ k) → nextAddr 3 a m l = none)

namespace Sys2Proof.Safety

/-- Register `r` of core `n` as a number. -/
def regOf (n : CoreId) (r : Nat) (s : State) : Nat := regNat n.val r s

/-- What a load, store or descriptor of core `n` leaves in its address register Ai (Table 10.4). -/
def nextOf (n : CoreId) (ai mj : Fin 8) (mode : Fin 4) (s : State) : Option Nat :=
  nextAddr mode.val (regOf n (16 + ai.val) s) (regOf n (24 + mj.val) s % 2 ^ 28) (regOf n (32 + ai.val) s)

/-- A word of the core's own data memory with intact check bits. -/
def Own (n : CoreId) (a : Nat) (s : State) : Prop := ownData n.val a = true ∧ memErrAt a s = 0

/-- The transaction of one word that core `n` presents. -/
def farReq (n : CoreId) (a : Nat) (w : Option Word) : Req :=
  ⟨Fin.ofNat 16 (coreMaster n.val), 0, BitVec.ofNat 28 a, 1, w.map fun v => [v]⟩

/-- Where the second descriptor of a dual load reads: after the first has updated a shared address register (R255). -/
def secondAddr (n : CoreId) (l1 l2 : LoadDesc) (s : State) : Nat :=
  if l1.mode.val ≠ 0 ∧ l2.ai = l1.ai then (nextOf n l1.ai l1.mj l1.mode s).getD 0 else regOf n (16 + l2.ai.val) s

/-- What the second descriptor leaves in its address register. -/
def secondNext (n : CoreId) (l1 l2 : LoadDesc) (s : State) : Option Nat :=
  nextAddr l2.mode.val (secondAddr n l1 l2 s) (regOf n (24 + l2.mj.val) s % 2 ^ 28) (regOf n (32 + l2.ai.val) s)

/-- `i` performs the two loads of its descriptors from the core's own memory, after it has begun the results `l`. -/
def DualLoads (n : CoreId) (i : Instr) (l : List (Nat × CoreWr)) (l1 l2 : LoadDesc) (s : State) : Prop :=
  Ready n i s →
    (l1.mode.val ≠ 0 → nextOf n l1.ai l1.mj l1.mode s ≠ none ∧ Own n (regOf n (16 + l1.ai.val) s) s) →
    (l2.mode.val ≠ 0 → secondNext n l1 l2 s ≠ none ∧ Own n (secondAddr n l1 l2 s) s) →
    After (exec i s) fun t => Advances n s t
      ∧ Slot n [] ((if l1.mode.val = 0 then [] else [creg n.val (16 + l1.ai.val)])
          ++ (if l2.mode.val = 0 then [] else [creg n.val (16 + l2.ai.val)])) []
        (aged n (l ++ (if l1.mode.val = 0 then [] else [(2, .reg l1.wd.val (rd (regOf n (16 + l1.ai.val) s) s))])
          ++ (if l2.mode.val = 0 then [] else [(2, .reg l2.wd.val (rd (secondAddr n l1 l2 s) s))])) s) s t
      ∧ (l1.mode.val ≠ 0 → (l2.mode.val = 0 ∨ l2.ai ≠ l1.ai) →
          some (regOf n (16 + l1.ai.val) t) = nextOf n l1.ai l1.mj l1.mode s)
      ∧ (l2.mode.val ≠ 0 → some (regOf n (16 + l2.ai.val) t) = secondNext n l1 l2 s)

/-- `i` ends its slot with a trap of vector `v` due and nothing else done. -/
def Traps (n : CoreId) (i : Instr) (v : Nat) (s : State) : Prop :=
  After (exec i s) fun t => Advances n s t ∧ Slot n [] [] [] { aged n [] s with trap := some v } s t

end Sys2Proof.Safety

/-- From R244, R247, R254, R261: LD from the core's own memory (latency 3), with a corrected and an uncorrectable word;
ST to it; the far forms present one transaction, the load stalls and the store is posted; an access that would be the ninth outstanding waits. -/
def Sys2Proof.Safety.CoreLoadsAndStores : Prop :=
  ∀ (n : CoreId) (r : WReg) (ai mj : Fin 8) (mode : Fin 4) (s : State) (b : Nat),
    nextOf n ai mj mode s = some b →
    let a := regOf n (16 + ai.val) s
    a < 2 ^ 28 →
    let areg := creg n.val (16 + ai.val)
    let port := R.ILK_MST (coreMaster n.val)
    (Ready n (.ld n r ai mj mode) s → ownData n.val a = true →
      After (exec (.ld n r ai mj mode) s) fun t => Advances n s t ∧ regOf n (16 + ai.val) t = b
        ∧ (memErrAt a s = 0 → Slot n [] [areg] [] (aged n [(2, .reg r.val (rd a s))] s) s t)
        ∧ (memErrAt a s = 1 → coreOf n.val t = aged n [(2, .reg r.val (rd a s))] s
            ∧ getF (R.DSP_MEMERR n.val) F.DSP_MEMERR_CORR t
              = min (getF (R.DSP_MEMERR n.val) F.DSP_MEMERR_CORR s + 1) (2 ^ F.DSP_MEMERR_CORR.w - 1))
        ∧ (2 ≤ memErrAt a s → coreOf n.val t = { aged n [(2, .reg r.val 0#40)] s with trap := some 2 }
            ∧ getF (R.DSP_MEMERR n.val) F.DSP_MEMERR_UNCORR t
              = min (getF (R.DSP_MEMERR n.val) F.DSP_MEMERR_UNCORR s + 1) (2 ^ F.DSP_MEMERR_UNCORR.w - 1)))
    ∧ (Ready n (.ld n r ai mj mode) s → ownData n.val a = false → (coreOf n.val s).posts + (coreOf n.val s).stale < 8 →
        After (exec (.ld n r ai mj mode) s) fun t => Advances n s t ∧ regOf n (16 + ai.val) t = b
          ∧ Slot n [.ilk] [areg, port] [] { coreOf n.val s with loads := [(r.val, none)] } s t
          ∧ t.ilk = { s.ilk with wait := s.ilk.wait ++ [farReq n a none] })
    ∧ (Ready n (.st n r ai mj mode) s → ownData n.val a = true →
        After (exec (.st n r ai mj mode) s) fun t => Advances n s t ∧ regOf n (16 + ai.val) t = b
          ∧ Slot n [.memErr] [areg, a] [] (aged n [] s) s t
          ∧ rd a t = regRead n.val r.val s ∧ memErrAt a t = 0 ∧ ∀ x, x ≠ a → memErrAt x t = memErrAt x s)
    ∧ (Ready n (.st n r ai mj mode) s → ownData n.val a = false → (coreOf n.val s).posts + (coreOf n.val s).stale < 8 →
        After (exec (.st n r ai mj mode) s) fun t => Advances n s t ∧ regOf n (16 + ai.val) t = b
          ∧ Slot n [.ilk] [areg, port] [] { aged n [] s with posts := (coreOf n.val s).posts + 1 } s t
          ∧ t.ilk = { s.ilk with wait := s.ilk.wait ++ [farReq n a (some (regRead n.val r.val s))] })
    ∧ (ownData n.val a = false → 8 ≤ (coreOf n.val s).posts + (coreOf n.val s).stale →
        exec (.st n r ai mj mode) s = .next s ∧ exec (.ld n r ai mj mode) s = .next s)

/-- From R251, R254, R255, R258: LDD performs load 1, then load 2; MACL and MPYL begin the product of latency 3 first (the
sign and the conjugate as NEG and CONJ say); a bit-reversed descriptor with an illegal length traps instead. -/
def Obligations.CoreMultiplyAccumulateAndDualLoads : Prop :=
  ∀ (n : CoreId) (accB conj neg : Bool) (a b : WReg) (l1 l2 : LoadDesc) (s : State),
    let x := regRead n.val a.val s
    let y := regRead n.val b.val s
    let xr := (x.extractLsb' 20 20).toInt
    let xi := (x.extractLsb' 0 20).toInt
    let yr := (y.extractLsb' 20 20).toInt
    let yi := if conj then -(y.extractLsb' 0 20).toInt else (y.extractLsb' 0 20).toInt
    let g : Int := if neg then -1 else 1
    let p := fun rep : Bool => [(2, CoreWr.mac accB rep (g * (xr * yr - xi * yi)) (g * (xr * yi + xi * yr)))]
    DualLoads n (.ldd n l1 l2) [] l1 l2 s
    ∧ DualLoads n (.macl n accB conj neg a b l1 l2) (p false) l1 l2 s
    ∧ DualLoads n (.mpyl n accB conj neg a b l1 l2) (p true) l1 l2 s
    ∧ ∀ i ∈ [Instr.ldd n l1 l2, .macl n accB conj neg a b l1 l2, .mpyl n accB conj neg a b l1 l2],
      Ready n i s → (∃ l ∈ [l1, l2], l.mode.val = 3 ∧ ∀ k, 1 ≤ k → k ≤ 16 → regOf n (32 + l.ai.val) s ≠ 2 ^ k) →
        Traps n i 1 s

/-- From R259: BR, CALL and JR leave two delay slots and the target, CALL the link behind them; the delay slots issue and the
branch is taken after the second; a target outside the code memory, and a branch in a delay slot, trap. -/
def Sys2Proof.Safety.CoreBranches : Prop :=
  (∀ (n : CoreId) (c : Fin 16) (t : BitVec 18) (a : WReg) (s : State),
    let go := condTrue n.val c.val s
    let x := (regRead n.val a.val s).toNat % 2 ^ 18
    (Ready n (.br n c t) s → After (exec (.br n c t) s) fun u => Advances n s u
      ∧ Slot n [] [] [] { aged n [] s with delay := 2, target := if go then some t.toNat else none } s u)
    ∧ (Ready n (.call n c t) s → After (exec (.call n c t) s) fun u => Advances n s u
      ∧ Slot n [] [] [] { aged n (if go then [(2, .reg 15 (BitVec.ofNat 40 ((pcOf n.val s + 3) % memWords n.val)))] else [])
          s with delay := 2, target := if go then some t.toNat else none } s u)
    ∧ (Ready n (.jr n c a) s → (go = true → x < memWords n.val) → After (exec (.jr n c a) s) fun u => Advances n s u
      ∧ Slot n [] [] [] { aged n [] s with delay := 2, target := if go then some x else none } s u)
    ∧ (Ready n (.jr n c a) s → go = true → memWords n.val ≤ x → Traps n (.jr n c a) 1 s))
  ∧ (∀ (n : CoreId) (s : State), Fetches n (.nop n) s → Quiet n s → OffLoopEnd n s →
      ((coreOf n.val s).delay = 2 → After (exec (.nop n) s) fun u => Advances n s u
        ∧ Slot n [] [] [] { aged n [] s with delay := 1 } s u)
      ∧ ((coreOf n.val s).delay = 1 → After (exec (.nop n) s) fun u =>
          (match (coreOf n.val s).target with
            | some a => pcOf n.val u = a % memWords n.val
            | none => Advances n s u)
          ∧ Slot n [] [] [] { aged n [] s with delay := 0, target := none } s u))
  ∧ ∀ (n : CoreId) (i : Instr) (s : State), branchClass i = true → Instr.core i = some n → Fetches n i s → Quiet n s →
      OffLoopEnd n s → (coreOf n.val s).delay = 2 → (coreOf n.val s).trap = none →
      After (exec i s) fun u => Advances n s u ∧ coreOf n.val u = { aged n [] s with delay := 1, trap := some 1 }

/-- From Table 10.11 read after CMP: EQ, NE, LT, GE, LE, GT compare the signed values, HS and LO the unsigned ones. -/
def Sys2Proof.Safety.ConditionsAfterCompare : Prop :=
  ∀ (n : CoreId) (a b : WReg) (s : State), Ready n (.cmp n a b) s →
    let x := regRead n.val a.val s
    let y := regRead n.val b.val s
    After (exec (.cmp n a b) s) fun t =>
      condTrue n.val 0 t = true ∧ condTrue n.val 1 t = decide (x = y) ∧ condTrue n.val 2 t = decide (x ≠ y)
      ∧ condTrue n.val 3 t = decide (x.toInt < y.toInt) ∧ condTrue n.val 4 t = decide (y.toInt ≤ x.toInt)
      ∧ condTrue n.val 5 t = decide (x.toInt ≤ y.toInt) ∧ condTrue n.val 6 t = decide (y.toInt < x.toInt)
      ∧ condTrue n.val 7 t = decide (y ≤ x) ∧ condTrue n.val 8 t = decide (x < y)

/-- From R260: LOOPI and LOOPR set LB, LE and LC, skip the body at a count of 0 and trap on an END below LB; at LE the loop
goes back while LC is 2 or more, and falls through at 1; a branch at the loop's end traps. -/
def Sys2Proof.Safety.CoreLoops : Prop :=
  (∀ (n : CoreId) (c12 : BitVec 12) (c : WReg) (e : BitVec 18) (s : State),
    ∀ x ∈ [(Instr.loopi n c12 e, c12.toNat), (Instr.loopr n c e, (regRead n.val c.val s).toNat % 2 ^ 24)],
      Ready n x.1 s →
      let lb := (pcOf n.val s + 1) % memWords n.val
      (lb ≤ e.toNat → After (exec x.1 s) fun t =>
        regOf n 43 t = lb ∧ regOf n 44 t = e.toNat ∧ regOf n 42 t = x.2
        ∧ pcOf n.val t = (if x.2 = 0 then (e.toNat + 1) % memWords n.val else lb)
        ∧ Slot n [] [creg n.val 42, creg n.val 43, creg n.val 44] [] (aged n [] s) s t)
      ∧ (e.toNat < lb → Traps n x.1 1 s))
  ∧ (∀ (n : CoreId) (s : State), Fetches n (.nop n) s → Quiet n s → (coreOf n.val s).delay = 0 →
      pcOf n.val s = regOf n 44 s → 1 ≤ regOf n 42 s → regOf n 42 s < 2 ^ 24 →
      After (exec (.nop n) s) fun t => regOf n 42 t = regOf n 42 s - 1
        ∧ (if 2 ≤ regOf n 42 s then pcOf n.val t = regOf n 43 s % memWords n.val else Advances n s t)
        ∧ Slot n [] [creg n.val 42] [] (aged n [] s) s t)
  ∧ ∀ (n : CoreId) (i : Instr) (s : State), branchClass i = true → Instr.core i = some n → Fetches n i s → Quiet n s →
      (coreOf n.val s).delay = 0 → regOf n 42 s ≠ 0 → pcOf n.val s ≤ regOf n 44 s → regOf n 44 s ≤ pcOf n.val s + 2 →
      After (exec i s) fun t => coreOf n.val t = { aged n [] s with trap := some 1 }

/-- From Table 10.10 (R259, R261, R264): NOP; IDLE waits unless an enabled source is pending; HALT with cause 2; RTI restores
PC and STAT; SYNC stalls while posted stores are outstanding; TRAP makes SWTRAP due; BXCLR sets BEXP to 19. -/
def Sys2Proof.Safety.CoreControlGroup : Prop :=
  ∀ (n : CoreId) (s : State),
    (Ready n (.nop n) s → After (exec (.nop n) s) fun t => Advances n s t ∧ Slot n [] [] [] (aged n [] s) s t)
    ∧ (Ready n (.idle n) s → After (exec (.idle n) s) fun t => Advances n s t
        ∧ Slot n [] [R.DSP_STATE n.val] [] (if pendingIrqs n.val s = 0 then { aged n [] s with mode := 2 } else aged n [] s) s t)
    ∧ (Ready n (.halt n) s → (coreOf n.val s).inflight = [] → After (exec (.halt n) s) fun t => Advances n s t
        ∧ Slot n [] [R.DSP_STATE n.val] [] { coreOf n.val s with mode := 3, target := none } s t
        ∧ getF (R.DSP_STATE n.val) F.DSP_STATE_CAUSE t = 2 ∧ getF (R.DSP_STATE n.val) F.DSP_STATE_PC t = pcOf n.val t
        ∧ (n.val ≠ 8 → getF (R.DSP_STATE n.val) F.DSP_STATE_STATE t = 3))
    ∧ (Ready n (.rti n) s → After (exec (.rti n) s) fun t => pcOf n.val t = regOf n 45 s % memWords n.val
        ∧ (∀ b, b < 9 → statBit n.val b t = (regOf n 46 s).testBit b)
        ∧ Only [.cores] (fun a => a = creg n.val 54 ∨ a = creg n.val 40) s t ∧ coreOf n.val t = aged n [] s)
    ∧ (Ready n (.sync n) s → After (exec (.sync n) s) fun t => Advances n s t
        ∧ Slot n [] [] [] { aged n [] s with sync := decide ((coreOf n.val s).posts ≠ 0) } s t)
    ∧ (Ready n (.trap n) s → Traps n (.trap n) 3 s)
    ∧ Result1 n (.bxclr n) 47 19#40 [] s

/-- From R263-R265: an interrupt entry saves PC and STAT in IPC and ISTAT, clears IE and its pending bit and goes to the lowest
vector pending; IDLE_WAKE ends the wait; a trap entry sets TA too, an illegal word makes ILLEGAL due, and a trap within
a trap handler faults with cause 5. -/
def Sys2Proof.Safety.CoreEntries : Prop :=
  (∀ (n : CoreId) (s : State) (b : Nat), coreClocked s = true → settled n.val s = true → statBit n.val 0 s = true →
    b < 5 → (pendingIrqs n.val s).testBit b = true → (∀ k, k < b → (pendingIrqs n.val s).testBit k = false) →
    ∀ x ∈ [(Instr.interruptEntry n, 1), (Instr.idleWake n, 2)], (coreOf n.val s).mode = x.2 →
      After (exec x.1 s) fun t => pcOf n.val t = 4 * (4 + b) ∧ regOf n 45 t = pcOf n.val s % 2 ^ 18
        ∧ regOf n 46 t = regOf n 40 s % 2 ^ 9 ∧ (coreOf n.val t).mode = 1
        ∧ getBit (R.DSP_IPEND n.val) F.DSP_IPEND_PEND b t = false
        ∧ Slot n [] [creg n.val 45, creg n.val 46, R.DSP_IPEND n.val, R.DSP_STATE n.val] [(0, false)]
            { coreOf n.val s with mode := 1 } s t)
  ∧ (∀ (n : CoreId) (s : State), coreClocked s = true → (coreOf n.val s).mode = 2 → pendingIrqs n.val s ≠ 0 →
      statBit n.val 0 s = false → After (exec (.idleWake n) s) fun t =>
        Only [.cores] (fun a => a = R.DSP_STATE n.val) s t ∧ coreOf n.val t = { coreOf n.val s with mode := 1 })
  ∧ (∀ (n : CoreId) (s : State) (v : Nat), coreClocked s = true → (coreOf n.val s).mode = 1 → (coreOf n.val s).delay = 0 →
      (coreOf n.val s).loads = [] → (coreOf n.val s).inflight = [] → (coreOf n.val s).trap = some v → v < 4 →
      (statBit n.val 8 s = false → After (exec (.trapEntry n) s) fun t => pcOf n.val t = 4 * v
        ∧ regOf n 45 t = pcOf n.val s % 2 ^ 18 ∧ regOf n 46 t = regOf n 40 s % 2 ^ 9
        ∧ Slot n [] [creg n.val 45, creg n.val 46] [(0, false), (8, true)]
            { coreOf n.val s with trap := none, sync := false } s t)
      ∧ (statBit n.val 8 s = true → After (exec (.trapEntry n) s) fun t => (coreOf n.val t).mode = 4
        ∧ getF (R.DSP_STATE n.val) F.DSP_STATE_CAUSE t = 5 ∧ pcOf n.val t = pcOf n.val s
        ∧ (n.val ≠ 8 → getF (R.DSP_STATE n.val) F.DSP_STATE_STATE t = 4 ∧ Raised (ev 12 (4 * n.val)) t)))
  ∧ ∀ (n : CoreId) (s : State), canIssue n.val s = true → memErrAt (codeAt n.val s) s = 0 → fetched n s = none →
      (coreOf n.val s).inflight = [] → (coreOf n.val s).delay = 0 → OffLoopEnd n s → statBit n.val 8 s = false →
      After (exec (.trapEntry n) s) fun t => pcOf n.val t = 4
        ∧ regOf n 45 t = (pcOf n.val s + 1) % memWords n.val ∧ regOf n 46 t = regOf n 40 s % 2 ^ 9

/-- From R265: a trap taken while STAT.TA = 1 does not enter its vector; the core halts with STATE = FAULT and CAUSE = 5. -/
def Obligations.TrapWithinATrapFaults : Prop :=
  ∀ (n : CoreId) (s : State) (v : Nat), coreClocked s = true → (coreOf n.val s).mode = 1 → (coreOf n.val s).delay = 0 →
    (coreOf n.val s).loads = [] → (coreOf n.val s).trap = some v →
    statBit n.val 8 s = true → (∀ x ∈ (coreOf n.val s).inflight, ∀ v re im, x.2 ≠ .reg 40 v ∧ x.2 ≠ .part 40 v ∧ x.2 ≠ .cplx 40 re im) →
    After (exec (.trapEntry n) s) fun t =>
      (coreOf n.val t).mode = 4 ∧ getF (R.DSP_STATE n.val) F.DSP_STATE_CAUSE t = 5
      ∧ (n.val ≠ 8 → getF (R.DSP_STATE n.val) F.DSP_STATE_STATE t = 4)
      ∧ ((coreOf n.val s).inflight = [] → pcOf n.val t = pcOf n.val s)

/-- From R261, R262: the response to a far load puts its word, or zero with BE (and the FAULT trap with BETRAP), into
flight; a response to a posted store lowers the count, ends a SYNC at the last, and sets BE on an error; BE raises
BUSERR when it was 0. -/
def Sys2Proof.Safety.FarResponses : Prop :=
  (∀ (n : CoreId) (d : Nat) (resp : Fin 4) (w : Word) (x : Req × Answer) (s : State),
    oldestDone n.val false s = some x → (coreOf n.val s).stale = 0 → x.2.code = resp.val → (resp = 0 → x.2.data.headD 0#40 = w) → Quiet n s →
    (coreOf n.val s).loads = [(d, none)] → (coreOf n.val s).delay = 0 →
    After (exec (.farLoadResponse n resp w) s) fun t => t.ilk = { s.ilk with done := s.ilk.done.erase x }
      ∧ pcOf n.val t = pcOf n.val s ∧ statBit n.val 7 t = (statBit n.val 7 s || decide (resp ≠ 0))
      ∧ coreOf n.val t = { aged n [(2, .reg d (if resp = 0 then w else 0#40))] s with
          loads := [], trap := if resp ≠ 0 ∧ isSet (R.DSP_CTRL n.val) F.DSP_CTRL_BETRAP s = true
            then some ((coreOf n.val s).trap.elim 2 (min · 2)) else (coreOf n.val s).trap }
      ∧ (resp = 0 → Only [.cores, .ilk] (fun _ => False) s t)
      ∧ (resp ≠ 0 → Only [.cores, .ilk, .bellq, .health] (fun a => a = creg n.val 40 ∨ bellWord (busErrEvent n.val) a) s t)
      ∧ (resp ≠ 0 → statBit n.val 7 s = false → Raised (busErrEvent n.val) t))
  ∧ ∀ (n : CoreId) (resp : Fin 4) (x : Req × Answer) (s : State),
    oldestDone n.val true s = some x → x.2.code = resp.val →
    After (exec (.farStoreResponse n resp) s) fun t => t.ilk = { s.ilk with done := s.ilk.done.erase x }
      ∧ statBit n.val 7 t = (statBit n.val 7 s || decide (resp ≠ 0))
      ∧ coreOf n.val t = { coreOf n.val s with
          posts := (coreOf n.val s).posts - 1, sync := (coreOf n.val s).sync && decide ((coreOf n.val s).posts ≠ 1) }
      ∧ (resp = 0 → Only [.cores, .ilk] (fun _ => False) s t)
      ∧ (resp ≠ 0 → Only [.cores, .ilk, .bellq, .health] (fun a => a = creg n.val 40 ∨ bellWord (busErrEvent n.val) a) s t)
      ∧ (resp ≠ 0 → statBit n.val 7 s = false → Raised (busErrEvent n.val) t)

/-- From R247, R263, R272, R317: an uncorrectable code word and an uncorrectable word under patrol halt the core in FAULT with
cause 4, a watchdog with cause 3 and both its events; a corrected word is counted and written back; a timer expiry makes
TIMER pending. -/
def Sys2Proof.Safety.CoreHardErrorsAndTimers : Prop :=
  let faults := fun (n : CoreId) (cause : Nat) (t : State) => (coreOf n.val t).mode = 4
    ∧ getF (R.DSP_STATE n.val) F.DSP_STATE_CAUSE t = cause
    ∧ (n.val ≠ 8 → getF (R.DSP_STATE n.val) F.DSP_STATE_STATE t = 4 ∧ Raised (ev 12 (4 * n.val)) t)
  let counted := fun (n : CoreId) (f : Fld) (s t : State) =>
    getF (R.DSP_MEMERR n.val) f t = min (getF (R.DSP_MEMERR n.val) f s + 1) (2 ^ 20 - 1)
  (∀ (n : CoreId) (s : State), canIssue n.val s = true → 2 ≤ memErrAt (codeAt n.val s) s →
    After (exec (.fetchUncorrectable n) s) fun t => faults n 4 t ∧ counted n F.DSP_MEMERR_UNCORR s t
      ∧ pcOf n.val t = pcOf n.val s ∧ ∀ k, k ≠ n.val → coreOf k t = coreOf k s)
  ∧ (∀ (n : CoreId) (s : State), (getF (R.DSP_TIMER n.val) F.DSP_TIMER_PERIOD s = 0 → exec (.coreTimerExpiry n) s = .next s)
      ∧ (getF (R.DSP_TIMER n.val) F.DSP_TIMER_PERIOD s ≠ 0 → After (exec (.coreTimerExpiry n) s) fun t =>
        getF (R.DSP_IPEND n.val) F.DSP_IPEND_PEND t = getF (R.DSP_IPEND n.val) F.DSP_IPEND_PEND s ||| 4
        ∧ Only [] (fun a => a = R.DSP_IPEND n.val) s t))
  ∧ (∀ (n : Fin 8) (s : State), getF (R.DSP_WDOG n.val) F.DSP_WDOG_TIMEOUT s ≠ 0 →
      After (exec (.dispatcherWatchdog n) s) fun t => ((coreOf n.val s).mode ≠ 4 → faults n.castSucc 3 t)
        ∧ (coreOf n.val t).mode = 4 ∧ getF (R.DSP_STATE n.val) F.DSP_STATE_CAUSE t = 3 ∧ Raised (ev 12 (4 * n.val + 1)) t
        ∧ Only [.cores, .bellq, .health] (fun a => a = R.DSP_STATE n.val ∨ bellWord (ev 12 (4 * n.val)) a
            ∨ bellWord (ev 12 (4 * n.val + 1)) a) s t)
  ∧ ∀ (n : CoreId) (code : Bool) (off : BitVec 18) (s : State), off.toNat < memWords n.val →
    let a := (if code then codeBase n.val else dataBase n.val) + off.toNat
    (memErrAt a s = 0 → exec (.corePatrolRead n code off) s = .next s)
    ∧ (memErrAt a s = 1 → After (exec (.corePatrolRead n code off) s) fun t => memErrAt a t = 0 ∧ rd a t = rd a s
        ∧ counted n F.DSP_MEMERR_CORR s t
        ∧ (getF (R.DSP_MEMERR n.val) F.DSP_MEMERR_CORR s = 0 → Raised (memCorrEvent n.val) t)
        ∧ Only [.memErr, .bellq, .health] (fun b => b = R.DSP_MEMERR n.val ∨ bellWord (memCorrEvent n.val) b) s t)
    ∧ (2 ≤ memErrAt a s → After (exec (.corePatrolRead n code off) s) fun t =>
        ((coreOf n.val s).mode ≠ 4 → faults n 4 t) ∧ (coreOf n.val t).mode = 4 ∧ counted n F.DSP_MEMERR_UNCORR s t)

/-- From R268-R270, Table 10.13: a lockstep mismatch counts, holds both cores in reset with every register zero and raises
12:32; the third that begins within 10 s locks the Signal Box out with 12:35 besides; SBX_RESTARTED releases it at its reset
vector and raises 12:34. -/
def Sys2Proof.Safety.SignalBoxRestarts : Prop :=
  (∀ s : State, coreClocked s = true → getF (R.DSP_STATE 8) F.DSP_STATE_STATE s ≠ 5 →
    let recent := s.lockTimes.filter fun x => decide (tickNow s < x + 2500000000)
    After (exec .lockstepMismatch s) fun t =>
      getF (R.DSP_STATE 8) F.DSP_STATE_LSCOUNT t = (getF (R.DSP_STATE 8) F.DSP_STATE_LSCOUNT s + 1) % 256
      ∧ coreOf 8 t = {} ∧ (∀ r, r < 64 → regRead 8 r t = 0#40) ∧ (∀ a, a < 0x80000 → rd a t = rd a s)
      ∧ (∀ n, n < 8 → coreOf n t = coreOf n s)
      ∧ (recent.length < 2 → getF (R.DSP_STATE 8) F.DSP_STATE_STATE t = 1
          ∧ getF (R.DSP_STATE 8) F.DSP_STATE_RESTARTS t = (getF (R.DSP_STATE 8) F.DSP_STATE_RESTARTS s + 1) % 128
          ∧ Raised (ev 12 32) t ∧ t.lockTimes = recent ++ [tickNow s])
      ∧ (2 ≤ recent.length → getF (R.DSP_STATE 8) F.DSP_STATE_STATE t = 5 ∧ Raised (ev 12 32) t ∧ Raised (ev 12 35) t
          ∧ t.lockTimes = []))
  ∧ ∀ s : State, 1 ≤ getF (R.DSP_STATE 8) F.DSP_STATE_STATE s → getF (R.DSP_STATE 8) F.DSP_STATE_STATE s ≤ 3 →
      coreOf 8 s = {} → After (exec .sbxRestarted s) fun t =>
        getF (R.DSP_STATE 8) F.DSP_STATE_STATE t = 4 ∧ coreOf 8 t = { mode := 1 } ∧ pcOf 8 t = pcOf 8 s
        ∧ Raised (ev 12 34) t ∧ ∀ n, n < 8 → coreOf n t = coreOf n s

/-- From R281-R283: the first request of a port is admitted unless its ID is outstanding at another target, its bridge or its
share of it is full (it waits at its port), it would close a cycle (13:3; it waits), or every word sleeps (answered at once). -/
def Sys2Proof.Safety.TransactionsAreAdmitted : Prop :=
  ∀ (r : Req) (s : State), ilkUp s = true → reqOk r = true →
    let m := r.master.val
    let own := decide (9 ≤ m ∧ m ≤ 11)
    let new := own && s.ilk.wait.all (fun x => x.master != r.master)
    s.ilk.wait.find? (fun x => x.master == r.master) = some r ∨ (new = true ∧ getF (R.ILK_MST m) F.ILK_MST_OUT s < 8) →
    let at_ := if new then s.ilk.wait ++ [r] else s.ilk.wait
    let port := fun (t : State) => new = true → getF (R.ILK_MST m) F.ILK_MST_OUT t = getF (R.ILK_MST m) F.ILK_MST_OUT s + 1
      ∧ getF (R.ILK_MST m) F.ILK_MST_COUNT t = (getF (R.ILK_MST m) F.ILK_MST_COUNT s + 1) % 2 ^ 32
    let busy := ∃ x ∈ s.ilk.out, x.master = r.master ∧ x.tid = r.tid ∧ targetOf x.addr.toNat ≠ targetOf r.addr.toNat
    (busy ∨ bridgeFull r s = true → After (exec (.transactionAdmit r) s) fun t => t.ilk = { s.ilk with wait := at_ } ∧ port t
        ∧ Only [.ilk] (fun a => new = true ∧ a = R.ILK_MST m) s t)
    ∧ (¬ busy → bridgeFull r s = false → closesCycle r s = true → After (exec (.transactionAdmit r) s) fun t =>
        getBit R.ILK_STATUS ⟨0, 0, 6⟩ 3 t = true ∧ Raised (ev 13 3) t ∧ t.ilk = { s.ilk with wait := at_ } ∧ port t
        ∧ Only [.ilk, .bellq, .health] (fun a => a = R.ILK_STATUS ∨ bellWord (ev 13 3) a ∨ (new = true ∧ a = R.ILK_MST m)) s t)
    ∧ (∀ y, ownerOf r.addr.toNat = some y → (∃ x ∈ s.ilk.out, x.master.val = y ∧ ownerOf x.addr.toNat = some m) →
        closesCycle r s = true)
    ∧ (¬ busy → bridgeFull r s = false → closesCycle r s = false → allAsleep r s = false →
        After (exec (.transactionAdmit r) s) fun t =>
          t.ilk = { s.ilk with wait := at_.erase r, out := s.ilk.out ++ [r] } ∧ port t
          ∧ Only [.ilk] (fun a => new = true ∧ a = R.ILK_MST m) s t)
    ∧ (¬ busy → bridgeFull r s = false → closesCycle r s = false → allAsleep r s = true →
        After (exec (.transactionAdmit r) s) fun t => (answered m t).code = 2 ∧ t.ilk.out = s.ilk.out
          ∧ getBit R.ILK_STATUS ⟨0, 0, 6⟩ 1 t = true ∧ Raised (ev 13 1) t
          ∧ t.ilk.wait = at_.erase r ∧ (own = false → t.ilk.done = s.ilk.done ++ [(r, answered m t)]))

/-- From R278-R282: the oldest transaction of an ID completes: at a core's data memory the words are read or written and the
answer is OKAY, without a target it is DECERR; at 20000 cycles it is TIMEOUT, reads answer zeros, and each word of a
write took effect or did not. -/
def Sys2Proof.Safety.TransactionsComplete : Prop :=
  ∀ (m : Master) (tid : Fin 8) (r : Req) (s : State),
    (∀ x ∈ s.ilk.cut, ¬ (x.master = m ∧ x.tid = tid)) → oldestOut m.val tid.val s = some r →
    let own := decide (9 ≤ m.val ∧ m.val ≤ 11)
    let a := r.addr.toNat
    let done := fun (t : State) => t.ilk.out = s.ilk.out.erase r ∧ t.ilk.wait = s.ilk.wait
      ∧ t.ilk.done = (if own then s.ilk.done else s.ilk.done ++ [(r, answered m.val t)])
      ∧ getF (R.ILK_MST m.val) F.ILK_MST_OUT t = getF (R.ILK_MST m.val) F.ILK_MST_OUT s - 1
    (∀ n off, coreMemory a = some (n, false, off) → Reaches m.val a s →
      (r.write = none → r.count = 1 → memErrAt a s = 0 → After (exec (.transactionResponse m tid) s) fun t =>
        done t ∧ answered m.val t = ⟨0, [rd a s], 1⟩ ∧ Only [.ilk, .ans] (fun b => b = R.ILK_MST m.val) s t)
      ∧ ∀ v, r.write = some [v] → r.count = 1 →
        (After (exec (.transactionResponse m tid) s) fun t => done t ∧ answered m.val t = ⟨0, [], 1⟩ ∧ rd a t = v
          ∧ memErrAt a t = 0 ∧ Only [.ilk, .ans, .memErr] (fun b => b = R.ILK_MST m.val ∨ b = a) s t)
        ∧ After (exec (.transactionTimeout m tid) s) fun t => done t ∧ answered m.val t = ⟨3, [], 0⟩
            ∧ (rd a t = v ∨ rd a t = rd a s))
    ∧ (targetOf a = none → r.write = none → r.count = 1 → ilkUp s = true →
        After (exec (.transactionResponse m tid) s) fun t => done t ∧ answered m.val t = ⟨1, [0#40], 0⟩
          ∧ getBit R.ILK_STATUS ⟨0, 0, 6⟩ 0 t = true ∧ Raised (ev 13 0) t)
    ∧ (r.write = none → After (exec (.transactionTimeout m tid) s) fun t =>
        done t ∧ answered m.val t = ⟨3, List.replicate r.count 0#40, 0⟩
        ∧ (ilkUp s = true → getBit R.ILK_STATUS ⟨0, 0, 6⟩ 2 t = true ∧ Raised (ev 13 2) t))

namespace Sys2Proof.Safety

/-- Shunter `k` has ended its run with result `r`. -/
def ShunterEnded (k r : Nat) (t : State) : Prop :=
  shunterOf k t = {} ∧ getF (R.ILK_SHN k) F.ILK_SHN_BUSY t = 0 ∧ getF (R.ILK_SHN k) F.ILK_SHN_RESULT t = r

/-- Shunter `k` has presented one more request. -/
def ShunterAsks (k a n : Nat) (w : Option (List Word)) (y : Req × Answer) (s t : State) : Prop :=
  t.ilk = { s.ilk with done := s.ilk.done.erase y,
                       wait := s.ilk.wait ++ [⟨Fin.ofNat 16 (12 + k), 0, BitVec.ofNat 28 a, n, w⟩] }

/-- Shunter `k` has stopped on an error response (R288). -/
def ShunterFailed (k code a : Nat) (t : State) : Prop :=
  ShunterEnded k 2 t ∧ getF (R.ILK_SHN k) F.ILK_SHN_ERRADDR t = a ∧ getF (R.ILK_SHN k) F.ILK_SHN_ERRRESP t = code
    ∧ getBit R.ILK_STATUS ⟨0, 0, 6⟩ 5 t = true ∧ Raised (ev 13 5) t

end Sys2Proof.Safety

/-- From R287, R288, Table 11.4: a descriptor read sets the run's words and its QoS and begins the first burst of up to 16 words
(one at a fixed address, log entry 28); a non-zero zero-field and an error end the run; each read is followed by its write,
each write by the next burst, and at the end by NOTIFY and NEXT, or the end with result 1. -/
def Sys2Proof.Safety.ShuntersCopyInBursts : Prop :=
  ∀ (k : Fin 4) (y : Req × Answer) (s : State), shunterDone k.val s = some y → shunterBusy k.val s = true →
    let x := shunterOf k.val s
    let bad := (y.1.addr.toNat + y.2.good) % 2 ^ 28
    (∀ d0 d1 d2 d3 : Word, x.desc = [] → y.2.code = 0 → y.2.data = [d0, d1, d2, d3] →
      let z : Shunter := { x with desc := [d0, d1, d2, d3], pos := 0 }
      let count := d2.toNat % 2 ^ 24
      let one := d2.getLsbD 32 || d2.getLsbD 33
      let clean := d0.toNat < 2 ^ 28 ∧ d1.toNat < 2 ^ 28 ∧ d2.toNat < 2 ^ 35 ∧ d3.toNat < 2 ^ 28
      (clean → x.stop = false → 0 < count → After (exec (.shunterDescriptorRead k) s) fun t =>
        shunterOf k.val t = z ∧ ShunterAsks k.val (d0.toNat % 2 ^ 28) (min (if one then 1 else 16) count) none y s t
        ∧ getF (R.ILK_MST (12 + k.val)) F.ILK_MST_QOS t = d2.toNat / 2 ^ 24 % 16)
      ∧ (clean → x.stop = false → count = 0 → d2.getLsbD 34 = true → After (exec (.shunterDescriptorRead k) s)
          fun t => ShunterEnded k.val 1 t)
      ∧ (clean → x.stop = false → count = 0 → d2.getLsbD 34 = false → After (exec (.shunterDescriptorRead k) s) fun t =>
          ShunterAsks k.val (d3.toNat % 2 ^ 28) 4 none y s t ∧ (shunterOf k.val t).desc = []
          ∧ getF (R.ILK_SHN k.val) F.ILK_SHN_CUR t = d3.toNat % 2 ^ 28)
      ∧ (clean → x.stop = true → After (exec (.shunterDescriptorRead k) s) fun t => ShunterEnded k.val 3 t)
      ∧ (¬ clean → After (exec (.shunterDescriptorRead k) s) fun t => ShunterEnded k.val 2 t))
    ∧ (x.desc = [] → y.2.code ≠ 0 → y.2.code < 4 → After (exec (.shunterDescriptorRead k) s) fun t =>
        ShunterFailed k.val y.2.code bad t)
    ∧ (x.desc ≠ [] → y.1.write = none → y.2.code = 0 → After (exec (.shunterBurstComplete k) s) fun t =>
        shunterOf k.val t = x ∧ ShunterAsks k.val (dstAt x) y.1.count (some y.2.data) y s t)
    ∧ (x.desc ≠ [] → y.2.code ≠ 0 → y.2.code < 4 → (y.1.write = none → y.2.good = 0) →
        After (exec (.shunterBurstComplete k) s) fun t => ShunterFailed k.val y.2.code bad t)
    ∧ (x.desc ≠ [] → (∃ v, y.1.write = some v) → y.2.code = 0 → x.err = none →
        let z := { x with pos := x.pos + y.1.count }
        (x.stop = true → After (exec (.shunterBurstComplete k) s) fun t => ShunterEnded k.val 3 t)
        ∧ (x.stop = false → z.pos < dCount x → After (exec (.shunterBurstComplete k) s) fun t =>
            shunterOf k.val t = z ∧ ShunterAsks k.val (srcAt z) (burstLen z) none y s t)
        ∧ (x.stop = false → dCount x ≤ z.pos → dLast x = false → After (exec (.shunterBurstComplete k) s) fun t =>
            ShunterAsks k.val (dNext x) 4 none y s t ∧ (shunterOf k.val t).desc = []
            ∧ getF (R.ILK_SHN k.val) F.ILK_SHN_CUR t = dNext x
            ∧ (dNotify x = 1 → getBit (R.DSP_IPEND 8) F.DSP_IPEND_PEND 4 t = true))
        ∧ (x.stop = false → dCount x ≤ z.pos → dLast x = true → After (exec (.shunterBurstComplete k) s) fun t =>
            ShunterEnded k.val 1 t
            ∧ (dNotify x = 1 → getBit (R.DSP_IPEND 8) F.DSP_IPEND_PEND 4 t = true)
            ∧ (2 ≤ dNotify x → dNotify x ≤ 9 → getBit (R.DSP_IPEND (dNotify x - 2)) F.DSP_IPEND_PEND 4 t = true)))

namespace Sys2Proof.Safety

/-- The management engine executes the accepted request `f`, whose OP is `op`, in a state where it runs. -/
def Executes (op : Nat) (f : List Word) (s : State) : Prop :=
  s.mgt.req = some f ∧ frameOp f = op ∧ pstate s ≠ 5 ∧ opAsleep op s = false

/-- The request has ended with this response. -/
def Responds (f : List Word) (st : MgtStatus) (a : Nat) (pay : List Word) (t : State) : Prop :=
  t.mgt.req = none ∧ t.mgt.resp = some (responseFrame f st a pay)

/-- The commands of the port, with their OP (Table 11.7). -/
def portCommands : List (Nat × Instr) :=
  [(0x01, .read none), (0x02, .write none), (0x03, .configWrite none), (0x04, .status), (0x05, .setState), (0x10, .consist), (0x11, .attest),
   (0x12, .debugCert), (0x20, .fullReset), (0x21, .dataPlaneReset), (0x22, .trackReset)]

/-- NWORDS as the command asks it (Table 11.7). -/
def lengthOk (op n : Nat) : Bool :=
  if op ∈ [0x01, 0x02, 0x03] then decide (1 ≤ n) else if op ∈ [0x05, 0x20] then n == 1 else if op = 0x11 then n == 8
  else if op = 0x12 then n == 160 else n == 0

/-- Words `a` to `a + n - 1` stand in the cores' data memories, with intact check bits, and answer master `m`. -/
def DataWords (m a n : Nat) (s : State) : Prop :=
  ∀ k, k < n → (∃ c off, coreMemory (a + k) = some (c, false, off)) ∧ Reaches m (a + k) s ∧ memErrAt (a + k) s = 0

/-- The Signal Box is in service and takes commands (R301). -/
def SbxServes (s : State) : Prop :=
  sbxState s = 0 ∧ (coreOf 8 s).mode = 1 ∧ isSet R.DEP_STATE F.DEP_STATE_RECOVERY s = false

/-- The words that a full reset itself writes: the states, the report of the change to BOOT, its record, the straps, the
debug nonce, the regulators' PG, and the outputs. -/
def resetWrites (a : Nat) : Prop :=
  a = R.SUB_STATE ∨ a = R.SUB_STATUS ∨ a = R.BEL_SRC (ev 14 0) ∨ a = R.SUB_DOM 0 ∨ a = R.LMP_RSTREC ∨ a = R.LMP_WAKEREC ∨ a = R.MGT_CFG
    ∨ a = R.DEP_DBGNONCE ∨ a = R.DEP_DBGNONCE + 1 ∨ within (R.SUB_REG 0) (R.SUB_REG 4) a
    ∨ within (R.AOU_CTRL 0) (R.AOU_CTRL 4) a

/-- Every register and memory word but those that `kept` names is at its reset value, and nothing is in progress; the
keepsake and the flash keep their contents. -/
def Cleared (kept : Nat → Bool) (s t : State) : Prop :=
  (∀ a, kept a = false → ¬ resetWrites a → rd a t = resetWord a)
    ∧ (∀ a, 0x1048000 ≤ a → a < 0x1048080 → rd a t = rd a s)
    ∧ t.cores = [] ∧ t.lanes = [] ∧ t.mgt = {} ∧ t.ilk = {} ∧ t.ttb = {} ∧ t.jct = {} ∧ t.flash = s.flash

end Sys2Proof.Safety

/-- From R296, Table 11.6: a request written while BUSY, or whose length or CRC is wrong, is discarded, counted and reported; any
other frame is accepted, an OP that Table 11.7 does not list ends with BAD_OP at once (log entry 29); a frame with the CRC of its words passes; the status byte shows BUSY, RDY and FERR, and a read of the response is answered byte by byte. -/
def Sys2Proof.Safety.ManagementFrames : Prop :=
  (∀ (bytes : List Byte) (s : State), pstate s ≠ 5 →
    let bs := bytes.map (·.toNat)
    let f := wordsOf bs
    let discards := fun (fld : Fld) (e : Nat) (t : State) => t.mgt.ferr = true ∧ getBit R.MGT_STATUS fld 0 t = true
      ∧ Raised (ev 13 e) t
      ∧ getF R.MGT_CNT F.MGT_CNT_DISCARDED t = (getF R.MGT_CNT F.MGT_CNT_DISCARDED s + 1) % 2 ^ F.MGT_CNT_DISCARDED.w
    After (exec (.requestFrameWrite bytes) s) fun t =>
      Only [.mgt, .bellq, .health] (fun a => a = R.MGT_STATUS ∨ a = R.MGT_CNT ∨ bellWord (ev 13 16) a ∨ bellWord (ev 13 18) a) s t
      ∧ (s.mgt.req ≠ none → discards F.MGT_STATUS_OVERRUN 18 t ∧ t.mgt.req = s.mgt.req ∧ t.mgt.resp = s.mgt.resp)
      ∧ (s.mgt.req = none → frameOk bs = false → discards F.MGT_STATUS_FRAME 16 t ∧ t.mgt.req = none ∧ t.mgt.resp = none)
      ∧ (s.mgt.req = none → frameOk bs = true → t.mgt.ferr = false
          ∧ getF R.MGT_CNT F.MGT_CNT_ACCEPTED t = (getF R.MGT_CNT F.MGT_CNT_ACCEPTED s + 1) % 2 ^ F.MGT_CNT_ACCEPTED.w
          ∧ (opKnown (frameOp f) = true → t.mgt.req = some f ∧ t.mgt.resp = none)
          ∧ (opKnown (frameOp f) = false → Responds f .badOp (frameAddr f) [] t)))
  ∧ (∀ (h0 h1 : Word) (pay : List Word), requestWords (bitsOf h0 32 8) (bitsOf h0 12 12) = pay.length + 3 →
      let f := [h0, h1] ++ pay
      frameOk (wordsBytes (f ++ [BitVec.ofNat 40 (crc32 (wordsBytes f))])) = true)
  ∧ (∀ s : State, pstate s ≠ 5 → After (exec .statusSelector s) fun t =>
      Only [.mgt] (fun _ => False) s t ∧ ∃ b, t.mgt = { s.mgt with out := [b] }
        ∧ b.getLsbD 0 = s.mgt.req.isSome ∧ b.getLsbD 1 = s.mgt.resp.isSome ∧ b.getLsbD 2 = s.mgt.ferr ∧ b.toNat < 8)
  ∧ ∀ (n : Nat) (s : State) (r : List Word), pstate s ≠ 5 → s.mgt.resp = some r → After (exec (.responseRead n) s) fun t =>
      Only [.mgt] (fun _ => False) s t ∧ t.mgt.out.length = n ∧ t.mgt.req = s.mgt.req
      ∧ (∀ k, k < n → k < 5 * r.length → (t.mgt.out[k]?).map (·.toNat) = some ((r.getD (k / 5) 0#40).toNat / 256 ^ (4 - k % 5) % 256))
      ∧ t.mgt.resp = if 5 * r.length ≤ n then none else some r

/-- From R298, R300, R301: in a state where it cannot run a command is answered ASLEEP, with another NWORDS than its own
BAD_LEN, ASLEEP first (log entry 29); CONFIG_WRITE and CONSIST wait for the Signal Box and are answered NO_SBX after 200 ms
or when it is gone (log entry 25). -/
def Sys2Proof.Safety.PortCommandsRefused : Prop :=
  (∀ x ∈ portCommands, ∀ (f : List Word) (s : State), s.mgt.req = some f → frameOp f = x.1 → pstate s ≠ 5 →
    (opAsleep x.1 s = true → After (exec x.2 s) fun t => Responds f .asleep (frameAddr f) [] t ∧ Only [.mgt] (fun _ => False) s t)
    ∧ (opAsleep x.1 s = false → lengthOk x.1 (frameLen f) = false → After (exec x.2 s) fun t =>
        Responds f .badLen (frameAddr f) [] t ∧ Only [.mgt] (fun _ => False) s t))
  ∧ (∀ x ∈ [(0x03, Instr.configWrite none), (0x10, .consist)], ∀ (f : List Word) (s : State), Executes x.1 f s →
      lengthOk x.1 (frameLen f) = true →
      (sbxGone s = true → After (exec x.2 s) fun t => Responds f .noSbx (frameAddr f) [] t ∧ Only [.mgt] (fun _ => False) s t)
      ∧ (sbxGone s = false → sbxReady s = false → exec x.2 s = .next s
          ∧ After (exec .sbxWaitTimeout s) fun t =>
            Responds f .noSbx (frameAddr f) [] t ∧ Only [.mgt] (fun _ => False) s t))

/-- From R299, R300, R302: READ answers the words at the addresses, WRITE stores them when the port may write and is DENIED
otherwise, a word without a target is DECERR at its address, a burst whose target is late TIMEOUT; CONFIG_WRITE through the Signal Box counts CSEQ, records the
setting and raises 13:19, and is NOT_LEAD on a Banker. -/
def Obligations.PortReadsAndWrites : Prop :=
  ∀ (f : List Word) (s : State),
    let a := frameAddr f
    let n := frameLen f
    let denied := fun (t : State) => Responds f .denied a [] t ∧ getBit R.MGT_STATUS F.MGT_STATUS_DENIED 0 t = true
      ∧ Raised (ev 13 17) t ∧ Only [.mgt, .bellq, .health] (fun b => b = R.MGT_STATUS ∨ bellWord (ev 13 17) b) s t
    (Executes 0x01 f s → 2 ≤ domState 1 s → 1 ≤ n → DataWords 10 a n s → After (exec (.read none) s) fun t =>
      Responds f .ok a ((List.range n).map fun k => rd (a + k) s) t ∧ Only [.mgt] (fun b => b = R.ILK_MST 10) s t)
    ∧ (Executes 0x01 f s → 2 ≤ domState 1 s → n = 1 → targetOf a = none → After (exec (.read none) s) fun t =>
        Responds f .decerr a [] t)
    ∧ (Executes 0x01 f s → 2 ≤ domState 1 s → 1 ≤ n → After (exec (.read (some 0)) s) fun t => Responds f .timeout a [] t)
    ∧ (Executes 0x02 f s → 1 ≤ n → isSet R.MGT_CFG F.MGT_CFG_WRITE_EN s = true → framePay f ≠ [] →
        After (exec (.write (some 0)) s) fun t => Responds f .timeout a [] t)
    ∧ (Executes 0x02 f s → 1 ≤ n → isSet R.MGT_CFG F.MGT_CFG_WRITE_EN s = false → After (exec (.write none) s) denied)
    ∧ (Executes 0x02 f s → 1 ≤ n → isSet R.MGT_CFG F.MGT_CFG_WRITE_EN s = true → (framePay f).length = n → DataWords 10 a n s →
        After (exec (.write none) s) fun t => Responds f .ok a [] t
          ∧ (∀ k, k < n → some (rd (a + k) t) = (framePay f)[k]?)
          ∧ Only [.mgt, .memErr] (fun b => b = R.ILK_MST 10 ∨ within a (a + n) b) s t)
    ∧ (Executes 0x03 f s → 1 ≤ n → SbxServes s → isBanker s = true → After (exec (.configWrite none) s) fun t =>
        Responds f .notLead a [] t ∧ Only [.mgt] (fun _ => False) s t)
    ∧ (∀ v, Executes 0x03 f s → n = 1 → framePay f = [v] → SbxServes s → isBanker s = false → DataWords 10 a 1 s →
        After (exec (.configWrite none) s) fun t => Responds f .ok a [] t ∧ rd a t = v
          ∧ t.crash.settings = s.crash.settings ++ [(a, [v])]
          ∧ getF R.MGT_CSEQ F.MGT_CSEQ_CSEQ t = (getF R.MGT_CSEQ F.MGT_CSEQ_CSEQ s + 1) % 2 ^ 16
          ∧ getF R.MGT_CSEQ F.MGT_CSEQ_LAST_TAG t = frameTag f
          ∧ getBit R.MGT_STATUS F.MGT_STATUS_CFGW 0 t = true ∧ Raised (ev 13 19) t)

/-- From R299: the word that STATUS answers: the power state's code in [2:0], SBX_READY in [3] when SBX_STATE.STATE is 0, IRQ in [4]
while IRQ_N is asserted, the last wake cause in [12:5], zero above; nothing else changes. -/
def Obligations.StatusWordIsAsR299 : Prop :=
  ∀ (f : List Word) (s : State), Executes 0x04 f s → frameLen f = 0 → After (exec .status s) fun t =>
    Only [.mgt] (fun _ => False) s t
    ∧ ∃ w : Word, Responds f .ok (frameAddr f) [w] t ∧ w.toNat % 8 = pstate s ∧ w.getLsbD 3 = (sbxState s == 0)
        ∧ w.getLsbD 4 = irqAsserted s ∧ w.toNat / 32 = getF R.LMP_WAKEREC F.LMP_WAKEREC_CAUSE s

/-- From R303, R352, R405, R406: CONSIST answers its 81 words and changes nothing else; SET_STATE is
answered as R352 rules the request; ATTEST answers 110 words signed with the identity key under a free salt (log entry 5);
DEBUG_CERT grants the scope of an accepted certificate, and is DENIED otherwise; both wait for a flash command that came
before. -/
def Obligations.ConsistSetStateAttestAndCertificates : Prop :=
  ∀ (f : List Word) (s : State),
    let a := frameAddr f
    (Executes 0x10 f s → frameLen f = 0 → SbxServes s → After (exec .consist s) fun t => Only [.mgt] (fun _ => False) s t
        ∧ ∃ c : List Word, Responds f .ok a c t ∧ c.length = 81 ∧ c.getD 1 0#40 = kps 0 s
          ∧ c.getD 10 0#40 = BitVec.ofNat 40 (frontNow s) ∧ c.getD 12 0#40 = c.getD 10 0#40
          ∧ c.getD 13 0#40 = c.getD 11 0#40
          ∧ (∀ k, k < 7 → c.getD (3 + k) 0#40 = rd (0x1042000 + k) s)
          ∧ c.getD 16 0#40 = BitVec.ofNat 40 (getF R.SDG_PERIOD F.SDG_PERIOD_M s)
          ∧ ∀ k, k < 32 → c.getD (40 + k) 0#40 = stsWord k s)
    ∧ (Executes 0x05 f s → frameLen f = 1 →
        let target := ((framePay f).headD 0#40).toNat % 8
        After (exec .setState s) fun t => t.mgt.req = none
          ∧ (stateRefused target s = true → t.mgt.resp = some (responseFrame f .denied a []) ∧ Raised (ev 13 17) t
              ∧ pstate t = pstate s ∧ getF R.SUB_CTRL F.SUB_CTRL_TARGET t = getF R.SUB_CTRL F.SUB_CTRL_TARGET s)
          ∧ (stateRefused target s = false → t.mgt.resp = some (responseFrame f .ok a [])
              ∧ pstate t = pstate s ∧ getF R.SUB_CTRL F.SUB_CTRL_TARGET t = target
              ∧ getF R.SUB_STATE F.SUB_STATE_PEND t = if pstate s = target then 0 else target))
    ∧ (Executes 0x11 f s → frameLen f = 8 → (framePay f).length = 8 → signBehind s = false → After (exec .attest s) fun t =>
        ∃ (sig : List Word) (salt : List Nat), sig.length = 77 ∧ Responds f .ok a (attestWords (framePay f) s ++ sig) t
          ∧ salt.length = 32
          ∧ sig = sigWords 77 (pssSign (idModulus s) s.dep.idKey (wordsBytes (attestWords (framePay f) s)) salt)
          ∧ (attestWords (framePay f) s).length = 33 ∧ getBit R.DEP_STATUS F.DEP_STATUS_EVT 17 t = true
          ∧ Only [.mgt, .free, .bellq, .health] (fun b => b = R.DEP_STATUS ∨ bellWord (ev 15 17) b) s t)
    ∧ (Executes 0x11 f s → frameLen f = 8 → signBehind s = true → exec .attest s = .next s)
    ∧ (Executes 0x12 f s → frameLen f = 160 → signBehind s = true → exec .debugCert s = .next s)
    ∧ (Executes 0x12 f s → frameLen f = 160 → signBehind s = false → After (exec .debugCert s) fun t =>
        if certOk (framePay f) s then Responds f .ok a [] t
          ∧ getF R.DEP_DBG F.DEP_DBG_SCOPE t = ((framePay f).getD 4 0#40).toNat % 8
          ∧ getF R.YRD_CFG F.YRD_CFG_DBG t = ((framePay f).getD 4 0#40).toNat % 2
          ∧ getF R.SDG_CTRL F.SDG_CTRL_DBG t = ((framePay f).getD 4 0#40).toNat / 2 % 2
          ∧ getBit R.DEP_STATUS F.DEP_STATUS_EVT 12 t = true
        else Responds f .denied a [] t ∧ getF R.DEP_DBG F.DEP_DBG_SCOPE t = getF R.DEP_DBG F.DEP_DBG_SCOPE s
          ∧ getBit R.DEP_STATUS F.DEP_STATUS_EVT 13 t = true)

/-- From R298, R363-R366, R423, Table 14.10: FULL_RESET with its key, the Signal Box watchdog, and RESET_N low for 10 us or more are
full resets: every register and memory word that Table 14.10 does not keep is at its reset value, cores, lanes and port as
after reset, the keepsake and the flash kept, the record of the cause; the device is in BOOT. -/
def Sys2Proof.Safety.FullResetsClear : Prop :=
  let cleared := fun (cause : Nat) (s t : State) => pstate t = 0 ∧ Cleared keptWord s t
    ∧ getF R.LMP_RSTREC F.LMP_RSTREC_CAUSE t = cause
    ∧ getF R.LMP_RSTREC F.LMP_RSTREC_COUNT t = (getF R.LMP_RSTREC F.LMP_RSTREC_COUNT s + 1) % 2 ^ F.LMP_RSTREC_COUNT.w
    ∧ (∀ r : Fin 4, getF (R.SUB_REG r) F.SUB_REG_PG t = getF (R.SUB_REG r) F.SUB_REG_PG s)
    ∧ t.bellq = [] ∧ t.pending = s.pending
  (∀ (f : List Word) (s : State), Executes 0x20 f s → frameLen f = 1 →
    ((framePay f).head? = some 0x5AA55A0001#40 → After (exec .fullReset s) fun t => cleared 4 s t)
    ∧ ((framePay f).head? ≠ some 0x5AA55A0001#40 → After (exec .fullReset s) fun t =>
        t.mgt.resp = some (responseFrame f .denied (frameAddr f) []) ∧ Raised (ev 13 17) t
        ∧ Only [.mgt, .bellq, .health] (fun b => b = R.MGT_STATUS ∨ bellWord (ev 13 17) b) s t))
  ∧ (∀ s : State, getF (R.DSP_WDOG 8) F.DSP_WDOG_TIMEOUT s ≠ 0 → After (exec .sbxWatchdog s) fun t => cleared 3 s t)
  ∧ ∀ (ns : Nat) (env : PowerEnv) (s : State),
      (ns < 1000 → exec (.resetNLow ns env) s = .next s)
      ∧ (10000 ≤ ns → pstate s ≠ 5 → After (exec (.resetNLow ns env) s) fun t => cleared 2 s t ∧ t.hbm = [])
      ∧ (1000 ≤ ns → ns < 10000 → pstate s ≠ 5 → After (exec (.resetNLow ns env) s) fun t =>
          cleared 2 s t ∨ t = { s with free := s.free + 1 })

/-- From R298, R49, R363: DATA_PLANE_RESET and TRACK_RESET are accepted with MGT_RESET and answered OK; the first ends the front
and what waits for it, the second takes its lane to DARK; a lane above 83 is DECERR. -/
def Sys2Proof.Safety.PlaneAndTrackResets : Prop :=
  (∀ (f : List Word) (s : State), Executes 0x21 f s → frameLen f = 0 → After (exec .dataPlaneReset s) fun t =>
    Responds f .ok (frameAddr f) [] t ∧ Raised (ev 13 20) t ∧ getBit R.MGT_STATUS F.MGT_STATUS_RESET 0 t = true
    ∧ frontValid t = false ∧ t.ttb.newFront = true ∧ t.ttb.ready = []
    ∧ isSet R.TTB_STATE F.TTB_STATE_DPR_PEND t = false)
  ∧ ∀ (f : List Word) (s : State), Executes 0x22 f s → frameLen f = 0 →
    let i := frameAddr f
    (83 < i → After (exec .trackReset s) fun t => Responds f .decerr i [] t ∧ Only [.mgt] (fun _ => False) s t)
    ∧ (i ≤ 83 → After (exec .trackReset s) fun t => Responds f .ok i [] t ∧ Raised (ev 13 20) t
        ∧ getF (R.TRK_STATE i) F.TRK_STATE_HOLDOFF t = 0 ∧ (laneOf i t).fifo = []
        ∧ (deaf i s = false → testOn i s = false → ratePend i s = false → laneState i t = 0)
        ∧ ∀ k, k ≠ i → laneOf k t = laneOf k s)

/-- From R319, R320: an accepted injection that strikes a memory word, a clock monitor, the lockstep comparator or a command bus is
applied with RESULT 1 and 8:11; one into an operation of another command waits for that operation (log entry 36), here a block
write through the aperture; one that meets no operation for 1 s expires with RESULT 3. -/
def Sys2Proof.Safety.InjectionsStrikeOrExpire : Prop :=
  (∀ s : State, s.chk.busy = none → exec .injectionApply s = .next s ∧ exec .injectionExpire s = .next s)
  ∧ ∀ (x : Inj) (s : State), s.chk.busy = some x →
    (After (exec .injectionExpire s) fun t => t.chk = { s.chk with busy := none }
      ∧ getF R.INS_INJ F.INS_INJ_RESULT t = 3
      ∧ isSet R.INS_INJ F.INS_INJ_BUSY t = s.chk.force.any Inj.stuck ∧ Only [.chk] (fun a => a = R.INS_INJ) s t)
    ∧ (x.code ∉ [0x21, 0x70, 0x71, 0x80] → exec .injectionApply s = .next s)
    ∧ (∀ (m : Master) (addr : WAddr) (v : Word) (pl : Nat × Nat) (k : Nat), x.code = 0x20 → x.unit = pl.1 →
        x.arg / 8 % 2 = 1 → Reaches m addr.toNat s → 0x8000000 ≤ addr.toNat →
        aperturePlace (addr.toNat - 0x8000000) s = some (pl, k) → stackAnswers pl s = true → errsAt pl s ≤ 3 →
        After (exec (.apertureAccess m addr (some v)) s) fun t => t.chk.busy = none ∧ t.chk.force = s.chk.force
          ∧ getF R.INS_INJ F.INS_INJ_RESULT t = 1 ∧ getBit R.INS_STATUS F.INS_STATUS_EVT 11 t = true ∧ Raised (ev 8 11) t)
    ∧ (x.code = 0x70 ∨ x.code = 0x80 → After (exec .injectionApply s) fun t => t.chk.busy = none
        ∧ getF R.INS_INJ F.INS_INJ_RESULT t = 1 ∧ getBit R.INS_STATUS F.INS_STATUS_EVT 11 t = true
        ∧ isSet R.INS_INJ F.INS_INJ_BUSY t = s.chk.force.any Inj.stuck
        ∧ (x.code = 0x70 → x.unit % 16 < 9 →
            memErrAt ((if x.unit / 16 = 1 then codeBase (x.unit % 16) else dataBase (x.unit % 16)) + x.arg % 2 ^ 18) t
              = 1 + x.arg / 2 ^ 18)
        ∧ (x.code = 0x80 → x.unit < 7 → getF (R.INS_CLKMON x.unit) F.INS_CLKMON_FAIL t = 1))
    ∧ (x.code = 0x71 → coreClocked s = true → sbxState s ≠ 5 → After (exec .injectionApply s) fun t =>
        getF (R.DSP_STATE 8) F.DSP_STATE_LSCOUNT t = (getF (R.DSP_STATE 8) F.DSP_STATE_LSCOUNT s + 1) % 256)
    ∧ (x.code = 0x21 → x.unit < 8 → stackState x.unit s = 2 → After (exec .injectionApply s) fun t =>
        Raised (ev 5 (8 * x.unit + 3)) t)

/-- From R318: a window whose count lies outside its limits sets FAIL, and the second one in a row reports CLK_c; two windows in
a row inside the limits clear FAIL; a limit of 0 is not checked. The nominal counts are those of log entry 61. -/
def Sys2Proof.Safety.ClockMonitorsJudgeTheirWindows : Prop :=
  ∀ (c : Fin 7) (n n' : Nat) (s : State), domState 5 s ≥ 2 →
    let m := R.INS_CLKMON c.val
    let nom := nominalCount c.val s
    let lo := getF m F.INS_CLKMON_LO_PPM s
    let hi := getF m F.INS_CLKMON_HI_PPM s
    let bad := fun k : Nat => (lo ≠ 0 ∧ k * 1000000 < nom * (1000000 - lo)) ∨ (hi ≠ 0 ∧ nom * (1000000 + hi) < k * 1000000)
    (isSet m F.INS_CLKMON_EN s = false → exec (.clockMonitorWindow c n) s = .next s)
    ∧ (isSet m F.INS_CLKMON_EN s = true → bad n → bad n' → monRunOf c.val s ≤ 0 →
        After (exec (.clockMonitorWindow c n) s) fun t => getF m F.INS_CLKMON_FAIL t = 1
          ∧ Only [.chk] (fun a => a = m) s t
          ∧ After (exec (.clockMonitorWindow c n') t) fun u => getF m F.INS_CLKMON_FAIL u = 1
            ∧ getBit R.INS_STATUS F.INS_STATUS_CLK c.val u = true ∧ Raised (ev 8 (16 + c.val)) u)
    ∧ (isSet m F.INS_CLKMON_EN s = true → ¬ bad n → ¬ bad n' →
        After (exec (.clockMonitorWindow c n) s) fun t => Only [.chk] (fun a => a = m) s t
          ∧ After (exec (.clockMonitorWindow c n') t) fun u => getF m F.INS_CLKMON_FAIL u = 0
            ∧ Only [.chk] (fun a => a = m) t u)

namespace Sys2Proof.Safety

/-- The Coupling has reported condition `b` (Table 13.5). -/
def CplTold (b : Nat) (t : State) : Prop := getBit R.CPL_STATUS F.CPL_STATUS_EVT b t = true

/-- The twin has become Lead with a new TERM (R331). -/
def Promoted (s t : State) : Prop :=
  roleOf t = 1 ∧ jstate t = 0 ∧ termOf t = (max (termOf s) s.cpl.peerTerm + 1) % 2 ^ 24 ∧ CplTold 2 t
    ∧ t.cpl.stage = [] ∧ t.cpl.waitq = if jstate s = 2 ∨ jstate s = 3 then [] else s.cpl.waitq

/-- A join has failed (R344). -/
def JoinFailed (s t : State) : Prop :=
  jstate t = 1 ∧ t.cpl.retry = true ∧ t.cpl.join = none ∧ t.cpl.cut = [] ∧ CplTold 7 t
    ∧ getF R.CPL_CNT F.CPL_CNT_FAILS t = min (getF R.CPL_CNT F.CPL_CNT_FAILS s + 1) 255

end Sys2Proof.Safety

/-- From R322, R328-R332, R337: a valid ROLE record refreshes the peer's fields and couples; of two Leads the one with the lower
TERM, or the higher TWIN_ID, yields; a Banker takes the Lead's TERM and joins anew on other tags or CSEQ; an own TWIN_ID is
reported. A loss uncouples and clears what was under way, but not a commit that waits nor a J that the Lead granted (log
entry 63); HEALTH is logged. -/
def Sys2Proof.Safety.CouplingAndItsLoss : Prop :=
  (∀ (c : Fin 4) (r : RoleRec) (s : State), isTwin s = true → cplOpen c.val s = true → r.pairId.toNat = ownPair s →
    let cm := r.cfgTag.toNat == s.cpl.cfgTag
    (r.twinId.toNat = twinId s → After (exec (.role c r) s) fun t => CplTold 11 t
      ∧ Only [.bellq, .health] (fun a => a = R.CPL_STATUS ∨ bellWord (ev 15 51) a) s t)
    ∧ (r.twinId.toNat ≠ twinId s → After (exec (.role c r) s) fun t => coupled t = true
        ∧ getF R.CPL_PEER F.CPL_PEER_TWIN_ID t = r.twinId.toNat ∧ getF R.CPL_PEER F.CPL_PEER_ROLE t = r.role.val
        ∧ getF R.CPL_PEER F.CPL_PEER_JSTATE t = r.jstate.val ∧ getF R.CPL_PEER F.CPL_PEER_CSEQ t = r.cseq.toNat
        ∧ isSet R.CPL_PEER F.CPL_PEER_CFG_MATCH t = cm ∧ getBit R.CPL_STATE F.CPL_STATE_LANES c.val t = true
        ∧ getF R.CPL_HBCNT F.CPL_HBCNT_COUNT t = min (getF R.CPL_HBCNT F.CPL_HBCNT_COUNT s + 1) (2 ^ 40 - 1)
        ∧ t.cpl.peerTerm = r.term.toNat
        ∧ (coupled s = true → roleOf t = roleOf s ∧ jstate t = jstate s ∧ termOf t = termOf s)
        ∧ (coupled s = false → CplTold 0 t
            ∧ (roleOf s = 1 → r.role = 1 → CplTold 9 t
                ∧ (if termOf s < r.term.toNat ∨ (termOf s = r.term.toNat ∧ r.twinId.toNat < twinId s)
                  then roleOf t = 2 ∧ jstate t = 1 else roleOf t = 1))
            ∧ (roleOf s = 2 → r.role = 2 → CplTold 10 t ∧ roleOf t = 2)
            ∧ (roleOf s = 2 → r.role = 1 → roleOf t = 2 ∧ termOf t = r.term.toNat
                ∧ (if cm = true ∧ r.cseq.toNat = getF R.MGT_CSEQ F.MGT_CSEQ_CSEQ s then jstate t = jstate s
                  else jstate t = 1)))))
  ∧ (∀ s : State, coupled s = true → After (exec .couplingLoss s) fun t => coupled t = false ∧ roleOf t = roleOf s
      ∧ getF R.CPL_STATE F.CPL_STATE_LANES t = 0 ∧ CplTold 1 t ∧ t.cpl.outq = [] ∧ t.cpl.tx = none ∧ t.health = []
      ∧ t.cpl.waitq = s.cpl.waitq ∧ t.cpl.anchor = s.cpl.anchor
      ∧ getF R.CPL_MIRROR F.CPL_MIRROR_PENDING t = b2n (!s.cpl.waitq.isEmpty)
      ∧ getF R.CPL_CNT F.CPL_CNT_LOSSES t = (getF R.CPL_CNT F.CPL_CNT_LOSSES s + 1) % 2 ^ 16
      ∧ (roleOf s = 2 → jstate s = 2 ∨ jstate s = 3 → jstate t = 1 ∧ CplTold 7 t))
  ∧ ∀ (e : Fin 1024) (tick : Word) (s : State), coupled s = true →
      let q := getF R.BEL_LOGPOS F.BEL_LOGPOS_NEXT s
      (isSet R.BEL_CTRL F.BEL_CTRL_LOG_EN s = true → After (exec (.health e tick) s) fun t =>
        (rd (R.BEL_LOG + 2 * (q % 512)) t).toNat = e.val + 2 ^ 11 + q * 2 ^ 12 ∧ rd (R.BEL_LOG + 2 * (q % 512) + 1) t = tick
        ∧ getF R.BEL_LOGPOS F.BEL_LOGPOS_NEXT t = (q + 1) % 2 ^ 16
        ∧ Only [] (fun a => a = R.BEL_LOGPOS ∨ within R.BEL_LOG (R.BEL_LOG + 1024) a) s t)
      ∧ (isSet R.BEL_CTRL F.BEL_CTRL_LOG_EN s = false → exec (.health e tick) s = .next s)

/-- From R324, R330-R332: promotion by command, by RESIGN from the Lead, and at boot without one; resignation by command, and on a
TAKEOVER of a higher TERM; a request that R331 or R332 does not allow is refused; JOIN begins a join anew. A promotion at boot
raises no ROLE_CHANGE (log entry 96). -/
def Sys2Proof.Safety.RolesChangeHands : Prop :=
  (∀ (m : Master) (force : Bool) (s : State), Reaches m R.CPL_CTRL s → After (exec (.cplPromote m force) s) fun t => Okay m t
    ∧ (isBanker s = true → jstate s = 5 → Promoted s t)
    ∧ (isBanker s = true → jstate s ≠ 5 → force = true → Promoted s t ∧ t.cpl.ownFrom = cdiv (frontNow s) (cfgP s) + 2048)
    ∧ (isBanker s = false ∨ (jstate s ≠ 5 ∧ force = false) → CplTold 3 t ∧ roleOf t = roleOf s ∧ termOf t = termOf s))
  ∧ (∀ (m : Master) (s : State), Reaches m R.CPL_CTRL s → After (exec (.cplResign m) s) fun t => Okay m t
      ∧ (isLead s = true → coupled s = true → peerJstate s = 5 → roleOf t = 2 ∧ jstate t = 5 ∧ CplTold 2 t)
      ∧ (isLead s = false ∨ coupled s = false ∨ peerJstate s ≠ 5 → roleOf t = roleOf s ∧ CplTold 3 t))
  ∧ (∀ (m : Master) (s : State), Reaches m R.CPL_CTRL s → After (exec (.cplJoin m) s) fun t => Okay m t
      ∧ roleOf t = roleOf s ∧ (isBanker s = true → jstate t = 1 ∧ t.cpl.join = none)
      ∧ (isBanker s = false → jstate t = jstate s ∧ t.cpl = s.cpl))
  ∧ (∀ s : State, (isBanker s = true → coupled s = true → jstate s = 5 → After (exec .resign s) (Promoted s))
      ∧ (isBanker s = false ∨ coupled s = false ∨ jstate s ≠ 5 → exec .resign s = .next s))
  ∧ (∀ (term : BitVec 24) (s : State), isLead s = true →
      (termOf s < term.toNat → After (exec (.takeover term) s) fun t =>
        roleOf t = 2 ∧ jstate t = 5 ∧ CplTold 2 t ∧ t.cpl.tx = none ∧ t.cpl.txq = [])
      ∧ (term.toNat ≤ termOf s → exec (.takeover term) s = .next s))
  ∧ ∀ s : State, isBanker s = true → isSet R.CPL_ID F.CPL_ID_BOOT_ROLE s = true →
      (s.cpl.leadSeen = false → After (exec .bootRoleTimeout s) fun t => roleOf t = 1 ∧ jstate t = 0
        ∧ (CplTold 2 s ↔ CplTold 2 t) ∧ termOf t = (s.crash.term.getD 0 + 1) % 2 ^ 24)
      ∧ (s.cpl.leadSeen = true → exec .bootRoleTimeout s = .next s)

/-- From R334-R337: MDATA is staged by its CSEQ; a commit with a wrong CRC or COUNT is answered MACK 2 and changes no register of
the host, one out of order MACK 3 and a new join, one that comes during a join or while the Signal Box restarts waits, and
the next one is applied whole and answered MACK 1; the Lead sends the next transaction on MACK, and repeats one three times
on a timeout. -/
def Obligations.MirrorTransactions : Prop :=
  (∀ (cseq : BitVec 16) (addr : WAddr) (ws : List Word) (s : State), isBanker s = true → coupled s = true →
    After (exec (.mdata cseq addr ws) s) fun t => t.cpl.stageSeq = cseq.toNat
      ∧ t.cpl.stage = (if s.cpl.stageSeq = cseq.toNat then s.cpl.stage else []) ++ [(addr.toNat, ws)]
      ∧ t.cpl.stageCars = (if s.cpl.stageSeq = cseq.toNat then s.cpl.stageCars else []) ++ BitVec.ofNat 40 addr.toNat :: ws
      ∧ (homeReady s = false → Only [.cpl] (fun _ => False) s t)
      ∧ (s.hbmErr = [] → s.chk.busy = none → s.chk.force = [] → Only [.cpl, .hbm] (fun _ => False) s t))
  ∧ (∀ (cseq : BitVec 16) (tag : BitVec 8) (crc : BitVec 32) (count : BitVec 24) (s : State), isBanker s = true →
      coupled s = true → s.cpl.stageSeq = cseq.toNat →
      let good := crc32 (wordsBytes s.cpl.stageCars) = crc.toNat ∧ (s.cpl.stage.map fun x => x.2.length).sum = count.toNat
      let macks := fun (r : Nat) (t : State) => getF R.CPL_MIRROR F.CPL_MIRROR_RESULT t = r
      let waits := fun (q : List Commit) (t : State) => t.cpl.waitq = q ++ [⟨cseq.toNat, tag.toNat, s.cpl.stage⟩]
        ∧ getF R.CPL_MIRROR F.CPL_MIRROR_PENDING t = 1 ∧ Only [.cpl] (fun a => a = R.CPL_MIRROR) s t
      let inOrder := cseq.toNat = nextSeq s
      (¬ good → After (exec (.mcommit cseq tag crc count) s) fun t => macks 2 t ∧ CplTold 4 t
        ∧ t.cpl.outq = s.cpl.outq ++ [⟨none, 0, [headCar 5 0 (2 * 2 ^ 16 + cseq.toNat)]⟩]
        ∧ Only [.cpl, .bellq, .health] (fun a => a = R.CPL_MIRROR ∨ a = R.CPL_STATUS ∨ bellWord (ev 15 44) a) s t)
      ∧ (good → joining s = true → After (exec (.mcommit cseq tag crc count) s) (waits s.cpl.waitq))
      ∧ (good → joining s = false → ¬ inOrder → After (exec (.mcommit cseq tag crc count) s) fun t =>
          macks 3 t ∧ CplTold 5 t ∧ jstate t = 1)
      ∧ (good → joining s = false → inOrder → sbxReady s = false →
          After (exec (.mcommit cseq tag crc count) s) (waits []))
      ∧ ∀ (a : Nat) (v : Word), good → joining s = false → inOrder → sbxReady s = true →
          s.cpl.stage = [(a, [v])] → DataWords 10 a 1 s → After (exec (.mcommit cseq tag crc count) s) fun t =>
            macks 1 t ∧ rd a t = v ∧ getF R.MGT_CSEQ F.MGT_CSEQ_CSEQ t = cseq.toNat
            ∧ getF R.MGT_CSEQ F.MGT_CSEQ_LAST_TAG t = tag.toNat ∧ t.crash.settings = s.crash.settings ++ [(a, [v])]
            ∧ t.cpl.outq = s.cpl.outq ++ [⟨none, 0, [headCar 5 0 (2 ^ 16 + cseq.toNat)]⟩])
  ∧ ∀ (x : MirrorTx) (s : State), s.cpl.tx = some x →
      (∀ (cseq : BitVec 16) (result : Fin 4), isLead s = true → x.cseq = cseq.toNat → s.cpl.txq = [] →
        After (exec (.mack cseq result) s) fun t => getF R.CPL_MIRROR F.CPL_MIRROR_RESULT t = result.val
          ∧ (result = 2 → t.cpl = s.cpl)
          ∧ (result ≠ 2 → t.cpl.tx = none ∧ getF R.CPL_MIRROR F.CPL_MIRROR_PENDING t = 0)
          ∧ (result = 1 → getF R.CPL_MIRROR F.CPL_MIRROR_ACKED t = cseq.toNat))
      ∧ (∀ (y : MirrorTx) (cseq : BitVec 16), isLead s = true → x.cseq = cseq.toNat → s.cpl.txq = [y] →
          After (exec (.mack cseq 1) s) fun t => t.cpl.tx = some y ∧ t.cpl.txq = []
            ∧ getF R.CPL_MIRROR F.CPL_MIRROR_SENT t = y.cseq % 2 ^ 16)
      ∧ (x.tries < 3 → After (exec .mackTimeout s) fun t => t.cpl.tx = some { x with tries := x.tries + 1 })
      ∧ (3 ≤ x.tries → After (exec .mackTimeout s) fun t => t.cpl.tx = none ∧ t.cpl.txq = [] ∧ t.cpl.stopped = true
          ∧ getF R.CPL_MIRROR F.CPL_MIRROR_PENDING t = 0)

/-- From R328, R338-R344: the Lead grants a join at the next multiple of lcm(40, P, M_SK) past its front and LEAD; the Banker
realigns at it or fails when it has passed; the cut is staged, a commit with a wrong CRC or COUNT fails the join, a right one
is installed and fixes the send start; one that comes before J waits; a timeout fails the join, a retry asks again; a COUPLING train leaves with the next SEQ, or the
filler that the lane owes (R61). -/
def Obligations.JoinsRunTheirCourse : Prop :=
  (∀ s : State, isLead s = true → coupled s = true → cfgMatch s = true → frontValid s = true → s.cpl.anchor = none →
    0 < cfgP s → 0 < cfgMsk s → After (exec .jreq s) fun t => ∃ j, t.cpl.anchor = some j ∧ 40 ∣ j ∧ cfgP s ∣ j ∧ cfgMsk s ∣ j
      ∧ frontNow s + getF R.TTB_LEAD F.TTB_LEAD_LEAD s ≤ j
      ∧ j < frontNow s + getF R.TTB_LEAD F.TTB_LEAD_LEAD s + Nat.lcm (Nat.lcm 40 (cfgP s)) (cfgMsk s)
      ∧ t.cpl.outq = s.cpl.outq ++ [⟨none, 0, grantRecord j (originNow s)⟩] ∧ Only [.cpl] (fun _ => False) s t)
  ∧ (∀ (j jp : BitVec 48) (s : State), isBanker s = true → coupled s = true → jstate s = 1 → frontValid s = true →
      (frontNow s ≤ j.toNat → After (exec (.jgrant j jp) s) fun t => jstate t = 2 ∧ t.cpl.join = some j.toNat
        ∧ t.cpl.grantJp = jp.toNat ∧ get2 R.CPL_JOIN F.CPL_JOIN_J_LO F.CPL_JOIN_J_HI t = j.toNat
        ∧ Only [.cpl] (fun a => a = R.CPL_STATE ∨ a = R.CPL_JOIN ∨ a = R.CPL_JOIN + 1) s t)
      ∧ (j.toNat < frontNow s → After (exec (.jgrant j jp) s) (JoinFailed s)))
  ∧ (∀ (run : BitVec 16) (addr : WAddr) (ws : List Word) (s : State), isBanker s = true → coupled s = true → jstate s = 2 ∨ jstate s = 3 →
      After (exec (.jdata run addr ws) s) fun t => Only [.cpl] (fun _ => False) s t
        ∧ t.cpl = { s.cpl with cut := s.cpl.cut ++ [(run.toNat * 2 ^ 28 + addr.toNat, ws)],
                               cutCars := s.cpl.cutCars ++ BitVec.ofNat 40 addr.toNat :: ws })
  ∧ (∀ (cseq : BitVec 16) (crc : BitVec 32) (count : BitVec 24) (s : State), isBanker s = true → coupled s = true →
      jstate s = 3 → s.cpl.waitq = [] →
      let good := crc32 (wordsBytes s.cpl.cutCars) = crc.toNat ∧ (s.cpl.cut.map fun x => x.2.length).sum = count.toNat
      (¬ good → After (exec (.jcommit cseq crc count) s) (JoinFailed s))
      ∧ (After (exec (.jcommit cseq crc count) { s with regs := (setJstate 2 s).regs }) fun t =>
          t.cpl = { s.cpl with commitIn := some (crc.toNat, count.toNat) } ∧ jstate t = 2)
      ∧ (good → After (exec (.jcommit cseq crc count) s) fun t => jstate t = 4 ∧ t.cpl.cut = [] ∧ t.cpl.logOn = false
          ∧ get2 R.CPL_JSTART F.CPL_JSTART_JS_LO F.CPL_JSTART_JS_HI t = t.cpl.sendFrom % 2 ^ 48))
  ∧ (∀ s : State, isBanker s = true → jstate s = 3 → After (exec .jcommitTimeout s) (JoinFailed s))
  ∧ (∀ s : State, isBanker s = true → jstate s = 1 → s.cpl.retry = true → s.cpl.asked = false → coupled s = true → frontValid s = true →
      cfgMatch s = true → After (exec .jreqRetry s) fun t => Only [.cpl] (fun _ => False) s t
        ∧ t.cpl = { s.cpl with retry := false, asked := true, outq := s.cpl.outq ++ [⟨none, 0, [headCar 6 0 0]⟩] })
  ∧ ∀ (c : Fin 4) (s : State), isTwin s = true → cplOpen c.val s = true → transmits (80 + c.val) s = true →
      (2047 ≤ (laneOf (80 + c.val) s).sinceFill → After (exec (.couplingTrainSend c) s) fun t =>
        (∃ tr, (laneOf (80 + c.val) t).lastTx = some tr ∧ tr.typ = 2#4) ∧ (laneOf (80 + c.val) t).sinceFill = 0
        ∧ Only [.lanes] (fun _ => False) s t)
      ∧ ((laneOf (80 + c.val) s).sinceFill < 2047 → After (exec (.couplingTrainSend c) s) fun t =>
        t.cpl.hb = (s.cpl.hb + 1) % 2 ^ 24 ∧ t.health = []
        ∧ (laneOf (80 + c.val) t).txSeq = ((laneOf (80 + c.val) s).txSeq + 1) % 4096
        ∧ (∃ tr, (laneOf (80 + c.val) t).lastTx = some tr ∧ tr.typ = 5#4 ∧ tr.seq.toNat = (laneOf (80 + c.val) s).txSeq % 4096
            ∧ tr.stream.toNat = ownPair s ∧ tr.cars.take 4 = ownRole s
            ∧ (coupled s = true → tr.flags = 0#8))
        ∧ Only [.cpl, .lanes, .health] (fun _ => False) s t)

namespace Sys2Proof.Safety

/-- The Substation has reported condition `b` (Table 14.11). -/
def SubTold (b : Nat) (t : State) : Prop := getBit R.SUB_STATUS F.SUB_STATUS_EVT b t = true

/-- What a domain that is on and has not failed becomes when its clock is set to `x`. -/
def clocked (d x : Nat) (s : State) : Nat := if domState d s = 0 ∨ domFailed d s = true then domState d s else x

/-- A domain in retention, unless it was off or retained already. -/
def retained (d : Nat) (s : State) : Nat := if domState d s < 2 then domState d s else 1

end Sys2Proof.Safety

/-- From R353, R355, R182: notching up starts the data-plane clocks and asks for the needed districts in ascending order, one per
headway interval; Running comes when all are ready; a district that misses its timeout fails, the districts go down again and
the device stays in Standing. Load steps leave the headway queue one at a time. -/
def Sys2Proof.Safety.NotchingUpAndLoadSteps : Prop :=
  (∀ s : State, pstate s = 2 → pendOf s = 1 → planValid s = true → s.pow.busy = false → s.pow.queue = [] →
    After (exec .notchingUp s) fun t => pstate t = 6 ∧ t.pow.notching = true
      ∧ (∀ d ∈ [2, 3, 5, 6], domState d t = clocked d 3 s)
      ∧ t.pow.queue = ((neededDistricts s).map fun k => LoadStep.up (districtDomain k)).tail
      ∧ (∀ k, (neededDistricts s).head? = some k → domFailed (districtDomain k) s = false → domState (districtDomain k) s < 2 →
          domState (districtDomain k) t = 2))
  ∧ (∀ (k : Fin 16) (s : State), s.pow.notching = true ∨ running s = true → domState (districtDomain k.val) s = 2 →
      (After (exec (.districtReady k) s) fun t => domState (districtDomain k.val) t = 3
        ∧ getBit R.JCT_DISTRICT F.JCT_DISTRICT_READY k.val t = true ∧ Raised (ev 7 (4 * k.val + 2)) t
        ∧ if s.pow.notching && districtsReady t then pstate t = 1 ∧ t.pow.notching = false else pstate t = pstate s)
      ∧ ∀ x ∈ [Instr.districtReadyTimeout k, .domainReadyTimeout ⟨districtDomain k.val, by simp [districtDomain]; omega⟩],
        isSet R.DEP_STATE F.DEP_STATE_RECOVERY s = false → s.pow.falling = false →
        After (exec x s) fun t => domFailed (districtDomain k.val) t = true ∧ Raised (ev 7 (4 * k.val + 2)) t
          ∧ t.pow.notching = false
          ∧ (s.pow.notching = true → running s = false → pstate t = 2 ∧ (pendOf s = 1 → pendOf t = 0)
            ∧ ∀ k : Fin 16, domState (districtDomain k.val) t = 0 ∨ LoadStep.down (districtDomain k.val) ∈ t.pow.queue)
          ∧ (s.pow.notching = false → running s = true → pstate t = 1
            ∧ (domState (districtDomain k.val) t = 0 ∨ LoadStep.down (districtDomain k.val) ∈ t.pow.queue)))
  ∧ ∀ s : State,
      (s.pow.falling = true → drained s = false → exec .loadStepStart s = .next s)
      ∧ (s.pow.falling = false → s.pow.queue = [] → exec .loadStepStart s = .next { s with pow := { s.pow with busy := false } })
      ∧ (∀ (d : Fin 35) (q : List LoadStep), s.pow.falling = false → s.pow.queue = .up d.val :: q → domState d.val s < 2 → domFailed d.val s = false →
          After (exec .loadStepStart s) fun t => domState d.val t = 2 ∧ t.pow = { s.pow with queue := q, busy := true }
            ∧ getF (R.SUB_DOM d.val) F.SUB_DOM_UPS t = (getF (R.SUB_DOM d.val) F.SUB_DOM_UPS s + 1) % 2 ^ 16
            ∧ Only [.pow] (fun a => a = R.SUB_DOM d.val ∨ a = R.SUB_HEADWAY) s t)
      ∧ (∀ (k : Fin 16) (q : List LoadStep), s.pow.queue = .down (districtDomain k.val) :: q →
          (s.pow.falling = false → After (exec .loadStepStart s) fun t => domState (districtDomain k.val) t = 0
            ∧ getBit R.JCT_DISTRICT F.JCT_DISTRICT_READY k.val t = false ∧ t.pow = { s.pow with queue := q, busy := true })
          ∧ (s.pow.falling = true → drained s = true → q = [] → After (exec .loadStepStart s) fun t =>
              domState (districtDomain k.val) t = 0 ∧ pstate t = 2 ∧ t.pow.falling = false
              ∧ ∀ d ∈ [2, 3, 5, 6], domState d t = if domState d s = 3 then 2 else domState d s))
      ∧ (∀ (k : Fin 8) (q : List LoadStep), s.pow.falling = false → s.pow.queue = .exit k.val :: q → stackState k.val s = 3 →
          After (exec .loadStepStart s) fun t => stackState k.val t = 2 ∧ t.pow.queue = q)

/-- From R351, R359, R140, Table 14.3: from Running a data-plane reset and the districts in descending order; Halt and Laid-up put
the stacks into self-refresh, sign and retain the banks, and take the unwatched lanes to DARK; Off switches every domain
off and drives no output. -/
def Sys2Proof.Safety.WayDownThroughThePowerStates : Prop :=
  (∀ s : State, pstate s = 1 → 2 ≤ pendOf s → After (exec .runningToStanding s) fun t =>
    pstate t = 6 ∧ frontValid t = false ∧ t.ttb.newFront = true ∧ t.pow.falling = true ∧ t.pow.busy = true
    ∧ t.pow.queue = s.pow.queue ++ (liveDistricts s).reverse.map fun k => LoadStep.down (districtDomain k))
  ∧ (∀ s : State, pstate s = 2 → pendOf s = 3 → s.pow.queue = [] → After (exec .haltEntry s) fun t => pstate t = 3 ∧ pendOf t = 0
      ∧ (∀ d ∈ [3, 4, 5, 6], domState d t = retained d s) ∧ t.pow.watch = false
      ∧ (∀ k : Fin 8, stackState k.val s = 2 → stackState k.val t = 3)
      ∧ (∀ i : LaneId, watched i.val s = false → laneState i.val t = 0)
      ∧ (isTwin s = true → roleOf t = 2 ∧ jstate t = 1)
      ∧ ∀ b ∈ [23, 24, 25, 26], 2 ≤ domState (bankDomain b) s → t.pow.sigs.get (fun _ => 0) b = bankCrc b t + 1)
  ∧ (∀ s : State, pstate s = 2 ∨ pstate s = 3 → pendOf s = 4 → s.pow.queue = [] → After (exec .laidUpEntry s) fun t => pstate t = 4 ∧ pendOf t = 0
      ∧ (∀ d, 1 ≤ d → d ≤ 6 → domState d t = retained d s) ∧ (∀ d, 7 ≤ d → d ≤ 10 → domState d t = 0)
      ∧ (∀ k : Fin 8, stackState k.val s = 2 → stackState k.val t = 3) ∧ (∀ i : LaneId, laneState i.val t = 0)
      ∧ isSet R.TTB_STATE F.TTB_STATE_TCLK_LOCK t = false
      ∧ ∀ b, b < 29 → 2 ≤ domState (bankDomain b) s → t.pow.sigs.get (fun _ => 0) b = bankCrc b t + 1)
  ∧ ∀ s : State, pendOf s = 5 → pstate s ∉ [1, 5, 6] → After (exec .offEntry s) fun t => pstate t = 5
      ∧ (∀ d, d < 35 → domState d t = 0) ∧ (∀ r : Fin 4, isSet (R.SUB_REG r.val) F.SUB_REG_PG t = false)
      ∧ (∀ i : LaneId, laneState i.val t = 0) ∧ t.pow = {} ∧ irqAsserted t = false ∧ t.outs = []
      ∧ ∀ n : Fin 4, rd (R.AOU_DRIVEN n.val) t = 0#40

/-- From R356, R359, R423, R50: a wake with its cause powers the domains, ends in Standing with a data-plane reset and counts;
banks that agree with their signatures are kept, a failed action queue is emptied and reported. The alarm fires once at
its count, WAKE_N at two edges. -/
def Sys2Proof.Safety.WakesToStanding : Prop :=
  (∀ (cause : Fin 10) (s : State), wakeDue cause.val s = true → s.pow.queue = [] → s.pow.lost = false →
    (∀ b ∈ signedBanks s, b ∉ s.pow.corrupt ∧ s.pow.sigs.get (fun _ => 0) b = bankCrc b s + 1) →
    After (exec (.wakeToStanding cause []) s) fun t => pstate t = 2 ∧ t.wakeReq = none ∧ t.pow.tries = 0 ∧ t.pow.sigs = []
      ∧ frontValid t = false ∧ t.ttb.newFront = true
      ∧ getF R.LMP_WAKEREC F.LMP_WAKEREC_CAUSE t = cause.val
      ∧ getF R.LMP_WAKEREC F.LMP_WAKEREC_WAKES t = (getF R.LMP_WAKEREC F.LMP_WAKEREC_WAKES s + 1) % 2 ^ 16
      ∧ (∀ d, 1 ≤ d → d ≤ 18 → domFailed d s = false → domState d t = if d ∈ [2, 3, 5, 6] then 2 else 3)
      ∧ rd R.SUB_RETFAIL t = rd R.SUB_RETFAIL s
      ∧ (7 ≤ cause.val → isSet R.SUB_CTRL F.SUB_CTRL_WAKE_RUN s = true → planValid s = true → pendOf s = 0 ∨ pendOf s = 2 →
          pendOf t = 1))
  ∧ (∀ (cause : Fin 10) (s : State), wakeDue cause.val s = true → s.pow.lost = false → signedBanks s = [22] →
      s.pow.sigs.get (fun _ => 0) 22 ≠ bankCrc 22 s + 1 → After (exec (.wakeToStanding cause []) s) fun t => pstate t = 2
        ∧ getBit R.SUB_RETFAIL F.SUB_RETFAIL_BANK 22 t = true ∧ SubTold 4 t ∧ t.ttb.queue = []
        ∧ getBit R.TTB_STATUS F.TTB_STATUS_EVT 2 t = true)
  ∧ (∀ (cause : Fin 10) (ups : List (Nat × Word)) (s : State), wakeDue cause.val s = false →
      exec (.wakeToStanding cause ups) s = .next s)
  ∧ (∀ s : State, isSet R.LMP_ALARM F.LMP_ALARM_ARM s = true →
      get2 R.LMP_ALARM F.LMP_ALARM_CNT_LO F.LMP_ALARM_CNT_HI s = get2 R.LMP_LCNT F.LMP_LCNT_CNT_LO F.LMP_LCNT_CNT_HI s →
      After (exec .lampAlarm s) fun t => isSet R.LMP_ALARM F.LMP_ALARM_ARM t = false
        ∧ (pstate s = 3 ∨ pstate s = 4 → isSet R.LMP_WAKEEN F.LMP_WAKEEN_ALARM s = true → s.wakeReq = none → t.wakeReq = some 9)
        ∧ (pstate s ≠ 3 → pstate s ≠ 4 → t.wakeReq = s.wakeReq)
        ∧ Only [.wakeReq] (fun a => a = R.LMP_ALARM + 1) s t)
  ∧ ∀ (ms edges : Nat) (env : PowerEnv) (s : State), pstate s = 3 ∨ pstate s = 4 → isSet R.LMP_WAKEEN F.LMP_WAKEEN_WAKE_N s = true →
      (2 ≤ edges → s.wakeReq = none → exec (.wakeNLow ms edges env) s = .next { s with wakeReq := some 8 })
      ∧ (edges < 2 → exec (.wakeNLow ms edges env) s = .next s)

/-- From R360, R361: a watch starts the clocks of the Points and of the watched quadrants and clears the gauges; one that starts
while another runs is counted as long and waits, while WAKEEN.GAUGE allows watches; its end counts it, stops the clocks and takes the lanes to DARK. -/
def Obligations.WatchesOfHalt : Prop :=
  ∀ s : State, pstate s = 3 → s.wakeReq = none →
    (isSet R.LMP_WAKEEN F.LMP_WAKEEN_GAUGE s = true → s.pow.watch = false → After (exec .watchStart s) fun t =>
      t.pow.watch = true ∧ t.pow.late = false ∧ t.gau.wacc = [] ∧ t.gau.wfast = [] ∧ domState 2 t = clocked 2 3 s
      ∧ (∀ q ∈ watchedQuads s, domState (7 + q) t = clocked (7 + q) 3 s))
    ∧ (isSet R.LMP_WAKEEN F.LMP_WAKEEN_GAUGE s = true → s.pow.watch = true → After (exec .watchStart s) fun t =>
        t.pow = { s.pow with late := true } ∧ SubTold 8 t
        ∧ getF R.LMP_WATCHCNT F.LMP_WATCHCNT_LONG t = min (getF R.LMP_WATCHCNT F.LMP_WATCHCNT_LONG s + 1) 255
        ∧ Only [.pow, .bellq, .health] (fun a => a = R.LMP_WATCHCNT ∨ a = R.SUB_STATUS ∨ bellWord (ev 14 8) a) s t)
    ∧ (isSet R.LMP_WAKEEN F.LMP_WAKEEN_GAUGE s = false → exec .watchStart s = .next s)
    ∧ (s.pow.watch = true → s.pow.late = false → After (exec .watchEnd s) fun t => t.pow = { s.pow with watch := false }
        ∧ getF R.LMP_WATCHCNT F.LMP_WATCHCNT_WATCHES t = (getF R.LMP_WATCHCNT F.LMP_WATCHCNT_WATCHES s + 1) % 2 ^ 32
        ∧ (∀ i : LaneId, watched i.val s = true → laneState i.val t = 0 ∧ (laneOf i.val t).energy = false)
        ∧ domState 2 t = clocked 2 2 s)
    ∧ (s.pow.watch = true → s.pow.late = true → After (exec .watchEnd s) fun t =>
        t.pow = { s.pow with watch := isSet R.LMP_WAKEEN F.LMP_WAKEEN_GAUGE s, late := false }
        ∧ getF R.LMP_WATCHCNT F.LMP_WATCHCNT_WATCHES t = (getF R.LMP_WATCHCNT F.LMP_WATCHCNT_WATCHES s + 1) % 2 ^ 32)
    ∧ (s.pow.watch = false → exec .watchEnd s = .next s)

/-- From R357, R358, R416: a regulator, PLL or SUB_ENX that misses its timeout aborts the wake with the domains as they were; it is tried again up to TRIES
times and then fails; a domain is marked FAILED and goes down as a load step, a stack fails, and CTRL aborts the wake. -/
def Sys2Proof.Safety.WakesThatFail : Prop :=
  let aborts := fun (b : Option Nat) (s t : State) => t.pow.aborted = true ∧ t.pow.tries = s.pow.tries + 1
    ∧ pstate t = pstate s ∧ (∀ x, b = some x → SubTold x t) ∧ getF R.LMP_WAKEREC F.LMP_WAKEREC_TRY t = (s.pow.tries + 1) % 4
    ∧ (∀ d, d < 35 → rd (R.SUB_DOM d) t = rd (R.SUB_DOM d) s)
  let goesDown := fun (d : Nat) (s t : State) => (s.pow.busy = false → s.pow.queue = [] → domState d t = 0)
    ∧ (s.pow.busy = true → t.pow.queue = s.pow.queue ++ [.down d])
  (∀ s : State, (fullWakeDue s = true → pgAwaited s = true → After (exec .regulatorTimeout s) (aborts (some 1) s))
    ∧ (fullWakeDue s = true → After (exec .pllLockTimeout s) (aborts (some 2) s))
    ∧ (fullWakeDue s = false ∨ pgAwaited s = false → exec .regulatorTimeout s = .next s)
    ∧ (fullWakeDue s = false → exec .pllLockTimeout s = .next s))
  ∧ (∀ s : State, pstate s = 0 → s.pow.aborted = false → getF R.LMP_RSTREC F.LMP_RSTREC_CAUSE s = 1 →
      After (exec .subpgxTimeout s) (aborts (some 1) s))
  ∧ (∀ s : State, s.pow.aborted = true →
      (s.pow.tries < getF R.SUB_WAKETMO F.SUB_WAKETMO_TRIES s → exec .wakeRetry s = .next { s with pow := { s.pow with aborted := false } })
      ∧ (getF R.SUB_WAKETMO F.SUB_WAKETMO_TRIES s ≤ s.pow.tries → After (exec .wakeRetry s) fun t =>
          isSet R.LMP_WAKEREC F.LMP_WAKEREC_FAILED t = true ∧ SubTold 5 t ∧ t.wakeReq = none ∧ pstate t = pstate s
          ∧ t.pow.aborted = decide (pstate s = 0)))
  ∧ ∀ (d : Fin 35) (s : State), s.pow.aborted = false → domFailed d.val s = false →
      pstate s = 0 ∨ ((pstate s = 3 ∨ pstate s = 4) ∧ wakeWanted s ≠ none) →
      (d.val = 1 → After (exec (.domainReadyTimeout d) s) (aborts none s))
      ∧ (2 ≤ d.val → d.val ≤ 10 → After (exec (.domainReadyTimeout d) s) fun t => domFailed d.val t = true ∧ SubTold 3 t
          ∧ goesDown d.val s t ∧ t.pow.lost = (s.pow.lost || (decide (7 ≤ d.val) && pstate s != 0))
          ∧ Only [.pow, .bellq, .health]
              (fun a => a = R.SUB_DOM d.val ∨ a = R.SUB_HEADWAY ∨ a = R.SUB_STATUS ∨ bellWord (ev 14 3) a) s t)
      ∧ (11 ≤ d.val → d.val ≤ 18 → After (exec (.domainReadyTimeout d) s) fun t => domFailed d.val t = true
          ∧ goesDown d.val s t ∧ stackState (d.val - 11) t = 4
          ∧ getBit R.SDG_STACKS F.SDG_STACKS_FAILED (d.val - 11) t = true)

/-- From R363-R366, R370, R414, R415, R418: a power-on reset, and an exit from Off by WAKE_N or RESET_N, clear every domain with the
Lamp room, sample the straps and bring the outputs to their keepsake codes, in BOOT; the loss of VAON stops everything and leaves state 5 (log entry 47). LCLK
turns to the crystal, or stays with clock monitor 6 failed. -/
def Obligations.PowerUpAndItsLoss : Prop :=
  let keepsake := fun a => decide (0x1048000 ≤ a ∧ a < 0x1048080)
  let up := fun (env : PowerEnv) (cause : Nat) (s t : State) => pstate t = 0 ∧ Cleared keepsake s t ∧ t.hbm = [] ∧ getF R.LMP_RSTREC F.LMP_RSTREC_CAUSE t = cause
    ∧ rd R.BEL_LOGPOS t = resetWord R.BEL_LOGPOS
    ∧ isSet R.MGT_CFG F.MGT_CFG_MODE t = env.mode ∧ getF R.MGT_CFG F.MGT_CFG_ADR t = env.adr.val
    ∧ ∀ n : Fin 4, let entry := if 32 + n.val ∈ env.kpsBad.map (·.val) then 0#40 else rd (0x1048000 + (32 + n.val)) s
        getF (R.AOU_DRIVEN n.val) F.AOU_DRIVEN_C t = bitsOf entry 4 16
        ∧ getF (R.AOU_CTRL n.val) F.AOU_CTRL_ROLE t = bitsOf entry 0 2
  (∀ (env : PowerEnv) (s : State), After (exec (.powerOnReset env) s) (up env 1 s)
    ∧ (pstate s = 5 → After (exec (.offExit env) s) (up env 5 s))
    ∧ (pstate s ≠ 5 → exec (.offExit env) s = .next s))
  ∧ (∀ (ms edges ns : Nat) (env : PowerEnv) (s : State), pstate s = 5 →
      (1 ≤ ms → After (exec (.wakeNLow ms edges env) s) (up env 5 s))
      ∧ (ms = 0 → exec (.wakeNLow ms edges env) s = .next s)
      ∧ (10000 ≤ ns → After (exec (.resetNLow ns env) s) (up env 5 s)))
  ∧ (∀ s : State, After (exec .vaonLoss s) fun t => pstate t = 5 ∧ Cleared keepsake s t ∧ t.hbm = [] ∧ irqAsserted t = false)
  ∧ ∀ s : State,
      (s.pow.crystal = 0 → exec .crystalSwitch s = .next { s with pow := { s.pow with crystal := 1 } }
        ∧ After (exec .crystalTimeout s) fun t => t.pow.crystal = 2 ∧ isSet (R.INS_CLKMON 6) F.INS_CLKMON_FAIL t = true)
      ∧ (s.pow.crystal ≠ 0 → exec .crystalSwitch s = .next s ∧ exec .crystalTimeout s = .next s)

/-- From R373, R374, R377: a slew tick moves the code toward its goal by at most STEP, at once without a limit or in fault; at zero
a range change switches, 20 us later it ramps back; a hundred low headroom checks in a row set OPEN, a hundred good ones
clear it. -/
def Obligations.AnalogueOutputsMove : Prop :=
  (∀ (n : Fin 4) (s : State), aoRole n.val s ≠ 0 → pstate s ≠ 5 → (∀ m ∈ (outOf n.val s).meter, m < 2 ^ 16) →
    let c := aoDriven n.val s
    let g := aoGoal n.val s
    let st := getF (R.AOU_SLEW n.val) F.AOU_SLEW_STEP s
    let next := if st = 0 ∨ (aoFault n.val s = true ∧ aoRole n.val s ≠ 1) then g
      else if c ≤ g then min g (c + st) else max g (c - st)
    After (exec (.aoSlewTick n) s) fun t => aoDriven n.val t = next
      ∧ ((outOf n.val s).range = 0 → getF (R.AOU_DRIVEN n.val) F.AOU_DRIVEN_PHASE t = (if next = g then 0 else 1)
          ∧ Only [.outs] (fun a => a = R.AOU_DRIVEN n.val) s t ∧ ∀ k, k ≠ n.val → outOf k t = outOf k s)
      ∧ ((outOf n.val s).range = 1 → (outOf n.val t).range = (if next = 0 then 2 else 1)
          ∧ (next = 0 → aoMode n.val t = (outOf n.val s).mode ∧ aoGain n.val t = (outOf n.val s).gain)))
  ∧ (∀ (n : Fin 4) (s : State),
      ((outOf n.val s).range ≠ 2 → exec (.aoRangeSettle n) s = .next s)
      ∧ ((outOf n.val s).range = 2 → aoDriven n.val s = 0 → aoFault n.val s = false → aoRole n.val s = 2 →
          After (exec (.aoRangeSettle n) s) fun t =>
            (aoTarget n.val s ≠ 0 → (outOf n.val t).range = 3 ∧ getF (R.AOU_DRIVEN n.val) F.AOU_DRIVEN_PHASE t = 3)
            ∧ (aoTarget n.val s = 0 → (outOf n.val s).role = none → (outOf n.val t).range = 0
                ∧ getF (R.AOU_DRIVEN n.val) F.AOU_DRIVEN_PHASE t = 0)))
  ∧ ∀ (n : Fin 4) (good : Bool) (s : State),
      let o := outOf n.val s
      let live := aoRole n.val s ≠ 0 ∧ aoMode n.val s = true ∧ 2731 ≤ aoDriven n.val s
      After (exec (.aoHeadroomCheck n good) s) fun t =>
        (¬ live → outOf n.val t = { o with low := 0, good := 0 } ∧ Only [.outs] (fun _ => False) s t)
        ∧ (live → good = true → outOf n.val t = { o with low := 0, good := min (o.good + 1) 100 }
            ∧ isSet (R.AOU_STAT n.val) F.AOU_STAT_OPEN t
              = if 99 ≤ o.good then false else isSet (R.AOU_STAT n.val) F.AOU_STAT_OPEN s)
        ∧ (live → good = false → outOf n.val t = { o with low := min (o.low + 1) 100, good := 0 }
            ∧ isSet (R.AOU_STAT n.val) F.AOU_STAT_OPEN t
              = if 99 ≤ o.low then true else isSet (R.AOU_STAT n.val) F.AOU_STAT_OPEN s)

/-- From R378, R380: a conversion takes the next slot of the sequence and stores the corrected word and its filtered value; a value
beyond a threshold makes the input active and reports it once, one inside both by the hysteresis makes it inactive; slot 31
ends the round, with the actions of channels 32-35 behind those of the others. While EN = 0 the sequence stands (log entry
114). -/
def Obligations.ConversionsAndThresholds : Prop :=
  ∀ (x : BitVec 12) (s : State),
    (isSet R.MON_CTRL F.MON_CTRL_EN s = false ∨ pstate s = 5 → exec (.monConversion x) s = .next s)
    ∧ (isSet R.MON_CTRL F.MON_CTRL_EN s = true → pstate s ≠ 5 →
        let slot := s.pow.monSlot % 32
        let c := if 24 ≤ slot ∧ slot < 28 ∧ getF R.MON_CTRL F.MON_CTRL_ROUNDS s % 2 = 1 then slot + 8 else slot
        let th := R.MON_TH c
        let ofs : Int := (BitVec.ofNat 12 (getF th F.MON_TH_OFS s)).toInt
        let raw := (max 0 (min 4095 ((x.toNat : Int) + ofs))).toNat
        let old := getF (R.MON_RES c) F.MON_RES_FILT s
        let hi := getF th F.MON_TH_HI s
        let lo := getF th F.MON_TH_LO s
        let hy := getF th F.MON_TH_HYST s
        let beyond := (hi ≠ 0 ∧ hi < raw) ∨ (lo ≠ 0 ∧ raw < lo)
        let inside := (hi = 0 ∨ raw + hy ≤ hi) ∧ (lo = 0 ∨ lo + hy ≤ raw)
        After (exec (.monConversion x) s) fun t => t.pow.monSlot = (slot + 1) % 32
          ∧ getF (R.MON_RES c) F.MON_RES_RAW t = raw
          ∧ (getF (R.MON_RES c) F.MON_RES_FILT t : Int) = old + ((raw : Int) - old) / 2 ^ getF th F.MON_TH_FSHIFT s
          ∧ (beyond → getBit R.MON_STATUS F.MON_STATUS_ACTIVE c t = true)
          ∧ (beyond → getBit R.MON_STATUS F.MON_STATUS_ACTIVE c s = false →
            (c < 32 → isSet th F.MON_TH_EVT s = true → Raised (monEvent c) t)
            ∧ (32 ≤ c → t.pow.monActs = s.pow.monActs ++ [c]))
          ∧ (slot = 31 → t.pow.monActs = []
            ∧ ∀ k ∈ s.pow.monActs, k < 36 → isSet (R.MON_TH k) F.MON_TH_EVT s = true → Raised (monEvent k) t)
          ∧ (¬ beyond → inside → getBit R.MON_STATUS F.MON_STATUS_ACTIVE c t = false)
          ∧ (¬ beyond → ¬ inside → getBit R.MON_STATUS F.MON_STATUS_ACTIVE c t = getBit R.MON_STATUS F.MON_STATUS_ACTIVE c s)
          ∧ getF R.MON_CTRL F.MON_CTRL_ROUNDS t
            = if slot = 31 then (getF R.MON_CTRL F.MON_CTRL_ROUNDS s + 1) % 2 ^ F.MON_CTRL_ROUNDS.w
              else getF R.MON_CTRL F.MON_CTRL_ROUNDS s)

/-- From R387-R391, R399, R400, R402, R407, R408: a boot without a usable flash, or whose slots have no header, ends in recovery in
Standing, with its causes recorded (11 for a header that cannot be read, log entry 38). Every boot ends so, or with a slot
accepted, whose header, layout, signature and section hashes are right: it is measured, its firmware runs, and the
configuration is sealed. A flash command ends with its bytes read or written, a timeout with RESULT 3 and open bytes in its
range (log entry 5); private JTAG instructions act with JTAG scope alone, public ones change nothing (log entry 42). -/
def Obligations.BootFlashAndJtag : Prop :=
  (∀ (env : BootEnv) (s : State), pstate s = 0 → s.pow.aborted = false →
    let told := fun (b : Nat) (t : State) => getBit R.DEP_STATUS F.DEP_STATUS_EVT b t = true
    let p := bootPrep env true s
    (env.sfdpOk = false → After (exec (.boot env) s) fun t => pstate t = 2 ∧ isSet R.DEP_STATE F.DEP_STATE_RECOVERY t = true
      ∧ isSet R.DEP_STATE F.DEP_STATE_BOARD_OK t = false ∧ told 14 t ∧ told 9 t ∧ told 4 t ∧ told 0 t)
    ∧ (p.dep.flashOk = true → headerOk 0x7E51 (slotFlash 0 p) = false → headerOk 0x7E51 (slotFlash 1 p) = false →
        After (exec (.boot env) s) fun t => pstate t = 2 ∧ isSet R.DEP_STATE F.DEP_STATE_RECOVERY t = true ∧ told 1 t ∧ told 4 t
          ∧ ∀ k : Fin 2, getF (R.DEP_SLOT k.val) F.DEP_SLOT_CAUSE t = (if env.badHeaders.getLsbD k.val then 11 else 2) ∧ getF (R.DEP_SLOT k.val) F.DEP_SLOT_VERSION t = 0)
    ∧ (isSet R.DEP_STATE F.DEP_STATE_SEALED s = false → isSet R.DEP_STATE F.DEP_STATE_RECOVERY s = false →
        After (exec (.boot env) s) fun t => pstate t = 2 ∧ told 0 t
          ∧ if isSet R.DEP_STATE F.DEP_STATE_SEALED t then
              let k := getF R.DEP_STATE F.DEP_STATE_SLOT t
              let f := slotFlash k p
              isSet R.DEP_STATE F.DEP_STATE_RECOVERY t = false ∧ told 5 t ∧ k < 2 ∧ getF (R.DEP_SLOT k) F.DEP_SLOT_CAUSE t = 1
                ∧ headerOk 0x7E51 f = true ∧ layoutOk (slotSize p) f = true ∧ imgSigOk f = true
                ∧ (∀ x ∈ sections f, x.hashOk f = true) ∧ rbFloor p ≤ imgRbidx f
                ∧ getF R.DEP_STATE F.DEP_STATE_KEYSEL t = imgKeysel f
                ∧ measAt 0 t = packHash (sha256 (signedBytes f))
                ∧ ∀ x ∈ sectionsOf 6 f, isSet (R.DSP_CTRL x.target) F.DSP_CTRL_RUN t = true
            else isSet R.DEP_STATE F.DEP_STATE_RECOVERY t = true ∧ told 4 t))
  ∧ (∀ (env : BootEnv) (s : State), pstate s ≠ 0 ∨ s.pow.aborted = true → exec (.boot env) s = .next s)
  ∧ (∀ (op a : Nat) (bs : List Byte) (s : State), s.dep.run = some (op, a, bs) → bs.length ≤ 1024 →
      flashBehind s = false →
      let ended := fun (r : Nat) (t : State) => t.dep.run = none ∧ isSet R.DEP_FLCMD F.DEP_FLCMD_BUSY t = false
        ∧ getF R.DEP_FLCMD F.DEP_FLCMD_RESULT t = r
      (op = 0 → After (exec .flashOpComplete s) fun t => ended 1 t ∧ t.flash = s.flash
        ∧ ∀ k, k < bs.length → bufByte t k = flashAt s (a + k))
      ∧ (op ≠ 0 → After (exec .flashOpComplete s) fun t => ended 1 t
          ∧ (∀ k, k < bs.length → a + k < flashSize s → some (flashAt t (a + k)) = bs[k]?)
          ∧ ∀ x, x < a ∨ a + bs.length ≤ x → t.flash.get flashDefault x = s.flash.get flashDefault x)
      ∧ (op = 0 → exec .flashTimeout s = .next s)
      ∧ (op ≠ 0 → After (exec .flashTimeout s) fun t => ended 3 t ∧ getBit R.DEP_STATUS F.DEP_STATUS_EVT 14 t = true
          ∧ ∀ x, x < a ∨ a + bs.length ≤ x → t.flash.get flashDefault x = s.flash.get flashDefault x))
  ∧ ∀ (op : JtagOp) (s : State),
      (jtagScope s = false → exec (.jtagInstruction op) s = .next s)
      ∧ (op ∈ [JtagOp.bypass, .idcode, .samplePreload, .extest, .extestPulse, .extestTrain, .clamp, .highz, .other] →
          exec (.jtagInstruction op) s = .next s)
      ∧ (∀ (a : WAddr) (v : Word), jtagScope s = true → DataWords 10 a.toNat 1 s →
          (op = .privateRead a → After (exec (.jtagInstruction op) s) fun t => answered 10 t = ⟨0, [rd a.toNat s], 1⟩
            ∧ Only [.ans] (fun b => b = R.ILK_MST 10) s t)
          ∧ (op = .privateWrite a v → After (exec (.jtagInstruction op) s) fun t => rd a.toNat t = v
            ∧ Only [.ans, .memErr] (fun b => b = R.ILK_MST 10 ∨ b = a.toNat) s t))

namespace Sys2Proof.Safety

/-- What every step keeps: the waiting commands are well formed, and every store of words by address (the registers and
memories of the control space, HBM and its errors, the core memories' errors, the flash) has its canonical form. -/
def Inv (s : State) : Prop := queueWf s = true ∧ storesWf s = true

end Sys2Proof.Safety

/-- A step takes the command at the front of the queue and executes it with the queue's rest; with an empty queue time
passes (R225, R362; log entry 7): one TCLK tick, in Laid-up one LCLK period of 7,629 + 101/256 ticks, nothing in Off. Every
command completes: execution answers a next state for each of them in every state, and so does a step. -/
def Obligations.StepRunsTheFrontCommand : Prop :=
  (∀ (c : Instr) (rest : List Instr) (s : State), s.pending = c :: rest → step s = exec c { s with pending := rest })
  ∧ (∀ (c : Instr) (s : State), ∃ t, exec c s = .next t) ∧ (∀ s : State, ∃ t, step s = .next t)
  ∧ ∀ s : State, s.pending = [] →
      let lcnt := fun (t : State) => get2 R.LMP_LCNT F.LMP_LCNT_CNT_LO F.LMP_LCNT_CNT_HI t
      let clocks := fun (a : Nat) => within R.TTB_TICK (R.TTB_TICK + 2) a ∨ within R.LMP_LCNT (R.LMP_LCNT + 2) a
      (pstate s = 5 → step s = .next s)
      ∧ (pstate s = 4 → After (step s) fun t => tickNow t = (tickNow s + 7629 + (s.frac + 101) / 256) % 2 ^ 64
          ∧ t.frac = (s.frac + 101) % 256 ∧ lcnt t = (lcnt s + 1) % 2 ^ 48 ∧ Only [.frac] clocks s t)
      ∧ (pstate s ≠ 4 → pstate s ≠ 5 → sbxState s ≠ 4 → After (step s) fun t => tickNow t = (tickNow s + 1) % 2 ^ 64
          ∧ t.phase = (s.phase + 256) % 1953125
          ∧ lcnt t = (if 1953125 ≤ s.phase + 256 then (lcnt s + 1) % 2 ^ 48 else lcnt s) ∧ Only [.phase] clocks s t)
      ∧ (pstate s ≠ 4 → pstate s ≠ 5 → sbxState s = 4 → s.cpl.waitq = [] → After (step s) fun t =>
          tickNow t = (tickNow s + 1) % 2 ^ 64 ∧ sbxState t = 0)

/-- The Reset columns (R8, Table 14.10): after reset no command waits, the device is in BOOT with every lane in DARK, IRQ_N is
released, every control word has its Reset value, zero where no table gives one (the core memories: log entry 3); a few of those that are not zero, word by word. -/
def Obligations.ResetLeavesTheResetColumns : Prop :=
  let s := State.reset
  s.pending = [] ∧ pstate s = 0 ∧ irqAsserted s = false ∧ (∀ i : LaneId, laneState i.val s = 0)
    ∧ (∀ a, rd a s = resetWord a)
    ∧ rd R.TTB_CLKCFG s = 0x7D2#40 ∧ (∀ i : LaneId, rd (R.TRK_CTRL i.val) s = 0x18#40 ∧ rd (R.TRK_EQ i.val) s = 0x3F0#40)
    ∧ rd R.SDG_CTRL s = 0x8#40 ∧ (∀ d : Fin 35, getF (R.SUB_DOM d.val) F.SUB_DOM_STATE s = 0)
    ∧ rd R.MGT_CFG s = 0x8#40 ∧ rd R.LMP_WATCH s = 0x3E8#40 ∧ rd R.PTS_GPAGE s = 0#40
    ∧ (∀ m : Fin 16, rd (R.ILK_MST m.val) s = 0x8#40)

/-- The invariant holds after reset: an empty queue, and stores that list nothing. -/
def Obligations.InvariantHoldsAtReset : Prop := Inv State.reset

/-- Every step keeps the invariant: whatever the state and the commands that wait, a step leaves the queue well formed and
every store in its canonical form. -/
def Obligations.EveryStepKeepsTheInvariant : Prop := ∀ s t : State, Inv s → step s = .next t → Inv t

/-- From R28-R30, R53-R56: the 2,700 symbols in which a train of 128 cars leaves, its header and scrambled cars with their code
symbols, Gray-mapped, precoded or not and of either polarity, are received as that train with no symbol corrected. -/
def Obligations.TrainsSurviveTheLine : Prop :=
  ∀ (prec pol : Bool) (t : Train), t.cars.length = 128 →
    (lineSymbols prec pol t).length = 2700 ∧ lineTrain prec (invert pol (lineSymbols prec pol t)) = some (t, 0)

/-- From R267, Tables 10.7-10.11: for every core and every instruction it may hold, the encoding decodes to the instruction; and a
word that decodes is the encoding of what it decodes to, an instruction the core may hold, so no word has two readings. -/
def Obligations.CoreCodeRoundTrips : Prop :=
  (∀ (n : CoreId) (i : Instr), i.core = some n → coreWf n i = true →
    ∃ w, encodeCore i = some w ∧ decodeCore n w = some i)
  ∧ ∀ (n : CoreId) (w : Word) (i : Instr), decodeCore n w = some i →
      i.core = some n ∧ coreWf n i = true ∧ encodeCore i = some w

/-- From R375: a METER output computes its goal from the filtered result of the input that SRC selects, each time that result is
updated; the goal of an output with another source is not touched. -/
def Obligations.MeterOutputsFollowTheirInput : Prop :=
  ∀ (x : BitVec 12) (n : Fin 4) (s : State), isSet R.MON_CTRL F.MON_CTRL_EN s = true → pstate s ≠ 5 →
    let slot := s.pow.monSlot % 32
    let c := if 24 ≤ slot ∧ slot < 28 ∧ getF R.MON_CTRL F.MON_CTRL_ROUNDS s % 2 = 1 then slot + 8 else slot
    let b := R.AOU_METER n.val
    After (exec (.monConversion x) s) fun t =>
      let r : Int := getF (R.MON_RES c) F.MON_RES_FILT t
      let slope : Int := (BitVec.ofNat 16 (getF b F.AOU_METER_SLOPE s)).toInt
      let goal : Int := max 0 (min 65535 (getF b F.AOU_METER_BASE s + (r - getF b F.AOU_METER_ZERO s) * slope / 256))
      (aoRole n.val s = 3 → getF b F.AOU_METER_SRC s = c → (outOf n.val t).meter = some goal.toNat
        ∧ (aoFault n.val t = false → (outOf n.val t).range = 0 → (aoGoal n.val t : Int) = goal))
      ∧ (aoRole n.val s = 3 → getF b F.AOU_METER_SRC s ≠ c → (outOf n.val t).meter = (outOf n.val s).meter)

/-! ### The statements of several parts -/

/-- A lane comes up through SIGNAL, COMMA, FRAME and HANDSHAKE to OPEN, and goes back to DARK with the causes of
Table 2.4. -/
def Obligations.LanesFollowTheirStateMachine : Prop := LaneBringUpFollowsTable23 ∧ LaneTimeoutsReturnToDark

/-- Loss of alignment, forced rate changes, test pattern locks, and the loss and relock of a quadrant PLL. -/
def Obligations.LaneAndPllConditions : Prop := LaneConditionsAndTestPatterns ∧ QuadrantPllLossAndRelock

/-- What writes of the track registers do: EN, TRST, PERS, equalisation, test fields, PRBS and framing counters. -/
def Obligations.TrackRegisterWrites : Prop := TrackControlWrites ∧ TrackEqualisationTestAndCounters

/-- A DATA train that passes every check enters the arrival FIFO; otherwise the first failing check decides. -/
def Obligations.DataTrainsAreCheckedAndQueued : Prop := DataTrainEntersArrivalFifo ∧ DataTrainChecksInOrder

/-- Tokens, TIMETABLE, TEST and COUPLING trains, uncorrectable codewords and missing fillers. -/
def Obligations.OtherTrainsAreReceived : Prop := OtherTrainsReceived

/-- Departing trains carry the next SEQ; the front advances block by block. -/
def Obligations.TrainsLeaveAndBlocksAreReleased : Prop := TrainsLeaveWithNextSeq ∧ ReleaseAdvancesTheFront

/-- Timetable trains are taken once each, EPOCH sets the mark and the front, and PPS and TREF are supervised. -/
def Obligations.TimetableTrainsEpochsAndPps : Prop := TimetableTrainIsTaken ∧ EpochRecordSetsMarkAndFront ∧ TrefAndPps

/-- ACTION and TRIGGER records meet their checks in order and take the lowest free in-band entry. -/
def Obligations.ActionsAndTriggersAreQueued : Prop := ActionRecordIsCheckedAndQueued ∧ TriggerRecordQueuesCapture

/-- Delay set records fill their set; an enqueue set submits its entry and reports the result. -/
def Obligations.DelaySetsAndEnqueueSets : Prop := DelaySetRecords ∧ EnqueueSetSubmits

/-- Due entries leave in key order; bank swaps, SNAPSHOT and MARK take effect. -/
def Obligations.DueActionsTakeEffect : Prop := DueEntriesLeaveInKeyOrder ∧ SwapsThatBecomeDue ∧ SnapshotsAndMarks

/-- The Points filter block by block and form valid or invalid fine samples; the Gauges close their blocks and
snapshots. -/
def Obligations.PointsAndGaugesAdvance : Prop :=
  BlockFilterAdvancesByOneBlock ∧ FineSamplesAreValidOrInvalid ∧ GaugeBlocksAndSnapshots

/-- Bus corrections are reported, the phase segment bank is signed, and the Points ready marks and counters obey
their writes. -/
def Obligations.PointsBanksMarksAndReports : Prop := BusCorrectionsAreReported ∧ SegmentBankIsSigned ∧ PointsMarksAndCounters

/-- Register writes follow their access types, failed accesses are answered and recorded, LO reads latch HI words. -/
def Obligations.AccessesFollowTypesAndTargets : Prop :=
  WritesFollowAccessTypes
    ∧ ReadWriteAndWriteOnlyFields
    ∧ RegisterAccessesComplete
    ∧ FailedAccessesAreAnswered
    ∧ LoReadsLatchHiWords

/-- Table windows write the inactive bank; the beam delay bank is signed and marked ready. -/
def Obligations.TableBanksTakeWrites : Prop := TableWindowWritesInactiveBank ∧ BeamBanksAreSignedAndMarked

/-- The paged aperture and the Yard debug window, RATE and PASR of the Sidings, forced drains and Terminus
counters. -/
def Obligations.WindowsRatesAndForcedDrains : Prop :=
  ApertureAndDebugWindows ∧ SidingsRateAndPasr ∧ ForcedDrainAndTerminusCounters

/-- RUN, RST, RESTART, doorbells, kicks, code memory and registers of the cores as other masters reach them. -/
def Obligations.CoreRegistersOverTheInterlocking : Prop := CoreControlWrites ∧ CoreMailboxAndMemoryAccesses

/-- HBM reads are decoded and delivered, and the patrol walks the reserved region. -/
def Obligations.HbmReadsAndPatrol : Prop := HbmReadsAreDecoded ∧ PatrolWalksTheReservedRegion

/-- Stack training, retraining, failures, parity and temperature reports, and the abort of a deferred rate change. -/
def Obligations.StacksTrainAndReport : Prop := StackTrainingAndConditions ∧ DeferredRateAborts

/-- Beam samples, integrations and frames of the Turntable, and its bank swaps. -/
def Obligations.TurntableFormsBeams : Prop := BeamSamplesIntegrationsAndFrames ∧ BeamSwapsThatBecomeDue

/-- The schedule of a Platform period is planned, its dwells start in order, are swept to their boundaries and
compared with the inspection columns. -/
def Obligations.DwellsStartSweepAndArePlanned : Prop :=
  DwellStartTakesTheNextSlot
    ∧ SweepReachesTheNextBoundary
    ∧ SweepAddsTheIntervalSums
    ∧ InspectionComparesAndRetires
    ∧ PlatformSwitchPlansThePeriod

/-- A flushed dwell hands over its record, which drains row by row into consignments; a feed parity error makes a
dwell suspect. -/
def Obligations.DwellsFlushAndDrain : Prop :=
  FlushHandsOverTheRecord ∧ DrainRowByRow ∧ ConsignmentsOfARecord ∧ FeedParityMarksTheDwell

/-- Rakes open and close, keyed resets have two halves, and a change of the working set is a data-plane reset. -/
def Obligations.RakesKeyedResetsAndWorkingSets : Prop :=
  RakesOpenAndClose ∧ KeyedResetHasTwoHalves ∧ WorkingSetChangeIsADataPlaneReset

/-- The complex functions and the moves of the cores, with rounding, saturation and latencies. -/
def Obligations.CoreComplexFunctionsAndMoves : Prop := CoreComplexFunctions ∧ CoreMoves

/-- Results become visible after their latency in issue order; address registers follow the modes of Table 10.4. -/
def Obligations.CoreResultsAndAddresses : Prop := ResultsBecomeVisibleInTime ∧ AddressModesFollowTable104

/-- Loads and stores of the cores, near and far, and what the responses to far accesses do. -/
def Obligations.CoreLoadsStoresAndFarResponses : Prop := CoreLoadsAndStores ∧ FarResponses

/-- Branches with two delay slots, the conditions after CMP, and zero-overhead loops. -/
def Obligations.CoreBranchesConditionsAndLoops : Prop := CoreBranches ∧ ConditionsAfterCompare ∧ CoreLoops

/-- The control group of the cores, and what interrupt and trap entries save and change. -/
def Obligations.CoreControlGroupAndEntries : Prop := CoreControlGroup ∧ CoreEntries

/-- Uncorrectable words, watchdogs and timers of the cores; lockstep restarts of the Signal Box and its lockout. -/
def Obligations.CoreErrorsTimersAndSignalBoxRestarts : Prop := CoreHardErrorsAndTimers ∧ SignalBoxRestarts

/-- Transactions of the Interlocking are admitted under its rules, complete in order per ID, and time out. -/
def Obligations.TransactionsAreAdmittedAndComplete : Prop := TransactionsAreAdmitted ∧ TransactionsComplete

/-- A Shunter starts on GO, reads its descriptors, copies in bursts, notifies and ends. -/
def Obligations.ShuntersStartAndCopyInBursts : Prop := ShunterGoAndStop ∧ ShuntersCopyInBursts

/-- Frames of the management port are accepted or discarded, and commands that cannot run are refused by name. -/
def Obligations.ManagementFramesAndRefusals : Prop := ManagementFrames ∧ PortCommandsRefused

/-- FULL_RESET, the Signal Box watchdog and RESET_N are full resets; the data-plane and per-track resets of the
port. -/
def Obligations.ResetsByPortWatchdogAndPin : Prop := FullResetsClear ∧ PlaneAndTrackResets

/-- Event queues and injected events; injections accepted, refused, applied or expired; clock monitors. -/
def Obligations.EventQueuesInjectionsAndClockMonitors : Prop :=
  EventQueuesAndInjection ∧ InjectionsAreAcceptedOrRefused ∧ InjectionsStrikeOrExpire ∧ ClockMonitorsJudgeTheirWindows

/-- ROLE records couple the twins, a loss uncouples them; promotion, resignation and takeover. -/
def Obligations.TwinsCoupleAndRolesChangeHands : Prop := CouplingAndItsLoss ∧ RolesChangeHands

/-- Notching up to Running, the load steps, and the way down through Standing, Halt, Laid-up and Off. -/
def Obligations.PowerStatesGoUpAndDown : Prop := NotchingUpAndLoadSteps ∧ WayDownThroughThePowerStates

/-- A wake ends in Standing with its banks checked; an aborted wake is tried again and then fails. -/
def Obligations.WakesAndWakesThatFail : Prop := WakesToStanding ∧ WakesThatFail
end

