-- ==== Sys2Proof/Laws/State.lean ====
section
/-!
SUPPORT. One lemma per update and component of the state, true by definition, so that no proof unfolds an update.
-/
namespace Sys2Proof.Machine

variable (s : State)

/-! ### wr -/

@[simp] theorem wr_latches (a : Nat) (v : Word) : (wr a v s).latches = s.latches := rfl
@[simp] theorem wr_lanes (a : Nat) (v : Word) : (wr a v s).lanes = s.lanes := rfl
@[simp] theorem wr_bellq (a : Nat) (v : Word) : (wr a v s).bellq = s.bellq := rfl
@[simp] theorem wr_arr (a : Nat) (v : Word) : (wr a v s).arr = s.arr := rfl
@[simp] theorem wr_hbm (a : Nat) (v : Word) : (wr a v s).hbm = s.hbm := rfl
@[simp] theorem wr_hbmErr (a : Nat) (v : Word) : (wr a v s).hbmErr = s.hbmErr := rfl
@[simp] theorem wr_sdg (a : Nat) (v : Word) : (wr a v s).sdg = s.sdg := rfl
@[simp] theorem wr_chk (a : Nat) (v : Word) : (wr a v s).chk = s.chk := rfl
@[simp] theorem wr_tbl (a : Nat) (v : Word) : (wr a v s).tbl = s.tbl := rfl
@[simp] theorem wr_gau (a : Nat) (v : Word) : (wr a v s).gau = s.gau := rfl
@[simp] theorem wr_pts (a : Nat) (v : Word) : (wr a v s).pts = s.pts := rfl
@[simp] theorem wr_jct (a : Nat) (v : Word) : (wr a v s).jct = s.jct := rfl
@[simp] theorem wr_ins (a : Nat) (v : Word) : (wr a v s).ins = s.ins := rfl
@[simp] theorem wr_cpl (a : Nat) (v : Word) : (wr a v s).cpl = s.cpl := rfl
@[simp] theorem wr_crash (a : Nat) (v : Word) : (wr a v s).crash = s.crash := rfl
@[simp] theorem wr_ans (a : Nat) (v : Word) : (wr a v s).ans = s.ans := rfl
@[simp] theorem wr_ttb (a : Nat) (v : Word) : (wr a v s).ttb = s.ttb := rfl
@[simp] theorem wr_outs (a : Nat) (v : Word) : (wr a v s).outs = s.outs := rfl
@[simp] theorem wr_pow (a : Nat) (v : Word) : (wr a v s).pow = s.pow := rfl
@[simp] theorem wr_cores (a : Nat) (v : Word) : (wr a v s).cores = s.cores := rfl
@[simp] theorem wr_memErr (a : Nat) (v : Word) : (wr a v s).memErr = s.memErr := rfl
@[simp] theorem wr_lockTimes (a : Nat) (v : Word) : (wr a v s).lockTimes = s.lockTimes := rfl
@[simp] theorem wr_ilk (a : Nat) (v : Word) : (wr a v s).ilk = s.ilk := rfl
@[simp] theorem wr_shunters (a : Nat) (v : Word) : (wr a v s).shunters = s.shunters := rfl
@[simp] theorem wr_mgt (a : Nat) (v : Word) : (wr a v s).mgt = s.mgt := rfl
@[simp] theorem wr_dep (a : Nat) (v : Word) : (wr a v s).dep = s.dep := rfl
@[simp] theorem wr_flash (a : Nat) (v : Word) : (wr a v s).flash = s.flash := rfl
@[simp] theorem wr_wakeReq (a : Nat) (v : Word) : (wr a v s).wakeReq = s.wakeReq := rfl
@[simp] theorem wr_tmnHeld (a : Nat) (v : Word) : (wr a v s).tmnHeld = s.tmnHeld := rfl
@[simp] theorem wr_beamHeld (a : Nat) (v : Word) : (wr a v s).beamHeld = s.beamHeld := rfl
@[simp] theorem wr_health (a : Nat) (v : Word) : (wr a v s).health = s.health := rfl
@[simp] theorem wr_phase (a : Nat) (v : Word) : (wr a v s).phase = s.phase := rfl
@[simp] theorem wr_frac (a : Nat) (v : Word) : (wr a v s).frac = s.frac := rfl
@[simp] theorem wr_free (a : Nat) (v : Word) : (wr a v s).free = s.free := rfl
@[simp] theorem wr_pending (a : Nat) (v : Word) : (wr a v s).pending = s.pending := rfl

/-! ### setF -/

@[simp] theorem setF_latches (a : Nat) (f : Fld) (v : Nat) : (setF a f v s).latches = s.latches := rfl
@[simp] theorem setF_lanes (a : Nat) (f : Fld) (v : Nat) : (setF a f v s).lanes = s.lanes := rfl
@[simp] theorem setF_bellq (a : Nat) (f : Fld) (v : Nat) : (setF a f v s).bellq = s.bellq := rfl
@[simp] theorem setF_arr (a : Nat) (f : Fld) (v : Nat) : (setF a f v s).arr = s.arr := rfl
@[simp] theorem setF_hbm (a : Nat) (f : Fld) (v : Nat) : (setF a f v s).hbm = s.hbm := rfl
@[simp] theorem setF_hbmErr (a : Nat) (f : Fld) (v : Nat) : (setF a f v s).hbmErr = s.hbmErr := rfl
@[simp] theorem setF_sdg (a : Nat) (f : Fld) (v : Nat) : (setF a f v s).sdg = s.sdg := rfl
@[simp] theorem setF_chk (a : Nat) (f : Fld) (v : Nat) : (setF a f v s).chk = s.chk := rfl
@[simp] theorem setF_tbl (a : Nat) (f : Fld) (v : Nat) : (setF a f v s).tbl = s.tbl := rfl
@[simp] theorem setF_gau (a : Nat) (f : Fld) (v : Nat) : (setF a f v s).gau = s.gau := rfl
@[simp] theorem setF_pts (a : Nat) (f : Fld) (v : Nat) : (setF a f v s).pts = s.pts := rfl
@[simp] theorem setF_jct (a : Nat) (f : Fld) (v : Nat) : (setF a f v s).jct = s.jct := rfl
@[simp] theorem setF_ins (a : Nat) (f : Fld) (v : Nat) : (setF a f v s).ins = s.ins := rfl
@[simp] theorem setF_cpl (a : Nat) (f : Fld) (v : Nat) : (setF a f v s).cpl = s.cpl := rfl
@[simp] theorem setF_crash (a : Nat) (f : Fld) (v : Nat) : (setF a f v s).crash = s.crash := rfl
@[simp] theorem setF_ans (a : Nat) (f : Fld) (v : Nat) : (setF a f v s).ans = s.ans := rfl
@[simp] theorem setF_ttb (a : Nat) (f : Fld) (v : Nat) : (setF a f v s).ttb = s.ttb := rfl
@[simp] theorem setF_outs (a : Nat) (f : Fld) (v : Nat) : (setF a f v s).outs = s.outs := rfl
@[simp] theorem setF_pow (a : Nat) (f : Fld) (v : Nat) : (setF a f v s).pow = s.pow := rfl
@[simp] theorem setF_cores (a : Nat) (f : Fld) (v : Nat) : (setF a f v s).cores = s.cores := rfl
@[simp] theorem setF_memErr (a : Nat) (f : Fld) (v : Nat) : (setF a f v s).memErr = s.memErr := rfl
@[simp] theorem setF_lockTimes (a : Nat) (f : Fld) (v : Nat) : (setF a f v s).lockTimes = s.lockTimes := rfl
@[simp] theorem setF_ilk (a : Nat) (f : Fld) (v : Nat) : (setF a f v s).ilk = s.ilk := rfl
@[simp] theorem setF_shunters (a : Nat) (f : Fld) (v : Nat) : (setF a f v s).shunters = s.shunters := rfl
@[simp] theorem setF_mgt (a : Nat) (f : Fld) (v : Nat) : (setF a f v s).mgt = s.mgt := rfl
@[simp] theorem setF_dep (a : Nat) (f : Fld) (v : Nat) : (setF a f v s).dep = s.dep := rfl
@[simp] theorem setF_flash (a : Nat) (f : Fld) (v : Nat) : (setF a f v s).flash = s.flash := rfl
@[simp] theorem setF_wakeReq (a : Nat) (f : Fld) (v : Nat) : (setF a f v s).wakeReq = s.wakeReq := rfl
@[simp] theorem setF_tmnHeld (a : Nat) (f : Fld) (v : Nat) : (setF a f v s).tmnHeld = s.tmnHeld := rfl
@[simp] theorem setF_beamHeld (a : Nat) (f : Fld) (v : Nat) : (setF a f v s).beamHeld = s.beamHeld := rfl
@[simp] theorem setF_health (a : Nat) (f : Fld) (v : Nat) : (setF a f v s).health = s.health := rfl
@[simp] theorem setF_phase (a : Nat) (f : Fld) (v : Nat) : (setF a f v s).phase = s.phase := rfl
@[simp] theorem setF_frac (a : Nat) (f : Fld) (v : Nat) : (setF a f v s).frac = s.frac := rfl
@[simp] theorem setF_free (a : Nat) (f : Fld) (v : Nat) : (setF a f v s).free = s.free := rfl
@[simp] theorem setF_pending (a : Nat) (f : Fld) (v : Nat) : (setF a f v s).pending = s.pending := rfl

/-! ### setBit -/

@[simp] theorem setBit_latches (a : Nat) (f : Fld) (b : Nat) (v : Bool) : (setBit a f b v s).latches = s.latches := rfl
@[simp] theorem setBit_lanes (a : Nat) (f : Fld) (b : Nat) (v : Bool) : (setBit a f b v s).lanes = s.lanes := rfl
@[simp] theorem setBit_bellq (a : Nat) (f : Fld) (b : Nat) (v : Bool) : (setBit a f b v s).bellq = s.bellq := rfl
@[simp] theorem setBit_arr (a : Nat) (f : Fld) (b : Nat) (v : Bool) : (setBit a f b v s).arr = s.arr := rfl
@[simp] theorem setBit_hbm (a : Nat) (f : Fld) (b : Nat) (v : Bool) : (setBit a f b v s).hbm = s.hbm := rfl
@[simp] theorem setBit_hbmErr (a : Nat) (f : Fld) (b : Nat) (v : Bool) : (setBit a f b v s).hbmErr = s.hbmErr := rfl
@[simp] theorem setBit_sdg (a : Nat) (f : Fld) (b : Nat) (v : Bool) : (setBit a f b v s).sdg = s.sdg := rfl
@[simp] theorem setBit_chk (a : Nat) (f : Fld) (b : Nat) (v : Bool) : (setBit a f b v s).chk = s.chk := rfl
@[simp] theorem setBit_tbl (a : Nat) (f : Fld) (b : Nat) (v : Bool) : (setBit a f b v s).tbl = s.tbl := rfl
@[simp] theorem setBit_gau (a : Nat) (f : Fld) (b : Nat) (v : Bool) : (setBit a f b v s).gau = s.gau := rfl
@[simp] theorem setBit_pts (a : Nat) (f : Fld) (b : Nat) (v : Bool) : (setBit a f b v s).pts = s.pts := rfl
@[simp] theorem setBit_jct (a : Nat) (f : Fld) (b : Nat) (v : Bool) : (setBit a f b v s).jct = s.jct := rfl
@[simp] theorem setBit_ins (a : Nat) (f : Fld) (b : Nat) (v : Bool) : (setBit a f b v s).ins = s.ins := rfl
@[simp] theorem setBit_cpl (a : Nat) (f : Fld) (b : Nat) (v : Bool) : (setBit a f b v s).cpl = s.cpl := rfl
@[simp] theorem setBit_crash (a : Nat) (f : Fld) (b : Nat) (v : Bool) : (setBit a f b v s).crash = s.crash := rfl
@[simp] theorem setBit_ans (a : Nat) (f : Fld) (b : Nat) (v : Bool) : (setBit a f b v s).ans = s.ans := rfl
@[simp] theorem setBit_ttb (a : Nat) (f : Fld) (b : Nat) (v : Bool) : (setBit a f b v s).ttb = s.ttb := rfl
@[simp] theorem setBit_outs (a : Nat) (f : Fld) (b : Nat) (v : Bool) : (setBit a f b v s).outs = s.outs := rfl
@[simp] theorem setBit_pow (a : Nat) (f : Fld) (b : Nat) (v : Bool) : (setBit a f b v s).pow = s.pow := rfl
@[simp] theorem setBit_cores (a : Nat) (f : Fld) (b : Nat) (v : Bool) : (setBit a f b v s).cores = s.cores := rfl
@[simp] theorem setBit_memErr (a : Nat) (f : Fld) (b : Nat) (v : Bool) : (setBit a f b v s).memErr = s.memErr := rfl
@[simp] theorem setBit_lockTimes (a : Nat) (f : Fld) (b : Nat) (v : Bool) : (setBit a f b v s).lockTimes = s.lockTimes := rfl
@[simp] theorem setBit_ilk (a : Nat) (f : Fld) (b : Nat) (v : Bool) : (setBit a f b v s).ilk = s.ilk := rfl
@[simp] theorem setBit_shunters (a : Nat) (f : Fld) (b : Nat) (v : Bool) : (setBit a f b v s).shunters = s.shunters := rfl
@[simp] theorem setBit_mgt (a : Nat) (f : Fld) (b : Nat) (v : Bool) : (setBit a f b v s).mgt = s.mgt := rfl
@[simp] theorem setBit_dep (a : Nat) (f : Fld) (b : Nat) (v : Bool) : (setBit a f b v s).dep = s.dep := rfl
@[simp] theorem setBit_flash (a : Nat) (f : Fld) (b : Nat) (v : Bool) : (setBit a f b v s).flash = s.flash := rfl
@[simp] theorem setBit_wakeReq (a : Nat) (f : Fld) (b : Nat) (v : Bool) : (setBit a f b v s).wakeReq = s.wakeReq := rfl
@[simp] theorem setBit_tmnHeld (a : Nat) (f : Fld) (b : Nat) (v : Bool) : (setBit a f b v s).tmnHeld = s.tmnHeld := rfl
@[simp] theorem setBit_beamHeld (a : Nat) (f : Fld) (b : Nat) (v : Bool) : (setBit a f b v s).beamHeld = s.beamHeld := rfl
@[simp] theorem setBit_health (a : Nat) (f : Fld) (b : Nat) (v : Bool) : (setBit a f b v s).health = s.health := rfl
@[simp] theorem setBit_phase (a : Nat) (f : Fld) (b : Nat) (v : Bool) : (setBit a f b v s).phase = s.phase := rfl
@[simp] theorem setBit_frac (a : Nat) (f : Fld) (b : Nat) (v : Bool) : (setBit a f b v s).frac = s.frac := rfl
@[simp] theorem setBit_free (a : Nat) (f : Fld) (b : Nat) (v : Bool) : (setBit a f b v s).free = s.free := rfl
@[simp] theorem setBit_pending (a : Nat) (f : Fld) (b : Nat) (v : Bool) : (setBit a f b v s).pending = s.pending := rfl

/-! ### incF -/

@[simp] theorem incF_latches (a : Nat) (f : Fld) (k : Nat) : (incF a f k s).latches = s.latches := rfl
@[simp] theorem incF_lanes (a : Nat) (f : Fld) (k : Nat) : (incF a f k s).lanes = s.lanes := rfl
@[simp] theorem incF_bellq (a : Nat) (f : Fld) (k : Nat) : (incF a f k s).bellq = s.bellq := rfl
@[simp] theorem incF_arr (a : Nat) (f : Fld) (k : Nat) : (incF a f k s).arr = s.arr := rfl
@[simp] theorem incF_hbm (a : Nat) (f : Fld) (k : Nat) : (incF a f k s).hbm = s.hbm := rfl
@[simp] theorem incF_hbmErr (a : Nat) (f : Fld) (k : Nat) : (incF a f k s).hbmErr = s.hbmErr := rfl
@[simp] theorem incF_sdg (a : Nat) (f : Fld) (k : Nat) : (incF a f k s).sdg = s.sdg := rfl
@[simp] theorem incF_chk (a : Nat) (f : Fld) (k : Nat) : (incF a f k s).chk = s.chk := rfl
@[simp] theorem incF_tbl (a : Nat) (f : Fld) (k : Nat) : (incF a f k s).tbl = s.tbl := rfl
@[simp] theorem incF_gau (a : Nat) (f : Fld) (k : Nat) : (incF a f k s).gau = s.gau := rfl
@[simp] theorem incF_pts (a : Nat) (f : Fld) (k : Nat) : (incF a f k s).pts = s.pts := rfl
@[simp] theorem incF_jct (a : Nat) (f : Fld) (k : Nat) : (incF a f k s).jct = s.jct := rfl
@[simp] theorem incF_ins (a : Nat) (f : Fld) (k : Nat) : (incF a f k s).ins = s.ins := rfl
@[simp] theorem incF_cpl (a : Nat) (f : Fld) (k : Nat) : (incF a f k s).cpl = s.cpl := rfl
@[simp] theorem incF_crash (a : Nat) (f : Fld) (k : Nat) : (incF a f k s).crash = s.crash := rfl
@[simp] theorem incF_ans (a : Nat) (f : Fld) (k : Nat) : (incF a f k s).ans = s.ans := rfl
@[simp] theorem incF_ttb (a : Nat) (f : Fld) (k : Nat) : (incF a f k s).ttb = s.ttb := rfl
@[simp] theorem incF_outs (a : Nat) (f : Fld) (k : Nat) : (incF a f k s).outs = s.outs := rfl
@[simp] theorem incF_pow (a : Nat) (f : Fld) (k : Nat) : (incF a f k s).pow = s.pow := rfl
@[simp] theorem incF_cores (a : Nat) (f : Fld) (k : Nat) : (incF a f k s).cores = s.cores := rfl
@[simp] theorem incF_memErr (a : Nat) (f : Fld) (k : Nat) : (incF a f k s).memErr = s.memErr := rfl
@[simp] theorem incF_lockTimes (a : Nat) (f : Fld) (k : Nat) : (incF a f k s).lockTimes = s.lockTimes := rfl
@[simp] theorem incF_ilk (a : Nat) (f : Fld) (k : Nat) : (incF a f k s).ilk = s.ilk := rfl
@[simp] theorem incF_shunters (a : Nat) (f : Fld) (k : Nat) : (incF a f k s).shunters = s.shunters := rfl
@[simp] theorem incF_mgt (a : Nat) (f : Fld) (k : Nat) : (incF a f k s).mgt = s.mgt := rfl
@[simp] theorem incF_dep (a : Nat) (f : Fld) (k : Nat) : (incF a f k s).dep = s.dep := rfl
@[simp] theorem incF_flash (a : Nat) (f : Fld) (k : Nat) : (incF a f k s).flash = s.flash := rfl
@[simp] theorem incF_wakeReq (a : Nat) (f : Fld) (k : Nat) : (incF a f k s).wakeReq = s.wakeReq := rfl
@[simp] theorem incF_tmnHeld (a : Nat) (f : Fld) (k : Nat) : (incF a f k s).tmnHeld = s.tmnHeld := rfl
@[simp] theorem incF_beamHeld (a : Nat) (f : Fld) (k : Nat) : (incF a f k s).beamHeld = s.beamHeld := rfl
@[simp] theorem incF_health (a : Nat) (f : Fld) (k : Nat) : (incF a f k s).health = s.health := rfl
@[simp] theorem incF_phase (a : Nat) (f : Fld) (k : Nat) : (incF a f k s).phase = s.phase := rfl
@[simp] theorem incF_frac (a : Nat) (f : Fld) (k : Nat) : (incF a f k s).frac = s.frac := rfl
@[simp] theorem incF_free (a : Nat) (f : Fld) (k : Nat) : (incF a f k s).free = s.free := rfl
@[simp] theorem incF_pending (a : Nat) (f : Fld) (k : Nat) : (incF a f k s).pending = s.pending := rfl

/-! ### satF -/

@[simp] theorem satF_latches (a : Nat) (f : Fld) (k : Nat) : (satF a f k s).latches = s.latches := rfl
@[simp] theorem satF_lanes (a : Nat) (f : Fld) (k : Nat) : (satF a f k s).lanes = s.lanes := rfl
@[simp] theorem satF_bellq (a : Nat) (f : Fld) (k : Nat) : (satF a f k s).bellq = s.bellq := rfl
@[simp] theorem satF_arr (a : Nat) (f : Fld) (k : Nat) : (satF a f k s).arr = s.arr := rfl
@[simp] theorem satF_hbm (a : Nat) (f : Fld) (k : Nat) : (satF a f k s).hbm = s.hbm := rfl
@[simp] theorem satF_hbmErr (a : Nat) (f : Fld) (k : Nat) : (satF a f k s).hbmErr = s.hbmErr := rfl
@[simp] theorem satF_sdg (a : Nat) (f : Fld) (k : Nat) : (satF a f k s).sdg = s.sdg := rfl
@[simp] theorem satF_chk (a : Nat) (f : Fld) (k : Nat) : (satF a f k s).chk = s.chk := rfl
@[simp] theorem satF_tbl (a : Nat) (f : Fld) (k : Nat) : (satF a f k s).tbl = s.tbl := rfl
@[simp] theorem satF_gau (a : Nat) (f : Fld) (k : Nat) : (satF a f k s).gau = s.gau := rfl
@[simp] theorem satF_pts (a : Nat) (f : Fld) (k : Nat) : (satF a f k s).pts = s.pts := rfl
@[simp] theorem satF_jct (a : Nat) (f : Fld) (k : Nat) : (satF a f k s).jct = s.jct := rfl
@[simp] theorem satF_ins (a : Nat) (f : Fld) (k : Nat) : (satF a f k s).ins = s.ins := rfl
@[simp] theorem satF_cpl (a : Nat) (f : Fld) (k : Nat) : (satF a f k s).cpl = s.cpl := rfl
@[simp] theorem satF_crash (a : Nat) (f : Fld) (k : Nat) : (satF a f k s).crash = s.crash := rfl
@[simp] theorem satF_ans (a : Nat) (f : Fld) (k : Nat) : (satF a f k s).ans = s.ans := rfl
@[simp] theorem satF_ttb (a : Nat) (f : Fld) (k : Nat) : (satF a f k s).ttb = s.ttb := rfl
@[simp] theorem satF_outs (a : Nat) (f : Fld) (k : Nat) : (satF a f k s).outs = s.outs := rfl
@[simp] theorem satF_pow (a : Nat) (f : Fld) (k : Nat) : (satF a f k s).pow = s.pow := rfl
@[simp] theorem satF_cores (a : Nat) (f : Fld) (k : Nat) : (satF a f k s).cores = s.cores := rfl
@[simp] theorem satF_memErr (a : Nat) (f : Fld) (k : Nat) : (satF a f k s).memErr = s.memErr := rfl
@[simp] theorem satF_lockTimes (a : Nat) (f : Fld) (k : Nat) : (satF a f k s).lockTimes = s.lockTimes := rfl
@[simp] theorem satF_ilk (a : Nat) (f : Fld) (k : Nat) : (satF a f k s).ilk = s.ilk := rfl
@[simp] theorem satF_shunters (a : Nat) (f : Fld) (k : Nat) : (satF a f k s).shunters = s.shunters := rfl
@[simp] theorem satF_mgt (a : Nat) (f : Fld) (k : Nat) : (satF a f k s).mgt = s.mgt := rfl
@[simp] theorem satF_dep (a : Nat) (f : Fld) (k : Nat) : (satF a f k s).dep = s.dep := rfl
@[simp] theorem satF_flash (a : Nat) (f : Fld) (k : Nat) : (satF a f k s).flash = s.flash := rfl
@[simp] theorem satF_wakeReq (a : Nat) (f : Fld) (k : Nat) : (satF a f k s).wakeReq = s.wakeReq := rfl
@[simp] theorem satF_tmnHeld (a : Nat) (f : Fld) (k : Nat) : (satF a f k s).tmnHeld = s.tmnHeld := rfl
@[simp] theorem satF_beamHeld (a : Nat) (f : Fld) (k : Nat) : (satF a f k s).beamHeld = s.beamHeld := rfl
@[simp] theorem satF_health (a : Nat) (f : Fld) (k : Nat) : (satF a f k s).health = s.health := rfl
@[simp] theorem satF_phase (a : Nat) (f : Fld) (k : Nat) : (satF a f k s).phase = s.phase := rfl
@[simp] theorem satF_frac (a : Nat) (f : Fld) (k : Nat) : (satF a f k s).frac = s.frac := rfl
@[simp] theorem satF_free (a : Nat) (f : Fld) (k : Nat) : (satF a f k s).free = s.free := rfl
@[simp] theorem satF_pending (a : Nat) (f : Fld) (k : Nat) : (satF a f k s).pending = s.pending := rfl

/-! ### set2 -/

@[simp] theorem set2_latches (a : Nat) (lo hi : Fld) (v : Nat) : (set2 a lo hi v s).latches = s.latches := rfl
@[simp] theorem set2_lanes (a : Nat) (lo hi : Fld) (v : Nat) : (set2 a lo hi v s).lanes = s.lanes := rfl
@[simp] theorem set2_bellq (a : Nat) (lo hi : Fld) (v : Nat) : (set2 a lo hi v s).bellq = s.bellq := rfl
@[simp] theorem set2_arr (a : Nat) (lo hi : Fld) (v : Nat) : (set2 a lo hi v s).arr = s.arr := rfl
@[simp] theorem set2_hbm (a : Nat) (lo hi : Fld) (v : Nat) : (set2 a lo hi v s).hbm = s.hbm := rfl
@[simp] theorem set2_hbmErr (a : Nat) (lo hi : Fld) (v : Nat) : (set2 a lo hi v s).hbmErr = s.hbmErr := rfl
@[simp] theorem set2_sdg (a : Nat) (lo hi : Fld) (v : Nat) : (set2 a lo hi v s).sdg = s.sdg := rfl
@[simp] theorem set2_chk (a : Nat) (lo hi : Fld) (v : Nat) : (set2 a lo hi v s).chk = s.chk := rfl
@[simp] theorem set2_tbl (a : Nat) (lo hi : Fld) (v : Nat) : (set2 a lo hi v s).tbl = s.tbl := rfl
@[simp] theorem set2_gau (a : Nat) (lo hi : Fld) (v : Nat) : (set2 a lo hi v s).gau = s.gau := rfl
@[simp] theorem set2_pts (a : Nat) (lo hi : Fld) (v : Nat) : (set2 a lo hi v s).pts = s.pts := rfl
@[simp] theorem set2_jct (a : Nat) (lo hi : Fld) (v : Nat) : (set2 a lo hi v s).jct = s.jct := rfl
@[simp] theorem set2_ins (a : Nat) (lo hi : Fld) (v : Nat) : (set2 a lo hi v s).ins = s.ins := rfl
@[simp] theorem set2_cpl (a : Nat) (lo hi : Fld) (v : Nat) : (set2 a lo hi v s).cpl = s.cpl := rfl
@[simp] theorem set2_crash (a : Nat) (lo hi : Fld) (v : Nat) : (set2 a lo hi v s).crash = s.crash := rfl
@[simp] theorem set2_ans (a : Nat) (lo hi : Fld) (v : Nat) : (set2 a lo hi v s).ans = s.ans := rfl
@[simp] theorem set2_ttb (a : Nat) (lo hi : Fld) (v : Nat) : (set2 a lo hi v s).ttb = s.ttb := rfl
@[simp] theorem set2_outs (a : Nat) (lo hi : Fld) (v : Nat) : (set2 a lo hi v s).outs = s.outs := rfl
@[simp] theorem set2_pow (a : Nat) (lo hi : Fld) (v : Nat) : (set2 a lo hi v s).pow = s.pow := rfl
@[simp] theorem set2_cores (a : Nat) (lo hi : Fld) (v : Nat) : (set2 a lo hi v s).cores = s.cores := rfl
@[simp] theorem set2_memErr (a : Nat) (lo hi : Fld) (v : Nat) : (set2 a lo hi v s).memErr = s.memErr := rfl
@[simp] theorem set2_lockTimes (a : Nat) (lo hi : Fld) (v : Nat) : (set2 a lo hi v s).lockTimes = s.lockTimes := rfl
@[simp] theorem set2_ilk (a : Nat) (lo hi : Fld) (v : Nat) : (set2 a lo hi v s).ilk = s.ilk := rfl
@[simp] theorem set2_shunters (a : Nat) (lo hi : Fld) (v : Nat) : (set2 a lo hi v s).shunters = s.shunters := rfl
@[simp] theorem set2_mgt (a : Nat) (lo hi : Fld) (v : Nat) : (set2 a lo hi v s).mgt = s.mgt := rfl
@[simp] theorem set2_dep (a : Nat) (lo hi : Fld) (v : Nat) : (set2 a lo hi v s).dep = s.dep := rfl
@[simp] theorem set2_flash (a : Nat) (lo hi : Fld) (v : Nat) : (set2 a lo hi v s).flash = s.flash := rfl
@[simp] theorem set2_wakeReq (a : Nat) (lo hi : Fld) (v : Nat) : (set2 a lo hi v s).wakeReq = s.wakeReq := rfl
@[simp] theorem set2_tmnHeld (a : Nat) (lo hi : Fld) (v : Nat) : (set2 a lo hi v s).tmnHeld = s.tmnHeld := rfl
@[simp] theorem set2_beamHeld (a : Nat) (lo hi : Fld) (v : Nat) : (set2 a lo hi v s).beamHeld = s.beamHeld := rfl
@[simp] theorem set2_health (a : Nat) (lo hi : Fld) (v : Nat) : (set2 a lo hi v s).health = s.health := rfl
@[simp] theorem set2_phase (a : Nat) (lo hi : Fld) (v : Nat) : (set2 a lo hi v s).phase = s.phase := rfl
@[simp] theorem set2_frac (a : Nat) (lo hi : Fld) (v : Nat) : (set2 a lo hi v s).frac = s.frac := rfl
@[simp] theorem set2_free (a : Nat) (lo hi : Fld) (v : Nat) : (set2 a lo hi v s).free = s.free := rfl
@[simp] theorem set2_pending (a : Nat) (lo hi : Fld) (v : Nat) : (set2 a lo hi v s).pending = s.pending := rfl

/-! ### setLane -/

@[simp] theorem setLane_regs (i : Nat) (l : Lane) : (setLane i l s).regs = s.regs := rfl
@[simp] theorem setLane_latches (i : Nat) (l : Lane) : (setLane i l s).latches = s.latches := rfl
@[simp] theorem setLane_lanes (i : Nat) (l : Lane) : (setLane i l s).lanes = s.lanes.set (fun _ => {}) i l := rfl
@[simp] theorem setLane_bellq (i : Nat) (l : Lane) : (setLane i l s).bellq = s.bellq := rfl
@[simp] theorem setLane_arr (i : Nat) (l : Lane) : (setLane i l s).arr = s.arr := rfl
@[simp] theorem setLane_hbm (i : Nat) (l : Lane) : (setLane i l s).hbm = s.hbm := rfl
@[simp] theorem setLane_hbmErr (i : Nat) (l : Lane) : (setLane i l s).hbmErr = s.hbmErr := rfl
@[simp] theorem setLane_sdg (i : Nat) (l : Lane) : (setLane i l s).sdg = s.sdg := rfl
@[simp] theorem setLane_chk (i : Nat) (l : Lane) : (setLane i l s).chk = s.chk := rfl
@[simp] theorem setLane_tbl (i : Nat) (l : Lane) : (setLane i l s).tbl = s.tbl := rfl
@[simp] theorem setLane_gau (i : Nat) (l : Lane) : (setLane i l s).gau = s.gau := rfl
@[simp] theorem setLane_pts (i : Nat) (l : Lane) : (setLane i l s).pts = s.pts := rfl
@[simp] theorem setLane_jct (i : Nat) (l : Lane) : (setLane i l s).jct = s.jct := rfl
@[simp] theorem setLane_ins (i : Nat) (l : Lane) : (setLane i l s).ins = s.ins := rfl
@[simp] theorem setLane_cpl (i : Nat) (l : Lane) : (setLane i l s).cpl = s.cpl := rfl
@[simp] theorem setLane_crash (i : Nat) (l : Lane) : (setLane i l s).crash = s.crash := rfl
@[simp] theorem setLane_ans (i : Nat) (l : Lane) : (setLane i l s).ans = s.ans := rfl
@[simp] theorem setLane_ttb (i : Nat) (l : Lane) : (setLane i l s).ttb = s.ttb := rfl
@[simp] theorem setLane_outs (i : Nat) (l : Lane) : (setLane i l s).outs = s.outs := rfl
@[simp] theorem setLane_pow (i : Nat) (l : Lane) : (setLane i l s).pow = s.pow := rfl
@[simp] theorem setLane_cores (i : Nat) (l : Lane) : (setLane i l s).cores = s.cores := rfl
@[simp] theorem setLane_memErr (i : Nat) (l : Lane) : (setLane i l s).memErr = s.memErr := rfl
@[simp] theorem setLane_lockTimes (i : Nat) (l : Lane) : (setLane i l s).lockTimes = s.lockTimes := rfl
@[simp] theorem setLane_ilk (i : Nat) (l : Lane) : (setLane i l s).ilk = s.ilk := rfl
@[simp] theorem setLane_shunters (i : Nat) (l : Lane) : (setLane i l s).shunters = s.shunters := rfl
@[simp] theorem setLane_mgt (i : Nat) (l : Lane) : (setLane i l s).mgt = s.mgt := rfl
@[simp] theorem setLane_dep (i : Nat) (l : Lane) : (setLane i l s).dep = s.dep := rfl
@[simp] theorem setLane_flash (i : Nat) (l : Lane) : (setLane i l s).flash = s.flash := rfl
@[simp] theorem setLane_wakeReq (i : Nat) (l : Lane) : (setLane i l s).wakeReq = s.wakeReq := rfl
@[simp] theorem setLane_tmnHeld (i : Nat) (l : Lane) : (setLane i l s).tmnHeld = s.tmnHeld := rfl
@[simp] theorem setLane_beamHeld (i : Nat) (l : Lane) : (setLane i l s).beamHeld = s.beamHeld := rfl
@[simp] theorem setLane_health (i : Nat) (l : Lane) : (setLane i l s).health = s.health := rfl
@[simp] theorem setLane_phase (i : Nat) (l : Lane) : (setLane i l s).phase = s.phase := rfl
@[simp] theorem setLane_frac (i : Nat) (l : Lane) : (setLane i l s).frac = s.frac := rfl
@[simp] theorem setLane_free (i : Nat) (l : Lane) : (setLane i l s).free = s.free := rfl
@[simp] theorem setLane_pending (i : Nat) (l : Lane) : (setLane i l s).pending = s.pending := rfl

/-! ### setQueue -/

@[simp] theorem setQueue_regs (c : Nat) (q : List (Nat × Bool)) : (setQueue c q s).regs = s.regs := rfl
@[simp] theorem setQueue_latches (c : Nat) (q : List (Nat × Bool)) : (setQueue c q s).latches = s.latches := rfl
@[simp] theorem setQueue_lanes (c : Nat) (q : List (Nat × Bool)) : (setQueue c q s).lanes = s.lanes := rfl
@[simp] theorem setQueue_bellq (c : Nat) (q : List (Nat × Bool)) : (setQueue c q s).bellq = s.bellq.set (fun _ => []) c q := rfl
@[simp] theorem setQueue_arr (c : Nat) (q : List (Nat × Bool)) : (setQueue c q s).arr = s.arr := rfl
@[simp] theorem setQueue_hbm (c : Nat) (q : List (Nat × Bool)) : (setQueue c q s).hbm = s.hbm := rfl
@[simp] theorem setQueue_hbmErr (c : Nat) (q : List (Nat × Bool)) : (setQueue c q s).hbmErr = s.hbmErr := rfl
@[simp] theorem setQueue_sdg (c : Nat) (q : List (Nat × Bool)) : (setQueue c q s).sdg = s.sdg := rfl
@[simp] theorem setQueue_chk (c : Nat) (q : List (Nat × Bool)) : (setQueue c q s).chk = s.chk := rfl
@[simp] theorem setQueue_tbl (c : Nat) (q : List (Nat × Bool)) : (setQueue c q s).tbl = s.tbl := rfl
@[simp] theorem setQueue_gau (c : Nat) (q : List (Nat × Bool)) : (setQueue c q s).gau = s.gau := rfl
@[simp] theorem setQueue_pts (c : Nat) (q : List (Nat × Bool)) : (setQueue c q s).pts = s.pts := rfl
@[simp] theorem setQueue_jct (c : Nat) (q : List (Nat × Bool)) : (setQueue c q s).jct = s.jct := rfl
@[simp] theorem setQueue_ins (c : Nat) (q : List (Nat × Bool)) : (setQueue c q s).ins = s.ins := rfl
@[simp] theorem setQueue_cpl (c : Nat) (q : List (Nat × Bool)) : (setQueue c q s).cpl = s.cpl := rfl
@[simp] theorem setQueue_crash (c : Nat) (q : List (Nat × Bool)) : (setQueue c q s).crash = s.crash := rfl
@[simp] theorem setQueue_ans (c : Nat) (q : List (Nat × Bool)) : (setQueue c q s).ans = s.ans := rfl
@[simp] theorem setQueue_ttb (c : Nat) (q : List (Nat × Bool)) : (setQueue c q s).ttb = s.ttb := rfl
@[simp] theorem setQueue_outs (c : Nat) (q : List (Nat × Bool)) : (setQueue c q s).outs = s.outs := rfl
@[simp] theorem setQueue_pow (c : Nat) (q : List (Nat × Bool)) : (setQueue c q s).pow = s.pow := rfl
@[simp] theorem setQueue_cores (c : Nat) (q : List (Nat × Bool)) : (setQueue c q s).cores = s.cores := rfl
@[simp] theorem setQueue_memErr (c : Nat) (q : List (Nat × Bool)) : (setQueue c q s).memErr = s.memErr := rfl
@[simp] theorem setQueue_lockTimes (c : Nat) (q : List (Nat × Bool)) : (setQueue c q s).lockTimes = s.lockTimes := rfl
@[simp] theorem setQueue_ilk (c : Nat) (q : List (Nat × Bool)) : (setQueue c q s).ilk = s.ilk := rfl
@[simp] theorem setQueue_shunters (c : Nat) (q : List (Nat × Bool)) : (setQueue c q s).shunters = s.shunters := rfl
@[simp] theorem setQueue_mgt (c : Nat) (q : List (Nat × Bool)) : (setQueue c q s).mgt = s.mgt := rfl
@[simp] theorem setQueue_dep (c : Nat) (q : List (Nat × Bool)) : (setQueue c q s).dep = s.dep := rfl
@[simp] theorem setQueue_flash (c : Nat) (q : List (Nat × Bool)) : (setQueue c q s).flash = s.flash := rfl
@[simp] theorem setQueue_wakeReq (c : Nat) (q : List (Nat × Bool)) : (setQueue c q s).wakeReq = s.wakeReq := rfl
@[simp] theorem setQueue_tmnHeld (c : Nat) (q : List (Nat × Bool)) : (setQueue c q s).tmnHeld = s.tmnHeld := rfl
@[simp] theorem setQueue_beamHeld (c : Nat) (q : List (Nat × Bool)) : (setQueue c q s).beamHeld = s.beamHeld := rfl
@[simp] theorem setQueue_health (c : Nat) (q : List (Nat × Bool)) : (setQueue c q s).health = s.health := rfl
@[simp] theorem setQueue_phase (c : Nat) (q : List (Nat × Bool)) : (setQueue c q s).phase = s.phase := rfl
@[simp] theorem setQueue_frac (c : Nat) (q : List (Nat × Bool)) : (setQueue c q s).frac = s.frac := rfl
@[simp] theorem setQueue_free (c : Nat) (q : List (Nat × Bool)) : (setQueue c q s).free = s.free := rfl
@[simp] theorem setQueue_pending (c : Nat) (q : List (Nat × Bool)) : (setQueue c q s).pending = s.pending := rfl

/-! ### putCore -/

@[simp] theorem putCore_regs (n : Nat) (c : Core) : (putCore n c s).regs = s.regs := rfl
@[simp] theorem putCore_latches (n : Nat) (c : Core) : (putCore n c s).latches = s.latches := rfl
@[simp] theorem putCore_lanes (n : Nat) (c : Core) : (putCore n c s).lanes = s.lanes := rfl
@[simp] theorem putCore_bellq (n : Nat) (c : Core) : (putCore n c s).bellq = s.bellq := rfl
@[simp] theorem putCore_arr (n : Nat) (c : Core) : (putCore n c s).arr = s.arr := rfl
@[simp] theorem putCore_hbm (n : Nat) (c : Core) : (putCore n c s).hbm = s.hbm := rfl
@[simp] theorem putCore_hbmErr (n : Nat) (c : Core) : (putCore n c s).hbmErr = s.hbmErr := rfl
@[simp] theorem putCore_sdg (n : Nat) (c : Core) : (putCore n c s).sdg = s.sdg := rfl
@[simp] theorem putCore_chk (n : Nat) (c : Core) : (putCore n c s).chk = s.chk := rfl
@[simp] theorem putCore_tbl (n : Nat) (c : Core) : (putCore n c s).tbl = s.tbl := rfl
@[simp] theorem putCore_gau (n : Nat) (c : Core) : (putCore n c s).gau = s.gau := rfl
@[simp] theorem putCore_pts (n : Nat) (c : Core) : (putCore n c s).pts = s.pts := rfl
@[simp] theorem putCore_jct (n : Nat) (c : Core) : (putCore n c s).jct = s.jct := rfl
@[simp] theorem putCore_ins (n : Nat) (c : Core) : (putCore n c s).ins = s.ins := rfl
@[simp] theorem putCore_cpl (n : Nat) (c : Core) : (putCore n c s).cpl = s.cpl := rfl
@[simp] theorem putCore_crash (n : Nat) (c : Core) : (putCore n c s).crash = s.crash := rfl
@[simp] theorem putCore_ans (n : Nat) (c : Core) : (putCore n c s).ans = s.ans := rfl
@[simp] theorem putCore_ttb (n : Nat) (c : Core) : (putCore n c s).ttb = s.ttb := rfl
@[simp] theorem putCore_outs (n : Nat) (c : Core) : (putCore n c s).outs = s.outs := rfl
@[simp] theorem putCore_pow (n : Nat) (c : Core) : (putCore n c s).pow = s.pow := rfl
@[simp] theorem putCore_cores (n : Nat) (c : Core) : (putCore n c s).cores = s.cores.set (fun _ => {}) n c := rfl
@[simp] theorem putCore_memErr (n : Nat) (c : Core) : (putCore n c s).memErr = s.memErr := rfl
@[simp] theorem putCore_lockTimes (n : Nat) (c : Core) : (putCore n c s).lockTimes = s.lockTimes := rfl
@[simp] theorem putCore_ilk (n : Nat) (c : Core) : (putCore n c s).ilk = s.ilk := rfl
@[simp] theorem putCore_shunters (n : Nat) (c : Core) : (putCore n c s).shunters = s.shunters := rfl
@[simp] theorem putCore_mgt (n : Nat) (c : Core) : (putCore n c s).mgt = s.mgt := rfl
@[simp] theorem putCore_dep (n : Nat) (c : Core) : (putCore n c s).dep = s.dep := rfl
@[simp] theorem putCore_flash (n : Nat) (c : Core) : (putCore n c s).flash = s.flash := rfl
@[simp] theorem putCore_wakeReq (n : Nat) (c : Core) : (putCore n c s).wakeReq = s.wakeReq := rfl
@[simp] theorem putCore_tmnHeld (n : Nat) (c : Core) : (putCore n c s).tmnHeld = s.tmnHeld := rfl
@[simp] theorem putCore_beamHeld (n : Nat) (c : Core) : (putCore n c s).beamHeld = s.beamHeld := rfl
@[simp] theorem putCore_health (n : Nat) (c : Core) : (putCore n c s).health = s.health := rfl
@[simp] theorem putCore_phase (n : Nat) (c : Core) : (putCore n c s).phase = s.phase := rfl
@[simp] theorem putCore_frac (n : Nat) (c : Core) : (putCore n c s).frac = s.frac := rfl
@[simp] theorem putCore_free (n : Nat) (c : Core) : (putCore n c s).free = s.free := rfl
@[simp] theorem putCore_pending (n : Nat) (c : Core) : (putCore n c s).pending = s.pending := rfl

/-! ### putShunter -/

@[simp] theorem putShunter_regs (k : Nat) (x : Shunter) : (putShunter k x s).regs = s.regs := rfl
@[simp] theorem putShunter_latches (k : Nat) (x : Shunter) : (putShunter k x s).latches = s.latches := rfl
@[simp] theorem putShunter_lanes (k : Nat) (x : Shunter) : (putShunter k x s).lanes = s.lanes := rfl
@[simp] theorem putShunter_bellq (k : Nat) (x : Shunter) : (putShunter k x s).bellq = s.bellq := rfl
@[simp] theorem putShunter_arr (k : Nat) (x : Shunter) : (putShunter k x s).arr = s.arr := rfl
@[simp] theorem putShunter_hbm (k : Nat) (x : Shunter) : (putShunter k x s).hbm = s.hbm := rfl
@[simp] theorem putShunter_hbmErr (k : Nat) (x : Shunter) : (putShunter k x s).hbmErr = s.hbmErr := rfl
@[simp] theorem putShunter_sdg (k : Nat) (x : Shunter) : (putShunter k x s).sdg = s.sdg := rfl
@[simp] theorem putShunter_chk (k : Nat) (x : Shunter) : (putShunter k x s).chk = s.chk := rfl
@[simp] theorem putShunter_tbl (k : Nat) (x : Shunter) : (putShunter k x s).tbl = s.tbl := rfl
@[simp] theorem putShunter_gau (k : Nat) (x : Shunter) : (putShunter k x s).gau = s.gau := rfl
@[simp] theorem putShunter_pts (k : Nat) (x : Shunter) : (putShunter k x s).pts = s.pts := rfl
@[simp] theorem putShunter_jct (k : Nat) (x : Shunter) : (putShunter k x s).jct = s.jct := rfl
@[simp] theorem putShunter_ins (k : Nat) (x : Shunter) : (putShunter k x s).ins = s.ins := rfl
@[simp] theorem putShunter_cpl (k : Nat) (x : Shunter) : (putShunter k x s).cpl = s.cpl := rfl
@[simp] theorem putShunter_crash (k : Nat) (x : Shunter) : (putShunter k x s).crash = s.crash := rfl
@[simp] theorem putShunter_ans (k : Nat) (x : Shunter) : (putShunter k x s).ans = s.ans := rfl
@[simp] theorem putShunter_ttb (k : Nat) (x : Shunter) : (putShunter k x s).ttb = s.ttb := rfl
@[simp] theorem putShunter_outs (k : Nat) (x : Shunter) : (putShunter k x s).outs = s.outs := rfl
@[simp] theorem putShunter_pow (k : Nat) (x : Shunter) : (putShunter k x s).pow = s.pow := rfl
@[simp] theorem putShunter_cores (k : Nat) (x : Shunter) : (putShunter k x s).cores = s.cores := rfl
@[simp] theorem putShunter_memErr (k : Nat) (x : Shunter) : (putShunter k x s).memErr = s.memErr := rfl
@[simp] theorem putShunter_lockTimes (k : Nat) (x : Shunter) : (putShunter k x s).lockTimes = s.lockTimes := rfl
@[simp] theorem putShunter_ilk (k : Nat) (x : Shunter) : (putShunter k x s).ilk = s.ilk := rfl
@[simp] theorem putShunter_shunters (k : Nat) (x : Shunter) : (putShunter k x s).shunters = s.shunters.set (fun _ => {}) k x := rfl
@[simp] theorem putShunter_mgt (k : Nat) (x : Shunter) : (putShunter k x s).mgt = s.mgt := rfl
@[simp] theorem putShunter_dep (k : Nat) (x : Shunter) : (putShunter k x s).dep = s.dep := rfl
@[simp] theorem putShunter_flash (k : Nat) (x : Shunter) : (putShunter k x s).flash = s.flash := rfl
@[simp] theorem putShunter_wakeReq (k : Nat) (x : Shunter) : (putShunter k x s).wakeReq = s.wakeReq := rfl
@[simp] theorem putShunter_tmnHeld (k : Nat) (x : Shunter) : (putShunter k x s).tmnHeld = s.tmnHeld := rfl
@[simp] theorem putShunter_beamHeld (k : Nat) (x : Shunter) : (putShunter k x s).beamHeld = s.beamHeld := rfl
@[simp] theorem putShunter_health (k : Nat) (x : Shunter) : (putShunter k x s).health = s.health := rfl
@[simp] theorem putShunter_phase (k : Nat) (x : Shunter) : (putShunter k x s).phase = s.phase := rfl
@[simp] theorem putShunter_frac (k : Nat) (x : Shunter) : (putShunter k x s).frac = s.frac := rfl
@[simp] theorem putShunter_free (k : Nat) (x : Shunter) : (putShunter k x s).free = s.free := rfl
@[simp] theorem putShunter_pending (k : Nat) (x : Shunter) : (putShunter k x s).pending = s.pending := rfl

/-! ### putAnswer -/

@[simp] theorem putAnswer_regs (m : Nat) (x : Answer) : (putAnswer m x s).regs = s.regs := rfl
@[simp] theorem putAnswer_latches (m : Nat) (x : Answer) : (putAnswer m x s).latches = s.latches := rfl
@[simp] theorem putAnswer_lanes (m : Nat) (x : Answer) : (putAnswer m x s).lanes = s.lanes := rfl
@[simp] theorem putAnswer_bellq (m : Nat) (x : Answer) : (putAnswer m x s).bellq = s.bellq := rfl
@[simp] theorem putAnswer_arr (m : Nat) (x : Answer) : (putAnswer m x s).arr = s.arr := rfl
@[simp] theorem putAnswer_hbm (m : Nat) (x : Answer) : (putAnswer m x s).hbm = s.hbm := rfl
@[simp] theorem putAnswer_hbmErr (m : Nat) (x : Answer) : (putAnswer m x s).hbmErr = s.hbmErr := rfl
@[simp] theorem putAnswer_sdg (m : Nat) (x : Answer) : (putAnswer m x s).sdg = s.sdg := rfl
@[simp] theorem putAnswer_chk (m : Nat) (x : Answer) : (putAnswer m x s).chk = s.chk := rfl
@[simp] theorem putAnswer_tbl (m : Nat) (x : Answer) : (putAnswer m x s).tbl = s.tbl := rfl
@[simp] theorem putAnswer_gau (m : Nat) (x : Answer) : (putAnswer m x s).gau = s.gau := rfl
@[simp] theorem putAnswer_pts (m : Nat) (x : Answer) : (putAnswer m x s).pts = s.pts := rfl
@[simp] theorem putAnswer_jct (m : Nat) (x : Answer) : (putAnswer m x s).jct = s.jct := rfl
@[simp] theorem putAnswer_ins (m : Nat) (x : Answer) : (putAnswer m x s).ins = s.ins := rfl
@[simp] theorem putAnswer_cpl (m : Nat) (x : Answer) : (putAnswer m x s).cpl = s.cpl := rfl
@[simp] theorem putAnswer_crash (m : Nat) (x : Answer) : (putAnswer m x s).crash = s.crash := rfl
@[simp] theorem putAnswer_ans (m : Nat) (x : Answer) : (putAnswer m x s).ans = s.ans.set (fun _ => {}) m x := rfl
@[simp] theorem putAnswer_ttb (m : Nat) (x : Answer) : (putAnswer m x s).ttb = s.ttb := rfl
@[simp] theorem putAnswer_outs (m : Nat) (x : Answer) : (putAnswer m x s).outs = s.outs := rfl
@[simp] theorem putAnswer_pow (m : Nat) (x : Answer) : (putAnswer m x s).pow = s.pow := rfl
@[simp] theorem putAnswer_cores (m : Nat) (x : Answer) : (putAnswer m x s).cores = s.cores := rfl
@[simp] theorem putAnswer_memErr (m : Nat) (x : Answer) : (putAnswer m x s).memErr = s.memErr := rfl
@[simp] theorem putAnswer_lockTimes (m : Nat) (x : Answer) : (putAnswer m x s).lockTimes = s.lockTimes := rfl
@[simp] theorem putAnswer_ilk (m : Nat) (x : Answer) : (putAnswer m x s).ilk = s.ilk := rfl
@[simp] theorem putAnswer_shunters (m : Nat) (x : Answer) : (putAnswer m x s).shunters = s.shunters := rfl
@[simp] theorem putAnswer_mgt (m : Nat) (x : Answer) : (putAnswer m x s).mgt = s.mgt := rfl
@[simp] theorem putAnswer_dep (m : Nat) (x : Answer) : (putAnswer m x s).dep = s.dep := rfl
@[simp] theorem putAnswer_flash (m : Nat) (x : Answer) : (putAnswer m x s).flash = s.flash := rfl
@[simp] theorem putAnswer_wakeReq (m : Nat) (x : Answer) : (putAnswer m x s).wakeReq = s.wakeReq := rfl
@[simp] theorem putAnswer_tmnHeld (m : Nat) (x : Answer) : (putAnswer m x s).tmnHeld = s.tmnHeld := rfl
@[simp] theorem putAnswer_beamHeld (m : Nat) (x : Answer) : (putAnswer m x s).beamHeld = s.beamHeld := rfl
@[simp] theorem putAnswer_health (m : Nat) (x : Answer) : (putAnswer m x s).health = s.health := rfl
@[simp] theorem putAnswer_phase (m : Nat) (x : Answer) : (putAnswer m x s).phase = s.phase := rfl
@[simp] theorem putAnswer_frac (m : Nat) (x : Answer) : (putAnswer m x s).frac = s.frac := rfl
@[simp] theorem putAnswer_free (m : Nat) (x : Answer) : (putAnswer m x s).free = s.free := rfl
@[simp] theorem putAnswer_pending (m : Nat) (x : Answer) : (putAnswer m x s).pending = s.pending := rfl

/-! ### putOut -/

@[simp] theorem putOut_regs (n : Nat) (x : Output) : (putOut n x s).regs = s.regs := rfl
@[simp] theorem putOut_latches (n : Nat) (x : Output) : (putOut n x s).latches = s.latches := rfl
@[simp] theorem putOut_lanes (n : Nat) (x : Output) : (putOut n x s).lanes = s.lanes := rfl
@[simp] theorem putOut_bellq (n : Nat) (x : Output) : (putOut n x s).bellq = s.bellq := rfl
@[simp] theorem putOut_arr (n : Nat) (x : Output) : (putOut n x s).arr = s.arr := rfl
@[simp] theorem putOut_hbm (n : Nat) (x : Output) : (putOut n x s).hbm = s.hbm := rfl
@[simp] theorem putOut_hbmErr (n : Nat) (x : Output) : (putOut n x s).hbmErr = s.hbmErr := rfl
@[simp] theorem putOut_sdg (n : Nat) (x : Output) : (putOut n x s).sdg = s.sdg := rfl
@[simp] theorem putOut_chk (n : Nat) (x : Output) : (putOut n x s).chk = s.chk := rfl
@[simp] theorem putOut_tbl (n : Nat) (x : Output) : (putOut n x s).tbl = s.tbl := rfl
@[simp] theorem putOut_gau (n : Nat) (x : Output) : (putOut n x s).gau = s.gau := rfl
@[simp] theorem putOut_pts (n : Nat) (x : Output) : (putOut n x s).pts = s.pts := rfl
@[simp] theorem putOut_jct (n : Nat) (x : Output) : (putOut n x s).jct = s.jct := rfl
@[simp] theorem putOut_ins (n : Nat) (x : Output) : (putOut n x s).ins = s.ins := rfl
@[simp] theorem putOut_cpl (n : Nat) (x : Output) : (putOut n x s).cpl = s.cpl := rfl
@[simp] theorem putOut_crash (n : Nat) (x : Output) : (putOut n x s).crash = s.crash := rfl
@[simp] theorem putOut_ans (n : Nat) (x : Output) : (putOut n x s).ans = s.ans := rfl
@[simp] theorem putOut_ttb (n : Nat) (x : Output) : (putOut n x s).ttb = s.ttb := rfl
@[simp] theorem putOut_outs (n : Nat) (x : Output) : (putOut n x s).outs = s.outs.set (fun _ => {}) n x := rfl
@[simp] theorem putOut_pow (n : Nat) (x : Output) : (putOut n x s).pow = s.pow := rfl
@[simp] theorem putOut_cores (n : Nat) (x : Output) : (putOut n x s).cores = s.cores := rfl
@[simp] theorem putOut_memErr (n : Nat) (x : Output) : (putOut n x s).memErr = s.memErr := rfl
@[simp] theorem putOut_lockTimes (n : Nat) (x : Output) : (putOut n x s).lockTimes = s.lockTimes := rfl
@[simp] theorem putOut_ilk (n : Nat) (x : Output) : (putOut n x s).ilk = s.ilk := rfl
@[simp] theorem putOut_shunters (n : Nat) (x : Output) : (putOut n x s).shunters = s.shunters := rfl
@[simp] theorem putOut_mgt (n : Nat) (x : Output) : (putOut n x s).mgt = s.mgt := rfl
@[simp] theorem putOut_dep (n : Nat) (x : Output) : (putOut n x s).dep = s.dep := rfl
@[simp] theorem putOut_flash (n : Nat) (x : Output) : (putOut n x s).flash = s.flash := rfl
@[simp] theorem putOut_wakeReq (n : Nat) (x : Output) : (putOut n x s).wakeReq = s.wakeReq := rfl
@[simp] theorem putOut_tmnHeld (n : Nat) (x : Output) : (putOut n x s).tmnHeld = s.tmnHeld := rfl
@[simp] theorem putOut_beamHeld (n : Nat) (x : Output) : (putOut n x s).beamHeld = s.beamHeld := rfl
@[simp] theorem putOut_health (n : Nat) (x : Output) : (putOut n x s).health = s.health := rfl
@[simp] theorem putOut_phase (n : Nat) (x : Output) : (putOut n x s).phase = s.phase := rfl
@[simp] theorem putOut_frac (n : Nat) (x : Output) : (putOut n x s).frac = s.frac := rfl
@[simp] theorem putOut_free (n : Nat) (x : Output) : (putOut n x s).free = s.free := rfl
@[simp] theorem putOut_pending (n : Nat) (x : Output) : (putOut n x s).pending = s.pending := rfl

/-! ### setMemErr -/

@[simp] theorem setMemErr_regs (a k : Nat) : (setMemErr a k s).regs = s.regs := rfl
@[simp] theorem setMemErr_latches (a k : Nat) : (setMemErr a k s).latches = s.latches := rfl
@[simp] theorem setMemErr_lanes (a k : Nat) : (setMemErr a k s).lanes = s.lanes := rfl
@[simp] theorem setMemErr_bellq (a k : Nat) : (setMemErr a k s).bellq = s.bellq := rfl
@[simp] theorem setMemErr_arr (a k : Nat) : (setMemErr a k s).arr = s.arr := rfl
@[simp] theorem setMemErr_hbm (a k : Nat) : (setMemErr a k s).hbm = s.hbm := rfl
@[simp] theorem setMemErr_hbmErr (a k : Nat) : (setMemErr a k s).hbmErr = s.hbmErr := rfl
@[simp] theorem setMemErr_sdg (a k : Nat) : (setMemErr a k s).sdg = s.sdg := rfl
@[simp] theorem setMemErr_chk (a k : Nat) : (setMemErr a k s).chk = s.chk := rfl
@[simp] theorem setMemErr_tbl (a k : Nat) : (setMemErr a k s).tbl = s.tbl := rfl
@[simp] theorem setMemErr_gau (a k : Nat) : (setMemErr a k s).gau = s.gau := rfl
@[simp] theorem setMemErr_pts (a k : Nat) : (setMemErr a k s).pts = s.pts := rfl
@[simp] theorem setMemErr_jct (a k : Nat) : (setMemErr a k s).jct = s.jct := rfl
@[simp] theorem setMemErr_ins (a k : Nat) : (setMemErr a k s).ins = s.ins := rfl
@[simp] theorem setMemErr_cpl (a k : Nat) : (setMemErr a k s).cpl = s.cpl := rfl
@[simp] theorem setMemErr_crash (a k : Nat) : (setMemErr a k s).crash = s.crash := rfl
@[simp] theorem setMemErr_ans (a k : Nat) : (setMemErr a k s).ans = s.ans := rfl
@[simp] theorem setMemErr_ttb (a k : Nat) : (setMemErr a k s).ttb = s.ttb := rfl
@[simp] theorem setMemErr_outs (a k : Nat) : (setMemErr a k s).outs = s.outs := rfl
@[simp] theorem setMemErr_pow (a k : Nat) : (setMemErr a k s).pow = s.pow := rfl
@[simp] theorem setMemErr_cores (a k : Nat) : (setMemErr a k s).cores = s.cores := rfl
@[simp] theorem setMemErr_memErr (a k : Nat) : (setMemErr a k s).memErr = s.memErr.set (fun _ => 0) a k := rfl
@[simp] theorem setMemErr_lockTimes (a k : Nat) : (setMemErr a k s).lockTimes = s.lockTimes := rfl
@[simp] theorem setMemErr_ilk (a k : Nat) : (setMemErr a k s).ilk = s.ilk := rfl
@[simp] theorem setMemErr_shunters (a k : Nat) : (setMemErr a k s).shunters = s.shunters := rfl
@[simp] theorem setMemErr_mgt (a k : Nat) : (setMemErr a k s).mgt = s.mgt := rfl
@[simp] theorem setMemErr_dep (a k : Nat) : (setMemErr a k s).dep = s.dep := rfl
@[simp] theorem setMemErr_flash (a k : Nat) : (setMemErr a k s).flash = s.flash := rfl
@[simp] theorem setMemErr_wakeReq (a k : Nat) : (setMemErr a k s).wakeReq = s.wakeReq := rfl
@[simp] theorem setMemErr_tmnHeld (a k : Nat) : (setMemErr a k s).tmnHeld = s.tmnHeld := rfl
@[simp] theorem setMemErr_beamHeld (a k : Nat) : (setMemErr a k s).beamHeld = s.beamHeld := rfl
@[simp] theorem setMemErr_health (a k : Nat) : (setMemErr a k s).health = s.health := rfl
@[simp] theorem setMemErr_phase (a k : Nat) : (setMemErr a k s).phase = s.phase := rfl
@[simp] theorem setMemErr_frac (a k : Nat) : (setMemErr a k s).frac = s.frac := rfl
@[simp] theorem setMemErr_free (a k : Nat) : (setMemErr a k s).free = s.free := rfl
@[simp] theorem setMemErr_pending (a k : Nat) : (setMemErr a k s).pending = s.pending := rfl

/-! ### putPow -/

@[simp] theorem putPow_regs (x : Power) : (putPow x s).regs = s.regs := rfl
@[simp] theorem putPow_latches (x : Power) : (putPow x s).latches = s.latches := rfl
@[simp] theorem putPow_lanes (x : Power) : (putPow x s).lanes = s.lanes := rfl
@[simp] theorem putPow_bellq (x : Power) : (putPow x s).bellq = s.bellq := rfl
@[simp] theorem putPow_arr (x : Power) : (putPow x s).arr = s.arr := rfl
@[simp] theorem putPow_hbm (x : Power) : (putPow x s).hbm = s.hbm := rfl
@[simp] theorem putPow_hbmErr (x : Power) : (putPow x s).hbmErr = s.hbmErr := rfl
@[simp] theorem putPow_sdg (x : Power) : (putPow x s).sdg = s.sdg := rfl
@[simp] theorem putPow_chk (x : Power) : (putPow x s).chk = s.chk := rfl
@[simp] theorem putPow_tbl (x : Power) : (putPow x s).tbl = s.tbl := rfl
@[simp] theorem putPow_gau (x : Power) : (putPow x s).gau = s.gau := rfl
@[simp] theorem putPow_pts (x : Power) : (putPow x s).pts = s.pts := rfl
@[simp] theorem putPow_jct (x : Power) : (putPow x s).jct = s.jct := rfl
@[simp] theorem putPow_ins (x : Power) : (putPow x s).ins = s.ins := rfl
@[simp] theorem putPow_cpl (x : Power) : (putPow x s).cpl = s.cpl := rfl
@[simp] theorem putPow_crash (x : Power) : (putPow x s).crash = s.crash := rfl
@[simp] theorem putPow_ans (x : Power) : (putPow x s).ans = s.ans := rfl
@[simp] theorem putPow_ttb (x : Power) : (putPow x s).ttb = s.ttb := rfl
@[simp] theorem putPow_outs (x : Power) : (putPow x s).outs = s.outs := rfl
@[simp] theorem putPow_pow (x : Power) : (putPow x s).pow = x := rfl
@[simp] theorem putPow_cores (x : Power) : (putPow x s).cores = s.cores := rfl
@[simp] theorem putPow_memErr (x : Power) : (putPow x s).memErr = s.memErr := rfl
@[simp] theorem putPow_lockTimes (x : Power) : (putPow x s).lockTimes = s.lockTimes := rfl
@[simp] theorem putPow_ilk (x : Power) : (putPow x s).ilk = s.ilk := rfl
@[simp] theorem putPow_shunters (x : Power) : (putPow x s).shunters = s.shunters := rfl
@[simp] theorem putPow_mgt (x : Power) : (putPow x s).mgt = s.mgt := rfl
@[simp] theorem putPow_dep (x : Power) : (putPow x s).dep = s.dep := rfl
@[simp] theorem putPow_flash (x : Power) : (putPow x s).flash = s.flash := rfl
@[simp] theorem putPow_wakeReq (x : Power) : (putPow x s).wakeReq = s.wakeReq := rfl
@[simp] theorem putPow_tmnHeld (x : Power) : (putPow x s).tmnHeld = s.tmnHeld := rfl
@[simp] theorem putPow_beamHeld (x : Power) : (putPow x s).beamHeld = s.beamHeld := rfl
@[simp] theorem putPow_health (x : Power) : (putPow x s).health = s.health := rfl
@[simp] theorem putPow_phase (x : Power) : (putPow x s).phase = s.phase := rfl
@[simp] theorem putPow_frac (x : Power) : (putPow x s).frac = s.frac := rfl
@[simp] theorem putPow_free (x : Power) : (putPow x s).free = s.free := rfl
@[simp] theorem putPow_pending (x : Power) : (putPow x s).pending = s.pending := rfl

/-! ### putIns -/

@[simp] theorem putIns_regs (x : Inspection) : (putIns x s).regs = s.regs := rfl
@[simp] theorem putIns_latches (x : Inspection) : (putIns x s).latches = s.latches := rfl
@[simp] theorem putIns_lanes (x : Inspection) : (putIns x s).lanes = s.lanes := rfl
@[simp] theorem putIns_bellq (x : Inspection) : (putIns x s).bellq = s.bellq := rfl
@[simp] theorem putIns_arr (x : Inspection) : (putIns x s).arr = s.arr := rfl
@[simp] theorem putIns_hbm (x : Inspection) : (putIns x s).hbm = s.hbm := rfl
@[simp] theorem putIns_hbmErr (x : Inspection) : (putIns x s).hbmErr = s.hbmErr := rfl
@[simp] theorem putIns_sdg (x : Inspection) : (putIns x s).sdg = s.sdg := rfl
@[simp] theorem putIns_chk (x : Inspection) : (putIns x s).chk = s.chk := rfl
@[simp] theorem putIns_tbl (x : Inspection) : (putIns x s).tbl = s.tbl := rfl
@[simp] theorem putIns_gau (x : Inspection) : (putIns x s).gau = s.gau := rfl
@[simp] theorem putIns_pts (x : Inspection) : (putIns x s).pts = s.pts := rfl
@[simp] theorem putIns_jct (x : Inspection) : (putIns x s).jct = s.jct := rfl
@[simp] theorem putIns_ins (x : Inspection) : (putIns x s).ins = x := rfl
@[simp] theorem putIns_cpl (x : Inspection) : (putIns x s).cpl = s.cpl := rfl
@[simp] theorem putIns_crash (x : Inspection) : (putIns x s).crash = s.crash := rfl
@[simp] theorem putIns_ans (x : Inspection) : (putIns x s).ans = s.ans := rfl
@[simp] theorem putIns_ttb (x : Inspection) : (putIns x s).ttb = s.ttb := rfl
@[simp] theorem putIns_outs (x : Inspection) : (putIns x s).outs = s.outs := rfl
@[simp] theorem putIns_pow (x : Inspection) : (putIns x s).pow = s.pow := rfl
@[simp] theorem putIns_cores (x : Inspection) : (putIns x s).cores = s.cores := rfl
@[simp] theorem putIns_memErr (x : Inspection) : (putIns x s).memErr = s.memErr := rfl
@[simp] theorem putIns_lockTimes (x : Inspection) : (putIns x s).lockTimes = s.lockTimes := rfl
@[simp] theorem putIns_ilk (x : Inspection) : (putIns x s).ilk = s.ilk := rfl
@[simp] theorem putIns_shunters (x : Inspection) : (putIns x s).shunters = s.shunters := rfl
@[simp] theorem putIns_mgt (x : Inspection) : (putIns x s).mgt = s.mgt := rfl
@[simp] theorem putIns_dep (x : Inspection) : (putIns x s).dep = s.dep := rfl
@[simp] theorem putIns_flash (x : Inspection) : (putIns x s).flash = s.flash := rfl
@[simp] theorem putIns_wakeReq (x : Inspection) : (putIns x s).wakeReq = s.wakeReq := rfl
@[simp] theorem putIns_tmnHeld (x : Inspection) : (putIns x s).tmnHeld = s.tmnHeld := rfl
@[simp] theorem putIns_beamHeld (x : Inspection) : (putIns x s).beamHeld = s.beamHeld := rfl
@[simp] theorem putIns_health (x : Inspection) : (putIns x s).health = s.health := rfl
@[simp] theorem putIns_phase (x : Inspection) : (putIns x s).phase = s.phase := rfl
@[simp] theorem putIns_frac (x : Inspection) : (putIns x s).frac = s.frac := rfl
@[simp] theorem putIns_free (x : Inspection) : (putIns x s).free = s.free := rfl
@[simp] theorem putIns_pending (x : Inspection) : (putIns x s).pending = s.pending := rfl

/-! ### putJct -/

@[simp] theorem putJct_regs (x : Junction) : (putJct x s).regs = s.regs := rfl
@[simp] theorem putJct_latches (x : Junction) : (putJct x s).latches = s.latches := rfl
@[simp] theorem putJct_lanes (x : Junction) : (putJct x s).lanes = s.lanes := rfl
@[simp] theorem putJct_bellq (x : Junction) : (putJct x s).bellq = s.bellq := rfl
@[simp] theorem putJct_arr (x : Junction) : (putJct x s).arr = s.arr := rfl
@[simp] theorem putJct_hbm (x : Junction) : (putJct x s).hbm = s.hbm := rfl
@[simp] theorem putJct_hbmErr (x : Junction) : (putJct x s).hbmErr = s.hbmErr := rfl
@[simp] theorem putJct_sdg (x : Junction) : (putJct x s).sdg = s.sdg := rfl
@[simp] theorem putJct_chk (x : Junction) : (putJct x s).chk = s.chk := rfl
@[simp] theorem putJct_tbl (x : Junction) : (putJct x s).tbl = s.tbl := rfl
@[simp] theorem putJct_gau (x : Junction) : (putJct x s).gau = s.gau := rfl
@[simp] theorem putJct_pts (x : Junction) : (putJct x s).pts = s.pts := rfl
@[simp] theorem putJct_jct (x : Junction) : (putJct x s).jct = x := rfl
@[simp] theorem putJct_ins (x : Junction) : (putJct x s).ins = s.ins := rfl
@[simp] theorem putJct_cpl (x : Junction) : (putJct x s).cpl = s.cpl := rfl
@[simp] theorem putJct_crash (x : Junction) : (putJct x s).crash = s.crash := rfl
@[simp] theorem putJct_ans (x : Junction) : (putJct x s).ans = s.ans := rfl
@[simp] theorem putJct_ttb (x : Junction) : (putJct x s).ttb = s.ttb := rfl
@[simp] theorem putJct_outs (x : Junction) : (putJct x s).outs = s.outs := rfl
@[simp] theorem putJct_pow (x : Junction) : (putJct x s).pow = s.pow := rfl
@[simp] theorem putJct_cores (x : Junction) : (putJct x s).cores = s.cores := rfl
@[simp] theorem putJct_memErr (x : Junction) : (putJct x s).memErr = s.memErr := rfl
@[simp] theorem putJct_lockTimes (x : Junction) : (putJct x s).lockTimes = s.lockTimes := rfl
@[simp] theorem putJct_ilk (x : Junction) : (putJct x s).ilk = s.ilk := rfl
@[simp] theorem putJct_shunters (x : Junction) : (putJct x s).shunters = s.shunters := rfl
@[simp] theorem putJct_mgt (x : Junction) : (putJct x s).mgt = s.mgt := rfl
@[simp] theorem putJct_dep (x : Junction) : (putJct x s).dep = s.dep := rfl
@[simp] theorem putJct_flash (x : Junction) : (putJct x s).flash = s.flash := rfl
@[simp] theorem putJct_wakeReq (x : Junction) : (putJct x s).wakeReq = s.wakeReq := rfl
@[simp] theorem putJct_tmnHeld (x : Junction) : (putJct x s).tmnHeld = s.tmnHeld := rfl
@[simp] theorem putJct_beamHeld (x : Junction) : (putJct x s).beamHeld = s.beamHeld := rfl
@[simp] theorem putJct_health (x : Junction) : (putJct x s).health = s.health := rfl
@[simp] theorem putJct_phase (x : Junction) : (putJct x s).phase = s.phase := rfl
@[simp] theorem putJct_frac (x : Junction) : (putJct x s).frac = s.frac := rfl
@[simp] theorem putJct_free (x : Junction) : (putJct x s).free = s.free := rfl
@[simp] theorem putJct_pending (x : Junction) : (putJct x s).pending = s.pending := rfl

/-! ### putMgt -/

@[simp] theorem putMgt_regs (x : Mgmt) : (putMgt x s).regs = s.regs := rfl
@[simp] theorem putMgt_latches (x : Mgmt) : (putMgt x s).latches = s.latches := rfl
@[simp] theorem putMgt_lanes (x : Mgmt) : (putMgt x s).lanes = s.lanes := rfl
@[simp] theorem putMgt_bellq (x : Mgmt) : (putMgt x s).bellq = s.bellq := rfl
@[simp] theorem putMgt_arr (x : Mgmt) : (putMgt x s).arr = s.arr := rfl
@[simp] theorem putMgt_hbm (x : Mgmt) : (putMgt x s).hbm = s.hbm := rfl
@[simp] theorem putMgt_hbmErr (x : Mgmt) : (putMgt x s).hbmErr = s.hbmErr := rfl
@[simp] theorem putMgt_sdg (x : Mgmt) : (putMgt x s).sdg = s.sdg := rfl
@[simp] theorem putMgt_chk (x : Mgmt) : (putMgt x s).chk = s.chk := rfl
@[simp] theorem putMgt_tbl (x : Mgmt) : (putMgt x s).tbl = s.tbl := rfl
@[simp] theorem putMgt_gau (x : Mgmt) : (putMgt x s).gau = s.gau := rfl
@[simp] theorem putMgt_pts (x : Mgmt) : (putMgt x s).pts = s.pts := rfl
@[simp] theorem putMgt_jct (x : Mgmt) : (putMgt x s).jct = s.jct := rfl
@[simp] theorem putMgt_ins (x : Mgmt) : (putMgt x s).ins = s.ins := rfl
@[simp] theorem putMgt_cpl (x : Mgmt) : (putMgt x s).cpl = s.cpl := rfl
@[simp] theorem putMgt_crash (x : Mgmt) : (putMgt x s).crash = s.crash := rfl
@[simp] theorem putMgt_ans (x : Mgmt) : (putMgt x s).ans = s.ans := rfl
@[simp] theorem putMgt_ttb (x : Mgmt) : (putMgt x s).ttb = s.ttb := rfl
@[simp] theorem putMgt_outs (x : Mgmt) : (putMgt x s).outs = s.outs := rfl
@[simp] theorem putMgt_pow (x : Mgmt) : (putMgt x s).pow = s.pow := rfl
@[simp] theorem putMgt_cores (x : Mgmt) : (putMgt x s).cores = s.cores := rfl
@[simp] theorem putMgt_memErr (x : Mgmt) : (putMgt x s).memErr = s.memErr := rfl
@[simp] theorem putMgt_lockTimes (x : Mgmt) : (putMgt x s).lockTimes = s.lockTimes := rfl
@[simp] theorem putMgt_ilk (x : Mgmt) : (putMgt x s).ilk = s.ilk := rfl
@[simp] theorem putMgt_shunters (x : Mgmt) : (putMgt x s).shunters = s.shunters := rfl
@[simp] theorem putMgt_mgt (x : Mgmt) : (putMgt x s).mgt = x := rfl
@[simp] theorem putMgt_dep (x : Mgmt) : (putMgt x s).dep = s.dep := rfl
@[simp] theorem putMgt_flash (x : Mgmt) : (putMgt x s).flash = s.flash := rfl
@[simp] theorem putMgt_wakeReq (x : Mgmt) : (putMgt x s).wakeReq = s.wakeReq := rfl
@[simp] theorem putMgt_tmnHeld (x : Mgmt) : (putMgt x s).tmnHeld = s.tmnHeld := rfl
@[simp] theorem putMgt_beamHeld (x : Mgmt) : (putMgt x s).beamHeld = s.beamHeld := rfl
@[simp] theorem putMgt_health (x : Mgmt) : (putMgt x s).health = s.health := rfl
@[simp] theorem putMgt_phase (x : Mgmt) : (putMgt x s).phase = s.phase := rfl
@[simp] theorem putMgt_frac (x : Mgmt) : (putMgt x s).frac = s.frac := rfl
@[simp] theorem putMgt_free (x : Mgmt) : (putMgt x s).free = s.free := rfl
@[simp] theorem putMgt_pending (x : Mgmt) : (putMgt x s).pending = s.pending := rfl

/-! ### putCpl -/

@[simp] theorem putCpl_regs (x : Coupling) : (putCpl x s).regs = s.regs := rfl
@[simp] theorem putCpl_latches (x : Coupling) : (putCpl x s).latches = s.latches := rfl
@[simp] theorem putCpl_lanes (x : Coupling) : (putCpl x s).lanes = s.lanes := rfl
@[simp] theorem putCpl_bellq (x : Coupling) : (putCpl x s).bellq = s.bellq := rfl
@[simp] theorem putCpl_arr (x : Coupling) : (putCpl x s).arr = s.arr := rfl
@[simp] theorem putCpl_hbm (x : Coupling) : (putCpl x s).hbm = s.hbm := rfl
@[simp] theorem putCpl_hbmErr (x : Coupling) : (putCpl x s).hbmErr = s.hbmErr := rfl
@[simp] theorem putCpl_sdg (x : Coupling) : (putCpl x s).sdg = s.sdg := rfl
@[simp] theorem putCpl_chk (x : Coupling) : (putCpl x s).chk = s.chk := rfl
@[simp] theorem putCpl_tbl (x : Coupling) : (putCpl x s).tbl = s.tbl := rfl
@[simp] theorem putCpl_gau (x : Coupling) : (putCpl x s).gau = s.gau := rfl
@[simp] theorem putCpl_pts (x : Coupling) : (putCpl x s).pts = s.pts := rfl
@[simp] theorem putCpl_jct (x : Coupling) : (putCpl x s).jct = s.jct := rfl
@[simp] theorem putCpl_ins (x : Coupling) : (putCpl x s).ins = s.ins := rfl
@[simp] theorem putCpl_cpl (x : Coupling) : (putCpl x s).cpl = x := rfl
@[simp] theorem putCpl_crash (x : Coupling) : (putCpl x s).crash = s.crash := rfl
@[simp] theorem putCpl_ans (x : Coupling) : (putCpl x s).ans = s.ans := rfl
@[simp] theorem putCpl_ttb (x : Coupling) : (putCpl x s).ttb = s.ttb := rfl
@[simp] theorem putCpl_outs (x : Coupling) : (putCpl x s).outs = s.outs := rfl
@[simp] theorem putCpl_pow (x : Coupling) : (putCpl x s).pow = s.pow := rfl
@[simp] theorem putCpl_cores (x : Coupling) : (putCpl x s).cores = s.cores := rfl
@[simp] theorem putCpl_memErr (x : Coupling) : (putCpl x s).memErr = s.memErr := rfl
@[simp] theorem putCpl_lockTimes (x : Coupling) : (putCpl x s).lockTimes = s.lockTimes := rfl
@[simp] theorem putCpl_ilk (x : Coupling) : (putCpl x s).ilk = s.ilk := rfl
@[simp] theorem putCpl_shunters (x : Coupling) : (putCpl x s).shunters = s.shunters := rfl
@[simp] theorem putCpl_mgt (x : Coupling) : (putCpl x s).mgt = s.mgt := rfl
@[simp] theorem putCpl_dep (x : Coupling) : (putCpl x s).dep = s.dep := rfl
@[simp] theorem putCpl_flash (x : Coupling) : (putCpl x s).flash = s.flash := rfl
@[simp] theorem putCpl_wakeReq (x : Coupling) : (putCpl x s).wakeReq = s.wakeReq := rfl
@[simp] theorem putCpl_tmnHeld (x : Coupling) : (putCpl x s).tmnHeld = s.tmnHeld := rfl
@[simp] theorem putCpl_beamHeld (x : Coupling) : (putCpl x s).beamHeld = s.beamHeld := rfl
@[simp] theorem putCpl_health (x : Coupling) : (putCpl x s).health = s.health := rfl
@[simp] theorem putCpl_phase (x : Coupling) : (putCpl x s).phase = s.phase := rfl
@[simp] theorem putCpl_frac (x : Coupling) : (putCpl x s).frac = s.frac := rfl
@[simp] theorem putCpl_free (x : Coupling) : (putCpl x s).free = s.free := rfl
@[simp] theorem putCpl_pending (x : Coupling) : (putCpl x s).pending = s.pending := rfl

end Sys2Proof.Machine
end

