-- ==== Sys2Proof/Laws/Store.lean ====
section
/-!
SUPPORT. What the operations of sparse storage do: a read after a write, and the canonical form, which every
operation keeps.
-/
namespace Sys2Proof.Machine

variable {α : Type}

/-! ### Reads -/

theorem Store.get_erase_same (d : Nat → α) (m : Store α) (k : Nat) : Store.get d (Store.erase k m) k = d k := by
  induction m with
  | nil => rfl
  | cons x t ih =>
    obtain ⟨k', v⟩ := x
    by_cases h : k = k' <;> simp [Store.erase, Store.get, h] <;> simpa [h] using ih

theorem Store.get_erase_other (d : Nat → α) (m : Store α) {k j : Nat} (h : j ≠ k) :
    Store.get d (Store.erase k m) j = Store.get d m j := by
  induction m with
  | nil => rfl
  | cons x t ih =>
    obtain ⟨k', v⟩ := x
    by_cases hk : k = k'
    · subst hk; simp [Store.erase, Store.get, h, ih]
    · by_cases hj : j = k' <;> simp [Store.erase, Store.get, hk, hj, ih]

theorem Store.get_insert_same (d : Nat → α) (m : Store α) (k : Nat) (v : α) (h : Store.get d m k = d k)
    (hk : ∀ x ∈ m, x.1 ≠ k) : Store.get d (Store.insert k v m) k = v := by
  induction m with
  | nil => simp [Store.insert, Store.get]
  | cons x t ih =>
    obtain ⟨k', v'⟩ := x
    have hne : k ≠ k' := fun e => hk (k', v') (by simp) e.symm
    by_cases hlt : k < k'
    · simp [Store.insert, Store.get, hlt]
    · simp only [Store.insert, Store.get, hlt, hne, if_false]
      simp only [Store.get, hne, if_false] at h
      exact ih h fun x hx => hk x (by simp [hx])

theorem Store.get_insert_other (d : Nat → α) (m : Store α) {k j : Nat} (v : α) (h : j ≠ k) :
    Store.get d (Store.insert k v m) j = Store.get d m j := by
  induction m with
  | nil => simp [Store.insert, Store.get, h]
  | cons x t ih =>
    obtain ⟨k', v'⟩ := x
    by_cases hlt : k < k'
    · simp [Store.insert, Store.get, hlt, h]
    · by_cases hj : j = k' <;> simp [Store.insert, Store.get, hlt, hj, ih]

theorem Store.not_mem_erase (m : Store α) (k : Nat) : ∀ x ∈ Store.erase k m, x.1 ≠ k := by
  induction m with
  | nil => simp [Store.erase]
  | cons y t ih =>
    obtain ⟨k', v⟩ := y
    by_cases h : k = k'
    · intro x hx
      rw [Store.erase, if_pos h] at hx
      exact ih x hx
    · intro x hx
      simp only [Store.erase, h, if_false, List.mem_cons] at hx
      rcases hx with rfl | hx
      · exact fun e => h e.symm
      · exact ih x hx

/-- A read of the key just written gives the value written. -/
@[simp] theorem Store.get_set_same [DecidableEq α] (d : Nat → α) (m : Store α) (k : Nat) (v : α) :
    Store.get d (Store.set d m k v) k = v := by
  unfold Store.set
  split
  · next h => rw [Store.get_erase_same, h]
  · exact Store.get_insert_same d _ k v (Store.get_erase_same d m k) (Store.not_mem_erase m k)

/-- A write leaves every other key alone. -/
theorem Store.get_set_other [DecidableEq α] (d : Nat → α) (m : Store α) {k j : Nat} (v : α) (h : j ≠ k) :
    Store.get d (Store.set d m k v) j = Store.get d m j := by
  unfold Store.set
  split
  · exact Store.get_erase_other d m h
  · rw [Store.get_insert_other d _ v h, Store.get_erase_other d m h]

theorem Store.get_set [DecidableEq α] (d : Nat → α) (m : Store α) (k j : Nat) (v : α) :
    Store.get d (Store.set d m k v) j = if j = k then v else Store.get d m j := by
  split
  · next h => rw [h, Store.get_set_same]
  · next h => exact Store.get_set_other d m v h

/-- What `keep` keeps reads as before; the rest reads as unlisted. -/
theorem Store.get_keep (d : Nat → α) (p : Nat → Bool) (m : Store α) (k : Nat) :
    Store.get d (Store.keep p m) k = if p k then Store.get d m k else d k := by
  induction m with
  | nil => simp [Store.keep, Store.get]
  | cons x t ih =>
    obtain ⟨k', v⟩ := x
    by_cases hp : p k' <;> by_cases hk : k = k' <;> simp_all [Store.keep, Store.get]

/-! ### The canonical form -/

/-- `b` bounds the key from below. -/
def Store.above (b : Option Nat) (k : Nat) : Bool := match b with | none => true | some x => decide (x < k)

theorem Store.wfFrom_cons [DecidableEq α] (d : Nat → α) (b : Option Nat) (k : Nat) (v : α) (t : Store α) :
    Store.wfFrom d b ((k, v) :: t) = (Store.above b k && decide (v ≠ d k) && Store.wfFrom d (some k) t) := by
  cases b <;> rfl

theorem Store.wfFrom_weaken [DecidableEq α] (d : Nat → α) {b c : Option Nat} (m : Store α)
    (h : ∀ k, Store.above b k → Store.above c k) : Store.wfFrom d b m → Store.wfFrom d c m := by
  cases m with
  | nil => intro _; rfl
  | cons x t =>
    obtain ⟨k, v⟩ := x
    simp only [Store.wfFrom_cons, Bool.and_eq_true]
    exact fun hw => ⟨⟨h k hw.1.1, hw.1.2⟩, hw.2⟩

theorem Store.wfFrom_erase [DecidableEq α] (d : Nat → α) (k : Nat) (m : Store α) :
    ∀ b, Store.wfFrom d b m → Store.wfFrom d b (Store.erase k m) := by
  induction m with
  | nil => intro b h; exact h
  | cons x t ih =>
    obtain ⟨k', v⟩ := x
    intro b h
    simp only [Store.wfFrom_cons, Bool.and_eq_true] at h
    by_cases hk : k = k'
    · simp only [Store.erase, hk, if_true]
      refine Store.wfFrom_weaken d _ ?_ (hk ▸ ih _ h.2)
      intro j hj
      cases b with
      | none => rfl
      | some y => simp only [Store.above, decide_eq_true_eq] at *; have := h.1.1; omega
    · simp only [Store.erase, hk, if_false, Store.wfFrom_cons, Bool.and_eq_true]
      exact ⟨h.1, ih _ h.2⟩

theorem Store.wfFrom_insert [DecidableEq α] (d : Nat → α) (k : Nat) (v : α) (hv : v ≠ d k) (m : Store α) :
    ∀ b, Store.above b k → (∀ x ∈ m, x.1 ≠ k) → Store.wfFrom d b m → Store.wfFrom d b (Store.insert k v m) := by
  induction m with
  | nil => intro b hb _ _; simp [Store.insert, Store.wfFrom_cons, hb, hv, Store.wfFrom]
  | cons x t ih =>
    obtain ⟨k', v'⟩ := x
    intro b hb hm h
    simp only [Store.wfFrom_cons, Bool.and_eq_true] at h
    have hne : k' ≠ k := hm (k', v') (by simp)
    by_cases hlt : k < k'
    · simp only [Store.insert, hlt, if_true, Store.wfFrom_cons, Bool.and_eq_true]
      exact ⟨⟨hb, by simpa using hv⟩, ⟨by simpa [Store.above] using hlt, h.1.2⟩, h.2⟩
    · simp only [Store.insert, hlt, if_false, Store.wfFrom_cons, Bool.and_eq_true]
      exact ⟨h.1, ih _ (by simp [Store.above]; omega) (fun x hx => hm x (by simp [hx])) h.2⟩

theorem Store.wfFrom_keep [DecidableEq α] (d : Nat → α) (p : Nat → Bool) (m : Store α) :
    ∀ b, Store.wfFrom d b m → Store.wfFrom d b (Store.keep p m) := by
  induction m with
  | nil => intro b h; exact h
  | cons x t ih =>
    obtain ⟨k', v⟩ := x
    intro b h
    simp only [Store.wfFrom_cons, Bool.and_eq_true] at h
    by_cases hp : p k'
    · simp only [Store.keep, hp, if_true, Store.wfFrom_cons, Bool.and_eq_true]
      exact ⟨h.1, ih _ h.2⟩
    · simp only [Store.keep, hp]
      refine Store.wfFrom_weaken d _ ?_ (ih _ h.2)
      intro j hj
      cases b with
      | none => rfl
      | some y => simp only [Store.above, decide_eq_true_eq] at *; have := h.1.1; omega

/-- A write keeps the canonical form. -/
theorem Store.wf_set [DecidableEq α] (d : Nat → α) (m : Store α) (k : Nat) (v : α) (h : Store.wf d m) :
    Store.wf d (Store.set d m k v) := by
  unfold Store.set Store.wf
  split
  · exact Store.wfFrom_erase d k m none h
  · next hv => exact Store.wfFrom_insert d k v hv _ none rfl (Store.not_mem_erase m k) (Store.wfFrom_erase d k m none h)

/-- Dropping entries keeps the canonical form. -/
theorem Store.wf_keep [DecidableEq α] (d : Nat → α) (p : Nat → Bool) (m : Store α) (h : Store.wf d m) :
    Store.wf d (Store.keep p m) := Store.wfFrom_keep d p m none h

theorem Store.wf_nil [DecidableEq α] (d : Nat → α) : Store.wf d ([] : Store α) := rfl

end Sys2Proof.Machine
end

