-- ==== Sys2Proof/Laws/Ops.lean ====
section
/-!
SUPPORT. What the operations over words, fields, lanes and the Block Bell do: reads after writes, and frames.
-/
namespace Sys2Proof.Machine
open Sys2Proof.Safety

/-! ### Words -/

theorem wr_regs (a : Nat) (v : Word) (s : State) : (wr a v s).regs = s.regs.set resetWord a v := rfl

/-- A word just written reads as written. -/
@[simp] theorem rd_wr_same (a : Nat) (v : Word) (s : State) : rd a (wr a v s) = v := Store.get_set_same _ _ _ _

theorem rd_wr (a b : Nat) (v : Word) (s : State) : rd b (wr a v s) = if b = a then v else rd b s :=
  Store.get_set _ _ _ _ _

/-- A write leaves every other word alone. -/
theorem rd_wr_other {a b : Nat} (v : Word) (s : State) (h : b ≠ a) : rd b (wr a v s) = rd b s :=
  Store.get_set_other _ _ _ h

/-- A read depends on the control space alone. -/
theorem rd_congr {s t : State} (h : t.regs = s.regs) (a : Nat) : rd a t = rd a s := by unfold rd; rw [h]

theorem getF_congr {s t : State} {b : Nat} {f : Fld} (h : rd (b + f.sub) t = rd (b + f.sub) s) : getF b f t = getF b f s := by
  unfold getF; rw [h]

/-! ### Bits -/

theorem putBits_toNat (x : Word) (lo w v : Nat) (h : lo + w ≤ 40) :
    (putBits x lo w v).toNat = x.toNat / 2 ^ (lo + w) * 2 ^ (lo + w) + v % 2 ^ w * 2 ^ lo + x.toNat % 2 ^ lo := by
  have hx := x.isLt
  have hv : v % 2 ^ w < 2 ^ w := Nat.mod_lt _ (by positivity)
  have hl : x.toNat % 2 ^ lo < 2 ^ lo := Nat.mod_lt _ (by positivity)
  have hs : v % 2 ^ w * 2 ^ lo + x.toNat % 2 ^ lo < 2 ^ (lo + w) := by
    have hm := Nat.mul_le_mul_right (2 ^ lo) (Nat.succ_le_of_lt hv)
    rw [Nat.succ_mul, ← pow_add, Nat.add_comm w lo] at hm
    omega
  have hd : x.toNat / 2 ^ (lo + w) * 2 ^ (lo + w) ≤ (2 ^ 40 / 2 ^ (lo + w) - 1) * 2 ^ (lo + w) := by
    refine Nat.mul_le_mul_right _ (Nat.le_sub_one_of_lt ?_)
    rw [Nat.div_lt_iff_lt_mul (by positivity), Nat.div_mul_cancel (pow_dvd_pow 2 h)]
    exact hx
  have he : (2 ^ 40 / 2 ^ (lo + w) - 1) * 2 ^ (lo + w) + 2 ^ (lo + w) = 2 ^ 40 := by
    have h1 : 1 ≤ 2 ^ 40 / 2 ^ (lo + w) :=
      (Nat.le_div_iff_mul_le (by positivity)).2 (by rw [one_mul]; exact Nat.pow_le_pow_right (by norm_num) h)
    rw [Nat.sub_mul, one_mul, Nat.sub_add_cancel (Nat.le_mul_of_pos_left _ h1)]
    exact Nat.div_mul_cancel (pow_dvd_pow 2 h)
  unfold putBits
  rw [BitVec.toNat_ofNat]
  exact Nat.mod_eq_of_lt (by omega)

/-- The field just put reads as put, modulo its width. -/
theorem bitsOf_putBits_same (x : Word) (lo w v : Nat) (h : lo + w ≤ 40) : bitsOf (putBits x lo w v) lo w = v % 2 ^ w := by
  have hl : x.toNat % 2 ^ lo < 2 ^ lo := Nat.mod_lt _ (by positivity)
  have e : x.toNat / 2 ^ (lo + w) * 2 ^ (lo + w) + v % 2 ^ w * 2 ^ lo + x.toNat % 2 ^ lo
      = x.toNat % 2 ^ lo + 2 ^ lo * (2 ^ w * (x.toNat / 2 ^ (lo + w)) + v % 2 ^ w) := by rw [pow_add]; ring
  unfold bitsOf
  rw [putBits_toNat x lo w v h, e, Nat.add_mul_div_left _ _ (by positivity), Nat.div_eq_of_lt hl, zero_add,
    Nat.mul_add_mod, Nat.mod_mod]

/-- A field below the one that is put reads as before. -/
theorem bitsOf_putBits_below (x : Word) {lo w v lo' w' : Nat} (h : lo + w ≤ 40) (hb : lo' + w' ≤ lo) :
    bitsOf (putBits x lo w v) lo' w' = bitsOf x lo' w' := by
  have hm : (putBits x lo w v).toNat % 2 ^ lo = x.toNat % 2 ^ lo := by
    have e : x.toNat / 2 ^ (lo + w) * 2 ^ (lo + w) + v % 2 ^ w * 2 ^ lo + x.toNat % 2 ^ lo
        = 2 ^ lo * (2 ^ w * (x.toNat / 2 ^ (lo + w)) + v % 2 ^ w) + x.toNat % 2 ^ lo := by rw [pow_add]; ring
    rw [putBits_toNat x lo w v h, e, Nat.mul_add_mod, Nat.mod_mod]
  have hd : 2 ^ (lo' + w') ∣ 2 ^ lo := pow_dvd_pow 2 hb
  unfold bitsOf
  rw [← Nat.mod_mul_right_div_self, ← Nat.mod_mul_right_div_self, ← pow_add, ← Nat.mod_mod_of_dvd _ hd, hm,
    Nat.mod_mod_of_dvd _ hd]

/-- A field above the one that is put reads as before. -/
theorem bitsOf_putBits_above (x : Word) {lo w v lo' w' : Nat} (h : lo + w ≤ 40) (hb : lo + w ≤ lo') :
    bitsOf (putBits x lo w v) lo' w' = bitsOf x lo' w' := by
  have hl : x.toNat % 2 ^ lo < 2 ^ lo := Nat.mod_lt _ (by positivity)
  have hv : v % 2 ^ w < 2 ^ w := Nat.mod_lt _ (by positivity)
  have hs : v % 2 ^ w * 2 ^ lo + x.toNat % 2 ^ lo < 2 ^ (lo + w) := by
    have hm := Nat.mul_le_mul_right (2 ^ lo) (Nat.succ_le_of_lt hv)
    rw [Nat.succ_mul, ← pow_add, Nat.add_comm w lo] at hm
    omega
  have hq : (putBits x lo w v).toNat / 2 ^ (lo + w) = x.toNat / 2 ^ (lo + w) := by
    rw [putBits_toNat x lo w v h, add_assoc, Nat.add_comm, Nat.add_mul_div_right _ _ (by positivity), Nat.div_eq_of_lt hs,
      zero_add]
  unfold bitsOf
  obtain ⟨k, rfl⟩ := Nat.exists_eq_add_of_le hb
  rw [pow_add, ← Nat.div_div_eq_div_mul, ← Nat.div_div_eq_div_mul, hq]

/-! ### Fields -/

theorem setF_regs (b : Nat) (f : Fld) (v : Nat) (s : State) :
    (setF b f v s).regs = s.regs.set resetWord (b + f.sub) (putBits (rd (b + f.sub) s) f.lo f.w v) := rfl

theorem rd_setF (b a : Nat) (f : Fld) (v : Nat) (s : State) :
    rd a (setF b f v s) = if a = b + f.sub then putBits (rd (b + f.sub) s) f.lo f.w v else rd a s := rd_wr _ _ _ _

theorem rd_setF_other {b a : Nat} {f : Fld} (v : Nat) (s : State) (h : a ≠ b + f.sub) : rd a (setF b f v s) = rd a s :=
  rd_wr_other _ _ h

/-- The field just set reads as set, modulo its width. -/
theorem getF_setF_same (b : Nat) (f : Fld) (v : Nat) (s : State) (h : f.lo + f.w ≤ 40) :
    getF b f (setF b f v s) = v % 2 ^ f.w := by
  unfold getF; rw [rd_setF, if_pos rfl]; exact bitsOf_putBits_same _ _ _ _ h

/-- A field of another word reads as before. -/
theorem getF_setF_other {b c : Nat} {f g : Fld} (v : Nat) (s : State) (h : c + g.sub ≠ b + f.sub) :
    getF c g (setF b f v s) = getF c g s := getF_congr (rd_setF_other v s h)

/-- A field of the same word that shares no bit reads as before. -/
theorem getF_setF_apart {b c : Nat} {f g : Fld} (v : Nat) (s : State) (h : f.lo + f.w ≤ 40)
    (ha : g.lo + g.w ≤ f.lo ∨ f.lo + f.w ≤ g.lo) : getF c g (setF b f v s) = getF c g s := by
  unfold getF; rw [rd_setF]
  split
  · next e =>
    rw [e]; rcases ha with ha | ha
    · exact bitsOf_putBits_below _ h ha
    · exact bitsOf_putBits_above _ h ha
  · rfl

theorem isSet_setF_other {b c : Nat} {f g : Fld} (v : Nat) (s : State) (h : c + g.sub ≠ b + f.sub) :
    isSet c g (setF b f v s) = isSet c g s := by unfold isSet; rw [getF_setF_other v s h]

theorem getBit_setF_other {b c k : Nat} {f g : Fld} (v : Nat) (s : State) (h : c + g.sub ≠ b + f.sub) :
    getBit c g k (setF b f v s) = getBit c g k s := by unfold getBit; rw [getF_setF_other v s h]

/-- The bit just set reads as set. -/
theorem getBit_setBit_same (b : Nat) (f : Fld) (k : Nat) (v : Bool) (s : State) (hk : k < f.w) (h : f.lo + f.w ≤ 40) :
    getBit b f k (setBit b f k v s) = v := by
  have e : ∀ x : Word, bitsOf x f.lo f.w / 2 ^ k % 2 = bitsOf x (f.lo + k) 1 := by
    intro x
    unfold bitsOf
    obtain ⟨j, hj⟩ := Nat.exists_eq_add_of_lt hk
    rw [hj, pow_add 2 f.lo k, ← Nat.div_div_eq_div_mul, add_assoc, pow_add 2 k, Nat.mod_mul_right_div_self,
      Nat.mod_mod_of_dvd _ (by rw [pow_succ]; exact Dvd.intro_left _ rfl)]
    rfl
  unfold getBit getF
  rw [e]
  have := getF_setF_same b ⟨f.sub, f.lo + k, 1⟩ (if v then 1 else 0) s (by simp only; omega)
  unfold getF at this
  unfold setBit
  rw [this]
  cases v <;> rfl

/-! ### Components that other updates do not touch -/

@[simp] theorem rd_setLane (a i : Nat) (l : Lane) (s : State) : rd a (setLane i l s) = rd a s := rfl
@[simp] theorem rd_setQueue (a c : Nat) (q : List (Nat × Bool)) (s : State) : rd a (setQueue c q s) = rd a s := rfl
@[simp] theorem rd_putCore (a n : Nat) (c : Core) (s : State) : rd a (putCore n c s) = rd a s := rfl
@[simp] theorem rd_putPow (a : Nat) (x : Power) (s : State) : rd a (putPow x s) = rd a s := rfl
@[simp] theorem rd_putJct (a : Nat) (x : Junction) (s : State) : rd a (putJct x s) = rd a s := rfl
@[simp] theorem rd_putIns (a : Nat) (x : Inspection) (s : State) : rd a (putIns x s) = rd a s := rfl
@[simp] theorem rd_putMgt (a : Nat) (x : Mgmt) (s : State) : rd a (putMgt x s) = rd a s := rfl
@[simp] theorem rd_putCpl (a : Nat) (x : Coupling) (s : State) : rd a (putCpl x s) = rd a s := rfl
@[simp] theorem rd_putOut (a n : Nat) (x : Output) (s : State) : rd a (putOut n x s) = rd a s := rfl
@[simp] theorem rd_putAnswer (a m : Nat) (x : Answer) (s : State) : rd a (putAnswer m x s) = rd a s := rfl
@[simp] theorem rd_putShunter (a k : Nat) (x : Shunter) (s : State) : rd a (putShunter k x s) = rd a s := rfl
@[simp] theorem rd_setMemErr (a b k : Nat) (s : State) : rd a (setMemErr b k s) = rd a s := rfl

@[simp] theorem laneOf_setLane_same (i : Nat) (l : Lane) (s : State) : laneOf i (setLane i l s) = l := Store.get_set_same _ _ _ _
theorem laneOf_setLane_other {i j : Nat} (l : Lane) (s : State) (h : j ≠ i) : laneOf j (setLane i l s) = laneOf j s :=
  Store.get_set_other _ _ _ h
@[simp] theorem coreOf_putCore_same (n : Nat) (c : Core) (s : State) : coreOf n (putCore n c s) = c := Store.get_set_same _ _ _ _
theorem coreOf_putCore_other {n k : Nat} (c : Core) (s : State) (h : k ≠ n) : coreOf k (putCore n c s) = coreOf k s :=
  Store.get_set_other _ _ _ h
@[simp] theorem outOf_putOut_same (n : Nat) (x : Output) (s : State) : outOf n (putOut n x s) = x := Store.get_set_same _ _ _ _
theorem outOf_putOut_other {n k : Nat} (x : Output) (s : State) (h : k ≠ n) : outOf k (putOut n x s) = outOf k s :=
  Store.get_set_other _ _ _ h

/-! ### Frames -/

end Sys2Proof.Machine

namespace Sys2Proof.Safety
open Sys2Proof.Machine

/-- A frame widens. -/
theorem Only.widen {ps qs : List Part} {w v : Nat → Prop} {s t : State} (h : Only ps w s t) (hp : ∀ p ∈ ps, p ∈ qs)
    (hw : ∀ a, w a → v a) : Only qs v s t :=
  ⟨h.1, fun p hq => h.2.1 p fun hm => hq (hp p hm), fun a ha => h.2.2 a fun hm => ha (hw a hm)⟩

theorem Only.refl (ps : List Part) (w : Nat → Prop) (s : State) : Only ps w s s :=
  ⟨rfl, fun p _ => by cases p <;> rfl, fun _ _ => rfl⟩

theorem Only.trans {ps : List Part} {w : Nat → Prop} {s t u : State} (h : Only ps w s t) (k : Only ps w t u) :
    Only ps w s u := by
  refine ⟨k.1.trans h.1, fun p hp => ?_, fun a ha => (k.2.2 a ha).trans (h.2.2 a ha)⟩
  have h1 := h.2.1 p hp
  have h2 := k.2.1 p hp
  cases p <;> simp only [Part.same] at h1 h2 ⊢ <;> rw [h2, h1]

end Sys2Proof.Safety

namespace Sys2Proof.Machine
open Sys2Proof.Safety

/-- A write of a word changes that word alone. -/
theorem only_wr (a : Nat) (v : Word) (s : State) : Only [] (fun b => b = a) s (wr a v s) :=
  ⟨rfl, fun p _ => by cases p <;> rfl, fun _ h => rd_wr_other v s h⟩

/-- Setting a field changes its word alone. -/
theorem only_setF (b : Nat) (f : Fld) (v : Nat) (s : State) : Only [] (fun a => a = b + f.sub) s (setF b f v s) :=
  only_wr _ _ _

theorem only_setLane (i : Nat) (l : Lane) (s : State) : Only [.lanes] (fun _ => False) s (setLane i l s) :=
  ⟨rfl, fun p hp => by cases p <;> first | rfl | simp at hp, fun _ _ => rfl⟩

theorem only_setQueue (c : Nat) (q : List (Nat × Bool)) (s : State) : Only [.bellq] (fun _ => False) s (setQueue c q s) :=
  ⟨rfl, fun p hp => by cases p <;> first | rfl | simp at hp, fun _ _ => rfl⟩

theorem only_when {ps : List Part} {w : Nat → Prop} {s t : State} (c : Bool) (f : State → State) (h : Only ps w s t)
    (k : Only ps w t (f t)) : Only ps w s (when c f t) := by
  cases c
  · exact h
  · exact h.trans k

/-! ### Raises -/

theorem only_enqueueEvent (c e : Nat) (inj : Bool) (s : State) : Only [.bellq] (fun _ => False) s (enqueueEvent c e inj s) := by
  unfold enqueueEvent
  split
  · exact Only.refl _ _ _
  · exact only_setQueue _ _ _

theorem only_logEvent (e : Nat) (inj twin : Bool) (tick : Nat) (s : State) :
    Only [] (fun a => a = R.BEL_LOGPOS ∨ (R.BEL_LOG ≤ a ∧ a < R.BEL_LOG + 1024)) s (logEvent e inj twin tick s) := by
  unfold logEvent
  split
  · refine ((only_wr _ _ s).widen (by simp) ?_).trans (((only_wr _ _ _).widen (by simp) ?_).trans
      ((only_setF _ _ _ _).widen (by simp) ?_))
    · intro a ha; right; subst ha
      have := Nat.mod_lt (getF R.BEL_LOGPOS F.BEL_LOGPOS_NEXT s) (show 0 < 512 by norm_num)
      constructor <;> omega
    · intro a ha; right; subst ha
      have := Nat.mod_lt (getF R.BEL_LOGPOS F.BEL_LOGPOS_NEXT s) (show 0 < 512 by norm_num)
      constructor <;> omega
    · intro a ha; left; exact ha
  · exact Only.refl _ _ _

/-- The delivery of an event touches the queues, the twin's records and the host log alone. -/
theorem only_deliver (e : Nat) (inj : Bool) (s : State) : Only [.bellq, .health] (bellWord e) s (deliver e inj s) := by
  unfold deliver
  refine only_when _ _ (only_when _ _ (only_when _ _ (only_when _ _ (Only.refl _ _ _) ?_) ?_) ?_) ?_
  · exact (only_enqueueEvent _ _ _ _).widen (by simp) (by simp)
  · exact (only_enqueueEvent _ _ _ _).widen (by simp) (by simp)
  · exact (only_logEvent _ _ _ _ _).widen (by simp) fun a ha => Or.inr ha
  · exact ⟨rfl, fun p hp => by cases p <;> first | rfl | simp at hp, fun _ _ => rfl⟩

/-- A raise touches its source, the queues, the twin's records and the host log alone. -/
theorem only_raiseInj (e : Nat) (inj : Bool) (s : State) : Only [.bellq, .health] (bellWord e) s (raiseInj e inj s) := by
  unfold raiseInj
  refine only_when _ _ (((only_setF _ _ _ s).widen (by simp) ?_).trans ((only_setF _ _ _ _).widen (by simp) ?_))
    (only_deliver _ _ _)
  · intro a ha; exact Or.inl ha
  · intro a ha; exact Or.inl ha

theorem only_raise (e : Nat) (s : State) : Only [.bellq, .health] (bellWord e) s (raise e s) := only_raiseInj e false s

/-- A sticky bit that raises its event changes its word, and what the raise changes. -/
theorem only_flagAll (b : Nat) (f : Fld) (k e : Nat) (s : State) :
    Only [.bellq, .health] (fun a => a = b + f.sub ∨ bellWord e a) s (flagAll b f k e s) :=
  ((only_setF b ⟨f.sub, f.lo + k, 1⟩ _ s).widen (by simp) fun _ h => Or.inl h).trans
    ((only_raise e _).widen (by simp) fun _ h => Or.inr h)

theorem only_flagEvt (b : Nat) (f : Fld) (k e : Nat) (s : State) :
    Only [.bellq, .health] (fun a => a = b + f.sub ∨ bellWord e a) s (flagEvt b f k e s) := by
  unfold flagEvt
  split
  · exact Only.refl _ _ _
  · exact only_flagAll b f k e s

/-- What a raise does not touch, word by word. -/
theorem rd_raise_other {a : Nat} (e : Nat) (s : State) (h : ¬ bellWord e a) : rd a (raise e s) = rd a s :=
  (only_raise e s).2.2 a h

theorem getF_raise_other {b : Nat} {f : Fld} (e : Nat) (s : State) (h : ¬ bellWord e (b + f.sub)) :
    getF b f (raise e s) = getF b f s := getF_congr (rd_raise_other e s h)

end Sys2Proof.Machine
end

