-- ==== Sys2Proof/Laws/PerInstr.lean ====
section
/-!
SUPPORT. Statements made of every command as syntax, constructor by constructor. `Encoded`: the core instructions, and
no other commands, have an encoding (R267).
-/
namespace Sys2Proof.Laws.Encoded

/-- A command has an encoding exactly when it is an instruction of a core. -/
def Statement (i : Instr) : Prop := (encodeCore i).isSome = i.core.isSome

theorem registerWrite (x0) (x1) (x2) : Statement (.registerWrite x0 x1 x2) := rfl
theorem loWordLatchRead (x0) (x1) : Statement (.loWordLatchRead x0 x1) := rfl
theorem tableWindowWrite (x0) (x1) (x2) : Statement (.tableWindowWrite x0 x1 x2) := rfl
theorem dwellStart : Statement (.dwellStart) := rfl
theorem promotionSweep (x0) : Statement (.promotionSweep x0) := rfl
theorem flushComplete : Statement (.flushComplete) := rfl
theorem drainRow (x0) : Statement (.drainRow x0) := rfl
theorem platformSwitch : Statement (.platformSwitch) := rfl
theorem forceDrain (x0) : Statement (.forceDrain x0) := rfl
theorem feedParityError (x0) (x1) (x2) : Statement (.feedParityError x0 x1 x2) := rfl
theorem yardDebugRead (x0) (x1) : Statement (.yardDebugRead x0 x1) := rfl
theorem workingSetChange : Statement (.workingSetChange) := rfl
theorem districtReady (x0) : Statement (.districtReady x0) := rfl
theorem districtReadyTimeout (x0) : Statement (.districtReadyTimeout x0) := rfl
theorem trkEnSet (x0) (x1) : Statement (.trkEnSet x0 x1) := rfl
theorem trkEnClear (x0) (x1) : Statement (.trkEnClear x0 x1) := rfl
theorem trkTrst (x0) (x1) : Statement (.trkTrst x0 x1) := rfl
theorem trkPersWrite (x0) (x1) (x2) : Statement (.trkPersWrite x0 x1 x2) := rfl
theorem trkEqWrite (x0) (x1) (x2) : Statement (.trkEqWrite x0 x1 x2) := rfl
theorem trkTestWrite (x0) (x1) (x2) (x3) : Statement (.trkTestWrite x0 x1 x2 x3) := rfl
theorem prbsClear (x0) (x1) : Statement (.prbsClear x0 x1) := rfl
theorem prbsLock (x0) (x1) : Statement (.prbsLock x0 x1) := rfl
theorem prbsLoss (x0) (x1) : Statement (.prbsLoss x0 x1) := rfl
theorem energyPresent (x0) : Statement (.energyPresent x0) := rfl
theorem cdrLock (x0) : Statement (.cdrLock x0) := rfl
theorem signalTimeout (x0) : Statement (.signalTimeout x0) := rfl
theorem commaReceive (x0) (x1) (x2) : Statement (.commaReceive x0 x1 x2) := rfl
theorem commaTimeout (x0) : Statement (.commaTimeout x0) := rfl
theorem alignmentLoss (x0) (x1) : Statement (.alignmentLoss x0 x1) := rfl
theorem frameAcquired (x0) (x1) : Statement (.frameAcquired x0 x1) := rfl
theorem frameTimeout (x0) : Statement (.frameTimeout x0) := rfl
theorem handshakeTimeout (x0) : Statement (.handshakeTimeout x0) := rfl
theorem tokenLoss (x0) : Statement (.tokenLoss x0) := rfl
theorem energyLost (x0) : Statement (.energyLost x0) := rfl
theorem retryHoldoffEnd (x0) : Statement (.retryHoldoffEnd x0) := rfl
theorem rateAbort (x0) : Statement (.rateAbort x0) := rfl
theorem qpllLost (x0) (x1) : Statement (.qpllLost x0 x1) := rfl
theorem qpllRelock (x0) (x1) : Statement (.qpllRelock x0 x1) := rfl
theorem rxlinkChange (x0) (x1) : Statement (.rxlinkChange x0 x1) := rfl
theorem uncorrRunLimit (x0) : Statement (.uncorrRunLimit x0) := rfl
theorem trainTransmit (x0) : Statement (.trainTransmit x0) := rfl
theorem dataTrainReceive (x0) (x1) : Statement (.dataTrainReceive x0 x1) := rfl
theorem fillerReceive (x0) (x1) : Statement (.fillerReceive x0 x1) := rfl
theorem fillerMiss (x0) : Statement (.fillerMiss x0) := rfl
theorem timetableTrainReceive (x0) (x1) : Statement (.timetableTrainReceive x0 x1) := rfl
theorem testTrainReceive (x0) (x1) : Statement (.testTrainReceive x0 x1) := rfl
theorem couplingTrainReceive (x0) (x1) : Statement (.couplingTrainReceive x0 x1) := rfl
theorem uncorrectableTrain (x0) : Statement (.uncorrectableTrain x0) := rfl
theorem blockRelease : Statement (.blockRelease) := rfl
theorem arrSkewExpiry : Statement (.arrSkewExpiry) := rfl
theorem nominalRelease : Statement (.nominalRelease) := rfl
theorem timetableTrainProcess : Statement (.timetableTrainProcess) := rfl
theorem epoch (x0) (x1) (x2) : Statement (.epoch x0 x1 x2) := rfl
theorem action (x0) (x1) (x2) (x3) (x4) : Statement (.action x0 x1 x2 x3 x4) := rfl
theorem trigger (x0) (x1) (x2) (x3) : Statement (.trigger x0 x1 x2 x3) := rfl
theorem sethdr (x0) (x1) (x2) (x3) (x4) : Statement (.sethdr x0 x1 x2 x3 x4) := rfl
theorem delay (x0) (x1) (x2) : Statement (.delay x0 x1 x2) := rfl
theorem pointsBlockFilter (x0) (x1) (x2) : Statement (.pointsBlockFilter x0 x1 x2) := rfl
theorem busCorrReport : Statement (.busCorrReport) := rfl
theorem psegBankWrite (x0) (x1) (x2) : Statement (.psegBankWrite x0 x1 x2) := rfl
theorem psegTagWrite (x0) (x1) : Statement (.psegTagWrite x0 x1) := rfl
theorem psegChkWrite (x0) (x1) : Statement (.psegChkWrite x0 x1) := rfl
theorem coefReadyMark (x0) : Statement (.coefReadyMark x0) := rfl
theorem gainReadyMark (x0) : Statement (.gainReadyMark x0) := rfl
theorem ptsIcntClear (x0) : Statement (.ptsIcntClear x0) := rfl
theorem framingCounterClear (x0) (x1) : Statement (.framingCounterClear x0 x1) := rfl
theorem fastBlockEnd : Statement (.fastBlockEnd) := rfl
theorem kurtosisBlockEnd : Statement (.kurtosisBlockEnd) := rfl
theorem gaugeSnapshot : Statement (.gaugeSnapshot) := rfl
theorem hbmReadComplete (x0) (x1) (x2) (x3) (x4) : Statement (.hbmReadComplete x0 x1 x2 x3 x4) := rfl
theorem refresh (x0) : Statement (.refresh x0) := rfl
theorem stackTrainingStart (x0) : Statement (.stackTrainingStart x0) := rfl
theorem trainingStepTimeout (x0) (x1) : Statement (.trainingStepTimeout x0 x1) := rfl
theorem trainingComplete (x0) : Statement (.trainingComplete x0) := rfl
theorem phyLockLoss (x0) : Statement (.phyLockLoss x0) := rfl
theorem caParityError (x0) : Statement (.caParityError x0) := rfl
theorem caParityLimit (x0) : Statement (.caParityLimit x0) := rfl
theorem sdgRateWrite (x0) (x1) : Statement (.sdgRateWrite x0 x1) := rfl
theorem sdgRateAbort : Statement (.sdgRateAbort) := rfl
theorem pasrRequest (x0) : Statement (.pasrRequest x0) := rfl
theorem pasrRelease (x0) : Statement (.pasrRelease x0) := rfl
theorem apertureAccess (x0) (x1) (x2) : Statement (.apertureAccess x0 x1 x2) := rfl
theorem srExitTimeout (x0) : Statement (.srExitTimeout x0) := rfl
theorem captureStreamStart (x0) : Statement (.captureStreamStart x0) := rfl
theorem capturePieceRead (x0) : Statement (.capturePieceRead x0) := rfl
theorem captureRelease (x0) : Statement (.captureRelease x0) := rfl
theorem scrubRead : Statement (.scrubRead) := rfl
theorem stackTempRead (x0) (x1) : Statement (.stackTempRead x0 x1) := rfl
theorem consignmentBoundary (x0) (x1) : Statement (.consignmentBoundary x0 x1) := rfl
theorem tmnCounterClear (x0) : Statement (.tmnCounterClear x0) := rfl
theorem beamSampleForm (x0) : Statement (.beamSampleForm x0) := rfl
theorem integrationEnd (x0) (x1) : Statement (.integrationEnd x0 x1) := rfl
theorem beamFrameEmit (x0) (x1) : Statement (.beamFrameEmit x0 x1) := rfl
theorem beamDelayBankWrite (x0) (x1) (x2) : Statement (.beamDelayBankWrite x0 x1 x2) := rfl
theorem beamDtagWrite (x0) (x1) : Statement (.beamDtagWrite x0 x1) := rfl
theorem beamDchkWrite (x0) (x1) : Statement (.beamDchkWrite x0 x1) := rfl
theorem beamGainReadyMark (x0) : Statement (.beamGainReadyMark x0) := rfl
theorem tblCounterClear (x0) : Statement (.tblCounterClear x0) := rfl
theorem ptsCswap (x0) : Statement (.ptsCswap x0) := rfl
theorem ptsGswap (x0) : Statement (.ptsGswap x0) := rfl
theorem tblGswap (x0) : Statement (.tblGswap x0) := rfl
theorem tblDswap (x0) : Statement (.tblDswap x0) := rfl
theorem rakeOpen (x0) (x1) : Statement (.rakeOpen x0 x1) := rfl
theorem rakeClose (x0) (x1) : Statement (.rakeClose x0 x1) := rfl
theorem capture (x0) (x1) (x2) : Statement (.capture x0 x1 x2) := rfl
theorem snapshot (x0) (x1) : Statement (.snapshot x0 x1) := rfl
theorem mark (x0) (x1) : Statement (.mark x0 x1) := rfl
theorem dpReset (x0) : Statement (.dpReset x0) := rfl
theorem dprBackHalf : Statement (.dprBackHalf) := rfl
theorem snapshotCopyDone : Statement (.snapshotCopyDone) := rfl
theorem enqueueSubmit (x0) (x1) : Statement (.enqueueSubmit x0 x1) := rfl
theorem trefLoss : Statement (.trefLoss) := rfl
theorem trefReturn : Statement (.trefReturn) := rfl
theorem ppsEdge (x0) : Statement (.ppsEdge x0) := rfl
theorem ppsTimeout : Statement (.ppsTimeout) := rfl
theorem nop (x0) : Statement (.nop x0) := rfl
theorem idle (x0) : Statement (.idle x0) := rfl
theorem idleWake (x0) : Statement (.idleWake x0) := rfl
theorem halt (x0) : Statement (.halt x0) := rfl
theorem rti (x0) : Statement (.rti x0) := rfl
theorem sync (x0) : Statement (.sync x0) := rfl
theorem trap (x0) : Statement (.trap x0) := rfl
theorem bxclr (x0) : Statement (.bxclr x0) := rfl
theorem add (x0) (x1) (x2) (x3) : Statement (.add x0 x1 x2 x3) := rfl
theorem addc (x0) (x1) (x2) (x3) : Statement (.addc x0 x1 x2 x3) := rfl
theorem sub (x0) (x1) (x2) (x3) : Statement (.sub x0 x1 x2 x3) := rfl
theorem subb (x0) (x1) (x2) (x3) : Statement (.subb x0 x1 x2 x3) := rfl
theorem and (x0) (x1) (x2) (x3) : Statement (.and x0 x1 x2 x3) := rfl
theorem or (x0) (x1) (x2) (x3) : Statement (.or x0 x1 x2 x3) := rfl
theorem xor (x0) (x1) (x2) (x3) : Statement (.xor x0 x1 x2 x3) := rfl
theorem andn (x0) (x1) (x2) (x3) : Statement (.andn x0 x1 x2 x3) := rfl
theorem shl (x0) (x1) (x2) (x3) : Statement (.shl x0 x1 x2 x3) := rfl
theorem shr (x0) (x1) (x2) (x3) : Statement (.shr x0 x1 x2 x3) := rfl
theorem shrl (x0) (x1) (x2) (x3) : Statement (.shrl x0 x1 x2 x3) := rfl
theorem min (x0) (x1) (x2) (x3) : Statement (.min x0 x1 x2 x3) := rfl
theorem max (x0) (x1) (x2) (x3) : Statement (.max x0 x1 x2 x3) := rfl
theorem minu (x0) (x1) (x2) (x3) : Statement (.minu x0 x1 x2 x3) := rfl
theorem maxu (x0) (x1) (x2) (x3) : Statement (.maxu x0 x1 x2 x3) := rfl
theorem cmp (x0) (x1) (x2) : Statement (.cmp x0 x1 x2) := rfl
theorem mull (x0) (x1) (x2) (x3) : Statement (.mull x0 x1 x2 x3) := rfl
theorem mulh (x0) (x1) (x2) (x3) : Statement (.mulh x0 x1 x2 x3) := rfl
theorem mulhu (x0) (x1) (x2) (x3) : Statement (.mulhu x0 x1 x2 x3) := rfl
theorem neg (x0) (x1) (x2) : Statement (.neg x0 x1 x2) := rfl
theorem not (x0) (x1) (x2) : Statement (.not x0 x1 x2) := rfl
theorem abs (x0) (x1) (x2) : Statement (.abs x0 x1 x2) := rfl
theorem clz (x0) (x1) (x2) : Statement (.clz x0 x1 x2) := rfl
theorem addi (x0) (x1) (x2) (x3) : Statement (.addi x0 x1 x2 x3) := rfl
theorem andi (x0) (x1) (x2) (x3) : Statement (.andi x0 x1 x2 x3) := rfl
theorem ori (x0) (x1) (x2) (x3) : Statement (.ori x0 x1 x2 x3) := rfl
theorem xori (x0) (x1) (x2) (x3) : Statement (.xori x0 x1 x2 x3) := rfl
theorem cmpi (x0) (x1) (x2) : Statement (.cmpi x0 x1 x2) := rfl
theorem shli (x0) (x1) (x2) (x3) : Statement (.shli x0 x1 x2 x3) := rfl
theorem shri (x0) (x1) (x2) (x3) : Statement (.shri x0 x1 x2 x3) := rfl
theorem shrli (x0) (x1) (x2) (x3) : Statement (.shrli x0 x1 x2 x3) := rfl
theorem movk (x0) (x1) (x2) (x3) : Statement (.movk x0 x1 x2 x3) := rfl
theorem cadd (x0) (x1) (x2) (x3) : Statement (.cadd x0 x1 x2 x3) := rfl
theorem csub (x0) (x1) (x2) (x3) : Statement (.csub x0 x1 x2 x3) := rfl
theorem cmulr (x0) (x1) (x2) (x3) : Statement (.cmulr x0 x1 x2 x3) := rfl
theorem cmulj (x0) (x1) (x2) (x3) : Statement (.cmulj x0 x1 x2 x3) := rfl
theorem cneg (x0) (x1) (x2) : Statement (.cneg x0 x1 x2) := rfl
theorem cconj (x0) (x1) (x2) : Statement (.cconj x0 x1 x2) := rfl
theorem cswap (x0) (x1) (x2) : Statement (.cswap x0 x1 x2) := rfl
theorem cshr (x0) (x1) (x2) (x3) : Statement (.cshr x0 x1 x2 x3) := rfl
theorem cmag2 (x0) (x1) (x2) : Statement (.cmag2 x0 x1 x2) := rfl
theorem mva (x0) (x1) (x2) (x3) : Statement (.mva x0 x1 x2 x3) := rfl
theorem movx (x0) (x1) (x2) : Statement (.movx x0 x1 x2) := rfl
theorem mova (x0) (x1) (x2) : Statement (.mova x0 x1 x2) := rfl
theorem ld (x0) (x1) (x2) (x3) (x4) : Statement (.ld x0 x1 x2 x3 x4) := rfl
theorem st (x0) (x1) (x2) (x3) (x4) : Statement (.st x0 x1 x2 x3 x4) := rfl
theorem br (x0) (x1) (x2) : Statement (.br x0 x1 x2) := rfl
theorem call (x0) (x1) (x2) : Statement (.call x0 x1 x2) := rfl
theorem jr (x0) (x1) (x2) : Statement (.jr x0 x1 x2) := rfl
theorem loopi (x0) (x1) (x2) : Statement (.loopi x0 x1 x2) := rfl
theorem loopr (x0) (x1) (x2) : Statement (.loopr x0 x1 x2) := rfl
theorem macl (x0) (x1) (x2) (x3) (x4) (x5) (x6) (x7) : Statement (.macl x0 x1 x2 x3 x4 x5 x6 x7) := rfl
theorem mpyl (x0) (x1) (x2) (x3) (x4) (x5) (x6) (x7) : Statement (.mpyl x0 x1 x2 x3 x4 x5 x6 x7) := rfl
theorem ldd (x0) (x1) (x2) : Statement (.ldd x0 x1 x2) := rfl
theorem interruptEntry (x0) : Statement (.interruptEntry x0) := rfl
theorem trapEntry (x0) : Statement (.trapEntry x0) := rfl
theorem farLoadResponse (x0) (x1) (x2) : Statement (.farLoadResponse x0 x1 x2) := rfl
theorem farStoreResponse (x0) (x1) : Statement (.farStoreResponse x0 x1) := rfl
theorem fetchUncorrectable (x0) : Statement (.fetchUncorrectable x0) := rfl
theorem coreRunSet (x0) (x1) : Statement (.coreRunSet x0 x1) := rfl
theorem coreRunClear (x0) (x1) : Statement (.coreRunClear x0 x1) := rfl
theorem coreReset (x0) (x1) : Statement (.coreReset x0 x1) := rfl
theorem sbxRestart (x0) : Statement (.sbxRestart x0) := rfl
theorem lockstepMismatch : Statement (.lockstepMismatch) := rfl
theorem doorbellWrite (x0) (x1) (x2) : Statement (.doorbellWrite x0 x1 x2) := rfl
theorem coreTimerExpiry (x0) : Statement (.coreTimerExpiry x0) := rfl
theorem dispatcherWatchdog (x0) : Statement (.dispatcherWatchdog x0) := rfl
theorem sbxWatchdog : Statement (.sbxWatchdog) := rfl
theorem watchdogKick (x0) (x1) : Statement (.watchdogKick x0 x1) := rfl
theorem codeMemoryWrite (x0) (x1) (x2) : Statement (.codeMemoryWrite x0 x1 x2) := rfl
theorem coreRegsAccess (x0) (x1) (x2) (x3) : Statement (.coreRegsAccess x0 x1 x2 x3) := rfl
theorem corePatrolRead (x0) (x1) (x2) : Statement (.corePatrolRead x0 x1 x2) := rfl
theorem transactionAdmit (x0) : Statement (.transactionAdmit x0) := rfl
theorem transactionResponse (x0) (x1) : Statement (.transactionResponse x0 x1) := rfl
theorem transactionTimeout (x0) (x1) : Statement (.transactionTimeout x0 x1) := rfl
theorem shunterGo (x0) (x1) : Statement (.shunterGo x0 x1) := rfl
theorem shunterStop (x0) (x1) : Statement (.shunterStop x0 x1) := rfl
theorem shunterDescriptorRead (x0) : Statement (.shunterDescriptorRead x0) := rfl
theorem shunterBurstComplete (x0) : Statement (.shunterBurstComplete x0) := rfl
theorem eventQueueRead (x0) (x1) : Statement (.eventQueueRead x0 x1) := rfl
theorem eventInject (x0) (x1) : Statement (.eventInject x0 x1) := rfl
theorem requestFrameWrite (x0) : Statement (.requestFrameWrite x0) := rfl
theorem statusSelector : Statement (.statusSelector) := rfl
theorem responseRead (x0) : Statement (.responseRead x0) := rfl
theorem read (x0) : Statement (.read x0) := rfl
theorem write (x0) : Statement (.write x0) := rfl
theorem configWrite (x0) : Statement (.configWrite x0) := rfl
theorem status : Statement (.status) := rfl
theorem setState : Statement (.setState) := rfl
theorem consist : Statement (.consist) := rfl
theorem attest : Statement (.attest) := rfl
theorem debugCert : Statement (.debugCert) := rfl
theorem fullReset : Statement (.fullReset) := rfl
theorem dataPlaneReset : Statement (.dataPlaneReset) := rfl
theorem trackReset : Statement (.trackReset) := rfl
theorem sbxWaitTimeout : Statement (.sbxWaitTimeout) := rfl
theorem injClear (x0) (x1) (x2) : Statement (.injClear x0 x1 x2) := rfl
theorem injTrainCodeword (x0) (x1) (x2) : Statement (.injTrainCodeword x0 x1 x2) := rfl
theorem injPointsResidue (x0) (x1) (x2) : Statement (.injPointsResidue x0 x1 x2) := rfl
theorem injSShape (x0) (x1) (x2) : Statement (.injSShape x0 x1 x2) := rfl
theorem injHbmParity (x0) (x1) (x2) : Statement (.injHbmParity x0 x1 x2) := rfl
theorem injRowParity (x0) (x1) (x2) : Statement (.injRowParity x0 x1 x2) := rfl
theorem injColumnParity (x0) (x1) (x2) : Statement (.injColumnParity x0 x1 x2) := rfl
theorem injCellAccumulator (x0) (x1) (x2) : Statement (.injCellAccumulator x0 x1 x2) := rfl
theorem injYardCodeword (x0) (x1) (x2) : Statement (.injYardCodeword x0 x1 x2) := rfl
theorem injPromotionResidue (x0) (x1) (x2) : Statement (.injPromotionResidue x0 x1 x2) := rfl
theorem injTurntableResidue (x0) (x1) (x2) : Statement (.injTurntableResidue x0 x1 x2) := rfl
theorem injBusCode (x0) (x1) (x2) : Statement (.injBusCode x0 x1 x2) := rfl
theorem injCoreMemory (x0) (x1) (x2) : Statement (.injCoreMemory x0 x1 x2) := rfl
theorem injLockstep (x0) (x1) (x2) : Statement (.injLockstep x0 x1 x2) := rfl
theorem injClockMonitor (x0) (x1) (x2) : Statement (.injClockMonitor x0 x1 x2) := rfl
theorem injRetentionSignature (x0) (x1) (x2) : Statement (.injRetentionSignature x0 x1 x2) := rfl
theorem injMirrorCrc (x0) (x1) (x2) : Statement (.injMirrorCrc x0 x1 x2) := rfl
theorem injectionApply : Statement (.injectionApply) := rfl
theorem injectionExpire : Statement (.injectionExpire) := rfl
theorem clockMonitorWindow (x0) (x1) : Statement (.clockMonitorWindow x0 x1) := rfl
theorem role (x0) (x1) : Statement (.role x0 x1) := rfl
theorem health (x0) (x1) : Statement (.health x0 x1) := rfl
theorem mdata (x0) (x1) (x2) : Statement (.mdata x0 x1 x2) := rfl
theorem mcommit (x0) (x1) (x2) (x3) : Statement (.mcommit x0 x1 x2 x3) := rfl
theorem mack (x0) (x1) : Statement (.mack x0 x1) := rfl
theorem mackTimeout : Statement (.mackTimeout) := rfl
theorem jreq : Statement (.jreq) := rfl
theorem jgrant (x0) (x1) : Statement (.jgrant x0 x1) := rfl
theorem jdata (x0) (x1) (x2) : Statement (.jdata x0 x1 x2) := rfl
theorem jcommit (x0) (x1) (x2) : Statement (.jcommit x0 x1 x2) := rfl
theorem jcommitTimeout : Statement (.jcommitTimeout) := rfl
theorem jreqRetry : Statement (.jreqRetry) := rfl
theorem resign : Statement (.resign) := rfl
theorem takeover (x0) : Statement (.takeover x0) := rfl
theorem couplingTrainSend (x0) : Statement (.couplingTrainSend x0) := rfl
theorem couplingLoss : Statement (.couplingLoss) := rfl
theorem bootRoleTimeout : Statement (.bootRoleTimeout) := rfl
theorem cplPromote (x0) (x1) : Statement (.cplPromote x0 x1) := rfl
theorem cplResign (x0) : Statement (.cplResign x0) := rfl
theorem cplJoin (x0) : Statement (.cplJoin x0) := rfl
theorem targetWrite (x0) (x1) : Statement (.targetWrite x0 x1) := rfl
theorem notchingUp : Statement (.notchingUp) := rfl
theorem runningToStanding : Statement (.runningToStanding) := rfl
theorem haltEntry : Statement (.haltEntry) := rfl
theorem laidUpEntry : Statement (.laidUpEntry) := rfl
theorem offEntry : Statement (.offEntry) := rfl
theorem wakeToStanding (x0) (x1) : Statement (.wakeToStanding x0 x1) := rfl
theorem loadStepStart : Statement (.loadStepStart) := rfl
theorem regulatorTimeout : Statement (.regulatorTimeout) := rfl
theorem pllLockTimeout : Statement (.pllLockTimeout) := rfl
theorem subpgxTimeout : Statement (.subpgxTimeout) := rfl
theorem domainReadyTimeout (x0) : Statement (.domainReadyTimeout x0) := rfl
theorem wakeRetry : Statement (.wakeRetry) := rfl
theorem watchStart : Statement (.watchStart) := rfl
theorem watchEnd : Statement (.watchEnd) := rfl
theorem wakeNLow (x0) (x1) (x2) : Statement (.wakeNLow x0 x1 x2) := rfl
theorem lampAlarm : Statement (.lampAlarm) := rfl
theorem resetNLow (x0) (x1) : Statement (.resetNLow x0 x1) := rfl
theorem powerOnReset (x0) : Statement (.powerOnReset x0) := rfl
theorem offExit (x0) : Statement (.offExit x0) := rfl
theorem crystalSwitch : Statement (.crystalSwitch) := rfl
theorem crystalTimeout : Statement (.crystalTimeout) := rfl
theorem aoTargetWrite (x0) (x1) (x2) : Statement (.aoTargetWrite x0 x1 x2) := rfl
theorem aoRangeChange (x0) (x1) (x2) (x3) : Statement (.aoRangeChange x0 x1 x2 x3) := rfl
theorem aoRangeSettle (x0) : Statement (.aoRangeSettle x0) := rfl
theorem aoFaultForce (x0) (x1) : Statement (.aoFaultForce x0 x1) := rfl
theorem aoClearFault (x0) (x1) : Statement (.aoClearFault x0 x1) := rfl
theorem aoSlewTick (x0) : Statement (.aoSlewTick x0) := rfl
theorem aoHeadroomCheck (x0) (x1) : Statement (.aoHeadroomCheck x0 x1) := rfl
theorem monConversion (x0) : Statement (.monConversion x0) := rfl
theorem boot (x0) : Statement (.boot x0) := rfl
theorem flashRead (x0) : Statement (.flashRead x0) := rfl
theorem flashProgram (x0) : Statement (.flashProgram x0) := rfl
theorem flashErase (x0) : Statement (.flashErase x0) := rfl
theorem flashOpComplete : Statement (.flashOpComplete) := rfl
theorem flashTimeout : Statement (.flashTimeout) := rfl
theorem sbxRestarted : Statement (.sbxRestarted) := rfl
theorem vaonLoss : Statement (.vaonLoss) := rfl
theorem jtagInstruction (x0) : Statement (.jtagInstruction x0) := rfl

end Sys2Proof.Laws.Encoded
end

