-- ==== Sys2Proof/Machine/Pins.lean ====
section
/-!
DEFINITION. What the pins show (17): where the balls lie (R410-R412), the enables of the regulators and supplies
(R415, R416), and the analogue outputs (R365, R369). IRQ_N is `irqAsserted` (R291).
-/
namespace Sys2Proof.Machine

/-! ### Ball positions (R410, R411) -/

/-- The letters of the single-letter row names, in order. -/
def rowLetters : List Char := "ABCDEFGHJKLMNPTUVWY".toList

/-- The name of row `i`, 1 to 81: after each nineteen rows the first letter moves on, and the second runs again. -/
def rowName (i : Nat) : List Char :=
  let second := rowLetters.getD ((i - 1) % 19) 'A'
  if i ≤ 19 then [second] else [rowLetters.getD ((i - 1) / 19 - 1) 'A', second]

/-- Row index and column of the ball at edge distance `e` and along-edge position `a` of quadrant q (Table 17.1). -/
def ballAt (q e a : Nat) : Nat × Nat :=
  match q with
  | 0 => (e, a)
  | 1 => (a, 82 - e)
  | 2 => (82 - e, 82 - a)
  | _ => (82 - a, e)

/-- Quadrant and slot of a lane: arrivals, departures, then coupling lanes. -/
def laneSlot (i : Nat) : Nat × Nat :=
  if i < 64 then (i / 16, i % 16) else if i < 80 then ((i - 64) / 4, 16 + (i - 64) % 4) else (i - 80, 20)

inductive LanePin where
  | txp | txn | rxp | rxn
  deriving DecidableEq, Repr

/-- The ball of a lane's pin. -/
def laneBall (i : Nat) (p : LanePin) : Nat × Nat :=
  let (q, k) := laneSlot i
  let c := 10 + 3 * k
  match p with
  | .txp => ballAt q 1 c
  | .txn => ballAt q 1 (c + 1)
  | .rxp => ballAt q 3 c
  | .rxn => ballAt q 3 (c + 1)

/-- LREFq_P, LREFq_N and TRK_CALq. -/
def quadBalls (q : Nat) : List (Nat × Nat) := [ballAt q 6 40, ballAt q 6 41, ballAt q 6 43]

/-! ### Levels -/

/-- SUB_EN0-SUB_EN3 and SUB_ENX: high in every state but Off (R416). -/
def enablesHigh (s : State) : Bool := pstate s != 5

/-- The value that output n drives, none while its pin is high-impedance. -/
def pinValue (n : Fin 4) (s : State) : Option Nat := aoPin n.val s

end Sys2Proof.Machine
end

