-- ==== Sys2Proof/Tests/Slice0.lean ====
section
/-!
SUPPORT. Tests. `wf_…`: the smoke test of WellFormed, with an ill-formed term for each check. `code_…`: words of the cores
written out from the spec's encodings. `test_…`: single steps whose results the spec gives. `witness_…`: for each statement,
concrete states and operands that meet the hypotheses of each of its clauses.
-/
namespace Sys2Proof.Tests
set_option Elab.async false
open Sys2Proof.Machine Sys2Proof.Safety

/-! ### Small states -/

/-- Fields set one by one. -/
def having (l : List (Nat × Fld × Nat)) (s : State) : State := l.foldl (fun s x => setF x.1 x.2.1 x.2.2 s) s

/-- After reset, in power state `p`, with some fields set. -/
def at_ (p : Nat) (l : List (Nat × Fld × Nat)) : State := having ((R.SUB_STATE, F.SUB_STATE_STATE, p) :: l) State.reset

/-- Every domain powered and clocked, in power state `p`. -/
def up (p : Nat) (l : List (Nat × Fld × Nat)) : State :=
  having l (at_ p ((List.range 35).map fun d => (R.SUB_DOM d, F.SUB_DOM_STATE, 3)))

/-- Lane `i` enabled in state `st`, its PLL locked. -/
def lane (i st : Nat) (l : Lane) (s : State) : State :=
  setLane i l (having [(R.TRK_CTRL i, F.TRK_CTRL_EN, 1), (R.TRK_QUAD (quadOf i), F.TRK_QUAD_PLL180_LOCK, 1),
    (R.TRK_STATE i, F.TRK_STATE_STATE, st)] s)

/-- Whether an access reaches its target, as a Bool. -/
def reaches (m a : Nat) (s : State) : Bool := match targetOf a with | some r => answers m a r s | none => false

theorem reaches_of {m a : Nat} {s : State} (h : reaches m a s = true) : Reaches m a s := by
  unfold reaches at h
  split at h
  · next r e => exact ⟨r, e, h⟩
  · cases h

/-! ### Tracks -/

theorem witness_LaneBringUpFollowsTable23 :
    (let s := lane 3 0 {} (at_ 1 []); laneState 3 s = 0 ∧ laneEn 3 s = true ∧ pllLocked 3 s = true ∧ deaf 3 s = false
      ∧ receiverOn 3 s = true ∧ isSet (R.TRK_STATE 3) F.TRK_STATE_HOLDOFF s = false)
    ∧ (let s := lane 83 0 { energy := true } (at_ 2 [(R.TRK_STATE 83, F.TRK_STATE_HOLDOFF, 1)]); laneState 83 s = 0
      ∧ laneEn 83 s = true ∧ pllLocked 83 s = true ∧ deaf 83 s = false ∧ receiverOn 83 s = true ∧ (laneOf 83 s).energy = true)
    ∧ laneState 0 (lane 0 1 {} (at_ 1 [])) = 1
    ∧ (let s := lane 0 2 { commas := 2 } (at_ 1 [(R.TRK_CTRL 0, F.TRK_CTRL_POL_RX, 1)]); laneState 0 s = 2
      ∧ commaMatch (invert (isSet (R.TRK_CTRL 0) F.TRK_CTRL_POL_RX s) (invert true (comma.set 3 1#2 |>.set 19 2#2))) = true
      ∧ 2 ≤ (laneOf 0 s).commas ∧ (2700 : Nat) ≠ 2699)
    ∧ (let s := lane 64 3 {} (at_ 1 []); laneState 64 s = 3 ∧ pstate s ≠ 3
      ∧ isSet (R.TRK_STATE 64) F.TRK_STATE_PARKED s = false ∧ ratePend 64 s = false
      ∧ 0xFFF#12 = 0xFFE#12 + 1 ∧ 0#12 = 0xFFF#12 + 1 ∧ 1#12 = 0#12 + 1)
    ∧ ¬ (8#12 = 7#12 + 1 ∧ 9#12 = 8#12 + 1 ∧ 11#12 = 9#12 + 1) := by decide +kernel

theorem witness_LaneTimeoutsReturnToDark :
    laneState 0 (lane 0 1 {} (at_ 1 [])) = 1 ∧ laneState 0 (lane 0 2 {} (at_ 1 [])) = 2
    ∧ (let s := lane 0 3 {} (at_ 1 []); laneState 0 s = 3 ∧ isSet (R.TRK_STATE 0) F.TRK_STATE_PARKED s = false)
    ∧ laneState 80 (lane 80 4 {} (at_ 1 [])) = 4
    ∧ (let s := lane 64 5 {} (at_ 1 []); laneState 64 s = 5 ∧ deaf 64 s = false ∧ oneWay 64 s = false)
    ∧ (let s := lane 64 4 {} (at_ 1 []); laneState 64 s ≠ 0 ∧ laneState 64 s ≠ 6 ∧ deaf 64 s = false) := by decide +kernel

theorem witness_LaneConditionsAndTestPatterns :
    (let s := lane 5 5 { uncSince := 7 } (at_ 1 []); laneState 5 s = 5 ∧ deaf 5 s = false ∧ 7 ≤ (laneOf 5 s).uncSince
      ∧ commaMatch (invert (isSet (R.TRK_CTRL 5) F.TRK_CTRL_POL_RX s) (comma.take 17 ++ [3#2, 3#2, 3#2])) = false
      ∧ (laneOf 6 (lane 6 5 { uncSince := 6 } s)).uncSince < 7)
    ∧ (let s := lane 64 4 { ratePers := true } (at_ 1 [(R.TRK_STATE 64, F.TRK_STATE_RATE_PEND, 1)]); ratePend 64 s = true
      ∧ laneState 64 s ≠ 0)
    ∧ (let s := lane 5 6 { chk := { reg := 5, fill := 13, good := 63 } } (at_ 1 [(R.TRK_TEST 5, F.TRK_TEST_CHK, 1)])
      let x := gray (prbsPair 1 5).1
      laneState 5 s = 6 ∧ chkOf 5 s ≠ 0 ∧ isSet (R.TRK_CTRL 5) F.TRK_CTRL_LPBK s = false
      ∧ isSet (R.TRK_CTRL 5) F.TRK_CTRL_POL_RX s = false ∧ isSet (R.TRK_TEST 5) F.TRK_TEST_CHK_LOCK s = false
      ∧ ungray x = (prbsPair (chkOf 5 s) (laneOf 5 s).chk.reg).1 ∧ prbsLen (chkOf 5 s) ≤ (laneOf 5 s).chk.fill
      ∧ ungray (x + 1) ≠ (prbsPair (chkOf 5 s) (laneOf 5 s).chk.reg).1)
    ∧ (let s := lane 5 6 { chk := { reg := 5, errs := List.replicate 15 1 } }
        (at_ 1 [(R.TRK_TEST 5, F.TRK_TEST_CHK, 2), (R.TRK_TEST 5, F.TRK_TEST_CHK_LOCK, 1)])
      let x := gray (prbsPair 2 5).1
      laneState 5 s = 6 ∧ chkOf 5 s ≠ 0 ∧ isSet (R.TRK_TEST 5) F.TRK_TEST_CHK_LOCK s = true
      ∧ symbolErrors 5 x s + ((laneOf 5 s).chk.errs.take 127).sum < 16
      ∧ 16 ≤ symbolErrors 5 (x + 1) s + ((laneOf 5 s).chk.errs.take 127).sum)
    ∧ (let s := lane 79 5 { rate170 := true } (at_ 1 []); isDeparture 79 = true ∧ (laneOf 79 s).rate170 = true
      ∧ isSet (R.TRK_STATE 79) F.TRK_STATE_RXLINK s = !true) := by decide +kernel

theorem witness_QuadrantPllLossAndRelock :
    (let s := lane 3 5 {} (at_ 1 []); isSet (R.TRK_QUAD 0) F.TRK_QUAD_PLL180_LOCK s = true ∧ quadOf 3 = 0 ∧ laneEn 3 s = true
      ∧ (laneOf 3 s).rate170 = false ∧ ratePend 3 s = false ∧ quadOf 16 ≠ 0)
    ∧ (let s := lane 64 5 { rate170 := true } (at_ 1 [(R.TRK_QUAD 0, F.TRK_QUAD_PLL170_LOCK, 1), (R.TRK_QUAD 0, F.TRK_QUAD_PLL170_RUN, 1)]);
      isSet (R.TRK_QUAD 0) F.TRK_QUAD_PLL170_LOCK s = true ∧ isSet (R.TRK_QUAD 0) F.TRK_QUAD_PLL170_RUN s = true
      ∧ quadOf 64 = 0 ∧ laneEn 64 s = true ∧ (laneOf 64 s).rate170 = true ∧ ratePend 64 s = false
      ∧ (laneOf 65 s).rate170 = (!true) ∧ laneState 64 s ≠ 0
      ∧ isSet (R.TRK_STATE 65) F.TRK_STATE_HOLDOFF s = false) := by decide +kernel

theorem witness_TrackControlWrites :
    (let s := lane 64 5 {} (up 1 []); reaches 9 (R.TRK_CTRL 64) s = true ∧ deaf 64 s = false ∧ testOn 64 s = false
      ∧ ratePend 64 s = false ∧ getF (R.TRK_CTRL 64) F.TRK_CTRL_PERS s = b2n (laneOf 64 s).rate170 ∧ laneState 64 s ≠ 0)
    ∧ (let s := lane 64 3 {} (up 1 []); reaches 9 (R.TRK_CTRL 64) s = true ∧ isDeparture 64 = true ∧ laneState 64 s ≠ 0
      ∧ laneEn 64 s = true ∧ getF (R.TRK_CTRL 64) F.TRK_CTRL_PERS s = b2n (!true) ∧ (laneOf 64 s).rate170 = (!true)
      ∧ ratePend 64 s = false ∧ testOn 64 s = false ∧ deaf 64 s = false ∧ 1 ≤ laneState 64 s ∧ laneState 64 s ≤ 4)
    ∧ (let s := lane 79 5 {} (up 1 []); reaches 9 (R.TRK_CTRL 79) s = true ∧ laneEn 79 s = true
      ∧ getF (R.TRK_CTRL 79) F.TRK_CTRL_PERS s = b2n (!true) ∧ (laneOf 79 s).rate170 = (!true) ∧ ratePend 79 s = false
      ∧ testOn 79 s = false ∧ deaf 79 s = false ∧ laneState 79 s = 5)
    ∧ (let s := lane 79 6 {} (up 1 [(R.TRK_TEST 79, F.TRK_TEST_GEN, 1)]); reaches 9 (R.TRK_CTRL 79) s = true
      ∧ laneEn 79 s = true ∧ getF (R.TRK_CTRL 79) F.TRK_CTRL_PERS s = b2n (!true) ∧ (laneOf 79 s).rate170 = (!true)
      ∧ ratePend 79 s = false ∧ laneState 79 s = 6) := by decide +kernel

theorem witness_TrackEqualisationTestAndCounters :
    (let s := up 2 []; reaches 11 (R.TRK_EQ 0) s = true ∧ sealed s = false ∧ eqValid 0x3F0#40 = true ∧ eqValid 0#40 = false)
    ∧ (let s := lane 0 5 {} (up 2 []); reaches 9 (R.TRK_TEST 0) s = true ∧ laneEn 0 s = true ∧ pllLocked 0 s = true
      ∧ pstate s ≤ 2 ∧ (1 : Nat) + 2 ≠ 0 ∧ laneState 0 s ≠ 6)
    ∧ reaches 9 (R.PTS_FRCTL 63) (up 2 []) = true := by decide +kernel

/-! ### Trains -/

/-- A train of type `typ` with the given header fields and cars of `w`. -/
def train (typ : BitVec 4) (stream : BitVec 16) (cchan : BitVec 12) (fmt : BitVec 4) (tlow : BitVec 24) (w : Word) : Train :=
  ⟨typ, 7#12, stream, cchan, fmt, 0#8, tlow, List.replicate 128 w⟩

/-- The payload of a train as it goes into the code. -/
def payload (t : Train) : List Nat := trainSymbols (trainHeader t) (scramble (scrambleSeed t.seq.toNat) t.cars)

/-- The precoded line of a train whose check symbols are `p`. -/
def lineWith (t : Train) (p : List Nat) : List (BitVec 2) :=
  comma ++ precode 0#2 ((payload t ++ p).flatMap fun c => (digits 2 5 c).map gray)

/-- What the line of a train holds, its check symbols being `p`. -/
def lineHolds (t : Train) (p : List Nat) : Bool :=
  (lineWith t p).length == 2700 && lineCodeword true (lineWith t p) == payload t ++ p && (payload t).length == 520
    && trainOf (undigits 10 ((payload t).take 8))
      ((chunks 4 128 ((payload t).drop 8)).map fun c => BitVec.ofNat 40 (undigits 10 c)) == t

/-- With the check symbols computed once, the line of a train reads back as the train. -/
theorem line_reads_back {t : Train} {p : List Nat} (hp : trainParity (payload t) = p) (h : lineHolds t p = true)
    (h16 : p.length = 16) : lineTrain true (lineSymbols true false t) = some (t, 0) := by
  simp only [lineHolds, Bool.and_eq_true, beq_iff_eq] at h
  obtain ⟨⟨⟨h1, h2⟩, h3⟩, h4⟩ := h
  have e : lineSymbols true false t = lineWith t p := by simp [lineSymbols, invert, lineWith, payload, ← hp]
  have hp' : rsParity 10 0x409 (rsGen 10 0x409 16 1 []) (payload t) = p := hp
  simp [e, lineTrain, h1, h2, rsDecode, h3, h16, List.take_left' h3, List.drop_left' h3, hp', h4]

/-- A state whose lane `i` takes precoded, uninverted symbols from its pins. -/
def listens (i : Nat) (s : State) : Bool :=
  isSet (R.TRK_CTRL i) F.TRK_CTRL_PREC_RX s && !isSet (R.TRK_CTRL i) F.TRK_CTRL_POL_RX s
    && !isSet (R.TRK_CTRL i) F.TRK_CTRL_LPBK s && !(laneOf i s).rate170 && !ignored i s
    && (findInj (fun x : Inj => x.code == 1 && x.unit == i) s).isNone

theorem carries_of {i : Nat} {t : Train} {s : State} (h : lineTrain true (lineSymbols true false t) = some (t, 0))
    (hl : listens i s = true) : Carries i (lineSymbols true false t) t 0 s := by
  simp only [listens, Bool.and_eq_true, Bool.not_eq_true', Option.isNone_iff_eq_none] at hl
  obtain ⟨⟨⟨⟨⟨a, b⟩, c⟩, d⟩, e⟩, f⟩ := hl
  exact ⟨by simp [receivedTrain, received, invert, a, b, c, h], by omega, d, e, f⟩

def tData : Train := train 1#4 5#16 13#12 1#4 80#24 0#40
def tFmt4 : Train := train 1#4 5#16 13#12 4#4 80#24 0#40
def tHello : Train := train 2#4 0#16 0#12 0#4 0#24 0x5A00000001#40
def tSeen : Train := train 2#4 0#16 0#12 0#4 0#24 0x5A40000001#40
def tTable : Train := train 3#4 9#16 0#12 0#4 2#24 0#40
def tTest : Train := train 4#4 0#16 0#12 0#4 0#24 1#40
def tCoupling : Train := train 5#4 0x4321#16 0#12 0#4 0#24 0#40

theorem line_data : lineTrain true (lineSymbols true false tData) = some (tData, 0) :=
  line_reads_back (p := [456, 902, 743, 996, 223, 742, 165, 1022, 903, 698, 717, 791, 552, 736, 1, 1000])
    (by decide +kernel) (by decide +kernel) rfl
theorem line_fmt4 : lineTrain true (lineSymbols true false tFmt4) = some (tFmt4, 0) :=
  line_reads_back (p := [561, 574, 928, 76, 636, 725, 774, 199, 976, 978, 605, 1017, 729, 761, 303, 479])
    (by decide +kernel) (by decide +kernel) rfl
theorem line_hello : lineTrain true (lineSymbols true false tHello) = some (tHello, 0) :=
  line_reads_back (p := [718, 36, 261, 238, 685, 786, 320, 376, 942, 126, 499, 335, 467, 859, 153, 199])
    (by decide +kernel) (by decide +kernel) rfl
theorem line_seen : lineTrain true (lineSymbols true false tSeen) = some (tSeen, 0) :=
  line_reads_back (p := [988, 276, 565, 633, 848, 482, 859, 393, 75, 320, 219, 493, 773, 786, 863, 685])
    (by decide +kernel) (by decide +kernel) rfl
theorem line_table : lineTrain true (lineSymbols true false tTable) = some (tTable, 0) :=
  line_reads_back (p := [909, 258, 305, 386, 721, 885, 729, 697, 300, 851, 406, 228, 307, 799, 522, 687])
    (by decide +kernel) (by decide +kernel) rfl
theorem line_test : lineTrain true (lineSymbols true false tTest) = some (tTest, 0) :=
  line_reads_back (p := [562, 507, 49, 181, 339, 380, 57, 188, 391, 961, 525, 228, 615, 894, 340, 441])
    (by decide +kernel) (by decide +kernel) rfl
theorem line_coupling : lineTrain true (lineSymbols true false tCoupling) = some (tCoupling, 0) :=
  line_reads_back (p := [228, 868, 669, 608, 1019, 540, 561, 712, 16, 659, 373, 824, 850, 488, 859, 124])
    (by decide +kernel) (by decide +kernel) rfl

/-- Running, the front at 80, one stream-map entry: stream `st` on lane `ln`, format `f`, inputs from 32, four channels
from `b`; lane 3 in state `x`. -/
def mapped (x : Nat) (l : Lane) (st ln f b : Nat) : State :=
  let s := lane 3 x l (up 1 [(R.PTS_FRONT, F.PTS_FRONT_VALID, 1), (R.PTS_FRONT, F.PTS_FRONT_F_LO, 80)]);
  { s with arr := { streams := [⟨st, ln, f, 32, b, 4, 0⟩] } }

def streaming (x : Nat) (l : Lane) : State := mapped x l 5 3 1 10

theorem witness_DataTrainEntersArrivalFifo :
    Carries 3 (lineSymbols true false tData) tData 0 (streaming 5 {})
    ∧ (let s := streaming 5 {}; let t := tData
      laneState 3 s = 5 ∧ pstate s = 1
      ∧ isArrival 3 = true ∧ t.typ = 1#4 ∧ t.fmt.toNat ≤ 3 ∧ streamEntry t.stream.toNat s = some ⟨5, 3, 1, 32, 10, 4, 0⟩
      ∧ (10 : Nat) ≤ t.cchan.toNat ∧ t.cchan.toNat < 10 + 4 ∧ frontValid s = true
      ∧ extendIndex (frontNow s) t.tlow.toNat % (formatTimes t.fmt.toNat : Int) = 0
      ∧ (s.arr.base : Int) ≤ extendIndex (frontNow s) t.tlow.toNat ∧ (frontNow s : Int) ≤ extendIndex (frontNow s) t.tlow.toNat
      ∧ (laneOf 3 s).fifo.length < 256) :=
  ⟨carries_of line_data (by decide +kernel), by decide +kernel⟩

theorem witness_DataTrainChecksInOrder :
    (Carries 3 (lineSymbols true false tFmt4) tFmt4 0 (mapped 5 {} 6 3 1 10) ∧ 3 < tFmt4.fmt.toNat
      ∧ streamEntry tFmt4.stream.toNat (mapped 5 {} 6 3 1 10) = none)
    ∧ (Carries 3 (lineSymbols true false tData) tData 0 (mapped 5 {} 6 3 1 10)
      ∧ streamEntry tData.stream.toNat (mapped 5 {} 6 3 1 10) = none)
    ∧ (Carries 3 (lineSymbols true false tData) tData 0 (mapped 5 {} 5 4 0 10)
      ∧ streamEntry tData.stream.toNat (mapped 5 {} 5 4 0 10) = some ⟨5, 4, 0, 32, 10, 4, 0⟩ ∧ (4 : Nat) ≠ 3)
    ∧ (Carries 3 (lineSymbols true false tData) tData 0 (mapped 5 {} 5 3 0 20)
      ∧ streamEntry tData.stream.toNat (mapped 5 {} 5 3 0 20) = some ⟨5, 3, 0, 32, 20, 4, 0⟩ ∧ 0 ≠ tData.fmt.toNat)
    ∧ (Carries 3 (lineSymbols true false tData) tData 0 (mapped 5 {} 5 3 1 14)
      ∧ streamEntry tData.stream.toNat (mapped 5 {} 5 3 1 14) = some ⟨5, 3, 1, 32, 14, 4, 0⟩ ∧ tData.cchan.toNat < 14)
    ∧ (Carries 3 (lineSymbols true false tData) tData 0 (mapped 5 {} 5 3 1 9)
      ∧ streamEntry tData.stream.toNat (mapped 5 {} 5 3 1 9) = some ⟨5, 3, 1, 32, 9, 4, 0⟩ ∧ 9 + 4 ≤ tData.cchan.toNat)
    ∧ laneState 3 (mapped 5 {} 6 3 1 10) = 5 ∧ pstate (mapped 5 {} 6 3 1 10) = 1 ∧ tData.typ = 1#4 ∧ tFmt4.typ = 1#4 :=
  ⟨⟨carries_of line_fmt4 (by decide +kernel), by decide +kernel⟩, ⟨carries_of line_data (by decide +kernel), by decide +kernel⟩,
    ⟨carries_of line_data (by decide +kernel), by decide +kernel⟩, ⟨carries_of line_data (by decide +kernel), by decide +kernel⟩,
    ⟨carries_of line_data (by decide +kernel), by decide +kernel⟩, ⟨carries_of line_data (by decide +kernel), by decide +kernel⟩,
    by decide +kernel⟩

theorem witness_OtherTrainsReceived :
    (Carries 3 (lineSymbols true false tHello) tHello 0 (lane 3 5 {} (at_ 1 []))
      ∧ Carries 3 (lineSymbols true false tSeen) tSeen 0 (lane 3 5 {} (at_ 1 []))
      ∧ (let s := lane 3 5 {} (at_ 1 []); laneState 3 s = 5 ∧ oneWay 3 s = false
        ∧ ∀ t ∈ [tHello, tSeen], t.typ = 2#4 ∧ tokenForm (t.cars.headD 0#40) = true ∧ peerOk 3 (t.cars.headD 0#40) s = true)
      ∧ bitsOf (tHello.cars.headD 0#40) 30 2 = 0 ∧ bitsOf (tSeen.cars.headD 0#40) 30 2 = 1)
    ∧ (let s := having [(R.PTS_FRCTL 3, F.PTS_FRCTL_TT_EN, 1), (R.PTS_ARRCFG, F.PTS_ARRCFG_TT_STREAM, 9)] (streaming 5 {});
      Carries 3 (lineSymbols true false tTable) tTable 0 s
      ∧ laneState 3 s = 5 ∧ pstate s = 1 ∧ isArrival 3 = true ∧ tTable.typ = 3#4
      ∧ isSet (R.PTS_FRCTL 3) F.PTS_FRCTL_TT_EN s = true
      ∧ tTable.stream.toNat = getF R.PTS_ARRCFG F.PTS_ARRCFG_TT_STREAM s ∧ frontValid s = true
      ∧ (laneOf 3 s).fifo.length < 256)
    ∧ (Carries 3 (lineSymbols true false tTest) tTest 0 (lane 3 3 {} (at_ 1 [])) ∧ tTest.typ = 4#4
      ∧ laneState 3 (lane 3 3 {} (at_ 1 [])) = 3)
    ∧ (Carries 83 (lineSymbols true false tCoupling) tCoupling 0 (lane 83 5 {} (at_ 1 [])) ∧ tCoupling.typ = 5#4
      ∧ laneState 83 (lane 83 5 {} (at_ 1 [])) = 5)
    ∧ (let s := lane 3 5 { uncSince := 6, nonFill := 2048 } (at_ 1 []); laneState 3 s = 5 ∧ ignored 3 s = false
      ∧ (laneOf 3 s).uncSince < 7 ∧ 2048 ≤ (laneOf 3 s).nonFill)
    ∧ (let s := lane 3 4 { uncSince := 9 } (at_ 1 []); 3 ≤ laneState 3 s ∧ laneState 3 s ≠ 5 ∧ ignored 3 s = false) :=
  ⟨⟨carries_of line_hello (by decide +kernel), carries_of line_seen (by decide +kernel), by decide +kernel⟩,
    ⟨carries_of line_table (by decide +kernel), by decide +kernel⟩,
    ⟨carries_of line_test (by decide +kernel), by decide +kernel⟩,
    ⟨carries_of line_coupling (by decide +kernel), by decide +kernel⟩, by decide +kernel⟩

theorem witness_TrainsLeaveWithNextSeq :
    (let s := lane 3 0 {} (at_ 1 []); transmits 3 s = true ∧ isDeparture 3 = false ∧ pstate s ≠ 3)
    ∧ (let s := lane 3 3 { parks := 2 } (at_ 3 []); transmits 3 s = true ∧ pstate s = 3 ∧ 1 < (laneOf 3 s).parks)
    ∧ (let c : Consig := ⟨0, false, List.replicate 300 0#40, none, 0⟩
      let s := lane 64 5 { cur := some (c, 128) } (at_ 1 []);
      transmits 64 s = true ∧ isDeparture 64 = true ∧ laneState 64 s = 5 ∧ pstate s = 1 ∧ (laneOf 64 s).sinceFill < 2047
      ∧ (laneOf 64 s).cur = some (c, 128) ∧ 0 < 128 ∧ 128 + 128 < c.words.length
      ∧ ∀ x ∈ laneConsigs (laneOf 64 s), twinMutes x s = false) := by decide +kernel

/-- The first clause's state: two data times of the block at 80 complete on lane 3. -/
def fullBlock : State :=
  let s := streaming 5 { fifo := (List.range 8).map fun k => ⟨false, 80 + 20 * (k / 4), 1, 32, k % 4, false, List.replicate 128 0#40⟩ }
  { s with arr := { s.arr with top := 120 } }

theorem witness_ReleaseAdvancesTheFront :
    (releaseOk fullBlock = true ∧ NoJoinAt (frontNow fullBlock + 40) fullBlock
      ∧ blockComplete (frontNow fullBlock) fullBlock = true ∧ dataWaits (frontNow fullBlock) fullBlock = true)
    ∧ (let s := { streaming 5 {} with cpl := { anchor := some 121, join := some 160 } };
      releaseOk s = true ∧ NoJoinAt (frontNow s + 40) s ∧ dataWaits (frontNow s) s = false) := by
  refine ⟨⟨by decide +kernel, ⟨?_, ?_, rfl⟩, by decide +kernel, by decide +kernel⟩, by decide +kernel, ⟨?_, ?_, rfl⟩,
    by decide +kernel⟩
  · intro j h; cases h
  · intro j h; cases h
  · intro j h; cases h; decide +kernel
  · intro j h; cases h; decide +kernel

theorem witness_TrainsSurviveTheLine : tData.cars.length = 128 := by decide +kernel

/-! ### Timetable -/

/-- Running, the front at 80, with an entry of the action queue that is due. -/
def dueState (code arg : Nat) (l : List (Nat × Fld × Nat)) : State :=
  let s := up 1 ([(R.PTS_FRONT, F.PTS_FRONT_VALID, 1), (R.PTS_FRONT, F.PTS_FRONT_F_LO, 80)] ++ l)
  { s with ttb := { queue := [⟨0, 80, code, arg, 0, 0, false, 40, 0⟩] } }

/-- A state whose records are `r` alone. -/
def oneRec (r : TRec) (s : State) : State := { s with ttb := { s.ttb with recs := [r] } }

theorem heads_of {p : TRec → Bool} {r : TRec} {s : State} (hp : p r = true) (hj : joinPending (oneRec r s) = false) :
    Heads p [] (oneRec r s) := ⟨⟨r, rfl, hp⟩, hj⟩

theorem noHead_of {p : TRec → Bool} {r : TRec} {s : State} (hp : p r = false) : NoHead p (oneRec r s) := by
  intro x rest h; cases h; exact hp

theorem witness_TimetableTrainIsTaken :
    (let s := at_ 1 [(R.PTS_TTSER, F.PTS_TTSER_VALID, 1), (R.PTS_TTSER, F.PTS_TTSER_LAST, 7)];
      let t : TTrain := ⟨some 0, 83, 9, List.replicate 128 0xF000000000#40⟩;
      let u : TTrain := ⟨some 0, 0, 7, []⟩;
      let v := { s with ttb := { ready := [t] } };
      v.ttb.ready = t :: [] ∧ v.ttb.recs = [] ∧ joinPending v = false ∧ t.lane < 84 ∧ t.ttser < 2 ^ 24
      ∧ ttserFresh t.ttser v = true ∧ (parseRecords t.sigma t.lane 128 t.cars).2 = true
      ∧ isSet R.PTS_TTSER F.PTS_TTSER_VALID s = true ∧ t.ttser ≠ (getF R.PTS_TTSER F.PTS_TTSER_LAST s + 1) % 2 ^ 24
      ∧ ttserFresh u.ttser s = false) := by decide +kernel

theorem witness_EpochRecordSetsMarkAndFront :
    Heads (isEpoch 1#40 41#48 2#32) [] (oneRec ⟨some 0, 3, 1, 0, epochBody 1 41 2⟩ (at_ 1 []))
    ∧ NoHead (isEpoch 1#40 41#48 3#32) (oneRec ⟨some 0, 3, 1, 0, epochBody 1 41 2⟩ (at_ 1 []))
    ∧ 40 * cdiv (41#48).toNat 40 < 2 ^ 48 ∧ (at_ 1 []).ttb.newFront = true
    ∧ { at_ 1 [] with ttb := { newFront := false } }.ttb.newFront = false :=
  ⟨heads_of (by decide +kernel) (by decide +kernel), noHead_of (by decide +kernel), by decide +kernel, by decide +kernel, rfl⟩

/-- An ACTION record of lane 3 with stamp 0. -/
def actionRec (code key arg : Nat) : TRec := ⟨some 0, 3, 2, code * 2 ^ 24, keyBody key arg⟩

theorem witness_ActionRecordIsCheckedAndQueued :
    let s := at_ 1 [];
    let h (code key arg : Nat) := Heads (isAction 0 code 0 (keyBody key arg) (oneRec (actionRec code key arg) s)) []
      (oneRec (actionRec code key arg) s);
    (h 0x05 80 0 ∧ codeOk 0x05 0 = false) ∧ (h 0x10 80 0)
    ∧ (h 0x18 1 0 ∧ codeOk 0x18 0 = true ∧ dpKeyOk 1 (oneRec (actionRec 0x18 1 0) s) = false)
    ∧ (h 0x12 0 5 ∧ codeOk 0x12 5 = true ∧ (0 : Nat) < 0 + getF R.TTB_LEAD F.TTB_LEAD_LEAD s)
    ∧ (h 0x12 (2 ^ 40) 5 ∧ 0 + getF R.TTB_LEAD F.TTB_LEAD_LEAD s ≤ 2 ^ 40 ∧ 0 + 2 ^ 40 ≤ 2 ^ 40)
    ∧ (h 0x12 (2 ^ 40 - 1) 5 ∧ 2 ^ 40 - 1 < 0 + 2 ^ 40 ∧ inbandFull 0 s = false ∧ freeSlot false s = some 0 ∧ s.cpl.logOn = false)
    ∧ (let f := { s with ttb := { gone := List.replicate 48 (0, 0) } }
      Heads (isAction 0 0x12 0 (keyBody 9999 5) (oneRec (actionRec 0x12 9999 5) f)) [] (oneRec (actionRec 0x12 9999 5) f)
        ∧ inbandFull 0 f = true)
    ∧ NoHead (isAction 0 0x12 0 (keyBody 80 5) s) (oneRec (actionRec 0x12 81 5) s) :=
  ⟨⟨heads_of (by decide +kernel) (by decide +kernel), by decide +kernel⟩, heads_of (by decide +kernel) (by decide +kernel),
    ⟨heads_of (by decide +kernel) (by decide +kernel), by decide +kernel⟩,
    ⟨heads_of (by decide +kernel) (by decide +kernel), by decide +kernel⟩,
    ⟨heads_of (by decide +kernel) (by decide +kernel), by decide +kernel⟩,
    ⟨heads_of (by decide +kernel) (by decide +kernel), by decide +kernel⟩,
    ⟨heads_of (by decide +kernel) (by decide +kernel), by decide +kernel⟩, noHead_of (by decide +kernel)⟩

theorem witness_TriggerRecordQueuesCapture :
    let s := at_ 1 [];
    let r (key : Nat) : TRec := ⟨some 0, 3, 3, 255 * 2 ^ 24, keyBody key 7⟩;
    let h (key : Nat) := Heads (isTrigger 0 255 (keyBody key 7) (oneRec (r key) s)) [] (oneRec (r key) s);
    (h 0 ∧ (0 : Nat) < 0 + getF R.TTB_LEAD F.TTB_LEAD_LEAD s)
    ∧ (h (2 ^ 40 - 1) ∧ 0 + getF R.TTB_LEAD F.TTB_LEAD_LEAD s ≤ 2 ^ 40 - 1 ∧ 2 ^ 40 - 1 < 0 + 2 ^ 40
      ∧ inbandFull 0 s = false ∧ freeSlot false s = some 0)
    ∧ NoHead (isTrigger 0 254 (keyBody 0 7) s) (oneRec (r 0) s) :=
  ⟨⟨heads_of (by decide +kernel) (by decide +kernel), by decide +kernel⟩,
    ⟨heads_of (by decide +kernel) (by decide +kernel), by decide +kernel⟩, noHead_of (by decide +kernel)⟩

theorem witness_DelaySetRecords :
    let s := at_ 1 [(R.PTS_CFG, F.PTS_CFG_N, 2), (R.PTS_DSET 1, F.PTS_DSET_VALID, 1), (R.PTS_DSET 1, F.PTS_DSET_SET, 9),
      (R.PTS_DSET 1, F.PTS_DSET_COUNT, 1)];
    let hdr (count span : Nat) : TRec := ⟨some 0, 83, 4, (9 * 2 ^ 14 + count) * 2 ^ 10, keyBody 40 span⟩;
    let dly (set input : Nat) : TRec := ⟨some 0, 83, 5, (set * 2 ^ 13 + input) * 2 ^ 11, List.replicate 6 0#40⟩;
    let hd (set input : Nat) := Heads (isDelay set input (List.replicate 6 0#40)) [] (oneRec (dly set input) s);
    Heads (isSethdr 83 9 0 (keyBody 40 1)) [] (oneRec (hdr 0 1) s) ∧ Heads (isSethdr 83 9 1 (keyBody 40 0)) [] (oneRec (hdr 1 0) s)
    ∧ Heads (isSethdr 83 9 1 (keyBody 40 1)) [] (oneRec (hdr 1 1) s) ∧ (1#14) ≠ 0#14 ∧ (1#32) ≠ 0#32
    ∧ NoHead (isSethdr 82 9 1 (keyBody 40 1)) (oneRec (hdr 1 1) s)
    ∧ (hd 8 0 ∧ dsetOf (oneRec (dly 8 0) s) 8 = none) ∧ (hd 9 2 ∧ dsetOf (oneRec (dly 9 2) s) 9 = some 1 ∧ cfgN s ≤ (2#13).toNat)
    ∧ (let u := having [(R.PTS_DSET 1, F.PTS_DSET_RCVD, 1)] s;
      dsetOf (oneRec (dly 9 1) u) 9 = some 1 ∧ bitsOf (rd (dsetMem 1 1 6) u) 0 1 = 0
      ∧ getF (R.PTS_DSET 1) F.PTS_DSET_RCVD u = getF (R.PTS_DSET 1) F.PTS_DSET_COUNT u)
    ∧ (hd 9 1 ∧ (1#13).toNat < cfgN s ∧ bitsOf (rd (dsetMem 1 1 6) s) 0 1 = 0
      ∧ getF (R.PTS_DSET 1) F.PTS_DSET_RCVD s < getF (R.PTS_DSET 1) F.PTS_DSET_COUNT s)
    ∧ NoHead (isDelay 9 1 []) (oneRec (dly 9 1) s) :=
  ⟨heads_of (by decide +kernel) (by decide +kernel), heads_of (by decide +kernel) (by decide +kernel),
    heads_of (by decide +kernel) (by decide +kernel), by decide, by decide, noHead_of (by decide +kernel),
    ⟨heads_of (by decide +kernel) (by decide +kernel), by decide +kernel⟩,
    ⟨heads_of (by decide +kernel) (by decide +kernel), by decide +kernel⟩, by decide +kernel,
    ⟨heads_of (by decide +kernel) (by decide +kernel), by decide +kernel⟩, noHead_of (by decide +kernel)⟩

theorem witness_EnqueueSetSubmits :
    (let l := [(R.TTB_ENQ 1, F.TTB_ENQ_CODE, 0x12), (R.TTB_ENQ 1, F.TTB_ENQ_KEY_LO, 80)];
      let s := up 1 l;
      let v := having [(R.PTS_FRONT, F.PTS_FRONT_VALID, 1)] s;
      (0 : Nat) = enqOwner 1 ∧ reaches 0 (R.TTB_ENQ 1 + 3) s = true ∧ localCheck 80 0x12 0 s = .provisional
      ∧ localCheck 80 0x12 0 v = .accepted ∧ localCheck 80 0x05 0 s = .badCode ∧ (10 : Nat) = enqOwner 0) := by decide +kernel

theorem witness_DueEntriesLeaveInKeyOrder :
    dueNext { dueState 1 0 [] with ttb := { queue := [⟨1, 119, 0x18, 0, 0, 0, false, 40, 0⟩, ⟨0, 80, 0x18, 0, 0, 0, false, 40, 0⟩] } }
      = some ⟨0, 80, 0x18, 0, 0, 0, false, 40, 0⟩ := by decide +kernel

theorem witness_SwapsThatBecomeDue :
    (let s := dueState 0x01 0 [(R.PTS_BANKS, F.PTS_BANKS_CRDY, 1)];
      dueNext s = some ⟨0, 80, 0x01, 0, 0, 0, false, 40, 0⟩ ∧ (80 : Nat) = (80#48).toNat ∧ s.pts.cswap.last ≠ some (cdiv 80 (cfgP s))
      ∧ isSet R.PTS_BANKS F.PTS_BANKS_CRDY s = true)
    ∧ isSet R.PTS_BANKS F.PTS_BANKS_CRDY (dueState 0x01 0 []) = false
    ∧ (let s := dueState 0x02 0 [(R.PTS_BANKS, F.PTS_BANKS_GRDY, 1), (R.PTS_GCTL, F.PTS_GCTL_MODE, 1)];
      dueNext s = some ⟨0, 80, 0x02, 0, 0, 0, false, 40, 0⟩ ∧ s.pts.gswap.last ≠ some (cdiv 80 (cfgP s))
      ∧ isSet R.PTS_BANKS F.PTS_BANKS_GRDY s = true ∧ getF R.PTS_GCTL F.PTS_GCTL_MODE s ≠ 0)
    ∧ isSet R.PTS_BANKS F.PTS_BANKS_GRDY (dueState 0x02 0 []) = false
    ∧ getF R.PTS_GCTL F.PTS_GCTL_MODE (having [(R.PTS_GCTL, F.PTS_GCTL_MODE, 0)] (dueState 0x02 0 [])) = 0 := by decide +kernel

theorem witness_SnapshotsAndMarks :
    dueNext (dueState 0x11 6 []) = some ⟨0, 80, 0x11, 6, 0, 0, false, 40, 0⟩
    ∧ dueNext (dueState 0x12 6 []) = some ⟨0, 80, 0x12, 6, 0, 0, false, 40, 0⟩ ∧ (6 : Nat) = (6#32).toNat
    ∧ (let s := at_ 1 [(R.TTB_SNAP, F.TTB_SNAP_BUSY, 1)]; isSet R.TTB_SNAP F.TTB_SNAP_BUSY s = true ∧ s.ttb.snapJ = none
      ∧ s.ttb.snapB = none) := by decide +kernel

theorem witness_TrefAndPps :
    isSet R.TTB_STATE F.TTB_STATE_HOLDOVER (at_ 1 []) = false
    ∧ isSet R.TTB_STATE F.TTB_STATE_HOLDOVER (at_ 1 [(R.TTB_STATE, F.TTB_STATE_HOLDOVER, 1)]) = true
    ∧ (let s := { at_ 1 [(R.TTB_CLKCFG, F.TTB_CLKCFG_PPS_EN, 1), (R.TTB_TICK, F.TTB_TICK_TICK_LO, 250000100)] with
          ttb := { ppsLast := some 100 } };
      isSet R.TTB_CLKCFG F.TTB_CLKCFG_PPS_EN s = true ∧ isSet R.TTB_CLKCFG F.TTB_CLKCFG_PPS_EDGE s = (!true)
      ∧ ((tickNow s : Int) - (100 : Nat) - 250000000).natAbs ≤ getF R.TTB_CLKCFG F.TTB_CLKCFG_PPS_TOL s
      ∧ getF R.TTB_CLKCFG F.TTB_CLKCFG_PPS_TOL s < ((tickNow s : Int) - (0 : Nat) - 249000000).natAbs
      ∧ tclkRuns s = true ∧ s.ttb.ppsLast ≠ none)
    ∧ (let s := { at_ 1 [(R.TTB_CLKCFG, F.TTB_CLKCFG_PPS_EN, 1), (R.TTB_TICK, F.TTB_TICK_TICK_LO, 260000000)] with
          ttb := { ppsLast := some 100 } };
      100 + 250000000 + getF R.TTB_CLKCFG F.TTB_CLKCFG_PPS_TOL s < tickNow s ∧ tclkRuns s = true)
    ∧ tclkRuns (at_ 4 []) = false := by decide +kernel

/-! ### Points and Gauges -/

theorem witness_BlockFilterAdvancesByOneBlock :
    (let s := up 1 [(R.PTS_FRONT, F.PTS_FRONT_VALID, 1), (R.PTS_FRONT, F.PTS_FRONT_F_LO, 120)];
      frontValid s = true ∧ pstate s = 1 ∧ s.pts.blocks + 120 ≤ frontNow s ∧ s.gau.acts = [] ∧ 1 ≤ cfgP s
      ∧ s.pts.blocks < cfgP s * s.pts.nextJ + 8 * cfgP s)
    ∧ isSet R.SDG_CTRL F.SDG_CTRL_EN (up 1 [(R.SDG_CTRL, F.SDG_CTRL_EN, 1)]) = true := by decide +kernel

theorem witness_FineSamplesAreValidOrInvalid :
    (let s := having [(R.PTS_CTRL, F.PTS_CTRL_EN, 1), (R.PTS_CFG, F.PTS_CFG_INV_LIM, 1), (R.PTS_CFG, F.PTS_CFG_C, 1),
        (gainBase 0, ⟨0, 0, 16⟩, 1), (0x3010001, ⟨0, 0, 40⟩, 2 ^ 30)] { (up 1 []) with pts := { allNoModel := false } };
      isSet R.PTS_CTRL F.PTS_CTRL_EN s = true ∧ modelUsable 0 s = true ∧ gainAt 0 0 s ≠ 0
      ∧ invalidCount [some (0, 0)] < getF R.PTS_CFG F.PTS_CFG_INV_LIM s
      ∧ getF R.PTS_CFG F.PTS_CFG_INV_LIM s ≤ invalidCount [none])
    ∧ isSet R.PTS_CTRL F.PTS_CTRL_EN (up 1 []) = false ∧ modelUsable 0 (up 1 [(0x3010002, ⟨0, 0, 1⟩, 1)]) = false ∧ gainAt 0 0 (up 1 []) = 0 := by
  decide +kernel

theorem witness_BusCorrectionsAreReported :
    { up 1 [] with chk := { busCorr := true } }.chk.busCorr = true ∧ (up 1 []).chk.busCorr = false := by decide +kernel

theorem witness_SegmentBankIsSigned :
    (let s := up 1 [(R.PTS_CFG, F.PTS_CFG_N, 1), (R.PTS_CTRL, F.PTS_CTRL_PBANK, 1)];
      reaches 4 0x3010003 s = true ∧ (0x3010003#28).toNat = 0x3010000 + 0x8000 * (1 - getF R.PTS_CTRL F.PTS_CTRL_PBANK s) + 3
      ∧ 3 < 4 * cfgN s ∧ reaches 4 R.PTS_PSEG s = true ∧ reaches 4 R.PTS_PSEG_CHK s = true
      ∧ { s with pts := { chkNew := true, tagNew := true } }.pts.chkNew = true
      ∧ (getF R.PTS_PSEG_CHK F.PTS_PSEG_CHK_CHK s = getF R.PTS_PSEG_SIG F.PTS_PSEG_SIG_SIG s)
      ∧ (getF R.PTS_PSEG_CHK F.PTS_PSEG_CHK_CHK (having [(R.PTS_PSEG_CHK, F.PTS_PSEG_CHK_CHK, 1)] s)
          ≠ getF R.PTS_PSEG_SIG F.PTS_PSEG_SIG_SIG s)) := by decide +kernel

theorem witness_PointsMarksAndCounters :
    (let s := up 1 []; reaches 0 R.PTS_BANKS s = true ∧ s.pts.cswap.at_ = [] ∧ s.pts.gswap.at_ = [] ∧ reaches 9 R.PTS_CTRL s = true) := by decide +kernel

theorem witness_GaugeBlocksAndSnapshots :
    (let s := fun (p : Nat) (acts : List Nat) => { up p [(R.PTS_CFG, F.PTS_CFG_N, 2), (R.PTS_CFG, F.PTS_CFG_C, 1)] with
          gau := { acts := acts } };
      (1, 0) ∈ allPairs (s 1 [0]) ∧ cfgN (s 1 [0]) ≤ 8192 ∧ cfgC (s 1 [0]) ≤ 64 ∧ pstate (s 1 [0]) ≠ 3
      ∧ (s 1 [0]).gau.acts.head? = some 0 ∧ (s 1 [1]).gau.acts.head? = some 1 ∧ (s 1 [2]).gau.acts.head? = some 2
      ∧ pstate (s 3 []) = 3 ∧ (1, 0) ∈ allPairs (s 3 []))
    ∧ NoJoinAt 0 { up 1 [] with cpl := { join := some 40 } } :=
  ⟨by decide +kernel, (by intro j h; cases h), (by intro j h; cases h; decide), rfl⟩

/-! ### Accesses -/

theorem witness_WritesFollowAccessTypes :
    (0x1000000 ≤ (0x1000002#28).toNat ∧ (0x1000002#28).toNat < 0x1000040) ∧
    (let s := up 1 [];
      (regDef 0x1000000).any (fun d => d.fields.any fun f => f.acc == .rwl && f.zrej && f.rule.holds 0x1000000 (bitsOf (0x7D2#40) f.fld.lo f.fld.w) 0x7D2#40 s) = true
      ∧ (regDef 0x1000002).any (fun d => d.fields.any fun f => f.acc == .ro) = true
      ∧ (regDef 0x1000001).any (fun d => d.fields.any fun f => f.acc == .w1c) = true
      ∧ reaches 0 0x1000000 s = true ∧ reaches 0 0x1000001 s = true ∧ reaches 0 0x1000002 s = true ∧ sealed s = false
      ∧ sealed (up 1 [(R.DEP_STATE, F.DEP_STATE_SEALED, 1)]) = true) := by decide +kernel

theorem witness_ReadWriteAndWriteOnlyFields :
    (let s := up 1 [];
      plainWords.all (fun a => reaches 0 a s) = true
      ∧ (regDef 0x1020000).any (fun d => d.fields.any fun f => f.acc == .rw && f.zrej) = true
      ∧ (regDef 0x1050000).any (fun d => d.fields.any fun f => f.acc == .rw && !f.rule.holds 0x1050000 10001 10001#40 s) = true
      ∧ (regDef 0x5000000).any (fun d => d.fields.any fun f => f.acc == .wo) = true) := by decide +kernel

theorem witness_RegisterAccessesComplete :
    (let s := up 1 [];
      (reaches 15 0xF00000 s = true ∧ coreMemory 0xF00000 = none ∧ within 0xF00000 0xF00900 0xF00000 ∧ 0xF00000 % 0x100 < 0x40)
      ∧ (reaches 15 0xF0083F s = true ∧ coreMemory 0xF0083F = none ∧ within 0xF00000 0xF00900 0xF0083F ∧ 0xF0083F % 0x100 < 0x40)
      ∧ (reaches 0 0x1000000 s = true ∧ coreMemory 0x1000000 = none ∧ within 0x1000000 0x5100000 0x1000000)
      ∧ (reaches 0 R.TMN_CTRL s = true ∧ coreMemory R.TMN_CTRL = none ∧ within 0x6000000 0x8000000 R.TMN_CTRL)) := by
  unfold within; decide +kernel

theorem witness_FailedAccessesAreAnswered :
    (let s := up 1 [];
      ilkUp s = true ∧ targetOf (0x1F00000#28).toNat = none ∧ isSet R.ILK_ERR F.ILK_ERR_VALID s = false
      ∧ (targetOf R.PTS_CTRL).any (fun r => !answers 0 R.PTS_CTRL r (having [(R.SUB_DOM 2, F.SUB_DOM_STATE, 1)] s)) = true
      ∧ ilkUp (having [(R.SUB_DOM 2, F.SUB_DOM_STATE, 1)] s) = true) := by decide +kernel

theorem witness_LoReadsLatchHiWords :
    (let s := up 1 [];
      [0x30F0802, 0x3100002, 0x4000002, 0x5000002, 0x1000003, 0x1000005, 0x1000031, 0x1000034, 0x1070006,
        0x1070008, 0x1050004, 0x1040007].all (fun a => reaches 3 a s && !wordVoid a s) = true
      ∧ [0x30F0803, 0x100000A, 0x100000E, 0x1040008, R.TRK_PERR 83, R.TRK_PERR 0 + 3].all (fun a => reaches 3 a s) = true) := by
  decide +kernel

theorem witness_TableWindowWritesInactiveBank :
    (let s := up 1 [(R.PTS_CFG, F.PTS_CFG_N, 8), (R.PTS_CFG, F.PTS_CFG_C, 1)];
      (windowAt 0x3011005 s).all (fun (b, _, k) => !b.content k) = true
      ∧ (windowAt 0x3018005 s).any (fun (b, bank, k) => b.content k && bank != b.active && !b.commit) = true
      ∧ (windowAt 0x3010005 s).any (fun (b, bank, k) => b.content k && bank == b.active) = true
      ∧ (windowAt 0x3001201 { s with pts := { cswap := ⟨[5], some 5⟩ } }).any (fun (b, _, _) => b.commit) = true
      ∧ reaches 0 0x3018005 s = true ∧ reaches 0 0x3010005 s = true ∧ reaches 0 0x3001201 s = true) := by decide +kernel

theorem witness_BeamBanksAreSignedAndMarked :
    (let s := up 1 [(R.PTS_CFG, F.PTS_CFG_N, 4), (R.TBL_CTRL, F.TBL_CTRL_EN, 1)];
      reaches 1 0x3502003 s = true ∧ s.tbl.dswap.at_ = [] ∧ s.tbl.gswap.at_ = []
      ∧ (0x3502003#28).toNat = 0x3400000 + 0x100000 * (1 - getF R.TBL_CTRL F.TBL_CTRL_DBANK s) + 0x2003
      ∧ 0x2003 < 0x100000 ∧ 0x2003 % 8192 < cfgN s ∧ reaches 1 R.TBL_DTAG s = true ∧ reaches 1 R.TBL_DCHK s = true
      ∧ reaches 1 R.TBL_BANKS s = true ∧ reaches 1 R.TBL_CTRL s = true ∧ isSet R.TBL_CTRL F.TBL_CTRL_EN s = true
      ∧ { s with tbl := { chkNew := true, tagNew := true } }.tbl.tagNew = true) := by decide +kernel

theorem witness_ApertureAndDebugWindows :
    (let s := having [(R.SDG_STK 0, F.SDG_STK_STATE, 2)] (setWork 1 (up 1 []));
      reaches 0 0x8000000 s = true ∧ (aperturePlace 0 s).any (fun x => stackAnswers x.1 s && decide (errsAt x.1 s ≤ 3) && x.2 == 0) = true
      ∧ (aperturePlace 0 s).any (fun x => !stackAnswers x.1 (setWork 1 (up 1 [])) && !stackWaits x.1 (setWork 1 (up 1 []))) = true
      ∧ (aperturePlace 0 s).any (fun x => stackWaits x.1 (having [(R.SDG_STK 0, F.SDG_STK_STATE, 1)] s)) = true
      ∧ reaches 11 0x8000000 (having [(R.SDG_STK 0, F.SDG_STK_STATE, 1)] s) = true
      ∧ getF (R.ILK_MST 11) F.ILK_MST_OUT s < 8 ∧ s.chk.force = [] ∧ s.chk.busy = none ∧ 0 < 5
      ∧ aperturePlace 0x7FFFFFF (having [(R.SDG_APAGE, F.SDG_APAGE_PAGE, 5)] s) = none
      ∧ reaches 15 0x5100000 s = true ∧ reaches 15 0x54FFFFF s = true
      ∧ isSet R.YRD_CFG F.YRD_CFG_DBG (having [(R.YRD_CFG, F.YRD_CFG_DBG, 1)] s) = true ∧ isSet R.YRD_CFG F.YRD_CFG_DBG s = false) := by
  decide +kernel

theorem witness_SidingsRateAndPasr :
    (let s := fun p x => having [(R.SDG_STK 2, F.SDG_STK_STATE, x)] (setWork 4 (up p []));
      reaches 0 R.SDG_CTRL (s 1 2) = true ∧ getF R.SDG_CTRL F.SDG_CTRL_RATE (s 1 2) ≠ 2 ∧ pstate (s 1 2) ≠ 2
      ∧ pstate (s 2 1) = 2
      ∧ anyTraining (s 2 1) = true ∧ anyTraining (s 2 2) = false ∧ 2 ∈ workStacks (s 2 2)
      ∧ stackState 2 (s 2 2) = 2 ∧ anyTraining (s 2 3) = false ∧ 2 ∈ workStacks (s 2 3) ∧ stackState 2 (s 2 3) = 3)
    ∧ (let s := fun p e => having [(R.SDG_STK 2, F.SDG_STK_STATE, 2), (R.SDG_STACKS, F.SDG_STACKS_HOME, 2), (R.SDG_CTRL, F.SDG_CTRL_EN, e)]
          (setWork 4 (up p []));
      reaches 0 R.SDG_CTRL (s 2 0) = true ∧ isSet R.SDG_CTRL F.SDG_CTRL_PASR_REQ (s 2 0) = false
      ∧ isSet R.SDG_STACKS F.SDG_STACKS_RATE_PEND (s 2 0) = false ∧ isSet R.SDG_CTRL F.SDG_CTRL_EN (s 2 1) = true
      ∧ pstate (s 2 0) ≠ 1 ∧ pstate (s 2 0) ≠ 6 ∧ isSet R.SDG_CTRL F.SDG_CTRL_EN (s 2 0) = false
      ∧ 2 = getF R.SDG_STACKS F.SDG_STACKS_HOME (s 2 0) ∧ 3 ≠ getF R.SDG_STACKS F.SDG_STACKS_HOME (s 2 0)
      ∧ getF R.SDG_PASR F.SDG_PASR_KEEP (s 2 0) / 2 ^ 3 % 2 = 0 ∧ stackState 3 (s 2 0) ≠ 4)
    ∧ (let s := up 2 [(R.SDG_CTRL, F.SDG_CTRL_PASR_REQ, 1), (R.SDG_PASR, F.SDG_PASR_ACTIVE, 1), (R.SDG_STK 7, F.SDG_STK_STATE, 3)];
      reaches 0 R.SDG_CTRL s = true ∧ isSet R.SDG_CTRL F.SDG_CTRL_PASR_REQ s = true ∧ isSet R.SDG_PASR F.SDG_PASR_ACTIVE s = true
      ∧ isSet R.SDG_STACKS F.SDG_STACKS_RATE_PEND s = false ∧ stackState 7 s = 3) := by decide +kernel

theorem witness_ForcedDrainAndTerminusCounters :
    (let s := up 1 [(R.TMN_CTRL, F.TMN_CTRL_EN, 1)];
      reaches 0 R.JCT_CTRL s = true ∧ s.jct.cur = none
      ∧ { s with jct := { cur := some ⟨⟨0, 0, 0, 0, 0, 0, 4, 0, 0, true⟩, 0, 0, 0, false, false, false, [], [], [], []⟩ } }.jct.cur ≠ none
      ∧ reaches 0 R.TMN_CTRL s = true ∧ isSet R.TMN_CTRL F.TMN_CTRL_EN s = true) := by decide +kernel

theorem witness_CoreControlWrites :
    (let s := fun x => putCore 7 { mode := x } (up 1 []);
      reaches 8 (R.DSP_CTRL 7) (s 0) = true ∧ (coreOf 7 (s 1)).mode = 1 ∧ (coreOf 7 (s 2)).mode = 2 ∧ (coreOf 7 (s 0)).mode ≠ 1
      ∧ settled 7 (s 1) = true ∧ settled 7 (putCore 7 { mode := 1, inflight := [(1, .reg 0 0#40)] } (s 1)) = false
      ∧ reaches 10 (R.DSP_CTRL 8) (s 0) = true ∧ (10 : Fin 16).val = 10 ∧ (8 : Fin 16).val ≠ 10) := by decide +kernel

theorem witness_CoreMailboxAndMemoryAccesses :
    (let s := fun x => putCore 8 { mode := x } (up 1 []);
      reaches 0 (R.DSP_DOOR 8) (s 0) = true ∧ reaches 0 (R.DSP_WDOG 8) (s 0) = true
      ∧ coreMemory (codeBase 8) = some (8, true, 0) ∧ reaches 0 (codeBase 8) (s 0) = true
      ∧ reaches 9 (codeBase 8) (s 0) = true ∧ (8 : Fin 16).val ≤ 8 ∧ 8 < (9 : Fin 16).val
      ∧ codeWriteRefused 8 (s 0) = false ∧ codeWriteRefused 8 (s 1) = true ∧ reaches 0 (creg 8 63) (s 0) = true) := by decide +kernel

theorem witness_ShunterGoAndStop :
    (let s := up 1 [];
      reaches 0 (R.ILK_SHN 3) s = true ∧ shunterBusy 3 s = false
      ∧ shunterBusy 3 (having [(R.ILK_SHN 3, F.ILK_SHN_BUSY, 1)] s) = true
      ∧ reaches 0 (R.ILK_SHN 3) (having [(R.ILK_SHN 3, F.ILK_SHN_BUSY, 1)] s) = true) := by decide +kernel

theorem witness_EventQueuesAndInjection :
    (let s := up 1 [(R.BEL_SRC 1023, F.BEL_SRC_EN, 1), (R.BEL_SRC 1023, F.BEL_SRC_R_SBX, 1)];
      reaches 0 (R.BEL_Q 8) s = true ∧ queueOf (belQueue 8) s = []
      ∧ queueOf (belQueue 8) (setQueue (belQueue 8) [(5, true)] s) = (5, true) :: []
      ∧ reaches 0 (R.BEL_SRC 1023) s = true ∧ isSet (R.BEL_SRC 1023) F.BEL_SRC_EN s = true
      ∧ isSet (R.BEL_SRC 1023) F.BEL_SRC_R_SBX s = true ∧ queueOf 8 s = []) := by decide +kernel

theorem witness_InjectionsAreAcceptedOrRefused :
    (let s := up 1 [(R.INS_CTRL, F.INS_CTRL_INJ_EN, 1)];
      reaches 0 R.INS_INJ s = true ∧ isSet R.INS_CTRL F.INS_CTRL_INJ_EN s = true ∧ s.chk.busy = none
      ∧ s.chk.force.any Inj.stuck = false ∧ injOk ⟨0x01, 83, 2⟩ = true ∧ injOk ⟨0x01, 84, 1⟩ = false
      ∧ BlockAwake ⟨0x01, 83, 2⟩ s ∧ BlockAwake ⟨0x21, 3, 0⟩ (setF (R.SDG_STK 3) F.SDG_STK_STATE 2 s)
      ∧ ¬ BlockAwake ⟨0x21, 3, 0⟩ s ∧ isSet R.INS_CTRL F.INS_CTRL_INJ_EN (up 1 []) = false
      ∧ reaches 0 R.INS_INJ (up 1 []) = true ∧ 2 ≤ domState 5 s)
    ∧ injections.map (·.1) = [0x01, 0x10, 0x20, 0x21, 0x30, 0x31, 0x32, 0x40, 0x41, 0x50, 0x60, 0x70, 0x71, 0x80, 0x90, 0x91] := by
  unfold BlockAwake; decide +kernel

theorem witness_SubstationOutputAndFlashWrites :
    (let s := up 2 [];
      reaches 0 R.SUB_CTRL s = true ∧ pstate s ≠ 0 ∧ stateRefused 7 s = true ∧ stateRefused 4 s = false)
    ∧ (let s := fun r => up 2 [(R.AOU_CTRL 3, F.AOU_CTRL_ROLE, r), (R.AOU_LIM 3, F.AOU_LIM_LO, 5), (R.AOU_LIM 3, F.AOU_LIM_HI, 9),
          (R.DEP_STATE, F.DEP_STATE_SEALED, 1)];
      reaches 0 (R.AOU_TARGET 3) (s 1) = true ∧ aoRole 3 (s 0) = 0 ∧ aoRole 3 (s 1) = 1 ∧ aoRole 3 (s 3) = 3
      ∧ getF (R.AOU_LIM 3) F.AOU_LIM_LO (s 1) ≤ 5 ∧ 9 ≤ getF (R.AOU_LIM 3) F.AOU_LIM_HI (s 1) ∧ 4 < getF (R.AOU_LIM 3) F.AOU_LIM_LO (s 1)
      ∧ getF (R.AOU_LIM 3) F.AOU_LIM_HI (s 1) < 10
      ∧ reaches 0 (R.AOU_CTRL 3) (s 1) = true ∧ sealed (s 1) = true ∧ aoMode 3 (s 3) ≠ true ∧ aoFault 3 (s 3) = false
      ∧ (outOf 3 (s 3)).range = 0
      ∧ aoFault 3 (having [(R.AOU_STAT 3, F.AOU_STAT_FAULT, 1)] (s 3)) = true)
    ∧ (let s := { up 2 [(R.DEP_FLLEN, F.DEP_FLLEN_LEN, 4)] with dep := { flashOk := true } };
      reaches 0 R.DEP_FLCMD s = true ∧ isSet R.DEP_FLCMD F.DEP_FLCMD_BUSY s = false ∧ flashCheck 0 0 4 s = some [0, 0, 0, 0]
      ∧ flashCheck 1 0 4 s = none) := by decide +kernel

/-! ### Sidings, Terminus, Turntable -/

theorem witness_HbmReadsAreDecoded :
    (let s := up 1 [(R.SDG_STK 7, F.SDG_STK_STATE, 2)];
      let pl := ((255 : Fin 256).val, hbmLocal (hbmCoords 23437499));
      let f (n : Nat) : List (Fin 32 × Fin 8) := (List.range n).map fun k => (Fin.ofNat 32 (31 - k), Fin.ofNat 8 k);
      stackState ((255 : Fin 256).val / 32) s = 2 ∧ hbmLocal (hbmCoords 23437499) < pcBlocks ∧ maskAt pl s = 0
      ∧ wrongSymbols 32 (maskAt pl s ^^^ dqMask (f 3)) ≤ 3 ∧ wrongSymbols 32 (maskAt pl s ^^^ dqMask (f 4)) = 4
      ∧ isSet R.SDG_CTRL F.SDG_CTRL_EN (having [(R.SDG_CTRL, F.SDG_CTRL_EN, 1)] s) = true
      ∧ isSet R.SDG_CTRL F.SDG_CTRL_EN s = false) := by
  decide +kernel

theorem witness_StackTrainingAndConditions :
    (let s := fun x n => setWork 1 (up 2 [(R.SDG_STK 3, F.SDG_STK_STATE, x), (R.SDG_STK 3, F.SDG_STK_ATTEMPTS, n)]);
      stackState 3 (s 0 0) = 0 ∧ 2 ≤ domState (stackDomain 3) (s 0 0) ∧ stackState 3 (s 1 1) = 1
      ∧ getF (R.SDG_STK 3) F.SDG_STK_ATTEMPTS (s 1 1) < 2 ∧ getF (R.SDG_STK 3) F.SDG_STK_ATTEMPTS (s 1 2) = 2
      ∧ isSet R.SDG_STACKS F.SDG_STACKS_RATE_PEND (s 1 1) = false ∧ (s 1 1).sdg.rateRun = false
      ∧ (s 1 2).pow.busy = false ∧ (s 1 2).pow.queue = [] ∧ { s 1 2 with pow := { busy := true } }.pow.busy = true
      ∧ NoneWaits (s 1 2) ∧ { s 3 0 with pow := { queue := [.exit 3] } }.pow.queue ≠ []
      ∧ workMask (s 1 1) / 2 ^ 3 % 2 = 0 ∧ stackState 3 (s 2 0) = 2 ∧ stackState 3 (s 3 0) = 3
      ∧ stackState 3 (s 2 0) ≠ 0 ∧ stackState 3 (s 2 0) ≠ 4
      ∧ getF R.SDG_TEMP F.SDG_TEMP_LIMIT (s 2 0) < (255#8).toNat) := by unfold NoneWaits; decide +kernel

theorem witness_DeferredRateAborts :
    (let s := setWork 3 (up 2 [(R.SDG_STACKS, F.SDG_STACKS_RATE_PEND, 1), (R.SDG_STK 0, F.SDG_STK_STATE, 1),
        (R.SDG_STK 1, F.SDG_STK_STATE, 2)]);
      isSet R.SDG_STACKS F.SDG_STACKS_RATE_PEND s = true ∧ pstate s = 2 ∧ pstate (up 1 []) ≠ 2 ∧ stackState 0 s = 1 ∧ 1 ∈ workStacks s ∧ stackState 1 s = 2) := by
  decide +kernel

theorem witness_PatrolWalksTheReservedRegion :
    (let s := setWork 1 (up 1 [(R.SDG_CTRL, F.SDG_CTRL_SCRUB_EN, 1), (R.SDG_STK 0, F.SDG_STK_STATE, 2)]);
      let u := having [(R.SDG_SCRUBPOS, F.SDG_SCRUBPOS_BLOCK, 159999999)] s;
      isSet R.SDG_CTRL F.SDG_CTRL_SCRUB_EN s = true ∧ workStacks s ≠ [] ∧ domState 4 s = 3
      ∧ domState 4 (having [(R.SUB_DOM 4, F.SUB_DOM_STATE, 2)] s) ≠ 3 ∧ getF R.SDG_SCRUBPOS F.SDG_SCRUBPOS_BLOCK s + 1 < 160000000
      ∧ getF R.SDG_SCRUBPOS F.SDG_SCRUBPOS_BLOCK u + 1 = 160000000
      ∧ stackState ((reservedPlace (getF R.SDG_SCRUBPOS F.SDG_SCRUBPOS_BLOCK s) s).1 / 32) s = 2
      ∧ errsAt (reservedPlace (getF R.SDG_SCRUBPOS F.SDG_SCRUBPOS_BLOCK s) s) s ≤ 3) := by decide +kernel

theorem witness_CapturesRunTheirCourse :
    (let s := putReserved 12500000 0x2001#40 (putReserved 12500001 0x4000#40 (putReserved 12500002 25#40
        (putReserved 12500004 0xFFFF01#40 (having [(R.PTS_CFG, F.PTS_CFG_N, 2), (R.PTS_CFG, F.PTS_CFG_C, 1),
          (R.SDG_STK 0, F.SDG_STK_STATE, 2)] (setWork 1 (dueState 0x10 0 []))))));
      dueNext s = some ⟨0, 80, 0x10, 0, 0, 0, false, 40, 0⟩ ∧ (0 : Nat) = (0#8).toNat * 2 ^ 32 + (0#32).toNat
      ∧ idleCapture s = some 0 ∧ capDescOk 0 s = true
      ∧ (let c := (capWindow 0 80 0 (getF R.TMN_CAPNUM F.TMN_CAPNUM_NEXT s) s).1; c.f0 + c.fn ≤ cfgNch s ∧ c.i0 + c.inN ≤ cfgN s
        ∧ capTooFast 0 c s = false)
      ∧ idleCapture (having ((List.range 4).map fun k => (R.SDG_CAP k, F.SDG_CAP_STATE, 1)) s) = none)
    ∧ (let s := fun x => { putCapture 3 { fn := 1, inN := 1, tn := 2, rel := 1, rate := 500, from_ := 0 } (up 1 [(R.TTB_TICK, F.TTB_TICK_TICK_LO, 2), (R.SDG_CAP 3, F.SDG_CAP_STATE, x),
          (R.PTS_FRONT, F.PTS_FRONT_VALID, 1), (R.PTS_FRONT, F.PTS_FRONT_F_LO, 80), (R.SDG_STK 0, F.SDG_STK_STATE, 2)]) with
          pts := { nextJ := 50 } };
      capState 3 (s 1) = 1 ∧ (captureOf 3 (s 1)).wstart + 25 * (captureOf 3 (s 1)).tn ≤ (s 1).pts.nextJ
      ∧ capState 3 (s 2) = 2 ∧ pstate (s 2) = 1 ∧ (captureOf 3 (s 2)).pos < capBlocks (captureOf 3 (s 2))
      ∧ bufferRoom (8 + 5 * pieceLen (captureOf 3 (s 2)) (s 2)) (s 2) = true
      ∧ capturePaced (captureOf 3 (s 2)) (pieceLen (captureOf 3 (s 2)) (s 2)) (s 2) = true
      ∧ (∀ x, x < pieceLen (captureOf 3 (s 2)) (s 2) →
        stackState ((capPlace (captureOf 3 (s 2)) ((captureOf 3 (s 2)).pos + x) (s 2)).1 / 32) (s 2) = 2)
      ∧ capState 3 (s 2) ≠ 0 ∧ frontValid (s 2) = true ∧ (captureOf 3 (s 2)).rel * cfgP (s 2) ≤ frontNow (s 2)
      ∧ capState 3 (s 2) ≠ 3) := by decide +kernel

theorem witness_DepartureTakesItsNextConsignment :
    (let c : Consig := ⟨15, true, List.replicate 8 0#40, none, 0⟩;
      let s := fun l => lane 79 5 l (up 1 [(R.TMN_CTRL, F.TMN_CTRL_EN, 1)]);
      let a := s { beamq := [c], txq := [c] };
      let b := s { txq := [c], rate170 := true };
      (laneOf (64 + 15) a).cur = none ∧ laneState (64 + 15) a = 5 ∧ tmnEn a = true ∧ pstate a = 1 ∧ nextConsig (64 + 15) a = some c
      ∧ (laneOf (64 + 15) a).eth.open_ = false ∧ (laneOf (64 + 15) a).eth.left = [] ∧ a.chk.busy = none
      ∧ (laneOf (64 + 15) a).bus = [] ∧ wrongSymbols 32 0x0102030400000000 = 4 ∧ c.words ≠ []
      ∧ (laneOf (64 + 15) a).beamq ++ (laneOf (64 + 15) a).txq = c :: (some c).toList
      ∧ (laneOf (64 + 15) b).beamq ++ (laneOf (64 + 15) b).txq = c :: (none : Option Consig).toList
      ∧ (∀ x ∈ laneConsigs (laneOf (64 + 15) a), twinMutes x a = false) ∧ a.chk.force = [] ∧ c.route < 16 ∧ (laneOf (64 + 15) a).beamq ≠ [] ∧ (laneOf (64 + 15) a).rate170 = false
      ∧ nextConsig (64 + 15) b = some c ∧ laneState (64 + 15) b = 5 ∧ (laneOf (64 + 15) b).beamq = []
      ∧ (laneOf (64 + 15) b).rate170 = true) := by decide +kernel

theorem witness_BeamSwapsThatBecomeDue :
    (let s := dueState 0x03 0 [(R.TBL_BANKS, F.TBL_BANKS_GRDY, 1)];
      dueNext s = some ⟨0, 80, 0x03, 0, 0, 0, false, 40, 0⟩ ∧ s.tbl.gswap.last ≠ some (cdiv 80 (cfgP s))
      ∧ isSet R.TBL_BANKS F.TBL_BANKS_GRDY s = true ∧ isSet R.TBL_BANKS F.TBL_BANKS_GRDY (dueState 0x03 0 []) = false)
    ∧ (let s := dueState 0x04 0 [(R.TBL_DTAG, F.TBL_DTAG_READY, 1)];
      dueNext s = some ⟨0, 80, 0x04, 0, 0, 0, false, 40, 0⟩ ∧ s.tbl.dswap.last ≠ some (cdiv 80 (cfgP s))
      ∧ isSet R.TBL_DTAG F.TBL_DTAG_READY s = true ∧ isSet R.TBL_DTAG F.TBL_DTAG_READY (dueState 0x04 0 []) = false) := by
  decide +kernel

theorem witness_BeamSamplesIntegrationsAndFrames :
    (let s := { up 1 [] with pts := { nextJ := 1 } };
      beamWaits s = false ∧ s.tbl.resetAt = none ∧ beamReady s.tbl.next s = true)
    ∧ (let s := fun x => putFrame 127 4095 x (up 1 [(R.TBL_BEAM 127, F.TBL_BEAM_MODE, 2), (R.TBL_BEAM 127, F.TBL_BEAM_M, 3),
          (R.TBL_BEAM 127, F.TBL_BEAM_NFR, 4)]);
      let a := s { open_ := true, n := 6, ints := 1 };
      let b := s { open_ := true, n := 12, ints := 4 };
      let c := { b with beamHeld := 2000000 };
      intFull 127 (frameOf 127 4095 a) a = true ∧ frameFull 127 (frameOf 127 4095 b) b = true
      ∧ intFull 127 (frameOf 127 4095 b) b = false ∧ frameFull 127 (frameOf 127 4095 c) c = true
      ∧ intFull 127 (frameOf 127 4095 c) c = false ∧ 64000000 < (c.beamHeld + c.tbl.held) * 40) := by decide +kernel

/-! ### Junction and Yard -/

/-- A dwell's place in the schedule, and a dwell of it. -/
def slot0 (d : Nat) : Slot := ⟨0, 0, 0, 0, 0, 0, d, 0, 0, true⟩
def dwell0 (d done : Nat) : Dwell := { slot := slot0 d, g := 0, road := 0, done := done }
def rec0 (road : Option Nat) : Rec := ⟨slot0 4, road, 4, false, false, false, false, []⟩

theorem witness_DwellStartTakesTheNextSlot :
    (let s := { up 1 [(R.JCT_CTRL, F.JCT_CTRL_EN, 1), (R.JCT_DISTRICT, F.JCT_DISTRICT_READY, 1), (R.PTS_CFG, F.PTS_CFG_N, 2)] with
          jct := { todo := [slot0 64] } };
      let b := { s with jct := { s.jct with recs := [rec0 (some 0)] } };
      running s = true ∧ isSet R.JCT_CTRL F.JCT_CTRL_EN s = true ∧ s.jct.cur = none ∧ districtsReady s = true
      ∧ s.jct.todo = slot0 64 :: [] ∧ heldSlot (slot0 64) s = false ∧ paced s = true ∧ roadBusy (s.jct.g % 2) s = false
      ∧ roadBusy (b.jct.g % 2) b = true ∧ b.jct.late = false ∧ paced b = true ∧ heldSlot (slot0 64) b = false) := by decide +kernel

theorem witness_SweepReachesTheNextBoundary :
    (dwell0 4 0).slot.d ≤ nextBoundary (dwell0 4 0) ∧ nextBoundary (dwell0 5000 0) < (dwell0 5000 0).slot.d
    ∧ { up 1 [] with jct := { cur := some (dwell0 5000 0), force := true } }.jct.force = true
    ∧ { up 1 [] with jct := { cur := some (dwell0 5000 0) } }.jct.force = false := by decide +kernel

theorem witness_SweepAddsTheIntervalSums :
    (let s := fun d => { up 1 [(R.PTS_CFG, F.PTS_CFG_N, 2)] with jct := { cur := some (dwell0 5000 d) } };
      (dwell0 5000 0).done = 0 ∧ (dwell0 5000 1928).done ≠ 0 ∧ (dwell0 5000 0).fresh = []
      ∧ ∀ d ∈ [0, 1928], (s d).jct.cur = some (dwell0 5000 d) ∧ injs (s d) = [] ∧ (s d).jct.shadow = [] ∧ (s d).jct.carry = []
        ∧ (s d).jct.yardErr = [] ∧ (s d).jct.poison = []) := by decide +kernel

/-- A visibility that a carry has brought to the limit and one sample takes beyond it: the state of the clause on
saturation. -/
theorem witness_Saturation : satVis (addVis (2 ^ 39 - 1, 0) (1, 0)) ≠ addVis (2 ^ 39 - 1, 0) (1, 0)
    ∧ drains (slot0 5000) 1 0 (up 1 [(R.PTS_CFG, F.PTS_CFG_N, 2)]) = true := by decide +kernel

/-- Inspection column 0 shadows column 255 in a dwell that has begun; `run` as given. -/
def shadowing (auto : Nat) (run : List (Recheck × Nat × Nat)) (sh : List (Nat × Nat)) : State :=
  { up 1 [(R.PTS_CFG, F.PTS_CFG_N, 2), (R.INS_CTRL, F.INS_CTRL_AUTO_RETIRE, auto)] with
    jct := { cur := some (dwell0 5000 0) }, ins := { shadow := sh, run := run } }

/-- What every clause on a comparison asks of its state. -/
def comparing (s : State) : Bool :=
  s.jct.cur == some (dwell0 5000 0) && (dwell0 5000 0).fresh.isEmpty && (injs s).isEmpty && isSet R.INS_CTRL F.INS_CTRL_EN s
    && decide (255 < cUsed s) && inRot 0 s && ((List.range 8).all fun k => !isSet (R.INS_COLMAP k) F.INS_COLMAP_USED s)
    && ((List.range 4).all fun k => !isSet (R.INS_ROWMAP k) F.INS_ROWMAP_USED s) && s.ins.shadow.all fun x => decide (x.2 < 1024)

theorem witness_InspectionComparesAndRetires :
    (∀ a ∈ [0, 1], let s := shadowing a [] [(0, 255), (1, 64)];
      comparing s = true ∧ s.ins.run = [] ∧ s.ins.raised = [] ∧ s.ins.shadow.Nodup ∧ (0, 255) ∈ s.ins.shadow
      ∧ (∀ x ∈ s.ins.shadow, x.2 = 255 → x.1 = 0))
    ∧ (∀ a ∈ [0, 1], let u := shadowing a [({ col := 255, insp := 0, row := 0, tries := 0 }, 0, 3)] [(1, 64)];
      comparing u = true ∧ u.ins.run = [({ col := 255, insp := 0, row := 0, tries := 0 }, 0, 3)] ∧ (dwell0 5000 0).done = 0
      ∧ (∀ x ∈ u.ins.shadow, x.2 ≠ 255) ∧ u.ins.subst = [] ∧ freeSpare false u = some 0
      ∧ isSet R.INS_CTRL F.INS_CTRL_AUTO_RETIRE u = (a == 1)) := by decide +kernel

theorem witness_Substitution :
    (let s := { up 1 [(R.JCT_CTRL, F.JCT_CTRL_EN, 1), (R.JCT_DISTRICT, F.JCT_DISTRICT_READY, 1), (R.PTS_CFG, F.PTS_CFG_N, 2),
          (R.INS_COLMAP 2, F.INS_COLMAP_USED, 1)] with
          jct := { todo := [slot0 64] }, ins := { subst := [⟨false, 3, 1023, true⟩] } };
      running s = true ∧ isSet R.JCT_CTRL F.JCT_CTRL_EN s = true ∧ s.jct.cur = none ∧ districtsReady s = true
      ∧ s.jct.todo = [slot0 64] ∧ heldSlot (slot0 64) s = false ∧ paced s = true ∧ roadBusy (s.jct.g % 2) s = false
      ∧ s.ins.restore = false ∧ s.ins.subst = [⟨false, 3, 1023, true⟩]
      ∧ (List.range 8).all (fun m => !isSet (R.INS_COLMAP m) F.INS_COLMAP_USED s || (m == 2 && getF (R.INS_COLMAP m) F.INS_COLMAP_INDEX s == 0))
        = true) := by decide +kernel

theorem witness_ConsignmentsOfARecord :
    (let s := fun r => lane 79 5 {} { up 1 [(R.PTS_CFG, F.PTS_CFG_N, 2), (R.TMN_CTRL, F.TMN_CTRL_EN, 1), (R.TMN_ROUTE 0, F.TMN_ROUTE_EN, 1),
          (R.TMN_ROUTE 0, F.TMN_ROUTE_LANES, 32768)] with jct := { recs := [rec0 r], row := 1, v := 1, open_ := [(1, 2)] } };
      (∀ r ∈ [none, some 1], (s r).jct.recs = rec0 r :: [] ∧ pstate (s r) = 1 ∧ tmnEn (s r) = true
        ∧ isSet (R.TMN_ROUTE (rakeRoute (rec0 r).slot.rake (s r))) F.TMN_ROUTE_EN (s r) = true
        ∧ twinMutes ⟨0, false, [], none, 0⟩ (s r) = false ∧ laneSelect 0 0 (s r) = some (79, false)
        ∧ bufferRoom (8 + manifestWords (rec0 r) (s r)) (s r) = true)
      ∧ (let t := s (some 1);
        t.jct.flush.isEmpty = true ∧ inFinal 7 t = false ∧ t.jct.cycles = [] ∧ t.jct.yardErr = [] ∧ t.jct.poison = []
        ∧ blockLines 0 t ≤ t.jct.row + 1 ∧ 0 < rowCols (slot0 4) t.jct.row t ∧ t.jct.open_.length ≤ t.jct.v
        ∧ t.jct.open_.length + rowCols (slot0 4) t.jct.row t ≤ cvisOf 0 t
        ∧ bufferRoom (wordsUpTo false (cvisOf 0 t) (t.jct.v + rowCols (slot0 4) t.jct.row t) - wordsUpTo false (cvisOf 0 t) t.jct.v
            + manifestWords (rec0 (some 1)) t) t = true)) := by decide +kernel

theorem witness_FlushHandsOverTheRecord :
    { up 1 [] with jct := { flush := [dwell0 4 4] } }.jct.flush = dwell0 4 4 :: [] := by decide +kernel

theorem witness_DrainRowByRow :
    (let s := fun r h => { up 1 [(R.PTS_CFG, F.PTS_CFG_N, 2), (R.TMN_CTRL, F.TMN_CTRL_EN, 1), (R.TMN_ROUTE 0, F.TMN_ROUTE_EN, 1)] with jct := { recs := [rec0 r] }, tmnHeld := h };
      (s none 0).jct.recs = rec0 none :: [] ∧ pstate (s none 0) = 1
      ∧ bufferRoom (8 + manifestWords (rec0 none) (s none 0)) (s none 0) = true
      ∧ bufferRoom (8 + manifestWords (rec0 none) (s none 1200000)) (s none 1200000) = false
      ∧ drainsFreely (rakeRoute (rec0 none).slot.rake (s none 1200000)) (s none 1200000) = false)
    ∧ (let s := { up 1 [(R.PTS_CFG, F.PTS_CFG_N, 2)] with jct := { recs := [rec0 (some 0)] } };
      let l := { s with jct := { s.jct with row := 1 } };
      let w := { s with jct := { s.jct with cur := some (dwell0 4 0), cycles := [0] } };
      s.jct.flush.isEmpty = true ∧ inFinal 0 s = false ∧ s.jct.cycles = [] ∧ inFinal 2 w = false ∧ inFinal 3 w = true
      ∧ 1024 ∈ w.jct.cycles.map (· + 1024)
      ∧ { s with jct := { s.jct with flush := [dwell0 4 4] } }.jct.flush.isEmpty = false ∧ drainsFreely (rakeRoute 0 s) s = true ∧ s.jct.row + 1 < blockLines 0 s
      ∧ blockLines 0 l ≤ l.jct.row + 1 ∧ drainsFreely (rakeRoute 0 l) l = true) := by decide +kernel

theorem witness_PlatformSwitchPlansThePeriod :
    (let s := { up 1 [(R.PTS_FRONT, F.PTS_FRONT_VALID, 1), (R.SDG_PLEN, F.SDG_PLEN_PLEN, 2050)] with pts := { nextJ := 2050 } };
      running s = true ∧ frontValid s = true ∧ s.sdg.restart = false ∧ platLen s ≠ 0 ∧ s.sdg.nextSwitch + platLen s ≤ s.pts.nextJ
      ∧ isSet R.TTB_STATE F.TTB_STATE_DPR_PEND s = false
      ∧ { s with jct := { cur := some (dwell0 4 0) } }.jct.cur ≠ none) := by decide +kernel

theorem witness_FeedParityMarksTheDwell :
    (let s := { up 1 [(R.PTS_CFG, F.PTS_CFG_N, 2)] with jct := { cur := some (dwell0 4 0) } };
      s.jct.cur = some (dwell0 4 0) ∧ districtsNeeded (cfgN s) / 2 ^ 0 % 2 = 1 ∧ 256 * (0 / 4) + 1 < blockLines 0 s
      ∧ ¬ (256 * (0 / 4) + 2 < blockLines 0 s) ∧ ¬ (districtsNeeded (cfgN s) / 2 ^ 15 % 2 = 1)
      ∧ (let u := { up 1 [(R.PTS_CFG, F.PTS_CFG_N, 2)] with jct := { flush := [dwell0 4 4] } };
        u.jct.cur = none ∧ u.jct.flush = dwell0 4 4 :: [])) := by decide +kernel

theorem witness_RakesOpenAndClose :
    (let s := fun c a l => dueState c a l;
      dueNext (s 0x08 7 []) = some ⟨0, 80, 0x08, 7, 0, 0, false, 40, 0⟩ ∧ dueNext (s 0x09 7 []) = some ⟨0, 80, 0x09, 7, 0, 0, false, 40, 0⟩
      ∧ (let d := s 0x08 7 [(R.JCT_RAKE 7, F.JCT_RAKE_DEF, 1), (R.JCT_RAKE 7, F.JCT_RAKE_DLEN, 3)];
        isSet (R.JCT_RAKE 7) F.JCT_RAKE_DEF d = true ∧ isSet (R.JCT_RAKE 7) F.JCT_RAKE_OPEN d = false ∧ 0 < rakeLen 7 d)
      ∧ isSet (R.JCT_RAKE 7) F.JCT_RAKE_DEF (s 0x08 7 []) = false
      ∧ isSet (R.JCT_RAKE 7) F.JCT_RAKE_OPEN (s 0x09 7 [(R.JCT_RAKE 7, F.JCT_RAKE_OPEN, 1)]) = true
      ∧ isSet (R.JCT_RAKE 7) F.JCT_RAKE_OPEN (s 0x09 7 []) = false) := by decide +kernel

theorem witness_KeyedResetHasTwoHalves :
    (let s := dueState 0x18 0 [];
      dueNext s = some ⟨0, 80, 0x18, 0, 0, 0, false, 40, 0⟩ ∧ s.gau.acts = [] ∧ cdiv 80 (cfgP s) < 2 ^ 48)
    ∧ oldFlushed (up 1 [(R.TTB_STATE, F.TTB_STATE_DPR_PEND, 1)]) = true := by decide +kernel

theorem witness_WorkingSetChangeIsADataPlaneReset :
    (let s := { up 1 [(R.SDG_STK 0, F.SDG_STK_STATE, 2), (R.SUB_STATE, F.SUB_STATE_PEND, 3)] with sdg := { restart := true } };
      let same := setWork 1 s;
      s.sdg.restart = true ∧ coreClocked s = true ∧ running s = true ∧ drained s = true ∧ s.jct.recs = [] ∧ s.jct.todo = []
      ∧ isSet R.DEP_STATE F.DEP_STATE_RECOVERY s = false ∧ newWork s ≠ workMask s
      ∧ newWork same = workMask same ∧ same.sdg.rateRun = false ∧ same.pow.notching = false
      ∧ (let u := flushFrames { setWork (newWork same) same with sdg := { same.sdg with restart := false } }; passingPlans u = [])
      ∧ drained { s with jct := { cur := some (dwell0 4 0) } } = false
      ∧ { s with jct := { recs := [rec0 none] } }.jct.recs ≠ []) := by decide +kernel

/-! ### The Lenya cores -/

/-- Core `n` runs with `i` at its PC (16), registers `l` and core data `c`. -/
def coreAt (n : CoreId) (i : Instr) (l : List (Nat × Nat)) (c : Core) : State :=
  let s := up 1 [(R.DSP_CTRL n.val, F.DSP_CTRL_RUN, 1)]
  let s := l.foldl (fun s x => setNat n.val x.1 x.2 s) (setNat n.val 54 16 s)
  putCore n.val { c with mode := 1 } (wr (codeBase n.val + 16) ((encodeCore i).getD 0#40) s)

def fetchesB (n : CoreId) (i : Instr) (s : State) : Bool :=
  canIssue n.val s && decide (fetched n s = some i) && memErrAt (codeAt n.val s) s == 0
def quietB (n : CoreId) (s : State) : Bool :=
  (coreOf n.val s).inflight.all (fun x => decide (2 ≤ x.1)) && (n.val == 8 || isSet (R.DSP_CTRL n.val) F.DSP_CTRL_RUN s)
def offLoopB (n : CoreId) (s : State) : Bool :=
  regNat n.val 42 s == 0 || decide (pcOf n.val s + 2 < regNat n.val 44 s) || decide (regNat n.val 44 s < pcOf n.val s)
def readyB (n : CoreId) (i : Instr) (s : State) : Bool :=
  fetchesB n i s && quietB n s && offLoopB n s && (coreOf n.val s).delay == 0

theorem fetches_of {n i s} (h : fetchesB n i s = true) : Fetches n i s := by
  simpa [fetchesB, Fetches, and_assoc] using h
theorem quiet_of {n s} (h : quietB n s = true) : Quiet n s := by
  simpa [quietB, Quiet, List.all_eq_true] using h
theorem offLoop_of {n s} (h : offLoopB n s = true) : OffLoopEnd n s := by
  simpa [offLoopB, OffLoopEnd, or_assoc] using h
theorem ready_of {n i s} (h : readyB n i s = true) : Ready n i s := by
  simp only [readyB, Bool.and_eq_true, beq_iff_eq] at h
  exact ⟨fetches_of h.1.1.1, quiet_of h.1.1.2, offLoop_of h.1.2, h.2⟩

/-- A state in which the Gatehouse and `i` are ready for each listed instruction. -/
theorem ready_list {n : CoreId} {l : List Instr} {f : Instr → State}
    (h : (l.all fun i => readyB n i (f i)) = true) : ∀ i ∈ l, Ready n i (f i) :=
  fun i hi => ready_of (List.all_eq_true.mp h i hi)

/-- W1 = -1 (all ones), W2 = the most negative word, W3 = 0, with a result in flight that does not mature. -/
def coreOn (n : CoreId) (i : Instr) : State :=
  coreAt n i [(1, 2 ^ 40 - 1), (2, 2 ^ 39)] { inflight := [(2, .reg 5 7#40)] }

theorem witness_CoreSumsSetAllFlags :
    ∀ i ∈ [Instr.add 8 4 1 2, .addc 8 4 1 1, .sub 8 4 2 1, .subb 8 4 3 1, .neg 8 4 2, .addi 8 4 1 0xFFFFFF#24, .cmp 8 2 1,
      .cmpi 8 1 0x800000#24], Ready 8 i (coreOn 8 i) := ready_list (by decide +kernel)

theorem witness_CoreLogicShiftsAndProducts :
    ∀ i ∈ [Instr.and 0 4 1 2, .or 0 4 1 2, .xor 0 4 1 1, .andn 0 4 1 2, .not 0 4 1, .shl 0 4 1 1, .shr 0 4 2 1,
      .shrl 0 4 2 1, .min 0 4 1 2, .max 0 4 1 2, .minu 0 4 1 2, .maxu 0 4 1 2, .clz 0 4 3, .abs 0 4 2, .andi 0 4 1 0xFFFFFF#24,
      .ori 0 4 1 1#24, .xori 0 4 1 1#24, .shli 0 4 1 63#6, .shri 0 4 2 40#6, .shrli 0 4 2 39#6, .movk 0 4 false 0x800000#24,
      .movk 0 4 true 0xFFFF#24, .mull 0 4 1 2, .mulh 0 4 1 2, .mulhu 0 4 1 2], Ready 0 i (coreOn 0 i) :=
  ready_list (by decide +kernel)

theorem witness_CoreComplexFunctions :
    (∀ i ∈ [Instr.cadd 7 4 1 2, .csub 7 4 1 2, .cmulr 7 4 2 2, .cmulj 7 4 2 2, .cneg 7 4 2, .cshr 7 4 1 1, .cswap 7 4 1,
      .cmag2 7 4 2, .cconj 7 4 1, .cconj 7 4 6], Ready 7 i (coreOn 7 i))
    ∧ ((regRead 7 1 (coreOn 7 (.cconj 7 4 1))).extractLsb' 0 20).toInt ≠ -2 ^ 19
    ∧ (let s := coreAt 7 (.cconj 7 4 6) [(6, 2 ^ 19)] {};
      Ready 7 (.cconj 7 4 6) s ∧ ((regRead 7 6 s).extractLsb' 0 20).toInt = -2 ^ 19) :=
  ⟨ready_list (by decide +kernel), by decide +kernel, ready_of (by decide +kernel), by decide +kernel⟩

theorem witness_CoreMoves :
    ∀ i ∈ [Instr.mva 8 4 true true, .mva 8 4 false false, .movx 8 46 1, .movx 8 48 1, .movx 8 0 53, .mova 8 16 0xFFFFFFF#28,
      .mova 8 39 1#28], Ready 8 i (coreOn 8 i) := ready_list (by decide +kernel)

theorem witness_ResultsBecomeVisibleInTime :
    ∀ l ∈ [[(1, CoreWr.reg 4 1#40), (1, .reg 5 2#40)], [(1, .cplx 4 (-2 ^ 19) 3)], [(1, .mac true true 1 (-1))],
        [(1, .mac false false (2 ^ 47 - 1) 0)]],
      let s := coreAt 6 (.nop 6) [] { inflight := l }
      Fetches 6 (.nop 6) s ∧ (coreOf 6 s).delay = 0 ∧ OffLoopEnd 6 s ∧ isSet (R.DSP_CTRL 6) F.DSP_CTRL_RUN s = true
      ∧ (coreOf 6 s).inflight = l := by
  have h : ∀ l ∈ [[(1, CoreWr.reg 4 1#40), (1, .reg 5 2#40)], [(1, .cplx 4 (-2 ^ 19) 3)], [(1, .mac true true 1 (-1))],
        [(1, .mac false false (2 ^ 47 - 1) 0)]],
      let s := coreAt 6 (.nop 6) [] { inflight := l }
      fetchesB 6 (.nop 6) s = true ∧ (coreOf 6 s).delay = 0 ∧ offLoopB 6 s = true ∧ isSet (R.DSP_CTRL 6) F.DSP_CTRL_RUN s = true
      ∧ (coreOf 6 s).inflight = l := by decide +kernel
  intro l hl
  obtain ⟨a, b, c, d⟩ := h l hl
  exact ⟨fetches_of a, b, offLoop_of c, d⟩

theorem witness_AddressModesFollowTable104 :
    (5 : Nat) ≤ 2 ^ 3 ∧ (∀ j, 5 ≤ 2 ^ j → 3 ≤ j) ∧ 12 = 1 * 2 ^ 3 + 4 ∧ (BitVec.ofNat 28 (2 ^ 28 - 5)).toInt = -5
    ∧ (∀ k, 1 ≤ k → k ≤ 16 → (0 : Nat) ≠ 2 ^ k) ∧ (∀ k, 1 ≤ k → k ≤ 16 → (131072 : Nat) ≠ 2 ^ k) := by
  refine ⟨by decide, fun j h => ?_, by decide, by decide, fun k h1 h2 => ?_, fun k h1 h2 => ?_⟩
  · by_contra hj
    interval_cases j <;> omega
  · interval_cases k <;> decide
  · interval_cases k <;> decide

def ld1 (m : Fin 4) : LoadDesc := if m = 0 then ⟨0, 0, 0, 0⟩ else ⟨4, 0, 0, m⟩
def ld2 (m : Fin 4) : LoadDesc := if m = 0 then ⟨0, 0, 0, 0⟩ else ⟨5, 1, 1, m⟩
/-- A0 at `a`, A1 at the last word of the core's data memory, M0 = 1, L0 = 16. -/
def memOn (n : CoreId) (i : Instr) (a : Nat) (c : Core) : State :=
  coreAt n i [(16, a), (17, dataBase n.val + memWords n.val - 1), (24, 1), (25, 2), (32, 16)] c

theorem witness_CoreLoadsAndStores :
    (∀ x ∈ [(Instr.ld 8 4 0 0 0, dataBase 8), (.ld 8 4 0 0 1, dataBase 8 + memWords 8 - 1), (.ld 8 4 0 0 2, 0x2000000),
        (.st 8 4 0 0 0, dataBase 8), (.st 8 4 0 0 1, 0x2000000)], Ready 8 x.1 (memOn 8 x.1 x.2 {}) ∧ regOf 8 16 (memOn 8 x.1 x.2 {}) = x.2
        ∧ (nextOf 8 0 0 1 (memOn 8 x.1 x.2 {})).isSome = true)
    ∧ ownData 8 (dataBase 8) = true ∧ ownData 8 (dataBase 8 + memWords 8 - 1) = true ∧ ownData 8 (dataBase 8 + memWords 8) = false
    ∧ ownData 8 0x2000000 = false ∧ memErrAt (dataBase 8) State.reset = 0
    ∧ memErrAt (dataBase 8) (setMemErr (dataBase 8) 1 State.reset) = 1
    ∧ memErrAt (dataBase 8) (setMemErr (dataBase 8) 2 State.reset) = 2
    ∧ readyB 8 (.ld 8 4 0 0 0) (setMemErr (dataBase 8) 2 (memOn 8 (.ld 8 4 0 0 0) (dataBase 8) {})) = true
    ∧ (let c := coreOf 8 (memOn 8 (.st 8 4 0 0 1) 0x2000000 { posts := 5, stale := 2 }); c.posts + c.stale = 7)
    ∧ readyB 8 (.st 8 4 0 0 1) (memOn 8 (.st 8 4 0 0 1) 0x2000000 { posts := 5, stale := 2 }) = true
    ∧ readyB 8 (.ld 8 4 0 0 1) (memOn 8 (.ld 8 4 0 0 1) 0x2000000 { posts := 7 }) = true
    ∧ (let c := coreOf 8 (memOn 8 (.st 8 4 0 0 1) 0x2000000 { posts := 7, stale := 1 }); c.posts + c.stale = 8) := by
  refine ⟨fun x hx => ?_, by decide +kernel⟩
  have h : ∀ x ∈ [(Instr.ld 8 4 0 0 0, dataBase 8), (.ld 8 4 0 0 1, dataBase 8 + memWords 8 - 1), (.ld 8 4 0 0 2, 0x2000000),
        (.st 8 4 0 0 0, dataBase 8), (.st 8 4 0 0 1, 0x2000000)], readyB 8 x.1 (memOn 8 x.1 x.2 {}) = true
        ∧ regOf 8 16 (memOn 8 x.1 x.2 {}) = x.2 ∧ (nextOf 8 0 0 1 (memOn 8 x.1 x.2 {})).isSome = true := by decide +kernel
  exact ⟨ready_of (h x hx).1, (h x hx).2⟩

theorem witness_CoreMultiplyAccumulateAndDualLoads :
    (∀ i ∈ [Instr.ldd 6 (ld1 1) (ld2 2), .ldd 6 (ld1 0) (ld2 0), .macl 6 true true true 1 2 (ld1 1) ⟨5, 0, 0, 1⟩,
        .mpyl 6 false false false 1 2 (ld1 0) (ld2 1)], Ready 6 i (memOn 6 i (dataBase 6) {}))
    ∧ (let s := memOn 6 (.ldd 6 (ld1 1) ⟨5, 0, 0, 1⟩) (dataBase 6) {};
      nextOf 6 0 0 1 s ≠ none ∧ ownData 6 (regOf 6 16 s) = true ∧ memErrAt (regOf 6 16 s) s = 0
      ∧ secondNext 6 (ld1 1) ⟨5, 0, 0, 1⟩ s ≠ none ∧ ownData 6 (secondAddr 6 (ld1 1) ⟨5, 0, 0, 1⟩ s) = true
      ∧ memErrAt (secondAddr 6 (ld1 1) ⟨5, 0, 0, 1⟩ s) s = 0)
    ∧ (let i := Instr.ldd 6 (ld1 3) (ld2 0)
      let s := coreAt 6 i [(16, dataBase 6)] {}
      Ready 6 i s ∧ ∀ k, 1 ≤ k → k ≤ 16 → regOf 6 32 s ≠ 2 ^ k) := by
  refine ⟨ready_list (by decide +kernel), by decide +kernel, ready_of (by decide +kernel), fun k h1 h2 => ?_⟩
  interval_cases k <;> decide +kernel

theorem witness_CoreBranches :
    (∀ i ∈ [Instr.br 8 0 262143#18, .br 8 1 0#18, .call 8 0 0#18, .jr 8 0 1], Ready 8 i (coreAt 8 i [(1, 262143)] {}))
    ∧ (let s := coreAt 0 (.jr 0 0 1) [(1, 65535)] {};
      Ready 0 (.jr 0 0 1) s ∧ condTrue 0 0 s = true ∧ (regRead 0 1 s).toNat % 2 ^ 18 < memWords 0)
    ∧ (let s := coreAt 0 (.jr 0 0 1) [(1, 65536)] {};
      Ready 0 (.jr 0 0 1) s ∧ condTrue 0 0 s = true ∧ memWords 0 ≤ (regRead 0 1 s).toNat % 2 ^ 18)
    ∧ (∀ d ∈ [1, 2], let s := coreAt 0 (.nop 0) [] { delay := d, target := some 65535 }
      Fetches 0 (.nop 0) s ∧ Quiet 0 s ∧ OffLoopEnd 0 s ∧ (coreOf 0 s).delay = d)
    ∧ (let i := Instr.rti 0
      let s := coreAt 0 i [] { delay := 2 }
      branchClass i = true ∧ Fetches 0 i s ∧ Quiet 0 s ∧ OffLoopEnd 0 s ∧ (coreOf 0 s).delay = 2 ∧ (coreOf 0 s).trap = none) := by
  refine ⟨ready_list (by decide +kernel), ⟨ready_of (by decide +kernel), by decide +kernel, by decide +kernel⟩,
    ⟨ready_of (by decide +kernel), by decide +kernel, by decide +kernel⟩, fun d hd => ?_,
    ⟨rfl, fetches_of (by decide +kernel), quiet_of (by decide +kernel), offLoop_of (by decide +kernel), by decide +kernel⟩⟩
  have h : ∀ d ∈ [1, 2], let s := coreAt 0 (.nop 0) [] { delay := d, target := some 65535 };
      fetchesB 0 (.nop 0) s = true ∧ quietB 0 s = true ∧ offLoopB 0 s = true ∧ (coreOf 0 s).delay = d := by decide +kernel
  obtain ⟨a, b, c, e⟩ := h d hd
  exact ⟨fetches_of a, quiet_of b, offLoop_of c, e⟩

theorem witness_ConditionsAfterCompare : Ready 3 (.cmp 3 1 2) (coreOn 3 (.cmp 3 1 2)) := ready_of (by decide +kernel)

theorem witness_CoreLoops :
    (∀ i ∈ [Instr.loopi 8 4095#12 262143#18, .loopi 8 0#12 17#18, .loopi 8 1#12 16#18, .loopr 8 1 17#18, .loopr 8 1 16#18],
      Ready 8 i (coreOn 8 i))
    ∧ (∀ c ∈ [1, 2, 2 ^ 24 - 1], let s := coreAt 8 (.nop 8) [(42, c), (43, 10), (44, 16)] {}
      Fetches 8 (.nop 8) s ∧ Quiet 8 s ∧ (coreOf 8 s).delay = 0 ∧ pcOf 8 s = regOf 8 44 s ∧ regOf 8 42 s = c)
    ∧ (∀ e ∈ [16, 18], let i := Instr.br 8 0 0#18
      let s := coreAt 8 i [(42, 1), (44, e)] {}
      Fetches 8 i s ∧ Quiet 8 s ∧ (coreOf 8 s).delay = 0 ∧ regOf 8 42 s ≠ 0 ∧ pcOf 8 s ≤ regOf 8 44 s
        ∧ regOf 8 44 s ≤ pcOf 8 s + 2) := by
  refine ⟨ready_list (by decide +kernel), fun c hc => ?_, fun e he => ?_⟩
  · have h : ∀ c ∈ [1, 2, 2 ^ 24 - 1], let s := coreAt 8 (.nop 8) [(42, c), (43, 10), (44, 16)] {};
      fetchesB 8 (.nop 8) s = true ∧ quietB 8 s = true ∧ (coreOf 8 s).delay = 0 ∧ pcOf 8 s = regOf 8 44 s ∧ regOf 8 42 s = c := by
      decide +kernel
    obtain ⟨a, b, r⟩ := h c hc
    exact ⟨fetches_of a, quiet_of b, r⟩
  · have h : ∀ e ∈ [16, 18], let s := coreAt 8 (.br 8 0 0#18) [(42, 1), (44, e)] {};
      fetchesB 8 (.br 8 0 0#18) s = true ∧ quietB 8 s = true ∧ (coreOf 8 s).delay = 0 ∧ regOf 8 42 s ≠ 0
        ∧ pcOf 8 s ≤ regOf 8 44 s ∧ regOf 8 44 s ≤ pcOf 8 s + 2 := by decide +kernel
    obtain ⟨a, b, r⟩ := h e he
    exact ⟨fetches_of a, quiet_of b, r⟩

theorem witness_CoreControlGroup :
    (∀ i ∈ [Instr.nop 6, .idle 6, .rti 6, .sync 6, .trap 6, .bxclr 6], Ready 6 i (coreOn 6 i))
    ∧ Ready 8 (.halt 8) (coreAt 8 (.halt 8) [] {}) ∧ (coreOf 8 (coreAt 8 (.halt 8) [] {})).inflight = [] :=
  ⟨ready_list (by decide +kernel), ready_of (by decide +kernel), by decide +kernel⟩

/-- Core `n` with STAT `st` and the sources `p` pending and enabled. -/
def irqOn (n : CoreId) (st p : Nat) (c : Core) : State :=
  having [(R.DSP_IPEND n.val, F.DSP_IPEND_PEND, p), (R.DSP_IEN n.val, F.DSP_IEN_EN, 31)]
    (putCore n.val c (setNat n.val 40 st (up 2 [])))

theorem witness_CoreEntries :
    (∀ x ∈ [(1, 4, 16), (1, 1, 30), (2, 2, 12)], let s := irqOn 5 1 x.2.2 { mode := x.1 }
      coreClocked s = true ∧ settled 5 s = true ∧ statBit 5 0 s = true ∧ (pendingIrqs 5 s).testBit x.2.1 = true
        ∧ (∀ k, k < x.2.1 → (pendingIrqs 5 s).testBit k = false) ∧ (coreOf 5 s).mode = x.1)
    ∧ (let s := irqOn 5 0 2 { mode := 2 };
      coreClocked s = true ∧ (coreOf 5 s).mode = 2 ∧ pendingIrqs 5 s ≠ 0 ∧ statBit 5 0 s = false)
    ∧ (∀ x ∈ [(0, false), (256, true)], let s := irqOn 8 x.1 0 { mode := 1, trap := some 3 };
      coreClocked s = true ∧ (coreOf 8 s).mode = 1 ∧ (coreOf 8 s).delay = 0 ∧ (coreOf 8 s).loads = [] ∧ (coreOf 8 s).inflight = []
        ∧ (coreOf 8 s).trap = some 3 ∧ statBit 8 8 s = x.2)
    ∧ (let s := wr (codeBase 4) (BitVec.allOnes 40) (irqOn 4 0 0 { mode := 1 });
      canIssue 4 s = true ∧ memErrAt (codeAt 4 s) s = 0 ∧ fetched 4 s = none ∧ (coreOf 4 s).inflight = [] ∧ (coreOf 4 s).delay = 0
        ∧ regNat 4 42 s = 0 ∧ statBit 4 8 s = false) := by
  refine ⟨fun x hx => ?_, by decide +kernel, by decide +kernel, by decide +kernel⟩
  have h : ∀ x ∈ [(1, 4, 16), (1, 1, 30), (2, 2, 12)], let s := irqOn 5 1 x.2.2 { mode := x.1 };
      coreClocked s = true ∧ settled 5 s = true ∧ statBit 5 0 s = true ∧ (pendingIrqs 5 s).testBit x.2.1 = true
        ∧ ((List.range x.2.1).all fun k => !(pendingIrqs 5 s).testBit k) = true ∧ (coreOf 5 s).mode = x.1 := by decide +kernel
  obtain ⟨a, b, c, d, e, f⟩ := h x hx
  exact ⟨a, b, c, d, fun k hk => by simpa using List.all_eq_true.mp e k (List.mem_range.mpr hk), f⟩

theorem witness_TrapWithinATrapFaults :
    (let s := irqOn 8 256 0 { mode := 1, trap := some 0, inflight := [(1, .reg 4 1#40)] };
      coreClocked s = true ∧ (coreOf 8 s).mode = 1 ∧ (coreOf 8 s).delay = 0 ∧ (coreOf 8 s).loads = [] ∧ (coreOf 8 s).trap = some 0
      ∧ statBit 8 8 s = true ∧ (coreOf 8 s).inflight = [(1, .reg 4 1#40)]) := by decide +kernel

theorem witness_FarResponses :
    (∀ x ∈ [(0, [7#40]), (2, [])], let q : Req × Answer := (⟨9, 0, 5#28, 1, none⟩, { code := x.1, data := x.2 })
      let s := { coreAt 7 (.nop 7) [] { loads := [(4, none)] } with ilk := { done := [(⟨8, q.1.tid, q.1.addr, 1, none⟩, q.2)] } }
      oldestDone 7 false s = some (⟨8, 0, 5#28, 1, none⟩, q.2) ∧ Quiet 7 s ∧ (coreOf 7 s).loads = [(4, none)] ∧ (coreOf 7 s).delay = 0
      ∧ (coreOf 7 s).stale = 0 ∧ statBit 7 7 s = false)
    ∧ (∀ x ∈ [0, 3], let s := { coreAt 7 (.nop 7) [] { posts := 1, sync := true } with
            ilk := { done := [(⟨8, 0, 5#28, 1, some [0#40]⟩, { code := x })] } };
      oldestDone 7 true s = some (⟨8, 0, 5#28, 1, some [0#40]⟩, { code := x }) ∧ statBit 7 7 s = false) := by
  refine ⟨fun x hx => ?_, by decide +kernel⟩
  have h : ∀ x ∈ [(0, [7#40]), (2, [])], let a : Answer := { code := x.1, data := x.2 };
      let s := { coreAt 7 (.nop 7) [] { loads := [(4, none)] } with ilk := { done := [(⟨8, 0, 5#28, 1, none⟩, a)] } };
      oldestDone 7 false s = some (⟨8, 0, 5#28, 1, none⟩, a) ∧ quietB 7 s = true ∧ (coreOf 7 s).loads = [(4, none)]
      ∧ (coreOf 7 s).delay = 0 ∧ (coreOf 7 s).stale = 0 ∧ statBit 7 7 s = false := by decide +kernel
  obtain ⟨a, b, c⟩ := h x hx
  exact ⟨a, quiet_of b, c⟩

/-! ### Cores' errors, the Signal Box, the Interlocking -/

theorem witness_CoreHardErrorsAndTimers :
    (let s := coreAt 8 (.nop 8) [] {};
      canIssue 8 (setMemErr 16 2 s) = true ∧ memErrAt (codeAt 8 (setMemErr 16 2 s)) (setMemErr 16 2 s) = 2)
    ∧ getF (R.DSP_TIMER 8) F.DSP_TIMER_PERIOD State.reset = 0
    ∧ getF (R.DSP_TIMER 8) F.DSP_TIMER_PERIOD (at_ 1 [(R.DSP_TIMER 8, F.DSP_TIMER_PERIOD, 1)]) ≠ 0
    ∧ (let s := at_ 1 [(R.DSP_WDOG 7, F.DSP_WDOG_TIMEOUT, 1)];
      getF (R.DSP_WDOG 7) F.DSP_WDOG_TIMEOUT s ≠ 0 ∧ (coreOf 7 s).mode ≠ 4
      ∧ (coreOf 7 (putCore 7 { mode := 4 } s)).mode = 4)
    ∧ 65535 < memWords 7 ∧ 262143 < memWords 8
    ∧ (∀ k ∈ [0, 1, 2], memErrAt (codeBase 7 + 65535) (setMemErr (codeBase 7 + 65535) k State.reset) = k) := by decide +kernel

theorem witness_SignalBoxRestarts :
    (∀ l ∈ [[0], [0, 0]], let s := { up 1 [] with lockTimes := l };
      coreClocked s = true ∧ getF (R.DSP_STATE 8) F.DSP_STATE_STATE s ≠ 5
      ∧ (s.lockTimes.filter fun x => decide (tickNow s < x + 2500000000)).length = l.length)
    ∧ (∀ k ∈ [1, 3], let s := up 1 [(R.DSP_STATE 8, F.DSP_STATE_STATE, k)];
      getF (R.DSP_STATE 8) F.DSP_STATE_STATE s = k ∧ coreOf 8 s = {}) := by decide +kernel

/-- A request of master `m` at its port, and others outstanding. -/
def asking (r : Req) (out : List Req) (s : State) : State := { s with ilk := { wait := [r], out := out } }
def req (m : Fin 16) (a : BitVec 28) : Req := ⟨m, 0, a, 1, none⟩

theorem witness_TransactionsAreAdmitted :
    (let r := req 1 0x40000#28;
      let own := req 10 0x40000#28;
      let s := asking r [] (up 1 []);
      ilkUp s = true ∧ reqOk r = true ∧ s.ilk.wait.find? (fun x => x.master == r.master) = some r
      ∧ bridgeFull r s = false ∧ closesCycle r s = false ∧ allAsleep r s = false
      ∧ reqOk own = true ∧ getF (R.ILK_MST 10) F.ILK_MST_OUT s < 8 ∧ (s.ilk.wait.all fun x => x.master != own.master) = true
      ∧ 9 ≤ own.master.val ∧ own.master.val ≤ 11 ∧ bridgeFull own s = false ∧ closesCycle own s = false
      ∧ allAsleep own s = false)
    ∧ (let r := req 1 0x40000#28;
      let s := asking r [req 1 0x100000#28] (up 1 []);
      ∃ x ∈ s.ilk.out, x.master = r.master ∧ x.tid = r.tid ∧ targetOf x.addr.toNat ≠ targetOf r.addr.toNat)
    ∧ (let r := req 1 0x1000000#28;
      bridgeFull r (asking r (List.replicate 4 r) (up 1 [])) = true ∧ bridgeFull r (asking r (List.replicate 3 r) (up 1 [])) = false)
    ∧ (let r := req 0 0x1040000#28;
      let s := asking r [req 9 0x40000#28] (up 1 []);
      closesCycle r s = true ∧ bridgeFull r s = false ∧ ownerOf r.addr.toNat = some 9
      ∧ ∃ x ∈ s.ilk.out, x.master.val = 9 ∧ ownerOf x.addr.toNat = some r.master.val)
    ∧ (let r := req 1 0x2000000#28;
      let s := asking r [] (at_ 1 [(R.SUB_DOM 1, F.SUB_DOM_STATE, 3)]);
      ilkUp s = true ∧ bridgeFull r s = false ∧ closesCycle r s = false ∧ allAsleep r s = true) := by decide +kernel

theorem witness_TransactionsComplete :
    (let r := req 1 0x40000#28;
      let w : Req := ⟨1, 0, 0x40000#28, 1, some [5#40]⟩;
      let s := asking r [r] (up 1 []);
      s.ilk.cut = [] ∧ oldestOut 1 0 s = some r ∧ r.write = none ∧ r.count = 1 ∧ w.write = some [5#40] ∧ w.count = 1 ∧ coreMemory 0x40000 = some (8, false, 0) ∧ memErrAt 0x40000 s = 0
      ∧ oldestOut 1 0 (asking w [w] (up 1 [])) = some w ∧ reaches 1 0x40000 s = true ∧ ilkUp s = true)
    ∧ targetOf 0x80000 = none ∧ oldestOut 1 0 (asking (req 1 0x80000#28) [req 1 0x80000#28] (up 1 [])) = some (req 1 0x80000#28) := by
  decide +kernel

/-- Shunter 3 runs with descriptor `d` at `pos`, and the answer `y` has come. -/
def shunting (d : List Word) (pos : Nat) (stop : Bool) (y : Req × Answer) : State :=
  putShunter 3 { desc := d, pos := pos, stop := stop }
    { up 1 [(R.ILK_SHN 3, F.ILK_SHN_BUSY, 1)] with ilk := { done := [y] } }

def shuntAsk : Req := req 15 0#28
def shuntWrite : Req := ⟨15, 0, 5#28, 1, some [1#40]⟩
def descOf (w : Word) : List Word := [0x100000#40, 0x40000#40, w, 0#40]
/-- Shunter 3 is busy and this answer is its oldest. -/
def answeredB (y : Req × Answer) (s : State) : Bool := decide (shunterDone 3 s = some y) && shunterBusy 3 s

theorem witness_ShuntersCopyInBursts :
    (([0x10#40, 0x400000000#40, 0#40, 0x900000001#40].all fun w =>
      let y : Req × Answer := (shuntAsk, { data := descOf w, good := 4 });
      let s := shunting [] 0 false y;
      answeredB y s && (shunterOf 3 s).desc.isEmpty && !(shunterOf 3 s).stop
        && answeredB y (shunting [] 0 true y) && (shunterOf 3 (shunting [] 0 true y)).stop) = true)
    ∧ (([1, 3].all fun c =>
      let y : Req × Answer := (shuntAsk, { code := c, good := 0 });
      answeredB y (shunting [] 0 false y) && answeredB y (shunting (descOf 2#40) 0 false y)) = true)
    ∧ (let y : Req × Answer := (shuntAsk, { data := [1#40], good := 1 }); answeredB y (shunting (descOf 2#40) 0 false y) = true)
    ∧ (([(0x420000002#40, 2), (0x490000002#40, 9), (0x010000002#40, 1), (0x410000002#40, 1)].all fun w =>
      let y : Req × Answer := (shuntWrite, { good := 1 });
      let s := shunting (descOf w.1) 1 false y;
      answeredB y s && decide (dCount (shunterOf 3 s) ≤ (shunterOf 3 s).pos + 1) && dNotify (shunterOf 3 s) == w.2
        && (shunterOf 3 s).err.isNone) = true)
    ∧ (let y : Req × Answer := (shuntWrite, { good := 1 });
      let s := shunting (descOf 2#40) 0 true y;
      answeredB y s = true ∧ (shunterOf 3 s).stop = true ∧ (shunterOf 3 s).pos + 1 < dCount (shunterOf 3 s)) := by decide +kernel

/-! ### The management port -/

/-- A request of OP `op` with NWORDS `n`, an address and a payload. -/
def reqFrame (op n a : Nat) (pay : List Word) : List Word :=
  [BitVec.ofNat 40 (op * 2 ^ 32 + n * 2 ^ 12), BitVec.ofNat 40 (a * 2 ^ 12)] ++ pay ++ [0#40]

/-- The frame with its check word. -/
def checked (f : List Word) : List Word := f.dropLast ++ [BitVec.ofNat 40 (frameCrc f)]

/-- The request waits at the port. -/
def asked (f : List Word) (s : State) : State := { s with mgt := { s.mgt with req := some f } }

/-- In service: the Signal Box runs. -/
def serving (l : List (Nat × Fld × Nat)) : State := putCore 8 { mode := 1 } (up 1 l)

theorem witness_ManagementFrames :
    (let f := checked (reqFrame 0x01 1 0x40000 []);
      let bs := (wordsBytes f).map fun b => BitVec.ofNat 8 b;
      frameOk (bs.map (·.toNat)) = true ∧ frameOk ((bs.take 14).map (·.toNat)) = false ∧ opKnown (frameOp f) = true
      ∧ opKnown (frameOp (reqFrame 0x06 0 0 [])) = false ∧ pstate (up 4 []) ≠ 5 ∧ (up 4 []).mgt.req = none
      ∧ (asked f (up 4 [])).mgt.req ≠ none)
    ∧ requestWords (bitsOf 0x0200001000#40 32 8) (bitsOf 0x0200001000#40 12 12) = [5#40].length + 3
    ∧ { up 4 [] with mgt := { resp := some [1#40, 2#40] } }.mgt.resp = some [1#40, 2#40] := by decide +kernel

theorem witness_PortCommandsRefused :
    (∀ x ∈ portCommands, let f := reqFrame x.1 161 0 [];
      frameOp f = x.1 ∧ (asked f (up 1 [])).mgt.req = some f ∧ opAsleep x.1 (up 1 []) = false
      ∧ (lengthOk x.1 (frameLen f) = false ∨ x.1 ∈ [1, 2, 3]))
    ∧ (∀ x ∈ [1, 2, 3], lengthOk x (frameLen (reqFrame x 0 0 [])) = false)
    ∧ (∀ x ∈ portCommands, opAsleep x.1 (up 3 []) = true ∨ x.1 ∈ [0x04, 0x05, 0x20])
    ∧ (∀ x ∈ [0x03, 0x10], lengthOk x (if x = 3 then 1 else 0) = true)
    ∧ sbxGone (up 1 [(R.DSP_STATE 8, F.DSP_STATE_STATE, 5)]) = true
    ∧ sbxGone (up 1 []) = false ∧ sbxReady (up 1 []) = false := by decide +kernel

theorem data_words (m n : Nat) (s : State)
    (h : ((List.range n).all fun k => ((coreMemory (0x40000 + k)).any fun x => !x.2.1) && reaches m (0x40000 + k) s
      && memErrAt (0x40000 + k) s == 0) = true) : DataWords m 0x40000 n s := by
  intro k hk
  have := List.all_eq_true.mp h k (List.mem_range.mpr hk)
  simp only [Bool.and_eq_true, beq_iff_eq] at this
  refine ⟨?_, reaches_of this.1.2, this.2⟩
  cases hc : coreMemory (0x40000 + k) with
  | none => simp [hc] at this
  | some x =>
    obtain ⟨c, b, off⟩ := x
    rw [hc] at this
    cases b <;> simp at this ⊢

theorem witness_PortReadsAndWrites :
    (let f := reqFrame 0x01 2 0x40000 []
      let s := asked f (serving [])
      Executes 0x01 f s ∧ 2 ≤ domState 1 s ∧ frameAddr f = 0x40000 ∧ frameLen f = 2 ∧ DataWords 10 0x40000 2 s)
    ∧ (let f := reqFrame 0x01 1 0x80000 []
      Executes 0x01 f (asked f (serving [])) ∧ frameLen f = 1 ∧ targetOf (frameAddr f) = none)
    ∧ (let f := reqFrame 0x02 2 0x40000 [5#40, 6#40]
      Executes 0x02 f (asked f (serving [])) ∧ framePay f = [5#40, 6#40] ∧ framePay f ≠ [] ∧ frameAddr f = 0x40000
      ∧ isSet R.MGT_CFG F.MGT_CFG_WRITE_EN (asked f (serving [(R.MGT_CFG, F.MGT_CFG_WRITE_EN, 1)])) = true
      ∧ isSet R.MGT_CFG F.MGT_CFG_WRITE_EN (asked f (serving [(R.MGT_CFG, F.MGT_CFG_WRITE_EN, 0)])) = false)
    ∧ (let f := reqFrame 0x03 1 0x40000 [5#40]
      Executes 0x03 f (asked f (serving [])) ∧ framePay f = [5#40] ∧ SbxServes (asked f (serving []))
      ∧ isBanker (asked f (serving [])) = false
      ∧ isBanker (asked f (serving [(R.CPL_CTRL, F.CPL_CTRL_EN, 1), (R.CPL_STATE, F.CPL_STATE_ROLE, 2)])) = true) := by
  refine ⟨⟨?_, ?_, ?_, ?_, data_words _ _ _ (by decide +kernel)⟩, ?_, ?_, ?_⟩ <;>
    ((try unfold Executes); (try unfold SbxServes); decide +kernel)

theorem witness_StatusWordIsAsR299 :
    (let f := reqFrame 0x04 0 0 [];
      Executes 0x04 f (asked f (up 3 [])) ∧ Executes 0x04 f (asked f (up 0 [])) ∧ frameLen f = 0) := by
  unfold Executes; decide +kernel

theorem witness_ConsistSetStateAttestAndCertificates :
    (∀ x ∈ [(0x10, 0), (0x05, 1), (0x11, 8), (0x12, 160)], let f := reqFrame x.1 x.2 0 (List.replicate x.2 2#40);
      Executes x.1 f (asked f (serving [])) ∧ frameLen f = x.2 ∧ (framePay f).length = x.2)
    ∧ (∀ b ∈ [false, true], ∀ x ∈ [(0x11, 8), (0x12, 160)], let f := reqFrame x.1 x.2 0 (List.replicate x.2 2#40);
      let s := { asked f (serving []) with dep := { run := some (0, 0, []), ahead := b } };
      Executes x.1 f s ∧ signBehind s = !b)
    ∧ SbxServes (serving []) ∧ stateRefused 2 (serving []) = false ∧ stateRefused 6 (serving []) = true := by
  unfold Executes SbxServes; decide +kernel

theorem witness_FullResetsClear :
    (∀ p ∈ [[0x5AA55A0001#40], [0x5AA55A0000#40]], let f := reqFrame 0x20 1 0 p;
      Executes 0x20 f (asked f (up 4 [])) ∧ frameLen f = 1 ∧ framePay f = p)
    ∧ getF (R.DSP_WDOG 8) F.DSP_WDOG_TIMEOUT (up 1 [(R.DSP_WDOG 8, F.DSP_WDOG_TIMEOUT, 1)]) ≠ 0 ∧ pstate (up 4 []) ≠ 5 := by
  unfold Executes; decide +kernel

theorem witness_PlaneAndTrackResets :
    (let f := reqFrame 0x21 0 0 [];
      Executes 0x21 f (asked f (up 1 [])) ∧ frameLen f = 0)
    ∧ (∀ i ∈ [0, 83, 84], let f := reqFrame 0x22 0 i [];
      Executes 0x22 f (asked f (up 1 [])) ∧ frameLen f = 0 ∧ frameAddr f = i)
    ∧ deaf 83 (up 1 []) = false ∧ testOn 83 (up 1 []) = false ∧ ratePend 83 (up 1 []) = false := by
  unfold Executes; decide +kernel

/-! ### Checks and the Coupling -/

def injecting (x : Inj) : State := { serving [(R.SDG_STK 7, F.SDG_STK_STATE, 2)] with chk := { busy := some x } }

theorem witness_InjectionsStrikeOrExpire :
    State.reset.chk.busy = none
    ∧ (∀ c ∈ [0x20, 0x7F, 0x90], c ∉ [0x21, 0x70, 0x71, 0x80])
    ∧ (let x : Inj := ⟨0x20, 0, 8⟩;
      let s := setWork 1 { serving [(R.SDG_STK 0, F.SDG_STK_STATE, 2)] with chk := { busy := some x } };
      s.chk.busy = some x ∧ x.arg / 8 % 2 = 1 ∧ reaches 9 0x8000000 s = true
      ∧ (aperturePlace 0 s).any (fun p => x.unit == p.1.1 && stackAnswers p.1 s && decide (errsAt p.1 s ≤ 3)) = true)
    ∧ (∀ x ∈ [(⟨0x10, 0, 0⟩ : Inj), ⟨0x70, 16 + 8, 2 ^ 18⟩, ⟨0x80, 6, 0⟩, ⟨0x71, 0, 0⟩, ⟨0x21, 7, 0⟩], (injecting x).chk.busy = some x)
    ∧ coreClocked (injecting ⟨0x71, 0, 0⟩) = true ∧ sbxState (injecting ⟨0x71, 0, 0⟩) ≠ 5
    ∧ stackState 7 (injecting ⟨0x21, 7, 0⟩) = 2 := by decide +kernel

theorem witness_ClockMonitorsJudgeTheirWindows :
    (let s := up 1 [(R.INS_CLKMON 1, F.INS_CLKMON_LO_PPM, 200), (R.INS_CLKMON 1, F.INS_CLKMON_HI_PPM, 200), (R.INS_CLKMON 1, F.INS_CLKMON_EN, 1)];
      2 ≤ domState 5 s ∧ isSet (R.INS_CLKMON 1) F.INS_CLKMON_EN s = true ∧ isSet (R.INS_CLKMON 0) F.INS_CLKMON_EN (up 1 [(R.INS_CLKMON 0, F.INS_CLKMON_EN, 0)]) = false
      ∧ getF (R.INS_CLKMON 1) F.INS_CLKMON_LO_PPM s = 200 ∧ nominalCount 1 s = 10000 ∧ monRunOf 1 s ≤ 0
      ∧ 9997 * 1000000 < 10000 * (1000000 - 200) ∧ 10000 * (1000000 + 200) < 10003 * 1000000
      ∧ ¬ 9998 * 1000000 < 10000 * (1000000 - 200) ∧ ¬ 10000 * (1000000 + 200) < 10002 * 1000000) := by decide +kernel

/-- A coupled twin in role `r` (1 Lead, 2 Banker) and join state `j`; its PAIR_ID 5 and TWIN_ID 3. -/
def twin (r j : Nat) (l : List (Nat × Fld × Nat)) : State :=
  serving ([(R.CPL_CTRL, F.CPL_CTRL_EN, 1), (R.CPL_STATE, F.CPL_STATE_ROLE, r), (R.CPL_STATE, F.CPL_STATE_JSTATE, j),
    (R.CPL_STATE, F.CPL_STATE_COUPLED, 1), (R.CPL_ID, F.CPL_ID_PAIR_ID, 5), (R.TMN_ID, F.TMN_ID_TWIN_ID, 3),
    (R.PTS_FRONT, F.PTS_FRONT_VALID, 1), (R.CPL_PEER, F.CPL_PEER_CFG_MATCH, 1)] ++ l)

theorem witness_CouplingAndItsLoss :
    (let s := fun (r c : Nat) => having [(R.CPL_STATE, F.CPL_STATE_COUPLED, c)] (lane 83 5 {} (twin r 3 []));
      isTwin (s 1 0) = true ∧ cplOpen 3 (s 1 0) = true ∧ ownPair (s 1 0) = 5 ∧ twinId (s 1 0) = 3 ∧ coupled (s 1 0) = false
      ∧ coupled (s 2 1) = true ∧ roleOf (s 1 0) = 1 ∧ roleOf (s 2 0) = 2 ∧ jstate (s 2 1) = 3
      ∧ isSet R.BEL_CTRL F.BEL_CTRL_LOG_EN (s 2 1) = true
      ∧ isSet R.BEL_CTRL F.BEL_CTRL_LOG_EN (having [(R.BEL_CTRL, F.BEL_CTRL_LOG_EN, 0)] (s 2 1)) = false) := by decide +kernel

theorem witness_RolesChangeHands :
    reaches 0 R.CPL_CTRL (twin 2 5 []) = true ∧ reaches 10 R.CPL_CTRL (twin 1 0 []) = true
    ∧ isBanker (twin 2 5 []) = true ∧ jstate (twin 2 5 []) = 5 ∧ jstate (twin 2 4 []) ≠ 5 ∧ isBanker (twin 1 0 []) = false
    ∧ isLead (twin 1 0 []) = true ∧ coupled (twin 1 0 []) = true
    ∧ peerJstate (twin 1 0 [(R.CPL_PEER, F.CPL_PEER_JSTATE, 5)]) = 5 ∧ peerJstate (twin 1 0 []) ≠ 5 ∧ isLead (twin 2 5 []) = false
    ∧ termOf (twin 1 0 []) < 1 ∧ isSet R.CPL_ID F.CPL_ID_BOOT_ROLE (twin 2 0 [(R.CPL_ID, F.CPL_ID_BOOT_ROLE, 1)]) = true
    ∧ (twin 2 0 []).cpl.leadSeen = false ∧ { twin 2 0 [] with cpl := { leadSeen := true } }.cpl.leadSeen = true := by decide +kernel

def staged (j : Nat) (l : List (Nat × List Word)) : State :=
  { twin 2 j [] with cpl := { stageSeq := 1, stage := l, stageCars := [0x40000#40, 7#40] } }

theorem witness_MirrorTransactions :
    (let s := staged 5 [(0x40000, [7#40])];
      isBanker s = true ∧ coupled s = true ∧ s.cpl.stageSeq = (1#16).toNat ∧ homeReady s = false
      ∧ s.hbmErr = [] ∧ s.chk.busy = none ∧ s.chk.force = []
      ∧ crc32 (wordsBytes s.cpl.stageCars) < 2 ^ 32 ∧ (s.cpl.stage.map fun x => x.2.length).sum = (1#24).toNat
      ∧ (s.cpl.stage.map fun x => x.2.length).sum ≠ (2#24).toNat
      ∧ joining s = false ∧ joining (staged 3 []) = true ∧ (1#16).toNat = nextSeq s
      ∧ (1#16).toNat ≠ nextSeq (having [(R.MGT_CSEQ, F.MGT_CSEQ_CSEQ, 7)] s)
      ∧ sbxReady s = true ∧ sbxReady (putCore 8 {} s) = false ∧ s.cpl.waitq = [] ∧ s.cpl.stage = [(0x40000, [7#40])])
    ∧ (∀ k ∈ [2, 3], let x : MirrorTx := ⟨1, 0, 0x40000, [7#40], k⟩;
      let s := { twin 1 0 [] with cpl := { tx := some x, txq := [] } };
      s.cpl.tx = some x ∧ isLead s = true ∧ x.cseq = (1#16).toNat ∧ x.tries = k
      ∧ { s with cpl := { s.cpl with txq := [x] } }.cpl.txq = [x]) := by decide +kernel

theorem witness_MirrorWords : DataWords 10 0x40000 1 (staged 5 [(0x40000, [7#40])]) := data_words _ _ _ (by decide +kernel)

theorem witness_JoinsRunTheirCourse :
    jstate (twin 2 2 []) = 2
    ∧ (let s := twin 1 0 [];
      isLead s = true ∧ coupled s = true ∧ cfgMatch s = true ∧ frontValid s = true ∧ s.cpl.anchor = none ∧ 0 < cfgP s ∧ 0 < cfgMsk s)
    ∧ (∀ j ∈ [1, 3], let s := twin 2 j [];
      isBanker s = true ∧ coupled s = true ∧ jstate s = j ∧ frontValid s = true ∧ frontNow s ≤ 0 ∧ s.cpl.waitq = []
      ∧ (s.cpl.cut.map fun x => x.2.length).sum = (0#24).toNat ∧ (s.cpl.cut.map fun x => x.2.length).sum ≠ (1#24).toNat
      ∧ crc32 (wordsBytes s.cpl.cutCars) < 2 ^ 32)
    ∧ 0 < frontNow (twin 2 1 [(R.PTS_FRONT, F.PTS_FRONT_F_LO, 9)])
    ∧ (let s := { twin 2 1 [] with cpl := { retry := true } };
      isBanker s = true ∧ jstate s = 1 ∧ s.cpl.retry = true ∧ s.cpl.asked = false ∧ coupled s = true ∧ frontValid s = true
      ∧ cfgMatch s = true)
    ∧ (let s := lane 80 5 {} (twin 1 0 []);
      isTwin s = true ∧ cplOpen 0 s = true ∧ transmits 80 s = true ∧ (laneOf 80 s).sinceFill < 2047
      ∧ (let u := lane 80 5 { sinceFill := 2047 } s; transmits 80 u = true ∧ 2047 ≤ (laneOf 80 u).sinceFill)) := by decide +kernel

/-! ### Power -/

def powered (p : Nat) (l : List (Nat × Fld × Nat)) (w : Power) : State := { up p l with pow := w }

theorem witness_NotchingUpAndLoadSteps :
    (let s := up 2 [(R.SUB_STATE, F.SUB_STATE_PEND, 1), (R.DEP_PLAN, F.DEP_PLAN_VALID, 1), (R.PTS_CFG, F.PTS_CFG_N, 2)];
      pstate s = 2 ∧ pendOf s = 1 ∧ planValid s = true ∧ s.pow.busy = false ∧ s.pow.queue = [] ∧ (neededDistricts s).head? = some 0)
    ∧ (∀ x ∈ [(6, true), (1, false)], let s := powered x.1 [(R.SUB_DOM 34, F.SUB_DOM_STATE, 2)] { notching := x.2 };
      s.pow.notching = x.2 ∧ running s = !x.2 ∧ domState (districtDomain 15) s = 2 ∧ s.pow.falling = false
      ∧ isSet R.DEP_STATE F.DEP_STATE_RECOVERY s = false)
    ∧ (let s := powered 6 [] { falling := true, queue := [.down 34] };
      s.pow.falling = true ∧ drained s = true ∧ drained { s with jct := { cur := some (dwell0 4 0) } } = false
      ∧ s.pow.queue = [.down (districtDomain 15)])
    ∧ (∀ x ∈ [LoadStep.up 34, .down (districtDomain 15), .exit 7],
        (powered 6 [] { queue := [x] }).pow.queue = [x] ∧ (powered 6 [] { queue := [x] }).pow.falling = false)
    ∧ (let s := powered 6 [(R.SUB_DOM 34, F.SUB_DOM_STATE, 1)] { queue := [.up 34] }; domState 34 s < 2 ∧ domFailed 34 s = false)
    ∧ stackState 7 (powered 2 [(R.SDG_STK 7, F.SDG_STK_STATE, 3)] {}) = 3 ∧ (powered 2 [] {}).pow.queue = [] := by decide +kernel

theorem witness_WayDownThroughThePowerStates :
    (∀ x ∈ [(1, 2), (2, 3), (2, 4), (3, 4), (2, 5), (4, 5)], let s := up x.1 [(R.SUB_STATE, F.SUB_STATE_PEND, x.2),
        (R.CPL_CTRL, F.CPL_CTRL_EN, 1), (R.SDG_STK 7, F.SDG_STK_STATE, 2)];
      pstate s = x.1 ∧ pendOf s = x.2 ∧ s.pow.queue = [] ∧ isTwin s = true ∧ stackState 7 s = 2 ∧ watched 83 s = false)
    ∧ (∀ b ∈ [23, 24, 25, 26], 2 ≤ domState (bankDomain b) (up 2 [])) := by decide +kernel

theorem witness_WakesToStanding :
    (let s := { up 3 [(R.SUB_CTRL, F.SUB_CTRL_WAKE_RUN, 1), (R.DEP_PLAN, F.DEP_PLAN_VALID, 1)] with wakeReq := some 9 };
      wakeDue 9 s = true ∧ s.pow.queue = [] ∧ s.pow.lost = false ∧ signedBanks s = [] ∧ isSet R.SUB_CTRL F.SUB_CTRL_WAKE_RUN s = true ∧ planValid s = true ∧ pendOf s = 0
      ∧ wakeDue 8 s = false)
    ∧ (let s := up 4 [(R.LMP_ALARM, F.LMP_ALARM_ARM, 1), (R.LMP_WAKEEN, F.LMP_WAKEEN_ALARM, 1), (R.LMP_WAKEEN, F.LMP_WAKEEN_WAKE_N, 1)];
      isSet R.LMP_ALARM F.LMP_ALARM_ARM s = true ∧ pstate s = 4
      ∧ get2 R.LMP_ALARM F.LMP_ALARM_CNT_LO F.LMP_ALARM_CNT_HI s = get2 R.LMP_LCNT F.LMP_LCNT_CNT_LO F.LMP_LCNT_CNT_HI s
      ∧ isSet R.LMP_WAKEEN F.LMP_WAKEEN_ALARM s = true ∧ isSet R.LMP_WAKEEN F.LMP_WAKEEN_WAKE_N s = true ∧ s.wakeReq = none) := by
  decide +kernel

/-- The action queue's bank with a signature `v`. -/
def signedWith (v : Nat) : State := { powered 4 [] { sigs := [(22, v)] } with wakeReq := some 7 }

theorem witness_FailedSignature : ∃ v, wakeDue 7 (signedWith v) = true ∧ (signedWith v).pow.lost = false ∧ signedBanks (signedWith v) = [22]
    ∧ (signedWith v).pow.sigs.get (fun _ => 0) 22 ≠ bankCrc 22 (signedWith v) + 1 := by
  have h : bankCrc 22 (signedWith 1) = bankCrc 22 (signedWith 2) := by
    unfold bankCrc; congr 2
  have e : ∀ v ∈ [1, 2], wakeDue 7 (signedWith v) = true ∧ signedBanks (signedWith v) = [22]
      ∧ (signedWith v).pow.sigs.get (fun _ => 0) 22 = v := by decide +kernel
  by_cases k : bankCrc 22 (signedWith 1) = 0
  · exact ⟨2, (e 2 (by decide)).1, rfl, (e 2 (by decide)).2.1, by rw [(e 2 (by decide)).2.2, ← h, k]; decide⟩
  · exact ⟨1, (e 1 (by decide)).1, rfl, (e 1 (by decide)).2.1, by rw [(e 1 (by decide)).2.2]; omega⟩

theorem witness_WatchesOfHalt :
    (∀ w ∈ [({} : Power), { watch := true }, { watch := true, late := true }],
      let s := powered 3 [(R.LMP_WAKEEN, F.LMP_WAKEEN_GAUGE, 1)] w;
      pstate s = 3 ∧ s.wakeReq = none ∧ isSet R.LMP_WAKEEN F.LMP_WAKEEN_GAUGE s = true ∧ s.pow = w)
    ∧ isSet R.LMP_WAKEEN F.LMP_WAKEEN_GAUGE (powered 3 [(R.LMP_WAKEEN, F.LMP_WAKEEN_GAUGE, 0)] { watch := true, late := true }) = false := by decide +kernel

theorem witness_WakesThatFail :
    (let s := powered 0 [(R.LMP_RSTREC, F.LMP_RSTREC_CAUSE, 1), (R.SUB_WAKETMO, F.SUB_WAKETMO_TRIES, 3)] { tries := 2 };
      fullWakeDue s = true ∧ pgAwaited s = false ∧ pgAwaited (having [(R.AOU_CTRL 3, F.AOU_CTRL_ROLE, 1)] s) = true ∧ pstate s = 0 ∧ getF R.LMP_RSTREC F.LMP_RSTREC_CAUSE s = 1 ∧ s.pow.aborted = false
      ∧ s.pow.tries < getF R.SUB_WAKETMO F.SUB_WAKETMO_TRIES s)
    ∧ fullWakeDue (up 3 []) = false
    ∧ (let s := powered 0 [(R.SUB_WAKETMO, F.SUB_WAKETMO_TRIES, 3)] { tries := 3, aborted := true };
      s.pow.aborted = true ∧ getF R.SUB_WAKETMO F.SUB_WAKETMO_TRIES s ≤ s.pow.tries)
    ∧ (let s := { up 3 [] with wakeReq := some 6 };
      s.pow.aborted = false ∧ (∀ d ∈ [1, 2, 10, 11, 18], domFailed d s = false) ∧ pstate s = 3 ∧ wakeWanted s ≠ none
      ∧ s.pow.busy = false ∧ s.pow.queue = [] ∧ { s with pow := { busy := true } }.pow.busy = true) := by
  decide +kernel

theorem witness_PowerUpAndItsLoss :
    pstate (up 5 []) = 5 ∧ pstate (up 4 []) ≠ 5 ∧ (powered 0 [] {}).pow.crystal = 0
    ∧ (powered 0 [] { crystal := 2 }).pow.crystal ≠ 0 := by decide +kernel

/-! ### Outputs, monitor, boot -/

def output (n : Nat) (l : List (Nat × Fld × Nat)) (o : Output) : State := putOut n o (up 1 l)

theorem witness_AnalogueOutputsMove :
    (∀ r ∈ [0, 1], let s := output 3 [(R.AOU_CTRL 3, F.AOU_CTRL_ROLE, 2), (R.AOU_DRIVEN 3, F.AOU_DRIVEN_C, 65535),
        (R.AOU_SLEW 3, F.AOU_SLEW_STEP, 65535)] { range := r };
      aoRole 3 s ≠ 0 ∧ pstate s ≠ 5 ∧ (∀ m ∈ (outOf 3 s).meter, m < 2 ^ 16) ∧ (outOf 3 s).range = r)
    ∧ (∀ g ∈ [0, 1], let s := output 3 [(R.AOU_CTRL 3, F.AOU_CTRL_ROLE, 2), (R.AOU_TARGET 3, F.AOU_TARGET_TARGET, g)] { range := 2 };
      (outOf 3 s).range = 2 ∧ aoDriven 3 s = 0 ∧ aoFault 3 s = false ∧ aoRole 3 s = 2 ∧ aoTarget 3 s = g ∧ (outOf 3 s).role = none)
    ∧ (let s := output 0 [(R.AOU_CTRL 0, F.AOU_CTRL_ROLE, 1), (R.AOU_CTRL 0, F.AOU_CTRL_MODE, 1), (R.AOU_DRIVEN 0, F.AOU_DRIVEN_C, 2731)] {};
      aoRole 0 s ≠ 0 ∧ aoMode 0 s = true ∧ 2731 ≤ aoDriven 0 s) := by decide +kernel

theorem witness_ConversionsAndThresholds :
    isSet R.MON_CTRL F.MON_CTRL_EN (up 1 [(R.MON_CTRL, F.MON_CTRL_EN, 0)]) = false
    ∧ (let s := { powered 1 [(R.MON_CTRL, F.MON_CTRL_EN, 1), (R.MON_TH 35, F.MON_TH_EVT, 1), (R.MON_TH 31, F.MON_TH_HI, 4094), (R.MON_TH 31, F.MON_TH_HYST, 1), (R.MON_TH 31, F.MON_TH_EVT, 1)]
          { monSlot := 31, monActs := [35] } with outs := [] };
      s.pow.monSlot % 32 = 31 ∧ 35 ∈ s.pow.monActs ∧ isSet (R.MON_TH 35) F.MON_TH_EVT s = true ∧
      isSet R.MON_CTRL F.MON_CTRL_EN s = true ∧ pstate s ≠ 5 ∧ getF (R.MON_TH 31) F.MON_TH_HI s = 4094
      ∧ getBit R.MON_STATUS F.MON_STATUS_ACTIVE 31 s = false ∧ isSet (R.MON_TH 31) F.MON_TH_EVT s = true) := by decide +kernel

theorem witness_MeterOutputsFollowTheirInput :
    (let s := powered 1 [(R.MON_CTRL, F.MON_CTRL_EN, 1), (R.AOU_CTRL 3, F.AOU_CTRL_ROLE, 3), (R.AOU_METER 3, F.AOU_METER_SRC, 31)] { monSlot := 31 };
      isSet R.MON_CTRL F.MON_CTRL_EN s = true ∧ pstate s ≠ 5 ∧ aoRole 3 s = 3 ∧ getF (R.AOU_METER 3) F.AOU_METER_SRC s = 31
      ∧ aoFault 3 s = false ∧ (outOf 3 s).range = 0) := by decide +kernel

/-- A board whose flash holds nothing. -/
def blank : BootEnv := ⟨true, 28, true, true, true, 256, 4096, 0#3, 0#3, [], 0xFF#8, [], 0#2⟩

theorem witness_BootFlashAndJtag :
    (let s := up 0 [];
      isSet R.DEP_STATE F.DEP_STATE_SEALED s = false ∧ isSet R.DEP_STATE F.DEP_STATE_RECOVERY s = false
      ∧ pstate s = 0 ∧ s.pow.aborted = false ∧ { blank with sfdpOk := false }.sfdpOk = false
      ∧ (bootPrep blank true s).dep.flashOk = true
      ∧ headerOk 0x7E51 (slotFlash 0 (bootPrep blank true s)) = false ∧ headerOk 0x7E51 (slotFlash 1 (bootPrep blank true s)) = false)
    ∧ pstate (up 1 []) ≠ 0
    ∧ (∀ op ∈ [0, 1], let s := { up 2 [] with dep := { run := some (op, 65536, [1#8, 2#8]) } };
      s.dep.run = some (op, 65536, [1#8, 2#8]) ∧ flashBehind s = false ∧ [1#8, 2#8].length ≤ 1024)
    ∧ jtagScope (up 1 []) = false ∧ jtagScope (serving [(R.DEP_DBG, F.DEP_DBG_SCOPE, 4)]) = true := by decide +kernel

theorem witness_JtagWords : DataWords 10 0x40000 1 (serving [(R.DEP_DBG, F.DEP_DBG_SCOPE, 4)]) := data_words _ _ _ (by decide +kernel)

/-! ### The machine -/

theorem witness_StepRunsTheFrontCommand :
    { State.reset with pending := [.nop 8, .status] }.pending = [.nop 8, .status] ∧ State.reset.pending = []
    ∧ pstate (up 5 []) = 5 ∧ pstate (up 4 []) = 4
    ∧ (let s := up 1 [(R.DSP_STATE 8, F.DSP_STATE_STATE, 4)];
      pstate s ≠ 4 ∧ pstate s ≠ 5 ∧ sbxState s = 4 ∧ sbxState (up 1 []) ≠ 4 ∧ s.cpl.waitq = [])
    ∧ { State.reset with phase := 1952869 }.phase + 256 = 1953125 := by decide +kernel

theorem witness_EveryStepKeepsTheInvariant :
    (queueWf State.reset && storesWf State.reset) = true
    ∧ (match step { serving [] with pending := [.statusSelector] } with
      | .next t => t.mgt.out.length == 1
      | _ => false) = true
    ∧ (queueWf { serving [] with pending := [.statusSelector] } && storesWf { serving [] with pending := [.statusSelector] }) = true := by
  decide +kernel

theorem witness_CoreCodeRoundTrips :
    (Instr.ldd 6 (ld1 3) (ld2 0)).core = some 6 ∧ coreWf 6 (.ldd 6 (ld1 3) (ld2 0)) = true
    ∧ decodeCore 8 0#40 = some (.nop 8) := by decide +kernel

/-! ### Well-formedness: an ill-formed term for each check -/

/-- `n` symbols at the lowest level. -/
def someSyms (n : Nat) : List (BitVec 2) := List.replicate n 0#2

theorem wf_train_has_its_symbols :
    (Instr.dataTrainReceive 0 (someSyms 2699)).wf = false ∧ (Instr.fillerReceive 0 (someSyms 2701)).wf = false
    ∧ (Instr.dataTrainReceive 0 (someSyms 2700)).wf = true ∧ (Instr.fillerReceive 64 (someSyms 2720)).wf = true
    ∧ (Instr.timetableTrainReceive 0 []).wf = false ∧ (Instr.testTrainReceive 0 (someSyms 2719)).wf = false
    ∧ (Instr.couplingTrainReceive 83 (someSyms 2721)).wf = false := by decide +kernel
theorem wf_line_windows :
    (Instr.commaReceive 0 2700 (someSyms 19)).wf = false ∧ (Instr.commaReceive 0 2700 (someSyms 20)).wf = true
    ∧ (Instr.alignmentLoss 0 (List.replicate 3 (someSyms 20))).wf = false
    ∧ (Instr.alignmentLoss 0 (List.replicate 4 (someSyms 21))).wf = false
    ∧ (Instr.alignmentLoss 0 (List.replicate 4 (someSyms 20))).wf = true
    ∧ (Instr.frameAcquired 0 [0#12, 1#12, 2#12]).wf = false ∧ (Instr.frameAcquired 0 [0#12, 1#12, 2#12, 3#12]).wf = true := by
  decide +kernel
theorem wf_request_words :
    (Instr.transactionAdmit ⟨0, 0, 0#28, 0, none⟩).wf = false ∧ (Instr.transactionAdmit ⟨0, 0, 0#28, 17, none⟩).wf = false
    ∧ (Instr.transactionAdmit ⟨0, 0, 0#28, 2, some [0#40]⟩).wf = false ∧ (Instr.transactionAdmit ⟨0, 0, 0#28, 16, none⟩).wf = true := by
  decide +kernel
theorem wf_counts :
    (Instr.delay 0#8 0#13 [0#40]).wf = false ∧ (Instr.mdata 0#16 0#28 []).wf = false ∧ (Instr.jdata 0#16 0#28 []).wf = false
    ∧ (Instr.mdata 0#16 0#28 (List.replicate 121 0#40)).wf = false ∧ (Instr.jdata 0#16 0#28 (List.replicate 121 0#40)).wf = false
    ∧ (Instr.jdata 0#16 0#28 (List.replicate 120 0#40)).wf = true ∧ (Instr.drainRow (2 ^ 32)).wf = false
    ∧ (Instr.hbmReadComplete 0 0 (hbmCoords 23437500) [] false).wf = false
    ∧ (Instr.hbmReadComplete 0 0 (hbmCoords 23437499) [] false).wf = true
    ∧ (Instr.transactionAdmit ⟨10, 1, 0#28, 1, none⟩).wf = false ∧ (Instr.transactionAdmit ⟨9, 7, 0#28, 1, none⟩).wf = true := by decide +kernel
theorem wf_core_operands :
    (Instr.bxclr 5).wf = false ∧ (Instr.bxclr 6).wf = true ∧ (Instr.movk 8 0 true 0x10000#24).wf = false
    ∧ (Instr.movx 8 47 0).wf = false ∧ (Instr.movx 8 0 54).wf = false ∧ (Instr.mova 8 15 0#28).wf = false
    ∧ (Instr.mova 8 40 0#28).wf = false ∧ (Instr.mova 8 39 0#28).wf = true
    ∧ (Instr.ld 8 0 0 0 3).wf = false ∧ (Instr.st 8 0 0 0 3).wf = false ∧ (Instr.ld 6 0 0 0 3).wf = true := by decide +kernel
theorem wf_core_targets :
    (Instr.br 0 0 65536#18).wf = false ∧ (Instr.call 0 0 65536#18).wf = false ∧ (Instr.loopi 0 0#12 65536#18).wf = false
    ∧ (Instr.loopr 0 0 65536#18).wf = false ∧ (Instr.br 8 0 65536#18).wf = true ∧ (Instr.br 0 0 65535#18).wf = true := by decide +kernel
theorem wf_load_descriptors :
    (Instr.macl 8 false false false 0 0 ⟨1, 0, 0, 0⟩ ⟨0, 0, 0, 0⟩).wf = false
    ∧ (Instr.mpyl 8 false false false 0 0 ⟨0, 0, 0, 0⟩ ⟨0, 0, 0, 3⟩).wf = false
    ∧ (Instr.ldd 8 ⟨0, 0, 1, 0⟩ ⟨0, 0, 0, 0⟩).wf = false ∧ (Instr.ldd 8 ⟨4, 0, 0, 1⟩ ⟨5, 1, 0, 2⟩).wf = true := by decide +kernel

/-! ### Words of the cores, written out field by field from Tables 10.4 and 10.7-10.11 -/

/-- C: opcode 0x00, FUNC at [34:30]; a non-zero zero-field, an unassigned FUNC and an unassigned opcode are illegal. -/
theorem code_control :
    decodeCore 0 (0b00000#5 ++ 0b00000#5 ++ 0#30) = some (.nop 0) ∧ decodeCore 0 (0b00000#5 ++ 0b00010#5 ++ 0#30) = some (.halt 0)
    ∧ decodeCore 0 (0b00000#5 ++ 0b00011#5 ++ 0#30) = some (.rti 0) ∧ decodeCore 0 (0b00000#5 ++ 0b00000#5 ++ 1#30) = none
    ∧ decodeCore 0 (0b00000#5 ++ 0b11111#5 ++ 0#30) = none ∧ decodeCore 0 (0b11111#5 ++ 0#35) = none := by decide +kernel
/-- R: opcode 0x01, Wd, Wa, Wb, FUNC at [22:18]: SUBB is 3, CMP is 15 with Wd zero, NEG is 19 with Wb zero. -/
theorem code_alu :
    decodeCore 3 (0b00001#5 ++ 4#4 ++ 1#4 ++ 2#4 ++ 3#5 ++ 0#18) = some (.subb 3 4 1 2)
    ∧ decodeCore 3 (0b00001#5 ++ 0#4 ++ 1#4 ++ 2#4 ++ 15#5 ++ 0#18) = some (.cmp 3 1 2)
    ∧ decodeCore 3 (0b00001#5 ++ 1#4 ++ 1#4 ++ 2#4 ++ 15#5 ++ 0#18) = none
    ∧ decodeCore 3 (0b00001#5 ++ 4#4 ++ 1#4 ++ 0#4 ++ 19#5 ++ 0#18) = some (.neg 3 4 1)
    ∧ decodeCore 3 (0b00001#5 ++ 4#4 ++ 1#4 ++ 1#4 ++ 19#5 ++ 0#18) = none
    ∧ decodeCore 3 (0b00001#5 ++ 4#4 ++ 1#4 ++ 2#4 ++ 23#5 ++ 0#18) = none := by decide +kernel
/-- I: opcode 0x02, Wd, Wa, FUNC at [26:24], IMM; the shift forms use IMM[5:0]. -/
theorem code_immediate :
    decodeCore 8 (0b00010#5 ++ 15#4 ++ 1#4 ++ 0#3 ++ 0x800000#24) = some (.addi 8 15 1 0x800000#24)
    ∧ decodeCore 8 (0b00010#5 ++ 0#4 ++ 1#4 ++ 4#3 ++ 5#24) = some (.cmpi 8 1 5#24)
    ∧ decodeCore 8 (0b00010#5 ++ 2#4 ++ 1#4 ++ 6#3 ++ 63#24) = some (.shri 8 2 1 63#6)
    ∧ decodeCore 8 (0b00010#5 ++ 2#4 ++ 1#4 ++ 6#3 ++ 64#24) = none := by decide +kernel
/-- K, V, X and A: MOVK with H at [30], MVA with ACC at [30] and CLR at [29], MOVX, MOVA. -/
theorem code_moves :
    decodeCore 8 (0b00011#5 ++ 9#4 ++ 1#1 ++ 0#6 ++ 0xABCD#24) = some (.movk 8 9 true 0xABCD#24)
    ∧ decodeCore 8 (0b00101#5 ++ 9#4 ++ 1#1 ++ 0#1 ++ 0#29) = some (.mva 8 9 true false)
    ∧ decodeCore 8 (0b00101#5 ++ 9#4 ++ 0#1 ++ 1#1 ++ 0#29) = some (.mva 8 9 false true)
    ∧ decodeCore 8 (0b00110#5 ++ 40#6 ++ 53#6 ++ 0#23) = some (.movx 8 40 53)
    ∧ decodeCore 8 (0b00111#5 ++ 16#6 ++ 0#1 ++ 0xFFFFFFF#28) = some (.mova 8 16 0xFFFFFFF#28)
    ∧ decodeCore 8 (0b00111#5 ++ 40#6 ++ 0#1 ++ 0#28) = none := by decide +kernel
/-- R of opcode 0x04: CMULJ is 3, CSHR 7, CMAG2 8 with Wb zero. -/
theorem code_complex :
    decodeCore 7 (0b00100#5 ++ 4#4 ++ 1#4 ++ 2#4 ++ 3#5 ++ 0#18) = some (.cmulj 7 4 1 2)
    ∧ decodeCore 7 (0b00100#5 ++ 4#4 ++ 1#4 ++ 2#4 ++ 7#5 ++ 0#18) = some (.cshr 7 4 1 2)
    ∧ decodeCore 7 (0b00100#5 ++ 4#4 ++ 1#4 ++ 0#4 ++ 8#5 ++ 0#18) = some (.cmag2 7 4 1)
    ∧ decodeCore 7 (0b00100#5 ++ 4#4 ++ 1#4 ++ 1#4 ++ 8#5 ++ 0#18) = none := by decide +kernel
/-- M: LD and ST with Ai at [30:28], Mj at [27:25], MODE at [24:23]. -/
theorem code_memory :
    decodeCore 7 (0b01000#5 ++ 4#4 ++ 5#3 ++ 6#3 ++ 3#2 ++ 0#23) = some (.ld 7 4 5 6 3)
    ∧ decodeCore 8 (0b01001#5 ++ 4#4 ++ 5#3 ++ 6#3 ++ 2#2 ++ 0#23) = some (.st 8 4 5 6 2)
    ∧ decodeCore 8 (0b01000#5 ++ 4#4 ++ 5#3 ++ 6#3 ++ 3#2 ++ 0#23) = none := by decide +kernel
/-- B, J and L: BR, CALL, JR, LOOPI, LOOPR. -/
theorem code_flow :
    decodeCore 8 (0b10000#5 ++ 8#4 ++ 0#13 ++ 0x3FFFF#18) = some (.br 8 8 0x3FFFF#18)
    ∧ decodeCore 0 (0b10001#5 ++ 1#4 ++ 0#13 ++ 0xFFFF#18) = some (.call 0 1 0xFFFF#18)
    ∧ decodeCore 0 (0b10001#5 ++ 1#4 ++ 0#13 ++ 0x10000#18) = none
    ∧ decodeCore 0 (0b10010#5 ++ 2#4 ++ 15#4 ++ 0#27) = some (.jr 0 2 15)
    ∧ decodeCore 0 (0b10011#5 ++ 0#5 ++ 4095#12 ++ 7#18) = some (.loopi 0 4095#12 7#18)
    ∧ decodeCore 0 (0b10100#5 ++ 0#1 ++ 9#4 ++ 0#12 ++ 7#18) = some (.loopr 0 9 7#18) := by decide +kernel
/-- D: MACL, MPYL and LDD with two load descriptors of 12 bits (Wd, Ai, Mj, MODE). -/
theorem code_dual :
    decodeCore 6 (0b11000#5 ++ 1#1 ++ 0#1 ++ 1#1 ++ 3#4 ++ 4#4 ++ (5#4 ++ 6#3 ++ 7#3 ++ 1#2) ++ (8#4 ++ 1#3 ++ 2#3 ++ 3#2))
      = some (.macl 6 true false true 3 4 ⟨5, 6, 7, 1⟩ ⟨8, 1, 2, 3⟩)
    ∧ decodeCore 8 (0b11001#5 ++ 0#1 ++ 1#1 ++ 0#1 ++ 3#4 ++ 4#4 ++ 0#12 ++ (8#4 ++ 1#3 ++ 2#3 ++ 2#2))
      = some (.mpyl 8 false true false 3 4 ⟨0, 0, 0, 0⟩ ⟨8, 1, 2, 2⟩)
    ∧ decodeCore 8 (0b11010#5 ++ 0#11 ++ (5#4 ++ 6#3 ++ 7#3 ++ 1#2) ++ 0#12) = some (.ldd 8 ⟨5, 6, 7, 1⟩ ⟨0, 0, 0, 0⟩)
    ∧ decodeCore 8 (0b11010#5 ++ 1#11 ++ 0#12 ++ 0#12) = none := by decide +kernel
/-- No row of the table spells bits: no word is a command, and the queue stays as it is. -/
theorem code_table_words : decodeTableWord 40 0 = none ∧ State.withFetchWord State.reset 40 0 = State.reset := by decide +kernel

/-! ### Single steps -/

/-- The check value of CRC-32 (the reflected polynomial 0xEDB88320): "123456789" gives 0xCBF43926. -/
theorem test_crc32 : crc32 [49, 50, 51, 52, 53, 54, 55, 56, 57] = 0xCBF43926 := by decide +kernel
/-- The step function on the command at the front: STATUS with no request does nothing but leave the queue. -/
theorem test_step_takes_the_front : 
    (match step { State.reset with pending := [.status] } with | .next t => decide (t = State.reset) | _ => false) = true := by decide +kernel
/-- An idle tick after reset counts TCLK. -/
theorem test_idle_tick : (match step State.reset with | .next t => tickNow t == 1 | _ => false) = true := by decide +kernel
/-- ADD of 2^39 - 1 and 1 wraps with V and N set and C clear (Table 10.8). -/
theorem test_add_overflow :
    (match exec (.add 8 4 1 2) (coreAt 8 (.add 8 4 1 2) [(1, 2 ^ 39 - 1), (2, 1)] {}) with
      | .next t => regRead 8 4 t == BitVec.intMin 40 && statBit 8 4 t && statBit 8 2 t && !statBit 8 3 t && pcOf 8 t == 17
      | _ => false) = true := by decide +kernel
/-- A circular address of length 5 at offset 4 of its block of 8 goes back to the block's start (Table 10.4). -/
theorem test_circular_address : nextAddr 2 12 1 5 = some 8 := by decide +kernel
/-- A bit-reversed address of length 8 with offset 4 visits 0, 4, 2, 6, 1 (Table 10.4). -/
theorem test_bit_reversed_address :
    nextAddr 3 0 4 8 = some 4 ∧ nextAddr 3 4 4 8 = some 2 ∧ nextAddr 3 2 4 8 = some 6 ∧ nextAddr 3 6 4 8 = some 1 := by decide +kernel

end Sys2Proof.Tests
end

namespace Sys2Proof.Safety
open Sys2Proof.Machine

/-! ### The invariant, part by part -/

/-- The parts of the invariant: the queue and the five stores. -/
theorem inv_iff {s : State} : Inv s ↔ queueWf s = true ∧ s.regs.wf resetWord = true
    ∧ s.hbm.wf (fun _ => 0#40) = true ∧ s.hbmErr.wf (fun _ => 0) = true
    ∧ s.memErr.wf (fun _ => 0) = true ∧ s.flash.wf flashDefault = true := by
  simp only [Inv, storesWf, Bool.and_eq_true, and_assoc]

section
variable {s : State}

/-- Every component that the invariant does not speak of may change. -/
theorem inv_frame {latches lanes bellq arr sdg chk tbl gau pts jct ins cpl crash ans ttb outs pow cores lockTimes ilk
    shunters mgt dep wakeReq tmnHeld beamHeld health phase frac free} (h : Inv s) :
    Inv { s with latches := latches, lanes := lanes, bellq := bellq, arr := arr, sdg := sdg, chk := chk, tbl := tbl,
                 gau := gau, pts := pts, jct := jct, ins := ins, cpl := cpl, crash := crash, ans := ans, ttb := ttb,
                 outs := outs, pow := pow, cores := cores, lockTimes := lockTimes, ilk := ilk, shunters := shunters,
                 mgt := mgt, dep := dep, wakeReq := wakeReq, tmnHeld := tmnHeld, beamHeld := beamHeld,
                 health := health, phase := phase, frac := frac, free := free } := h

theorem Inv.putRegs {m : Store Word} (h : Inv s) (hm : s.regs.wf resetWord → m.wf resetWord) :
    Inv { s with regs := m } := by
  obtain ⟨hq, hr, hrest⟩ := inv_iff.1 h
  exact inv_iff.2 ⟨hq, hm hr, hrest⟩

theorem Inv.putHbm {m : Store Word} {e : Store Nat} (h : Inv s)
    (hm : s.hbm.wf (fun _ => 0#40) → m.wf (fun _ => 0#40)) (he : s.hbmErr.wf (fun _ => 0) → e.wf (fun _ => 0)) :
    Inv { s with hbm := m, hbmErr := e } := by
  obtain ⟨hq, hr, hh, hx, hrest⟩ := inv_iff.1 h
  exact inv_iff.2 ⟨hq, hr, hm hh, he hx, hrest⟩

theorem Inv.putMemErr {m : Store Nat} (h : Inv s) (hm : s.memErr.wf (fun _ => 0) → m.wf (fun _ => 0)) :
    Inv { s with memErr := m } := by
  obtain ⟨hq, hr, hh, hx, he, hf⟩ := inv_iff.1 h
  exact inv_iff.2 ⟨hq, hr, hh, hx, hm he, hf⟩

theorem Inv.putFlashStore {m : Store Byte} (h : Inv s) (hm : s.flash.wf flashDefault → m.wf flashDefault) :
    Inv { s with flash := m } := by
  obtain ⟨hq, hr, hh, hx, he, hf⟩ := inv_iff.1 h
  exact inv_iff.2 ⟨hq, hr, hh, hx, he, hm hf⟩

/-! ### Branches and repetition -/

theorem inv_ite {c : Prop} [Decidable c] {a b : State} (ha : Inv a) (hb : Inv b) : Inv (if c then a else b) := by
  split
  · exact ha
  · exact hb

theorem inv_ite_snd {α : Type} {c : Prop} [Decidable c] {a b : α × State} (ha : Inv a.2) (hb : Inv b.2) :
    Inv (if c then a else b).2 := by
  split
  · exact ha
  · exact hb

theorem inv_ite_snd_snd {α β : Type} {c : Prop} [Decidable c] {a b : α × β × State}
    (ha : Inv a.2.2) (hb : Inv b.2.2) : Inv (if c then a else b).2.2 := by
  split
  · exact ha
  · exact hb

theorem inv_ite_fst {α : Type} {c : Prop} [Decidable c] {a b : State × α} (ha : Inv a.1) (hb : Inv b.1) :
    Inv (if c then a else b).1 := by
  split
  · exact ha
  · exact hb

theorem foldl_keeps {σ β : Type} {P : σ → Prop} {f : σ → β → σ} {l : List β} {x : σ}
    (hf : ∀ {x b}, P x → P (f x b)) (h : P x) : P (l.foldl f x) := by
  induction l generalizing x with
  | nil => exact h
  | cons b t ih => exact ih (hf h)

theorem inv_foldl {β : Type} {f : State → β → State} {l : List β}
    (hf : ∀ {s b}, Inv s → Inv (f s b)) (h : Inv s) : Inv (l.foldl f s) := foldl_keeps hf h

theorem inv_foldl_fst {α β : Type} {f : State × α → β → State × α} {l : List β} {x : State × α}
    (hf : ∀ {x b}, Inv x.1 → Inv (f x b).1) (h : Inv x.1) : Inv (l.foldl f x).1 :=
  @foldl_keeps _ _ (fun x : State × α => Inv x.1) f l x hf h

theorem inv_foldl_snd {α β : Type} {f : α × State → β → α × State} {l : List β} {x : α × State}
    (hf : ∀ {x b}, Inv x.2 → Inv (f x b).2) (h : Inv x.2) : Inv (l.foldl f x).2 :=
  @foldl_keeps _ _ (fun x : α × State => Inv x.2) f l x hf h

/-! From here on, one lemma per function of the model, in the model's order: the function keeps the invariant because
every function that it calls does, branch by branch; the writes of the stores themselves are the leaves. -/

/-! ### Ops -/

theorem inv_wr {a v} (h : Inv s) : Inv (wr a v s) := h.putRegs (Store.wf_set _ _ _ _)

theorem inv_setF {base f v} (h : Inv s) : Inv (setF base f v s) := inv_wr h

theorem inv_setBit {base f b v} (h : Inv s) : Inv (setBit base f b v s) := inv_setF h

theorem inv_incF {base f k} (h : Inv s) : Inv (incF base f k s) := inv_setF h

theorem inv_satF {base f k} (h : Inv s) : Inv (satF base f k s) := inv_setF h

theorem inv_set2 {base lo hi v} (h : Inv s) : Inv (set2 base lo hi v s) := inv_setF <| inv_setF h

theorem inv_sat2 {base lo hi k} (h : Inv s) : Inv (sat2 base lo hi k s) := inv_set2 h

theorem inv_setLane {i l} (h : Inv s) : Inv (setLane i l s) := inv_frame h

theorem inv_modLane {i f} (h : Inv s) : Inv (modLane i f s) := inv_setLane h

theorem inv_setQueue {c q} (h : Inv s) : Inv (setQueue c q s) := inv_frame h

theorem inv_enqueueEvent {c e inj} (h : Inv s) : Inv (enqueueEvent c e inj s) := inv_ite h <| inv_setQueue h

theorem inv_logEvent {e inj twin tick} (h : Inv s) : Inv (logEvent e inj twin tick s) :=
  inv_ite (inv_setF (inv_wr (inv_wr h))) h

theorem inv_when {c f} (hf : ∀ {s}, Inv s → Inv (f s)) (h : Inv s) : Inv (when c f s) := inv_ite (hf h) h

theorem inv_deliver {e inj} (h : Inv s) : Inv (deliver e inj s) :=
  inv_when inv_frame <| inv_when inv_logEvent <| inv_when inv_enqueueEvent <| inv_when inv_enqueueEvent h

theorem inv_raiseInj {e inj} (h : Inv s) : Inv (raiseInj e inj s) := inv_when inv_deliver <| inv_satF <| inv_setF h

theorem inv_raise {e} (h : Inv s) : Inv (raise e s) := inv_raiseInj h

theorem inv_flagEvt {base f b e} (h : Inv s) : Inv (flagEvt base f b e s) := inv_ite h <| inv_raise <| inv_setBit h

theorem inv_flagAll {base f b e} (h : Inv s) : Inv (flagAll base f b e s) := inv_raise <| inv_setBit h

/-! ### Tracks -/

theorem inv_putTmnHeld {n} (h : Inv s) : Inv (putTmnHeld n s) := inv_when inv_setF <| inv_setF <| inv_frame h

theorem inv_showStore (h : Inv s) : Inv (showStore s) := inv_when inv_setF <| inv_setF h

theorem inv_putBeamHeld {n} (h : Inv s) : Inv (putBeamHeld n s) := inv_showStore <| inv_frame h

theorem inv_freeConsig {c} (h : Inv s) : Inv (freeConsig c s) := inv_ite (inv_putBeamHeld h) <| inv_putTmnHeld h

theorem inv_countDrop {route} (h : Inv s) : Inv (countDrop route s) := inv_flagEvt <| inv_setF <| inv_satF h

theorem inv_dropConsig {c} (h : Inv s) : Inv (dropConsig c s) := inv_countDrop <| inv_freeConsig h

theorem inv_departureLoss {i} (h : Inv s) : Inv (departureLoss i s) := inv_foldl inv_dropConsig <| inv_modLane h

theorem inv_slowInvalid {p} (h : Inv s) : Inv (slowInvalid p s) := inv_setF h

theorem inv_setStatusFlag {i c} (h : Inv s) : Inv (setStatusFlag i c s) := by
  unfold setStatusFlag
  split
  · exact inv_setF h
  · exact h

theorem inv_enterState {i st} (h : Inv s) : Inv (enterState i st s) := by
  unfold enterState
  split
  · exact inv_setF <| inv_modLane h
  · exact inv_modLane h
  · exact inv_modLane h
  · exact inv_setF <| inv_modLane h
  · exact inv_ite (inv_foldl (inv_foldl inv_slowInvalid) (inv_modLane h)) h
  · exact h

theorem inv_unpin {i} (h : Inv s) : Inv (unpin i s) := inv_frame h

theorem inv_leaveState {i} (h : Inv s) : Inv (leaveState i s) := by
  unfold leaveState
  split
  · exact inv_modLane <| inv_setF h
  · exact inv_setF h
  · exact inv_ite (inv_departureLoss h) <| inv_unpin h
  · exact h

theorem inv_laneChange {i st c} (h : Inv s) : Inv (laneChange i st c s) :=
  inv_raise <| inv_enterState <| inv_setStatusFlag <| inv_incF <| inv_setF <| inv_setF <| inv_leaveState h

theorem inv_settleQuad {q} (h : Inv s) : Inv (settleQuad q s) := inv_ite (inv_setF h) <| inv_setF <| inv_setF h

theorem inv_settleQlock {i} (h : Inv s) : Inv (settleQlock i s) := inv_setF h

theorem inv_putRxlink {i up} (h : Inv s) : Inv (putRxlink i up s) := inv_ite h <| inv_raise <| inv_setF h

theorem inv_applyRate {i pers} (h : Inv s) : Inv (applyRate i pers s) :=
  inv_settleQlock <| inv_settleQuad <| inv_when inv_putRxlink <| inv_setF <| inv_modLane h

theorem inv_applyPending {i} (h : Inv s) : Inv (applyPending i s) := inv_ite (inv_applyRate h) h

theorem inv_settleOnce {i} (h : Inv s) : Inv (settleOnce i s) :=
  inv_ite (inv_ite (inv_ite h (inv_laneChange h)) (inv_ite (inv_laneChange h) h)) h

theorem inv_darken {i c hx} (h : Inv s) : Inv (darken i c hx s) :=
  inv_applyPending <| inv_setF <| inv_when inv_laneChange h

theorem inv_toDark {i c hx} (h : Inv s) : Inv (toDark i c hx s) := inv_when inv_settleOnce <| inv_darken h

theorem inv_applyAtOpen {i} (h : Inv s) : Inv (applyAtOpen i s) := inv_ite (inv_settleOnce (inv_toDark h)) h

theorem inv_settleLane {i} (h : Inv s) : Inv (settleLane i s) := inv_applyAtOpen <| inv_settleOnce h

theorem inv_toOpen {i} (h : Inv s) : Inv (toOpen i s) := inv_applyAtOpen <| inv_laneChange h

theorem inv_trackReset {i} (h : Inv s) : Inv (trackReset i s) :=
  inv_modLane <| inv_when inv_departureLoss <| inv_toDark h

theorem inv_tokenReceive {i car} (h : Inv s) : Inv (tokenReceive i car s) := by
  unfold tokenReceive
  refine inv_ite h ?_
  have hc {c : Bool} {f : State → State} (hf : ∀ {s}, Inv s → Inv (f s)) :
      Inv (when c f s) := inv_when hf h
  dsimp only
  split
  · exact inv_ite (inv_toOpen (inv_modLane (hc fun h => inv_setF <| inv_setF <| inv_setF h))) <|
      inv_modLane <| hc fun h => inv_setF <| inv_setF <| inv_setF h
  · exact inv_ite (inv_laneChange (hc fun h => inv_setF <| inv_setF <| inv_setF h)) <|
      hc fun h => inv_setF <| inv_setF <| inv_setF h
  · exact hc fun h => inv_setF <| inv_setF <| inv_setF h

theorem inv_prbsSymbol {i sym} (h : Inv s) : Inv (prbsSymbol i s sym) := by
  refine inv_ite (inv_ite (inv_setF (inv_modLane h)) (inv_modLane h)) <| inv_ite (inv_raise (inv_setF (inv_setF
      ?hs))) ?hs
  exact inv_modLane <| inv_sat2 <| inv_sat2 h

theorem inv_prbsReceive {i syms} (h : Inv s) : Inv (prbsReceive i syms s) := inv_ite (inv_foldl inv_prbsSymbol h) h

theorem inv_prbsClear {i} (h : Inv s) : Inv (prbsClear i s) := inv_set2 <| inv_set2 h

theorem inv_tryLeaveDark {i} (h : Inv s) : Inv (tryLeaveDark i s) := inv_ite (inv_laneChange h) h

theorem inv_energyPresent {i} (h : Inv s) : Inv (energyPresent i s) := inv_tryLeaveDark <| inv_modLane h

theorem inv_cdrLock {i} (h : Inv s) : Inv (cdrLock i s) := inv_ite (inv_laneChange h) h

theorem inv_signalTimeout {i} (h : Inv s) : Inv (signalTimeout i s) := inv_ite (inv_toDark h) h

theorem inv_commaReceive {i spacing levels} (h : Inv s) : Inv (commaReceive i spacing levels s) :=
  inv_ite (inv_ite (inv_laneChange (inv_setLane h)) (inv_setLane h)) h

theorem inv_commaTimeout {i} (h : Inv s) : Inv (commaTimeout i s) := inv_ite (inv_toDark h) h

theorem inv_alignmentLoss {i windows} (h : Inv s) : Inv (alignmentLoss i windows s) := inv_ite (inv_laneChange h) h

theorem inv_frameAcquired {i seqs} (h : Inv s) : Inv (frameAcquired i seqs s) :=
  inv_ite (inv_ite (inv_setF (inv_modLane h)) (inv_ite (inv_toOpen (inv_modLane h)) (inv_laneChange (inv_modLane h))))
    h

theorem inv_frameTimeout {i} (h : Inv s) : Inv (frameTimeout i s) := inv_ite (inv_toDark h) h

theorem inv_handshakeTimeout {i} (h : Inv s) : Inv (handshakeTimeout i s) := inv_ite (inv_toDark h) h

theorem inv_tokenLoss {i} (h : Inv s) : Inv (tokenLoss i s) := inv_ite (inv_toDark h) h

theorem inv_energyLost {i} (h : Inv s) : Inv (energyLost i s) :=
  inv_ite (inv_modLane h) <| inv_toDark <| inv_modLane h

theorem inv_retryHoldoffEnd {i} (h : Inv s) : Inv (retryHoldoffEnd i s) := inv_tryLeaveDark <| inv_setF h

theorem inv_rateAbort {i} (h : Inv s) : Inv (rateAbort i s) := inv_ite (inv_settleLane (inv_toDark h)) h

theorem inv_persWrite {i pers} (h : Inv s) : Inv (persWrite i pers s) :=
  inv_ite h <| inv_ite (inv_modLane h) <| inv_ite h <| inv_ite (inv_settleLane (inv_applyRate (inv_setF (inv_setF
    (inv_when inv_laneChange h))))) <| inv_setF <| inv_modLane h

theorem inv_loseLane {x170 i} (h : Inv s) : Inv (loseLane x170 s i) :=
  inv_ite (inv_when (fun h => inv_modLane <| inv_toDark h) (inv_setF h)) h

theorem inv_qpllLost {q x170} (h : Inv s) : Inv (qpllLost q x170 s) :=
  inv_ite (inv_raise (inv_foldl inv_loseLane (inv_incF (inv_setF h)))) h

theorem inv_qpllRelock {q x170} (h : Inv s) : Inv (qpllRelock q x170 s) :=
  inv_ite h <| inv_foldl (fun h => inv_ite (inv_settleLane (inv_settleQlock h)) h) <| inv_setF <| inv_setF h

theorem inv_rxlinkChange {i up} (h : Inv s) : Inv (rxlinkChange i up s) := inv_ite (inv_putRxlink h) h

theorem inv_trkCtrlEffect {i old pers trst} (h : Inv s) : Inv (trkCtrlEffect i old pers trst s) :=
  inv_settleLane <| inv_ite (inv_when inv_applyRate (inv_trackReset (inv_when inv_modLane h))) <| inv_when
    inv_persWrite <| inv_when inv_modLane h

theorem inv_trkTestEffect {i old} (h : Inv s) : Inv (trkTestEffect i old s) :=
  inv_settleLane <| inv_when inv_toDark <| inv_when (fun h => inv_setF <| inv_modLane h) <| inv_when inv_modLane h

theorem inv_eqReject {i} (h : Inv s) : Inv (eqReject i s) := inv_raise <| inv_setF h

/-! ### Twin -/

theorem inv_putCpl {x} (h : Inv s) : Inv (putCpl x s) := inv_frame h

theorem inv_cplCond {b} (h : Inv s) : Inv (cplCond b s) := inv_flagEvt h

theorem inv_setJstate {j} (h : Inv s) : Inv (setJstate j s) := inv_setF h

theorem inv_joinFail (h : Inv s) : Inv (joinFail s) := inv_satF <| inv_cplCond <| inv_setJstate <| inv_putCpl h

theorem inv_logItem {x} (h : Inv s) : Inv (logItem x s) := inv_ite h <| inv_ite (inv_joinFail h) <| inv_putCpl h

/-! ### Gauges -/

theorem inv_ptsCond {b} (h : Inv s) : Inv (ptsCond b s) := inv_flagEvt h

theorem inv_putAcc {p a} (h : Inv s) : Inv (putAcc p a s) := inv_frame h

theorem inv_statSample {frozen i c b} (h : Inv s) : Inv (statSample frozen i c b s) :=
  inv_when inv_satF <| inv_setF <| inv_setF <| inv_when inv_setF h

theorem inv_groupRecord {i c cond n} (h : Inv s) : Inv (groupRecord i c cond n s) :=
  inv_setF <| inv_setF <| inv_setF <| inv_setF <| inv_setF h

theorem inv_groupEvent {i c cond n} (h : Inv s) : Inv (groupEvent i c cond n s) :=
  inv_ite (inv_when inv_groupRecord h) <| inv_raise <| inv_groupRecord h

theorem inv_wakeRequest {cause} (h : Inv s) : Inv (wakeRequest cause s) := by
  unfold wakeRequest
  split
  · exact h
  · exact inv_frame h

theorem inv_crossing {i c cond n0 excise} (h : Inv s) : Inv (crossing i c cond n0 excise s) := by
  unfold crossing
  split
  · exact h
  · refine inv_when inv_wakeRequest <| inv_when inv_groupEvent ?_
    dsimp only
    split
    · exact inv_frame h
    · exact h

theorem inv_gaugePair {n ic} (h : Inv s) : Inv (gaugePair n s ic) := by
  unfold gaugePair
  refine inv_ite ?_ h
  dsimp only
  split
  · exact inv_statSample <| inv_putAcc h
  · exact inv_ite (inv_crossing (inv_statSample (inv_putAcc h))) <| inv_statSample <| inv_putAcc h

theorem inv_dropBlocks {n} (h : Inv s) : Inv (dropBlocks n s) :=
  inv_ite (inv_frame h) <| inv_ite (inv_foldl inv_putAcc h) h

theorem inv_gaugeIndex (h : Inv s) : Inv (gaugeIndex s) :=
  inv_frame <| inv_ite (inv_foldl inv_gaugePair h) <| inv_dropBlocks h

theorem inv_gaugeRun {n} (h : Inv s) : Inv (gaugeRun n s) := by
  induction n generalizing s with
  | zero => exact h
  | succ n ih => exact inv_ite (ih (inv_gaugeIndex h)) h

theorem inv_gaugeGo (h : Inv s) : Inv (gaugeGo s) := inv_gaugeRun h

theorem inv_slowReload {i c a} (h : Inv s) : Inv (slowReload i c a s) := inv_ite (inv_setF (inv_setF h)) h

theorem inv_evalFast {n0 cond ic} (h : Inv s) : Inv (evalFast n0 cond s ic) := by
  unfold evalFast
  split
  · exact h
  · exact inv_ite (inv_crossing h) h

theorem inv_closeFast {ic} (h : Inv s) : Inv (closeFast s ic) :=
  inv_putAcc <| inv_slowReload <| inv_setF <| inv_setF h

theorem inv_popAct (h : Inv s) : Inv (popAct s) := inv_frame h

theorem inv_fastBlockEnd (h : Inv s) : Inv (fastBlockEnd s) :=
  inv_ite (inv_gaugeGo (inv_popAct (inv_foldl inv_closeFast (inv_foldl (inv_foldl inv_evalFast) h)))) h

theorem inv_evalKurt {n0 cond ic} (h : Inv s) : Inv (evalKurt n0 cond s ic) := by
  unfold evalKurt
  split
  · exact h
  · exact inv_ite (inv_crossing h) h

theorem inv_closeKurt {ic} (h : Inv s) : Inv (closeKurt s ic) := inv_putAcc <| inv_setF <| inv_setF h

theorem inv_kurtosisBlockEnd (h : Inv s) : Inv (kurtosisBlockEnd s) :=
  inv_ite (inv_gaugeGo (inv_popAct (inv_foldl inv_closeKurt (inv_foldl (inv_foldl inv_evalKurt) h)))) h

theorem inv_snapPair {ic} (h : Inv s) : Inv (snapPair s ic) :=
  inv_setF <| inv_setF <| inv_setF <| inv_setF <| inv_setF h

theorem inv_autoHold (h : Inv s) : Inv (autoHold s) := inv_when inv_ptsCond h

theorem inv_gaugeSnapshot (h : Inv s) : Inv (gaugeSnapshot s) :=
  inv_ite (inv_gaugeGo (inv_popAct (inv_set2 (inv_autoHold (inv_foldl inv_snapPair h))))) h

theorem inv_putWacc {p a} (h : Inv s) : Inv (putWacc p a s) := inv_frame h

theorem inv_watchFastNext {i c n} (h : Inv s) : Inv (watchFastNext i c n s) := by
  unfold watchFastNext
  refine inv_putWacc ?_
  split
  · exact inv_frame h
  · exact h

theorem inv_watchKurtNext {i c n} (h : Inv s) : Inv (watchKurtNext i c n s) := by
  unfold watchKurtNext
  refine inv_putWacc ?_
  split
  · exact inv_when inv_frame h
  · exact h

theorem inv_watchAlign {i c n} (h : Inv s) : Inv (watchAlign i c n s) :=
  inv_ite (inv_putWacc h) <| inv_when inv_watchKurtNext <| inv_when inv_watchFastNext h

theorem inv_watchEnv {i c n} (h : Inv s) : Inv (watchEnv i c n s) := by
  unfold watchEnv
  split
  · exact h
  · exact inv_when inv_crossing h

theorem inv_watchSample {i c n b} (h : Inv s) : Inv (watchSample i c n b s) :=
  inv_ite (inv_when inv_watchAlign h) <| inv_when inv_watchKurtNext <| inv_when inv_watchFastNext <| inv_when (fun h
    => inv_watchEnv <| inv_statSample <| inv_putWacc h) <| inv_when inv_watchAlign h

theorem inv_watchFast {w} (h : Inv s) : Inv (watchFast s w) :=
  inv_setF <| inv_setF <| inv_foldl (fun h => by split; exacts [h, inv_ite (inv_crossing h) h]) h

theorem inv_watchKurt {w} (h : Inv s) : Inv (watchKurt s w) :=
  inv_setF <| inv_setF <| inv_foldl (fun h => by split; exacts [h, inv_ite (inv_crossing h) h]) h

theorem inv_fastBlocks (h : Inv s) : Inv (fastBlocks s) :=
  inv_ite (inv_foldl inv_watchFast (inv_frame h)) <| inv_fastBlockEnd h

theorem inv_kurtosisBlocks (h : Inv s) : Inv (kurtosisBlocks s) :=
  inv_ite (inv_foldl inv_watchKurt (inv_frame h)) <| inv_kurtosisBlockEnd h

/-! ### Sidings -/

theorem inv_insEvent {e} (h : Inv s) : Inv (insEvent e s) := inv_ite (inv_flagAll h) <| inv_flagAll h

theorem inv_injResult {r} (h : Inv s) : Inv (injResult r s) := inv_setF h

theorem inv_putInj {x} (h : Inv s) : Inv (putInj x s) := inv_setF <| inv_frame h

theorem inv_injDone {x} (h : Inv s) : Inv (injDone x s) := inv_insEvent <| inv_injResult <| inv_putInj <| inv_frame h

theorem inv_useInj {p} (h : Inv s) : Inv (useInj p s) := by
  unfold useInj
  split
  · exact inv_when inv_injDone h
  · exact h

theorem inv_busCorrected {n} (h : Inv s) : Inv (busCorrected n s) := inv_ite h <| inv_satF <| inv_frame h

theorem inv_busUncorrectable (h : Inv s) : Inv (busUncorrectable s) := inv_insEvent <| inv_satF h

theorem inv_injErrors {len p} (h : Inv s) : Inv (injErrors len p s).2 := by
  unfold injErrors
  split
  · exact h
  · exact inv_useInj <| inv_frame h

theorem inv_setStack {k st} (h : Inv s) : Inv (setStack k st s) := inv_ite h <| inv_raise <| inv_setF h

theorem inv_setWork {mask} (h : Inv s) : Inv (setWork mask s) := inv_setF <| inv_setF <| inv_setF h

theorem inv_loseStack {k} (h : Inv s) : Inv (loseStack k s) := h.putHbm (Store.wf_keep _ _ _) (Store.wf_keep _ _ _)

theorem inv_putPow {x} (h : Inv s) : Inv (putPow x s) := inv_frame h

theorem inv_setDom {d x} (h : Inv s) : Inv (setDom d x s) := inv_setF h

theorem inv_districtDown {k} (h : Inv s) : Inv (districtDown k s) := inv_when inv_raise <| inv_setBit h

theorem inv_beginTraining {k} (h : Inv s) : Inv (beginTraining k s) := inv_setStack <| inv_setF <| inv_setF h

theorem inv_doStep {x} (h : Inv s) : Inv (doStep x s) := by
  unfold doStep
  split
  · exact inv_ite h <| inv_setDom <| inv_incF h
  · exact inv_setDom <| inv_when inv_districtDown h
  · exact inv_ite h <| inv_setDom h
  · exact inv_ite (inv_setStack h) h
  · exact inv_ite (inv_beginTraining h) h

theorem inv_showQlen (h : Inv s) : Inv (showQlen s) := inv_setF h

theorem inv_requestStep {x} (h : Inv s) : Inv (requestStep x s) :=
  inv_ite (inv_incF (inv_showQlen (inv_putPow h))) <| inv_doStep <| inv_putPow h

theorem inv_requestSteps {xs} (h : Inv s) : Inv (requestSteps xs s) := inv_foldl inv_requestStep h

theorem inv_drainSteps (h : Inv s) : Inv (drainSteps s) := inv_foldl inv_doStep <| inv_showQlen <| inv_putPow h

theorem inv_runSteps {xs} (h : Inv s) : Inv (runSteps xs s) := inv_drainSteps <| inv_requestSteps h

theorem inv_putMask {pl m} (h : Inv s) : Inv (putMask pl m s) := h.putHbm id (Store.wf_set _ _ _ _)

theorem inv_writeBlock {pl ws mask} (h : Inv s) : Inv (writeBlock pl ws mask s) :=
  inv_putMask <| inv_foldl (fun h => h.putHbm (Store.wf_set _ _ _ _) id) h

theorem inv_countDecode {pl} (h : Inv s) : Inv (countDecode pl s) :=
  inv_ite h <| inv_ite (inv_raise (inv_satF h)) <| inv_when inv_raise <| inv_satF <| inv_frame h

theorem inv_putCapture {c x} (h : Inv s) : Inv (putCapture c x s) := inv_frame h

theorem inv_sdgCond {b} (h : Inv s) : Inv (sdgCond b s) := inv_flagEvt h

theorem inv_suppress {per m f i t} (h : Inv s) : Inv (suppress per m f i t s) :=
  inv_foldl (fun h => inv_ite (inv_sdgCond (inv_putCapture h)) h) <| inv_frame h

theorem inv_blockWrite {j f i ws} (h : Inv s) : Inv (blockWrite j f i ws s) :=
  inv_ite h <| inv_ite (inv_suppress h) <| inv_ite h <| inv_writeBlock <| inv_injErrors h

theorem inv_busRead {ws mask} (h : Inv s) : Inv (busRead ws mask s).2 := by
  unfold busRead
  refine inv_ite_snd h ?_
  split
  · exact inv_busCorrected h
  · exact inv_busUncorrectable h

theorem inv_asmSample {f i j b mask} (h : Inv s) : Inv (asmSample f i j b mask s) :=
  inv_ite (inv_blockWrite (inv_busRead (inv_frame (inv_frame h)))) <| inv_frame h

theorem inv_p3Read {pl k} (h : Inv s) : Inv (p3Read pl k s).2 := inv_when inv_sdgCond <| inv_countDecode h

theorem inv_p3Write {pl k v} (h : Inv s) : Inv (p3Write pl k v s) := by
  unfold p3Write
  dsimp only
  split
  · exact inv_sdgCond <| inv_countDecode h
  · exact inv_writeBlock <| inv_injErrors <| inv_countDecode h

theorem inv_recordOffsets {seg ds} (h : Inv s) : Inv (recordOffsets seg ds s) :=
  inv_setF <| inv_setF <| inv_frame <| inv_foldl inv_wr h

theorem inv_capDescRead {d} (h : Inv s) : Inv (capDescRead d s) := inv_foldl inv_countDecode h

theorem inv_captureExecute {d key len num x} (h : Inv s) (e : captureExecute d key len num s = some x) : Inv x.2 := by
  unfold captureExecute at e
  dsimp only at e
  split at e
  · cases e
  · split at e
    · cases e
      exact inv_when inv_sdgCond <| inv_setF <| inv_setF <| inv_setF <| inv_setF <| inv_setF <| inv_putCapture h
    · cases e

theorem inv_captureStreamStart {c} (h : Inv s) : Inv (captureStreamStart c s) :=
  inv_ite (inv_setF (inv_putCapture h)) h

theorem inv_handTo {port ws} (h : Inv s) : Inv (handTo port ws s) := inv_frame h

theorem inv_hbmReadComplete {port pc a flips empty} (h : Inv s) : Inv (hbmReadComplete port pc a flips empty s) :=
  inv_ite (inv_handTo h) <| inv_ite (inv_when inv_raise (inv_when inv_sdgCond (inv_handTo (inv_countDecode (inv_when
    inv_putMask h))))) h

theorem inv_scrubRead (h : Inv s) : Inv (scrubRead s) := by
  unfold scrubRead
  refine inv_ite h <| inv_ite (inv_incF (inv_setF ?_)) (inv_setF ?_)
  all_goals
    refine inv_ite (inv_frame <| inv_foldl (fun h => inv_ite (inv_countDecode h) h) <| inv_ite ?_ h) (inv_ite ?_ h)
    all_goals
      split
      · exact inv_when inv_writeBlock <| inv_countDecode h
      · exact inv_countDecode h

theorem inv_stackTempRead {k temp} (h : Inv s) : Inv (stackTempRead k temp s) :=
  inv_ite h <| inv_when inv_raise <| inv_setF h

theorem inv_stackTrainingStart {k} (h : Inv s) : Inv (stackTrainingStart k s) := inv_ite (inv_beginTraining h) h

theorem inv_retrainInPlace {k} (h : Inv s) : Inv (retrainInPlace k s) :=
  inv_ite (inv_beginTraining (inv_incF (inv_frame h))) h

theorem inv_caParityError {k} (h : Inv s) : Inv (caParityError k s) := inv_ite (inv_raise h) h

theorem inv_failStack {k} (h : Inv s) : Inv (failStack k s) :=
  inv_requestStep <| inv_loseStack <| inv_raise <| inv_setBit <| inv_setStack <| inv_frame h

theorem inv_applyRateChange {rate} (h : Inv s) : Inv (applyRateChange rate s) := by
  refine inv_ite (inv_sdgCond ?hs) <| inv_requestSteps <| inv_frame ?hs
  exact inv_setF <| inv_setF <| inv_foldl inv_setStack h

theorem inv_rateDue (h : Inv s) : Inv (rateDue s) := inv_when inv_applyRateChange h

theorem inv_rateWrite {rate} (h : Inv s) : Inv (rateWrite rate s) :=
  inv_ite h <| inv_ite (inv_sdgCond h) <| inv_ite (inv_setF (inv_frame h)) <| inv_applyRateChange h

theorem inv_rateAbortSdg (h : Inv s) : Inv (rateAbortSdg s) :=
  inv_ite (inv_applyRateChange (inv_foldl (fun h => inv_setF <| inv_raise h) h)) h

theorem inv_trainingFail {k step} (h : Inv s) : Inv (trainingFail k step s) :=
  inv_when inv_failStack <| inv_setF <| inv_raise <| inv_setF h

theorem inv_pasrRequest (h : Inv s) : Inv (pasrRequest s) :=
  inv_ite (inv_raise h) <| inv_foldl (fun h => inv_ite (inv_ite (inv_setBit (inv_setStack h)) h) <| inv_ite h <|
    inv_loseStack <| inv_setStack h) <| inv_setF <| inv_setF h

theorem inv_pasrRelease (h : Inv s) : Inv (pasrRelease s) :=
  inv_ite (inv_setF (inv_foldl (fun h => inv_ite (inv_requestStep h) <| inv_ite (inv_stackTrainingStart h) h)
    (inv_setF (inv_setF h)))) <| inv_setF h

theorem inv_srExitTimeout {k} (h : Inv s) : Inv (srExitTimeout k s) :=
  inv_ite (inv_ite (inv_putPow (inv_raise h)) (inv_requestStep (inv_raise h))) h

/-! ### Terminus -/

theorem inv_tmnCond {b} (h : Inv s) : Inv (tmnCond b s) := inv_flagEvt h

theorem inv_queueConsig {c u} (h : Inv s) : Inv (queueConsig c u s) := by
  unfold queueConsig
  refine inv_ite h <| inv_ite (inv_countDrop h) ?_
  split
  · exact inv_countDrop h
  · exact inv_ite (inv_putBeamHeld (inv_modLane (inv_when inv_tmnCond h))) <| inv_putTmnHeld <| inv_modLane <|
      inv_when inv_tmnCond h

theorem inv_manifestKeep {ws} (h : Inv s) : Inv (manifestKeep ws s) :=
  inv_incF <| inv_setF <| inv_foldl (fun h => by split; exacts [inv_wr h, inv_ite h (inv_wr h)]) h

theorem inv_countSent {i c} (h : Inv s) : Inv (countSent i c s) := inv_freeConsig <| inv_satF <| inv_satF h

theorem inv_popConsig {i} (h : Inv s) : Inv (popConsig i s) := inv_modLane h

theorem inv_readOut {words bus} (h : Inv s) : Inv (readOut words bus s).2 :=
  inv_foldl_snd inv_busRead h

theorem inv_muteLane {i} (h : Inv s) : Inv (muteLane i s) := inv_modLane <| inv_foldl inv_freeConsig h

theorem inv_beginConsig {i c ws} (h : Inv s) : Inv (beginConsig i c ws s) :=
  inv_ite (inv_modLane (inv_modLane h)) <| inv_modLane h

theorem inv_takeNext {i n} (h : Inv s) : Inv (takeNext i n s) := by
  induction n generalizing s with
  | zero => exact h
  | succ n ih =>
    unfold takeNext
    split
    · exact h
    · next c _ =>
      have hr {bus l p f} : Inv (readOut c.words bus (modLane i f (injErrors l p (popConsig i s)).2)).2 :=
        inv_readOut <| inv_modLane <| inv_injErrors <| inv_popConsig h
      dsimp only
      split
      · exact ih <| inv_dropConsig hr
      · exact inv_beginConsig hr

theorem inv_startNext {i} (h : Inv s) : Inv (startNext i s) :=
  inv_ite (inv_muteLane h) <| inv_takeNext <| inv_muteLane h

theorem inv_fillCars {i n k acc fst} (h : Inv s) : Inv (fillCars i n k acc fst s).2.2 := by
  induction n generalizing k acc fst s with
  | zero => exact h
  | succ n ih =>
    unfold fillCars
    split
    · exact h
    · dsimp only
      split
      · split
        · exact ih <| inv_startNext <| inv_countSent <| inv_modLane <| inv_muteLane h
        · exact inv_modLane <| inv_muteLane h
      · exact inv_muteLane h

theorem inv_captureEnd {k trunc} (h : Inv s) : Inv (captureEnd k trunc s) :=
  inv_setF <| inv_tmnCond <| inv_queueConsig h

theorem inv_capturePieceRead {k} (h : Inv s) : Inv (capturePieceRead k s) := by
  refine inv_ite h <| inv_ite (inv_captureEnd h) <| inv_ite h <| inv_ite (inv_captureEnd ?hs) ?hs
  exact inv_setF <| inv_putCapture <| inv_queueConsig <| inv_foldl inv_countDecode h

theorem inv_captureRelease {k} (h : Inv s) : Inv (captureRelease k s) :=
  inv_ite (inv_putCapture (inv_setF (inv_ite (inv_captureEnd (inv_sdgCond (inv_putCapture h))) h))) h

theorem inv_tmnCounterClear (h : Inv s) : Inv (tmnCounterClear s) :=
  inv_setF <| inv_foldl (fun h => inv_setF <| inv_setF <| inv_setF h) h

theorem inv_tmnStop (h : Inv s) : Inv (tmnStop s) := inv_foldl inv_departureLoss h

theorem inv_routeStop {r} (h : Inv s) : Inv (routeStop r s) :=
  inv_foldl (fun h => inv_modLane <| inv_foldl inv_dropConsig h) h

theorem inv_consignmentBoundary {i bus} (h : Inv s) : Inv (consignmentBoundary i bus s) :=
  inv_startNext <| inv_when inv_modLane h

/-! ### Turntable -/

theorem inv_lineSample {f i j b} (h : Inv s) : Inv (lineSample f i j b s) := inv_frame h

theorem inv_putFrame {b f x} (h : Inv s) : Inv (putFrame b f x s) := inv_frame h

theorem inv_tblCond {b} (h : Inv s) : Inv (tblCond b s) := inv_flagEvt h

theorem inv_beamConfigCheck (h : Inv s) : Inv (beamConfigCheck s) := inv_when inv_tblCond h

theorem inv_tblSwapsAt {j} (h : Inv s) : Inv (tblSwapsAt j s) :=
  inv_when (fun h => inv_setF <| inv_setF <| inv_setF <| inv_frame h) <| inv_when (fun h => inv_setF <| inv_setF h) <|
    inv_frame h

theorem inv_frameFor {b f j} (h : Inv s) : Inv (frameFor b f j s) :=
  inv_ite h <| inv_showStore <| inv_putFrame <| inv_frame h

theorem inv_putClipped {b f g} (h : Inv s) : Inv (putClipped b f g s) := inv_when inv_tblCond <| inv_putFrame h

theorem inv_formOne {j bad eclip bf} (h : Inv s) : Inv (formOne j bad eclip s bf) := inv_putClipped <| inv_frameFor h

theorem inv_tblReset {jp} (h : Inv s) : Inv (tblReset jp s) :=
  inv_frame <| inv_foldl (fun h => inv_ite (inv_putClipped h) h) h

theorem inv_beamSampleForm {bad} (h : Inv s) : Inv (beamSampleForm bad s) := by
  unfold beamSampleForm
  refine inv_ite h ?_
  split
  · exact inv_tblReset h
  · exact inv_ite h <| inv_frame <| inv_ite (inv_foldl inv_formOne (inv_when inv_tblCond (inv_foldl inv_insEvent
      (inv_foldl inv_useInj (inv_tblSwapsAt h))))) <| inv_tblSwapsAt h

theorem inv_integrationEnd {b f} (h : Inv s) : Inv (integrationEnd b f s) := inv_ite (inv_putClipped h) h

theorem inv_dropFrame {b f} (h : Inv s) : Inv (dropFrame b f s) := inv_showStore <| inv_putFrame <| inv_frame h

theorem inv_beamFrameEmit {b f} (h : Inv s) : Inv (beamFrameEmit b f s) :=
  inv_ite h <| inv_ite (inv_queueConsig (inv_dropFrame h)) <| inv_tmnCond <| inv_satF <| inv_dropFrame h

theorem inv_flushFrames (h : Inv s) : Inv (flushFrames s) :=
  inv_foldl (fun h => inv_ite (inv_beamFrameEmit (inv_putClipped h)) h) h

theorem inv_tblStop (h : Inv s) : Inv (tblStop s) := inv_showStore <| inv_frame h

theorem inv_tblCounterClear (h : Inv s) : Inv (tblCounterClear s) := inv_setF <| inv_setF <| inv_setF <| inv_setF h

theorem inv_tblGswapDue {key} (h : Inv s) : Inv (tblGswapDue key s) :=
  inv_ite (inv_tblCond h) <| inv_ite (inv_frame h) <| inv_tblCond <| inv_incF <| inv_frame h

theorem inv_tblDswapDue {key} (h : Inv s) : Inv (tblDswapDue key s) :=
  inv_ite (inv_tblCond h) <| inv_ite (inv_frame h) <| inv_tblCond <| inv_incF <| inv_frame h

theorem inv_tblReadyCheck (h : Inv s) : Inv (tblReadyCheck s) :=
  inv_ite (inv_ite (inv_setF h) (inv_tblCond (inv_when inv_setF h))) h

theorem inv_tblSigWord {w} (h : Inv s) : Inv (tblSigWord w s) := inv_setF <| inv_frame h

/-! ### Points -/

theorem inv_engineErr {e} (h : Inv s) : Inv (engineErr e s) := inv_flagEvt h

theorem inv_countExcised {b0 ic} (h : Inv s) : Inv (countExcised b0 s ic) := inv_ite h <| inv_satF h

theorem inv_copyIcnt {k} (h : Inv s) : Inv (copyIcnt k s) := inv_foldl inv_wr h

theorem inv_snapBlock {b0} (h : Inv s) : Inv (snapBlock b0 s) := by
  unfold snapBlock
  split
  · exact inv_ite (inv_frame (inv_copyIcnt h)) h
  · exact h

theorem inv_snapFine {j} (h : Inv s) : Inv (snapFine j s) := by
  unfold snapFine
  split
  · exact inv_ite (inv_frame (inv_copyIcnt (inv_copyIcnt h))) h
  · exact h

theorem inv_ptsSwapsAt {j} (h : Inv s) : Inv (ptsSwapsAt j s) :=
  inv_when (fun h => inv_setF <| inv_setF h) <| inv_when (fun h => inv_setF <| inv_setF h) <| inv_frame h

theorem inv_ptsCswapDue {key} (h : Inv s) : Inv (ptsCswapDue key s) :=
  inv_ite (inv_ptsCond h) <| inv_ite (inv_frame h) <| inv_ptsCond <| inv_incF <| inv_frame h

theorem inv_ptsGswapDue {key} (h : Inv s) : Inv (ptsGswapDue key s) :=
  inv_ite (inv_ptsCond h) <| inv_ite (inv_frame h) <| inv_ptsCond <| inv_incF <| inv_frame h

theorem inv_psegReadyCheck (h : Inv s) : Inv (psegReadyCheck s) :=
  inv_ite (inv_ite (inv_setF h) (inv_ptsCond (inv_setF h))) h

theorem inv_psegSigWord {w} (h : Inv s) : Inv (psegSigWord w s) := inv_setF <| inv_frame h

theorem inv_segmentSwap {j} (h : Inv s) : Inv (segmentSwap j s) :=
  inv_ite h <| inv_recordOffsets <| inv_when inv_ptsCond <| inv_when inv_ptsCond <| inv_when inv_ptsCond <| inv_frame
    <| inv_setF <| inv_setF <| inv_setF h

/-- The functions of the condition "this sample closes its block" are made variables first: comparing the definition
with its unfolded form would otherwise evaluate the condition, words of the control space and all. -/
theorem inv_formFine {i f j w badVisit bus} (h : Inv s) : Inv (formFine i f j w badVisit bus s) := by
  obtain ⟨origin, ho⟩ : ∃ o, o = originOf := ⟨_, rfl⟩
  obtain ⟨len, hl⟩ : ∃ l, l = platLen := ⟨_, rfl⟩
  obtain ⟨g, hg⟩ : ∃ g, g = @formFine := ⟨_, rfl⟩
  rw [← hg]
  delta formFine at hg
  rw [← ho, ← hl] at hg
  subst hg
  beta_reduce
  cases fineSample i f j w badVisit s with
  | none => exact inv_lineSample <| inv_asmSample <| inv_ite_snd (inv_injErrors (inv_satF h)) <| inv_satF h
  | some x =>
    exact inv_lineSample <| inv_asmSample <| inv_ite_snd (inv_injErrors (inv_when inv_satF h)) <| inv_when inv_satF h

theorem inv_formSample {j bad bus} (h : Inv s) : Inv (formSample j bad bus s) :=
  inv_setF <| inv_frame <| inv_foldl (inv_foldl inv_formFine) <| inv_segmentSwap <| inv_ptsSwapsAt <| inv_snapFine h

theorem inv_formBlock {n bad bus} (h : Inv s) : Inv (formBlock n bad bus s) := by
  induction n generalizing s with
  | zero => exact h
  | succ n ih => exact inv_ite (ih (inv_formSample h)) h

theorem inv_forgetCoarse (h : Inv s) : Inv (forgetCoarse s) := inv_frame h

theorem inv_pointsBlockFilter {bad full bus} (h : Inv s) : Inv (pointsBlockFilter bad full bus s) :=
  inv_ite h <| inv_forgetCoarse <| inv_frame <| inv_formBlock <| inv_foldl inv_countExcised <| inv_snapBlock <|
    inv_when (inv_foldl inv_raise) <| inv_foldl inv_engineErr <| inv_foldl inv_useInj h

theorem inv_clearWords {a b} (h : Inv s) : Inv (clearWords a b s) := h.putRegs (Store.wf_keep _ _ _)

theorem inv_openSlot {k set count t0 span} (h : Inv s) : Inv (openSlot k set count t0 span s) :=
  inv_setF <| inv_setF <| inv_setF <| inv_setF <| inv_setF <| inv_frame <| h.putRegs (Store.wf_keep _ _ _)

theorem inv_frameCond {i b} (h : Inv s) : Inv (frameCond i b s) := inv_flagEvt h

theorem inv_sethdr {lane set count t0 span} (h : Inv s) : Inv (sethdr lane set count t0 span s) := by
  unfold sethdr
  refine inv_ite (inv_frameCond h) ?_
  split
  · exact inv_openSlot h
  · exact inv_openSlot <| inv_clearWords <| inv_frame h

theorem inv_delayRecord {set input coefs} (h : Inv s) : Inv (delayRecord set input coefs s) := by
  unfold delayRecord
  split
  · exact inv_ptsCond h
  · exact inv_ite (inv_ptsCond h) <| inv_setF <| inv_setF <| inv_wr <| inv_foldl inv_wr h

/-! ### Trains -/

theorem inv_seqCheck {i seq} (h : Inv s) : Inv (seqCheck i seq s) := inv_modLane <| inv_when inv_frameCond h

theorem inv_countTrain {i corr} (h : Inv s) : Inv (countTrain i corr s) := inv_satF <| inv_satF h

theorem inv_uncorrectable {i} (h : Inv s) : Inv (uncorrectable i s) := by
  refine inv_ite (inv_ite (inv_laneChange ?hs) ?hs) h
  exact inv_frameCond <| inv_modLane <| inv_satF h

theorem inv_uncorrRunLimit {i} (h : Inv s) : Inv (uncorrRunLimit i s) := inv_ite (inv_uncorrectable h) h

theorem inv_fifoPut {i t} (h : Inv s) : Inv (fifoPut i t s) := inv_ite (inv_frameCond h) <| inv_modLane h

theorem inv_countLate {i n} (h : Inv s) : Inv (countLate i n s) := inv_ite h <| inv_frameCond <| inv_satF h

theorem inv_dataChecks {i t} (h : Inv s) : Inv (dataChecks i t s) := by
  unfold dataChecks
  refine inv_ite (inv_frameCond h) ?_
  split
  · exact inv_frameCond h
  · exact inv_ite (inv_frameCond h) <| inv_ite (inv_frameCond h) <| inv_ite (inv_frameCond h) <| inv_ite h <|
      inv_ite (inv_frameCond h) <| inv_ite h <| inv_ite (inv_countLate h) <| inv_ite (inv_frameCond h) <| inv_frame
      <| inv_modLane h

theorem inv_ttChecks {i t} (h : Inv s) : Inv (ttChecks i t s) :=
  inv_ite (inv_frameCond h) <| inv_ite (inv_frame h) <| inv_fifoPut h

theorem inv_watchTrain {i t} (h : Inv s) : Inv (watchTrain i t s) := by
  unfold watchTrain
  split
  · exact h
  · exact inv_ite h <| inv_foldl inv_watchSample h

theorem inv_fillerMiss {i} (h : Inv s) : Inv (fillerMiss i s) := inv_ite (inv_frameCond h) h

theorem inv_trainAccept {coupling i t corr} (hcoupling : ∀ {x0 x1 s}, Inv s → Inv (coupling x0 x1 s)) (h : Inv s) :
    Inv (trainAccept coupling i t corr s) := by
  refine inv_ite (inv_tokenReceive ?hs) <| inv_ite (inv_frameCond ?hs) <| inv_ite (inv_when inv_frameCond ?hs) <|
      inv_ite (inv_ite (hcoupling ?hs) ?hs) <| inv_ite (inv_watchTrain ?hs) <| inv_ite ?hs <| inv_ite
      (inv_dataChecks ?hs) <| inv_ttChecks ?hs
  exact inv_when inv_fillerMiss <| inv_modLane <| inv_seqCheck <| inv_countTrain h

theorem inv_ethReceive {i syms} (h : Inv s) : Inv (ethReceive i syms s) := by
  unfold ethReceive
  dsimp only
  split
  · exact inv_modLane <| inv_countTrain h
  · exact inv_uncorrectable <| inv_modLane h

theorem inv_trainReceive {coupling i syms} (hcoupling : ∀ {x0 x1 s}, Inv s → Inv (coupling x0 x1 s)) (h : Inv s) :
    Inv (trainReceive coupling i syms s) := by
  unfold trainReceive
  refine inv_ite h <| inv_ite (inv_ethReceive h) ?_
  split
  · exact inv_uncorrectable h
  · exact inv_ite (inv_uncorrectable (inv_useInj h)) <| inv_trainAccept hcoupling <| inv_useInj h

theorem inv_sendTrain {i typ stream cchan flags tlow cars} (h : Inv s) : Inv (sendTrain i typ stream cchan flags
    tlow cars s) :=
  inv_setLane h

theorem inv_sendFiller {i} (h : Inv s) : Inv (sendFiller i s) := inv_sendTrain h

theorem inv_fillerDue {i} (h : Inv s) : Inv (fillerDue i s) := inv_ite (inv_sendFiller h) h

theorem inv_patternTransmit {i} (h : Inv s) : Inv (patternTransmit i s) := inv_ite (inv_modLane h) <| inv_modLane h

theorem inv_frameEnd {i} (h : Inv s) : Inv (frameEnd i s) := by
  unfold frameEnd
  split
  · exact inv_ite h <| inv_countSent <| inv_modLane h
  · exact h

theorem inv_ethFill {i n} (h : Inv s) : Inv (ethFill i n s).2 := by
  induction n generalizing s with
  | zero => exact h
  | succ n ih => exact ih <| inv_frameEnd <| inv_modLane <| inv_startNext h

theorem inv_ethTransmit {i} (h : Inv s) : Inv (ethTransmit i s) := inv_modLane <| inv_frame <| inv_ethFill h

theorem inv_trainSend {i} (h : Inv s) : Inv (trainSend i s) := by
  have hc : Inv (fillCars i 129 128 [] none (startNext i s)).2.2 := inv_fillCars <| inv_startNext h
  unfold trainSend
  split
  · revert hc
    generalize fillCars i 129 128 [] none (startNext i s) = x
    exact fun hc => inv_sendTrain hc
  · exact inv_when inv_darken <| inv_sendFiller h

theorem inv_trainTransmit {i} (h : Inv s) : Inv (trainTransmit i s) :=
  inv_ite h <| inv_ite (inv_patternTransmit h) <| inv_ite (inv_ethTransmit h) <| inv_trainSend h

theorem inv_writeTrain {t} (h : Inv s) : Inv (writeTrain s t) := inv_foldl inv_frame h

theorem inv_countMissing {n e} (h : Inv s) : Inv (countMissing n s e) :=
  inv_ite h <| inv_ite (inv_countLate h) <| inv_satF h

theorem inv_dropBlock {n} (h : Inv s) : Inv (dropBlock n s) := inv_foldl (fun h => inv_ite (inv_modLane h) h) h

theorem inv_takeTt {front} (h : Inv s) : Inv (takeTt front s) :=
  inv_frame <| inv_foldl (fun h => inv_ite (inv_modLane h) h) h

theorem inv_ttbCond {b} (h : Inv s) : Inv (ttbCond b s) := inv_flagEvt h

theorem inv_updateNomRate (h : Inv s) : Inv (updateNomRate s) := by
  unfold updateNomRate
  dsimp only
  split
  · exact inv_setF <| inv_setF h
  · exact inv_ite (inv_setF (inv_setF h)) <| inv_ttbCond <| inv_setF <| inv_setF h

theorem inv_etickLatch (h : Inv s) : Inv (etickLatch s) :=
  inv_ite (inv_updateNomRate (inv_setF (inv_setF (inv_setF h)))) h

theorem inv_coreIrq {n b} (h : Inv s) : Inv (coreIrq n b s) := inv_setBit h

theorem inv_fcmpMatch {front} (h : Inv s) : Inv (fcmpMatch front s) :=
  inv_foldl (fun h => inv_ite (inv_coreIrq (inv_setF h)) h) h

theorem inv_setFront {n} (h : Inv s) : Inv (setFront n s) := inv_set2 h

theorem inv_releaseBlock (h : Inv s) : Inv (releaseBlock s) :=
  inv_fcmpMatch <| inv_etickLatch <| inv_takeTt <| inv_frame <| inv_gaugeGo <| inv_frame <| inv_setFront <| inv_when
    inv_ptsCond <| inv_dropBlock <| inv_foldl inv_writeTrain <| inv_foldl inv_countMissing h

theorem inv_framingClear {i} (h : Inv s) : Inv (framingClear i s) :=
  inv_setF <| inv_setF <| inv_setF <| inv_setF <| inv_setF h

/-! ### Timetable -/

theorem inv_timetableTrainProcess (h : Inv s) : Inv (timetableTrainProcess s) := by
  unfold timetableTrainProcess
  split
  · exact h
  · exact inv_ite h <| inv_ite (inv_frame h) <| inv_when inv_frameCond <| inv_frame <| inv_when inv_frameCond <|
      inv_setF <| inv_setF <| inv_frame h

theorem inv_popRec (h : Inv s) : Inv (popRec s) := by
  unfold popRec
  split
  · exact inv_logItem <| inv_frame h
  · exact h

theorem inv_applyRec {ok f} (hf : ∀ {s}, Inv s → Inv (f s)) (h : Inv s) : Inv (applyRec ok f s) := by
  unfold applyRec
  split
  · exact inv_ite (inv_popRec (hf h)) h
  · exact h

theorem inv_showEntry {e} (h : Inv s) : Inv (showEntry e s) := inv_wr <| inv_wr <| inv_wr <| inv_wr h

theorem inv_hideEntry {slot} (h : Inv s) : Inv (hideEntry slot s) := inv_foldl inv_wr h

theorem inv_countQueue (h : Inv s) : Inv (countQueue s) := inv_setF <| inv_setF h

theorem inv_putEntry {e} (h : Inv s) : Inv (putEntry e s) := inv_countQueue <| inv_showEntry <| inv_frame h

theorem inv_removeEntry {e} (h : Inv s) : Inv (removeEntry e s) := inv_countQueue <| inv_hideEntry <| inv_frame h

theorem inv_inbandEntry {sigma key code arg trigger} (h : Inv s) : Inv (inbandEntry sigma key code arg trigger s) := by
  unfold inbandEntry
  split
  · split
    · exact inv_putEntry h
    · exact inv_ttbCond h
  · split
    · exact inv_ttbCond h
    · exact h

theorem inv_localEntry {set key code arg} (h : Inv s) : Inv (localEntry set key code arg s).1 := by
  unfold localEntry
  refine inv_setF <| inv_frame <| inv_ite (inv_putEntry h) ?_
  split
  · exact inv_ttbCond h
  · exact h

theorem inv_enqueueGo {set} (h : Inv s) : Inv (enqueueGo set s) := inv_localEntry h

theorem inv_settleResult {e code} (h : Inv s) : Inv (settleResult e code s) := inv_ite (inv_setF h) h

theorem inv_heldFromStart (h : Inv s) : Inv (heldFromStart s) := inv_frame h

theorem inv_pendingEntryCheck {front} (h : Inv s) : Inv (pendingEntryCheck front s) :=
  inv_foldl (fun h => inv_ite (inv_ttbCond (inv_ite (inv_settleResult (inv_removeEntry h)) (inv_removeEntry h))) <|
    inv_ite (inv_ttbCond (inv_settleResult (inv_removeEntry h))) <| inv_ite (inv_settleResult (inv_frame h)) h) h

theorem inv_deliverDue {code key argOk f} (hf : ∀ {x0 s}, Inv s → Inv (f x0 s)) (h : Inv s) : Inv (deliverDue code
    key argOk f s) := by
  unfold deliverDue
  split
  · exact inv_ite (hf (inv_logItem (inv_removeEntry h))) h
  · exact h

theorem inv_snapshotDue {tag key} (h : Inv s) : Inv (snapshotDue tag key s) :=
  inv_setF <| inv_setF <| inv_setF <| inv_incF <| inv_setF <| inv_frame <| inv_foldl (fun h => inv_wr <| inv_wr h) <|
    inv_when inv_ttbCond h

theorem inv_snapshotCopyDone (h : Inv s) : Inv (snapshotCopyDone s) := inv_ite (inv_flagAll (inv_setF h)) h

theorem inv_snapshotFinish (h : Inv s) : Inv (snapshotFinish s) :=
  inv_frame <| inv_ite (inv_copyIcnt (inv_copyIcnt (inv_ite (inv_copyIcnt h) h))) <| inv_ite (inv_copyIcnt h) h

theorem inv_markDue {val} (h : Inv s) : Inv (markDue val s) := inv_flagAll <| inv_incF <| inv_setF h

theorem inv_trefLoss (h : Inv s) : Inv (trefLoss s) := inv_ite h <| inv_ttbCond <| inv_setF h

theorem inv_trefReturn (h : Inv s) : Inv (trefReturn s) := inv_ite (inv_ttbCond (inv_setF h)) h

theorem inv_ppsFault (h : Inv s) : Inv (ppsFault s) := inv_ttbCond <| inv_frame h

theorem inv_ppsEdge {rising} (h : Inv s) : Inv (ppsEdge rising s) :=
  inv_ite h <| inv_ite (inv_ppsFault h) <| inv_incF <| inv_set2 <| inv_frame h

theorem inv_ppsTimeout (h : Inv s) : Inv (ppsTimeout s) := by
  unfold ppsTimeout
  split
  · exact inv_ite (inv_ppsFault h) h
  · exact h

theorem inv_epochStore {sec n48 frac} (h : Inv s) : Inv (epochStore sec n48 frac s) :=
  inv_when inv_setF <| inv_setF <| inv_setF <| inv_setF <| inv_setF <| inv_setF <| inv_setF <| inv_when inv_ttbCond <|
    inv_frame h

/-! ### Inspection -/

theorem inv_putIns {x} (h : Inv s) : Inv (putIns x s) := inv_frame h

theorem inv_insShow (h : Inv s) : Inv (insShow s) := inv_setF <| inv_setF <| inv_setF <| inv_setF <| inv_setF h

theorem inv_insLog {kind line row insp detect clean} (h : Inv s) : Inv (insLog kind line row insp detect clean s) :=
  inv_setF <| inv_wr <| inv_wr <| inv_wr <| inv_wr h

theorem inv_setClean {c g} (h : Inv s) : Inv (setClean c g s) := inv_putIns h

theorem inv_retireLine {isRow line row insp detect} (h : Inv s) : Inv (retireLine isRow line row insp detect s) := by
  unfold retireLine
  refine inv_ite h ?_
  dsimp only
  split
  · exact inv_insLog <| inv_insEvent <| inv_putIns <| inv_ite (inv_frame h) h
  · exact inv_ite (inv_ite (inv_frame h) h) <| inv_insLog <| inv_insEvent <| inv_putIns <| inv_ite (inv_frame h) h

theorem inv_leaveRotation {i} (h : Inv s) : Inv (leaveRotation i s) :=
  inv_when inv_insEvent <| inv_insEvent <| inv_setBit h

theorem inv_retireInspection {i col row detect} (h : Inv s) : Inv (retireInspection i col row detect s) :=
  inv_ite (inv_insLog (inv_leaveRotation h)) h

theorem inv_restoreTrials (h : Inv s) : Inv (restoreTrials s) :=
  inv_foldl (fun h => inv_ite (inv_wr h) h) <| inv_foldl (fun h => inv_ite (inv_ite (inv_setBit (inv_wr h)) (inv_wr
    h)) h) h

theorem inv_markSince {xs} (h : Inv s) : Inv (markSince xs s) := inv_putIns h

theorem inv_substituteLines (h : Inv s) : Inv (substituteLines s) :=
  inv_markSince <| inv_putIns <| inv_foldl (fun h => inv_ite (inv_wr h) <| inv_ite (inv_leaveRotation (inv_wr h)) <|
    inv_wr h) <| inv_ite (inv_restoreTrials (inv_putIns (inv_markSince h))) h

theorem inv_startShadows (h : Inv s) : Inv (startShadows s) := inv_putIns h

theorem inv_startRechecks (h : Inv s) : Inv (startRechecks s) := inv_ite (inv_putIns h) <| inv_putIns h

theorem inv_recheckOutcome {cell rows g x} (h : Inv s) : Inv (recheckOutcome cell rows g s x) := by
  refine inv_ite (inv_ite (inv_retireLine h) ?hs) <| inv_ite (inv_retireLine h) <| inv_ite (inv_retireInspection h)
      <| inv_ite ?hs <| inv_ite (inv_retireLine (inv_insLog (inv_satF (inv_insEvent h)))) <| inv_putIns <|
      inv_insLog <| inv_satF <| inv_insEvent h
  exact inv_setClean <| inv_insLog <| inv_incF <| inv_insEvent h

theorem inv_rotationCompare {cell rows g final x} (h : Inv s) : Inv (rotationCompare cell rows g final s x).1 := by
  unfold rotationCompare
  refine inv_ite_fst h ?_
  split
  · exact inv_ite (inv_setClean h) h
  · exact inv_putIns <| inv_insLog <| inv_incF <| inv_insEvent h

theorem inv_inspect {cell rows g first final} (h : Inv s) : Inv (inspect cell rows g first final s).1 := by
  unfold inspect
  split
  · exact h
  · exact inv_insShow <| inv_foldl_fst inv_rotationCompare <| inv_ite (inv_foldl inv_recheckOutcome h) h

theorem inv_insDwellEnd (h : Inv s) : Inv (insDwellEnd s) := inv_insShow <| inv_putIns h

theorem inv_parityEnd {errs rows cols g} (h : Inv s) : Inv (parityEnd errs rows cols g s) :=
  inv_insShow <| inv_putIns <| inv_foldl inv_retireLine h

/-! ### Junction -/

theorem inv_putJct {x} (h : Inv s) : Inv (putJct x s) := inv_frame h

theorem inv_jctCond {b} (h : Inv s) : Inv (jctCond b s) := inv_flagAll h

theorem inv_setSpans {g x} (h : Inv s) : Inv (setSpans g x s) := inv_putJct h

theorem inv_rakeOpen {g j} (h : Inv s) : Inv (rakeOpen g j s) := inv_setF <| inv_setF <| inv_setF <| inv_setSpans h

theorem inv_autoOpen {jp} (h : Inv s) : Inv (autoOpen jp s) := inv_foldl (fun h => inv_ite (inv_rakeOpen h) h) h

theorem inv_closeRakes (h : Inv s) : Inv (closeRakes s) := inv_putJct <| inv_foldl inv_setF h

theorem inv_rakeOpenDue {g key} (h : Inv s) : Inv (rakeOpenDue g key s) := inv_ite (inv_jctCond h) <| inv_rakeOpen h

theorem inv_rakeCloseDue {g key} (h : Inv s) : Inv (rakeCloseDue g key s) :=
  inv_ite (inv_jctCond h) <| inv_setF <| inv_setSpans h

theorem inv_handRec {r} (h : Inv s) : Inv (handRec s r) := inv_when inv_incF <| inv_putJct h

theorem inv_handEmpty {rs} (h : Inv s) : Inv (handEmpty rs s) := by
  unfold handEmpty
  split
  · exact inv_putJct h
  · exact inv_ite (inv_foldl inv_handRec h) <| inv_putJct h

theorem inv_emptyRest (h : Inv s) : Inv (emptyRest s) := inv_handEmpty <| inv_putJct h

theorem inv_forceJunction (h : Inv s) : Inv (forceJunction s) := inv_ite (inv_putJct h) h

theorem inv_showDraining (h : Inv s) : Inv (showDraining s) := inv_setF h

theorem inv_suspectDwell {w} (h : Inv s) : Inv (suspectDwell w s).2 := inv_ite h <| inv_jctCond h

theorem inv_skipHeld {n} (h : Inv s) : Inv (skipHeld n s) := by
  induction n generalizing s with
  | zero => exact h
  | succ n ih =>
    unfold skipHeld
    split
    · exact h
    · exact inv_ite (ih (inv_handEmpty (inv_putJct h))) h

theorem inv_beginDwell {x rest} (h : Inv s) : Inv (beginDwell x rest s) := by
  refine inv_insShow <| inv_setF <| inv_setF <| inv_setF <| inv_setF <| inv_setF <| inv_set2 <| inv_putJct <|
      inv_ite_snd (inv_suspectDwell ?hs) ?hs
  exact inv_startRechecks <| inv_startShadows <| inv_substituteLines h

theorem inv_dwellStart (h : Inv s) : Inv (dwellStart s) := by
  unfold dwellStart
  refine inv_ite h ?_
  dsimp only
  split
  · exact inv_skipHeld h
  · exact inv_ite (inv_skipHeld h) <| inv_ite (inv_ite (inv_skipHeld h) (inv_jctCond (inv_putJct (inv_skipHeld h))))
      <| inv_beginDwell <| inv_skipHeld h

theorem inv_parityIn {k isRow line w} (h : Inv s) : Inv (parityIn k isRow line w s).2 :=
  inv_suspectDwell <| inv_raise <| inv_setF h

theorem inv_feedParity {k isRow off} (h : Inv s) : Inv (feedParity k isRow off s) := by
  unfold feedParity
  refine inv_ite h ?_
  split
  · exact inv_ite (inv_putJct (inv_parityIn h)) h
  · exact inv_ite (inv_putJct (inv_parityIn h)) h
  · exact h

theorem inv_putVis {road r c v} (h : Inv s) : Inv (putVis road r c v s) := inv_putJct h

theorem inv_setYardMask {road r q m} (h : Inv s) : Inv (setYardMask road r q m s) := inv_putJct h

theorem inv_setPoison {road r q p} (h : Inv s) : Inv (setPoison road r q p s) := inv_setF <| inv_putJct h

theorem inv_yardRead {road r q} (h : Inv s) : Inv (yardRead road r q s) :=
  inv_ite h <| inv_ite (inv_when inv_raise (inv_satF (inv_putJct h))) <| inv_raise <| inv_setF <| inv_satF <|
    inv_setPoison h

theorem inv_writeUpset {road r q ups} (h : Inv s) : Inv (writeUpset road r q ups s).2 := inv_injErrors h

theorem inv_promote {road r q first x0 x1 ups} (h : Inv s) : Inv (promote road r q first x0 x1 ups s).1 := by
  have hw : Inv (writeUpset road r q ups (if first then setPoison road r q false s else yardRead road r q s)).2 :=
    inv_writeUpset <| inv_ite (inv_setPoison h) <| inv_yardRead h
  unfold promote
  dsimp only
  exact inv_ite (inv_insEvent (inv_setPoison (inv_useInj (inv_setYardMask (inv_putVis (inv_putVis hw)))))) <|
    inv_setYardMask <| inv_putVis <| inv_putVis hw

theorem inv_setShadow {r c v} (h : Inv s) : Inv (setShadow r c v s) := inv_putJct h

theorem inv_sweepOne {w jb final sum ups x rq} (h : Inv x.1) : Inv (sweepOne w jb final sum ups x rq).1 := by
  unfold sweepOne
  dsimp only
  split
  · exact inv_setShadow <| inv_setShadow h
  · exact inv_promote <| inv_setShadow <| inv_setShadow h

theorem inv_injectedParity {w} (h : Inv s) : Inv (injectedParity w s).2 :=
  inv_useInj <| inv_foldl_snd
    (inv_foldl_snd fun h => inv_ite_snd (inv_parityIn h) h) h

theorem inv_dwellEnds {w} (h : Inv s) : Inv (dwellEnds w s) := inv_insDwellEnd <| inv_setF <| inv_putJct h

theorem inv_promotionSweep {ups} (h : Inv s) : Inv (promotionSweep ups s) := by
  unfold promotionSweep
  split
  · exact h
  · dsimp -zeta only
    extract_lets
    refine inv_ite (inv_dwellEnds ?_) (inv_putJct ?_)
    all_goals
      refine inv_when inv_jctCond <| inv_when inv_jctCond <| inv_ite_snd (inv_suspectDwell ?_) ?_
      all_goals
        exact inv_useInj <| inv_foldl_fst inv_sweepOne <| inv_inspect <| inv_injectedParity <| inv_when inv_sdgCond h

theorem inv_suspectWorn {w} (h : Inv s) : Inv (suspectWorn w s).2 := inv_ite_snd (inv_suspectDwell h) h

theorem inv_wornNow (h : Inv s) : Inv (wornNow s) := by
  have hw : Inv (s.jct.flush.foldl (fun (x : List Dwell × State) w =>
      (x.1 ++ [(suspectWorn w x.2).1], (suspectWorn w x.2).2)) ([], s)).2 := inv_foldl_snd inv_suspectWorn h
  unfold wornNow
  dsimp only
  split
  · exact inv_putJct hw
  · exact inv_putJct <| inv_suspectWorn <| inv_putJct hw

theorem inv_flushComplete (h : Inv s) : Inv (flushComplete s) := by
  unfold flushComplete
  split
  · exact h
  · refine inv_showDraining <| inv_foldl inv_handRec <| inv_handRec <| inv_ite_snd (inv_suspectDwell ?hs) ?hs
    exact inv_wornNow <| inv_parityEnd <| inv_putJct h

theorem inv_junctionReset (h : Inv s) : Inv (junctionReset s) :=
  inv_putJct <| inv_frame <| inv_closeRakes <| inv_emptyRest <| inv_promotionSweep <| inv_forceJunction h

theorem inv_putOpenHeld {n} (h : Inv s) : Inv (putOpenHeld n s) := inv_putTmnHeld <| inv_putJct h

theorem inv_formPiece {r v0 last vs} (h : Inv s) : Inv (formPiece r v0 last vs s) := inv_queueConsig h

theorem inv_formManifests {r} (h : Inv s) : Inv (formManifests r s) :=
  inv_ite h <| inv_foldl (fun h => inv_queueConsig <| inv_manifestKeep h) h

theorem inv_formPieces {r cvis done n} (h : Inv s) : Inv (formPieces r cvis done n s) := by
  induction n generalizing s with
  | zero => exact h
  | succ n ih => exact inv_ite h <| inv_ite (ih (inv_formPiece (inv_putJct (inv_putOpenHeld h)))) h

theorem inv_yardLost (h : Inv s) : Inv (yardLost s) := inv_showDraining <| inv_setF <| inv_putJct <| inv_putOpenHeld h

theorem inv_readRow {road r n} (h : Inv s) : Inv (readRow road r n s).2.2 := by
  unfold readRow
  dsimp only
  exact inv_foldl inv_yardRead h

theorem inv_carryAt {cycle} (h : Inv s) : Inv (carryAt cycle s) := by
  unfold carryAt
  split
  · exact h
  · exact inv_putJct h

theorem inv_recordDone {r} (h : Inv s) : Inv (recordDone r s) := inv_showDraining <| inv_putJct <| inv_formManifests h

theorem inv_drainRow {cycle} (h : Inv s) : Inv (drainRow cycle s) := by
  unfold drainRow
  split
  · exact h
  · refine inv_ite h ?_
    split
    · exact inv_ite (inv_tmnCond h) <| inv_recordDone <| inv_formPiece h
    · dsimp only
      exact inv_ite h <| inv_ite (inv_tmnCond h) <| inv_ite (inv_recordDone (inv_formPieces (inv_putJct
        (inv_putOpenHeld (inv_when inv_jctCond (inv_carryAt (inv_readRow h))))))) <| inv_formPieces <| inv_putJct <|
        inv_putOpenHeld <| inv_when inv_jctCond <| inv_carryAt <| inv_readRow h

theorem inv_planPlatform {per} (h : Inv s) : Inv (planPlatform per s) := inv_putJct h

theorem inv_dropSpans {per} (h : Inv s) : Inv (dropSpans per s) := inv_foldl inv_setSpans h

theorem inv_platformSwitch (h : Inv s) : Inv (platformSwitch s) := by
  refine inv_ite h <| inv_ite (inv_putJct ?hs) <| inv_planPlatform <| inv_dropSpans ?hs
  exact inv_putJct <| inv_frame <| inv_ite (inv_emptyRest (inv_forceJunction (inv_jctCond h))) h

theorem inv_planWaiting {pers} (h : Inv s) : Inv (planWaiting pers s) := by
  induction pers generalizing s with
  | nil => exact h
  | cons per rest ih =>
    cases rest with
    | nil => exact inv_planPlatform h
    | cons _ _ => exact ih <| inv_handEmpty h

/-! ### DataPlane -/

theorem inv_slowInvalidAll (h : Inv s) : Inv (slowInvalidAll s) := inv_foldl inv_slowInvalid <| inv_frame h

theorem inv_forgetHigh (h : Inv s) : Inv (forgetHigh s) := inv_foldl inv_modLane h

theorem inv_setOrigin {jp} (h : Inv s) : Inv (setOrigin jp s) := inv_set2 h

theorem inv_endCaptures (h : Inv s) : Inv (endCaptures s) :=
  inv_foldl (fun h => inv_ite h <| inv_putCapture <| inv_setF <| inv_ite (inv_captureEnd (inv_sdgCond (inv_putCapture
    h))) h) h

theorem inv_losePlatforms (h : Inv s) : Inv (losePlatforms s) := h.putHbm (Store.wf_keep _ _ _) (Store.wf_keep _ _ _)

theorem inv_resetArrivalPoints (h : Inv s) : Inv (resetArrivalPoints s) :=
  inv_setF <| inv_setF <| inv_setF <| inv_setF <| inv_clearWords <| inv_frame <| inv_slowInvalidAll <| inv_foldl
    inv_modLane h

theorem inv_resetSidings (h : Inv s) : Inv (resetSidings s) :=
  inv_setF <| inv_clearWords <| inv_clearWords <| inv_frame <| inv_losePlatforms <| inv_endCaptures h

theorem inv_resetTurntable (h : Inv s) : Inv (resetTurntable s) :=
  inv_setF <| inv_setF <| inv_clearWords <| inv_frame <| inv_tblReset h

theorem inv_dataPlaneReset (h : Inv s) : Inv (dataPlaneReset s) :=
  inv_setF <| inv_setF <| inv_frame <| inv_resetTurntable <| inv_resetSidings <| inv_resetArrivalPoints <|
    inv_snapshotFinish <| inv_junctionReset h

theorem inv_startAt {f jp} (h : Inv s) : Inv (startAt f jp s) :=
  inv_tblReset <| inv_setF <| inv_setOrigin <| inv_frame <| inv_foldl inv_modLane h

theorem inv_establishFront {f} (h : Inv s) : Inv (establishFront f s) :=
  inv_fcmpMatch <| inv_pendingEntryCheck <| inv_heldFromStart <| inv_autoOpen <| inv_ttbCond <| inv_setF <| inv_setF
    <| inv_setFront <| inv_startAt <| inv_frame h

theorem inv_epochRecord {sec n48 frac} (h : Inv s) : Inv (epochRecord sec n48 frac s) :=
  inv_etickLatch <| inv_ite (inv_establishFront (inv_epochStore h)) <| inv_epochStore h

theorem inv_keyedFront {key} (h : Inv s) : Inv (keyedFront key s) :=
  inv_ttbCond <| inv_setF <| inv_set2 <| inv_setF <| inv_setOrigin <| inv_frame <| inv_forgetHigh <|
    inv_slowInvalidAll h

theorem inv_dpReset {key} (h : Inv s) : Inv (dpReset key s) := inv_ite h <| inv_deliverDue inv_keyedFront h

theorem inv_dprBackHalf (h : Inv s) : Inv (dprBackHalf s) :=
  inv_ite h <| inv_planWaiting <| inv_ttbCond <| inv_setF <| inv_setF <| inv_autoOpen <| inv_closeRakes h

theorem inv_captureDue {desc len key} (h : Inv s) : Inv (captureDue desc len key s) := by
  unfold captureDue
  dsimp only
  split
  · next e => exact inv_incF <| inv_captureExecute (inv_capDescRead h) e
  · exact inv_sdgCond <| inv_capDescRead h

/-! ### Coupling -/

theorem inv_setTerm {t} (h : Inv s) : Inv (setTerm t s) := inv_frame <| inv_setF h

theorem inv_setRole {r} (h : Inv s) : Inv (setRole r s) := inv_setF h

theorem inv_couplingTrain {i t} (h : Inv s) : Inv (couplingTrain i t s) := inv_ite (inv_frameCond h) h

theorem inv_queueRec {r} (h : Inv s) : Inv (queueRec r s) := inv_putCpl h

theorem inv_queueAny {ws} (h : Inv s) : Inv (queueAny ws s) := inv_queueRec h

theorem inv_pin {txn rs} (h : Inv s) : Inv (pin txn rs s) := inv_putCpl h

theorem inv_sendMirror {x} (h : Inv s) : Inv (sendMirror x s) :=
  inv_setF <| inv_setF <| inv_useInj <| inv_pin <| inv_putCpl h

theorem inv_nextMirror (h : Inv s) : Inv (nextMirror s) := by
  unfold nextMirror
  split
  · exact inv_sendMirror <| inv_putCpl h
  · exact h

theorem inv_mirrorChange {cseq tag addr ws} (h : Inv s) : Inv (mirrorChange cseq tag addr ws s) :=
  inv_ite (inv_nextMirror (inv_putCpl h)) h

theorem inv_dropTxn {k} (h : Inv s) : Inv (dropTxn k s) := inv_putCpl h

theorem inv_mack {cseq result} (h : Inv s) : Inv (mack cseq result s) := by
  unfold mack
  split
  · exact inv_ite (inv_ite (inv_setF h) (inv_nextMirror (inv_when inv_setF (inv_setF (inv_dropTxn (inv_putCpl
      (inv_setF h))))))) h
  · exact h

theorem inv_mackTimeout (h : Inv s) : Inv (mackTimeout s) := by
  unfold mackTimeout
  split
  · exact h
  · exact inv_ite (inv_sendMirror (inv_dropTxn h)) <| inv_setF <| inv_putCpl <| inv_dropTxn h

theorem inv_askJoin (h : Inv s) : Inv (askJoin s) := inv_ite (inv_queueAny (inv_putCpl h)) h

theorem inv_waitJoin (h : Inv s) : Inv (waitJoin s) := inv_askJoin <| inv_setJstate <| inv_putCpl h

theorem inv_jreqRetry (h : Inv s) : Inv (jreqRetry s) := inv_ite (inv_askJoin (inv_putCpl h)) h

theorem inv_jreq (h : Inv s) : Inv (jreq s) := inv_ite (inv_queueAny (inv_putCpl h)) h

theorem inv_jgrant {j jp} (h : Inv s) : Inv (jgrant j jp s) :=
  inv_ite (inv_ite (inv_joinFail (inv_set2 h)) (inv_setJstate (inv_putCpl (inv_set2 h)))) h

theorem inv_showLanes (h : Inv s) : Inv (showLanes s) := inv_setF h

theorem inv_becomeBanker {j} (h : Inv s) : Inv (becomeBanker j s) :=
  inv_cplCond <| inv_setF <| inv_setJstate <| inv_setRole <| inv_dropTxn <| inv_dropTxn <| inv_putCpl h

theorem inv_promoteTwin (h : Inv s) : Inv (promoteTwin s) :=
  inv_cplCond <| inv_setJstate <| inv_setRole <| inv_putCpl <| inv_when inv_queueAny <| inv_setTerm h

theorem inv_couple {r} (h : Inv s) : Inv (couple r s) := by
  have hp : Inv (putCpl { s.cpl with stopped := false } (cplCond 0 (setF R.CPL_STATE F.CPL_STATE_COUPLED 1 s))) :=
    inv_putCpl <| inv_cplCond <| inv_setF h
  exact inv_ite (inv_ite (inv_waitJoin (inv_becomeBanker (inv_cplCond hp))) (inv_cplCond hp)) <|
    inv_ite (inv_cplCond hp) <| inv_ite (inv_ite (inv_askJoin (inv_setTerm hp)) <|
    inv_when inv_cplCond <| inv_waitJoin <| inv_setTerm hp) hp

theorem inv_roleReceive {c r} (h : Inv s) : Inv (roleReceive c r s) := by
  refine inv_ite h <| inv_ite (inv_cplCond h) <| inv_ite (inv_askJoin ?hs) <| inv_couple ?hs
  exact inv_showLanes <| inv_when inv_cplCond <| inv_setF <| inv_setF <| inv_setF <| inv_setF <| inv_setF <|
      inv_setF <| inv_satF <| inv_putCpl h

theorem inv_healthReceive {e tick} (h : Inv s) : Inv (healthReceive e tick s) := inv_ite (inv_logEvent h) h

theorem inv_couplingLoss (h : Inv s) : Inv (couplingLoss s) := by
  refine inv_ite (inv_ite (inv_joinFail ?hs) (inv_putCpl ?hs)) h
  exact inv_setF <| inv_putCpl <| inv_frame <| inv_incF <| inv_setF <| inv_cplCond <| inv_setF h

theorem inv_bootRoleTimeout (h : Inv s) : Inv (bootRoleTimeout s) :=
  inv_ite (inv_setJstate (inv_setRole (inv_setTerm h))) h

theorem inv_resignReceive (h : Inv s) : Inv (resignReceive s) := inv_ite (inv_promoteTwin h) h

theorem inv_takeoverReceive {term} (h : Inv s) : Inv (takeoverReceive term s) := inv_ite (inv_becomeBanker h) h

theorem inv_resignLead (h : Inv s) : Inv (resignLead s) :=
  inv_becomeBanker <| inv_foldl (fun h => inv_ite (inv_queueRec h) h) h

theorem inv_resignIfLead (h : Inv s) : Inv (resignIfLead s) := inv_ite (inv_resignLead h) h

theorem inv_cplResignWrite (h : Inv s) : Inv (cplResignWrite s) := inv_ite (inv_resignLead h) <| inv_cplCond h

theorem inv_cplPromoteWrite {force} (h : Inv s) : Inv (cplPromoteWrite force s) :=
  inv_ite (inv_promoteTwin h) <| inv_ite (inv_promoteTwin (inv_putCpl h)) <| inv_cplCond h

theorem inv_cplJoinWrite (h : Inv s) : Inv (cplJoinWrite s) := inv_ite (inv_waitJoin h) h

theorem inv_repin {k full} (h : Inv s) : Inv (repin k full s) := inv_ite (inv_pin (inv_dropTxn h)) h

theorem inv_couplingTrainSend {c} (h : Inv s) : Inv (couplingTrainSend c s) := by
  unfold couplingTrainSend
  refine inv_ite h <| inv_ite (inv_sendFiller h) <| inv_sendTrain <| inv_putCpl <| inv_frame <| inv_repin ?_
  split
  · exact inv_repin <| inv_askJoin h
  · exact inv_askJoin h

theorem inv_reanchor (h : Inv s) : Inv (reanchor s) := inv_foldl inv_setF <| inv_slowInvalidAll h

theorem inv_realign {j} (h : Inv s) : Inv (realign j s) :=
  inv_startAt <| inv_frame <| inv_forgetHigh <| inv_junctionReset h

theorem inv_leadReached (h : Inv s) : Inv (leadReached s) := by
  unfold leadReached
  split
  · exact h
  · exact inv_ite h <| inv_ite (inv_pin (inv_putCpl (inv_reanchor (inv_putCpl h)))) <| inv_reanchor <| inv_putCpl h

theorem inv_bankerReached (h : Inv s) : Inv (bankerReached s) := by
  unfold bankerReached
  split
  · exact h
  · exact inv_ite h <| inv_ite (inv_setJstate (inv_putCpl (inv_realign (inv_reanchor (inv_putCpl h))))) <|
      inv_putCpl h

theorem inv_joinReached (h : Inv s) : Inv (joinReached s) := inv_bankerReached <| inv_leadReached h

theorem inv_joinReady (h : Inv s) : Inv (joinReady s) := inv_ite (inv_incF (inv_cplCond (inv_setJstate h))) h

theorem inv_jcommitTimeout (h : Inv s) : Inv (jcommitTimeout s) := inv_ite (inv_joinFail h) h

/-! ### Substation -/

theorem inv_subCond {b} (h : Inv s) : Inv (subCond b s) := inv_flagEvt h

theorem inv_setPstate {x} (h : Inv s) : Inv (setPstate x s) := inv_ite h <| inv_flagAll <| inv_setF h

theorem inv_beginTransit (h : Inv s) : Inv (beginTransit s) := inv_setPstate <| inv_setF h

theorem inv_setPend {x} (h : Inv s) : Inv (setPend x s) := inv_setF h

theorem inv_endTransit {x} (h : Inv s) : Inv (endTransit x s) :=
  inv_setPstate <| inv_ite (inv_setPend (inv_setF (inv_setF h))) <| inv_setF <| inv_setF h

theorem inv_requestState {target} (h : Inv s) : Inv (requestState target s).2 :=
  inv_ite_snd (inv_subCond h) <| inv_setPend <| inv_setF h

theorem inv_requestStanding (h : Inv s) : Inv (requestStanding s) := inv_requestState h

/-! ### Analogue -/

theorem inv_putOut {n x} (h : Inv s) : Inv (putOut n x s) := inv_frame h

theorem inv_aoReject {n} (h : Inv s) : Inv (aoReject n s) := inv_flagEvt h

theorem inv_showPhase {n} (h : Inv s) : Inv (showPhase n s) := inv_setF h

theorem inv_aoSetRole {n role} (h : Inv s) : Inv (aoSetRole n role s) :=
  inv_ite h <| inv_when inv_setF <| inv_putOut <| inv_setF h

theorem inv_aoRamp {n} (h : Inv s) : Inv (aoRamp n s) := by
  unfold aoRamp
  refine inv_ite (inv_setF (inv_setF (inv_putOut h))) <| inv_ite ?_ h
  dsimp only
  split
  · exact inv_putOut h
  · exact inv_aoSetRole <| inv_putOut h

theorem inv_aoSlewTick {n} (h : Inv s) : Inv (aoSlewTick n s) :=
  inv_ite h <| inv_showPhase <| inv_aoRamp <| inv_putOut <| inv_setF h

theorem inv_beginRange {n mode gain role} (h : Inv s) : Inv (beginRange n mode gain role s) :=
  inv_showPhase <| inv_putOut h

theorem inv_aoRangeWrite {n mode gain} (h : Inv s) : Inv (aoRangeWrite n mode gain s) :=
  inv_ite (inv_setF (inv_setF h)) <| inv_ite h <| inv_ite (inv_aoReject h) <| inv_ite h <| inv_beginRange h

theorem inv_aoRangeSettle {n} (h : Inv s) : Inv (aoRangeSettle n s) :=
  inv_ite (inv_showPhase (inv_aoRamp (inv_putOut h))) h

theorem inv_aoEnterFault {n cause} (h : Inv s) : Inv (aoEnterFault n cause s) :=
  inv_showPhase <| inv_flagEvt <| inv_putOut h

theorem inv_aoClearFault {n} (h : Inv s) : Inv (aoClearFault n s) :=
  inv_ite h <| inv_ite (inv_aoReject h) <| inv_showPhase <| inv_setF <| inv_putOut h

theorem inv_aoTargetWrite {n target} (h : Inv s) : Inv (aoTargetWrite n target s) :=
  inv_ite h <| inv_ite (inv_aoReject h) <| inv_showPhase <| inv_setF h

theorem inv_aoCtrlWrite {n mode gain fforce clr} (h : Inv s) : Inv (aoCtrlWrite n mode gain fforce clr s) :=
  inv_aoRangeWrite <| inv_when inv_aoClearFault <| inv_when inv_aoEnterFault h

theorem inv_aoHostRole {n role} (h : Inv s) : Inv (aoHostRole n role s) :=
  inv_ite (inv_aoReject h) <| inv_showPhase <| inv_aoSetRole h

theorem inv_aoDepotLoad {n role mode gain} (h : Inv s) : Inv (aoDepotLoad n role mode gain s) :=
  inv_ite (inv_ite h (inv_aoReject h)) <| inv_ite (inv_aoReject h) <| inv_ite (inv_beginRange h) <| inv_showPhase <|
    inv_aoSetRole <| inv_setF <| inv_setF h

theorem inv_aoDepotTarget {n target} (h : Inv s) : Inv (aoDepotTarget n target s) :=
  inv_ite h <| inv_showPhase <| inv_setF <| inv_putOut h

theorem inv_aoHeadroom {n good} (h : Inv s) : Inv (aoHeadroom n good s) :=
  inv_ite (inv_putOut h) <| inv_ite (inv_when inv_setF (inv_putOut h)) <| inv_when inv_flagEvt <| inv_putOut h

theorem inv_monActions {c} (h : Inv s) : Inv (monActions c s) :=
  inv_when inv_wakeRequest <| inv_when inv_requestStanding <| inv_foldl (fun h => inv_ite (inv_aoEnterFault h) h) <|
    inv_when inv_raise h

theorem inv_monCross {c} (h : Inv s) : Inv (monCross c s) := inv_ite (inv_monActions h) <| inv_putPow h

theorem inv_monThreshold {c} (h : Inv s) : Inv (monThreshold c s) :=
  inv_ite (inv_ite (inv_setF h) (inv_monCross (inv_setBit (inv_setF h)))) <| inv_ite (inv_setBit h) h

theorem inv_meterUpdate {c} (h : Inv s) : Inv (meterUpdate c s) :=
  inv_foldl (fun h => inv_ite (inv_showPhase (inv_putOut h)) h) h

theorem inv_readBack {n} (h : Inv s) : Inv (readBack n s) :=
  inv_ite (inv_putOut h) <| inv_ite (inv_when inv_flagEvt (inv_putOut h)) <| inv_putOut h

theorem inv_monRound (h : Inv s) : Inv (monRound s) := inv_incF <| inv_foldl inv_monActions <| inv_putPow h

theorem inv_monConversion {x} (h : Inv s) : Inv (monConversion x s) := by
  refine inv_ite h <| inv_when inv_monRound <| inv_putPow <| inv_ite (inv_readBack ?hs) ?hs
  exact inv_meterUpdate <| inv_monThreshold <| inv_setF <| inv_setF h

theorem inv_aoCodes {n} (h : Inv s) : Inv (aoCodes n s) := inv_setF <| inv_setF h

theorem inv_aoPowerUp {n} (h : Inv s) : Inv (aoPowerUp n s) :=
  inv_aoCodes <| inv_setF <| inv_setF <| inv_setF <| inv_setF <| inv_setF <| inv_setF <| inv_putOut h

/-! ### Operands -/

theorem inv_putCore {n c} (h : Inv s) : Inv (putCore n c s) := inv_frame h

theorem inv_modCore {n f} (h : Inv s) : Inv (modCore n f s) := inv_putCore h

theorem inv_regWrite {n r v} (h : Inv s) : Inv (regWrite n r v s) := inv_wr h

theorem inv_setNat {n r v} (h : Inv s) : Inv (setNat n r v s) := inv_regWrite h

theorem inv_setPc {n v} (h : Inv s) : Inv (setPc n v s) := inv_setNat h

theorem inv_putAccu {n accB re im} (h : Inv s) : Inv (putAccu n accB re im s) :=
  inv_setNat <| inv_setNat <| inv_setNat h

theorem inv_useAddr {n ai mj mode x} (h : Inv s) (e : useAddr n ai mj mode s = some x) : Inv x.2 := by
  obtain ⟨_, _, rfl⟩ := Option.map_eq_some_iff.1 e
  exact inv_setNat h

theorem inv_setMemErr {a k} (h : Inv s) : Inv (setMemErr a k s) := h.putMemErr (Store.wf_set _ _ _ _)

theorem inv_countCorr {n} (h : Inv s) : Inv (countCorr n s) := inv_when inv_raise <| inv_satF h

theorem inv_countUncorr {n} (h : Inv s) : Inv (countUncorr n s) := inv_satF h

theorem inv_memRead {n a} (h : Inv s) : Inv (memRead n a s).2 := by
  unfold memRead
  split
  · exact h
  · exact inv_countCorr h
  · exact inv_countUncorr h

theorem inv_memWrite {a v} (h : Inv s) : Inv (memWrite a v s) := inv_wr <| inv_setMemErr h

theorem inv_farRequest {n a w} (h : Inv s) : Inv (farRequest n a w s) := inv_incF <| inv_incF <| inv_frame h

/-! ### Flags -/

theorem inv_setStat {n b v} (h : Inv s) : Inv (setStat n b v s) := inv_setBit h

theorem inv_setZN {n r} (h : Inv s) : Inv (setZN n r s) := inv_setStat <| inv_setStat h

theorem inv_setCV {n c v} (h : Inv s) : Inv (setCV n c v s) := inv_setStat <| inv_setStat h

/-! ### Lenya -/

theorem inv_showCore {n} (h : Inv s) : Inv (showCore n s) := inv_when inv_setF h

theorem inv_setMode {n mode} (h : Inv s) : Inv (setMode n mode s) := inv_showCore <| inv_modCore h

theorem inv_coreStop {n mode cause} (h : Inv s) : Inv (coreStop n mode cause s) :=
  inv_when inv_raise <| inv_setF <| inv_setF <| inv_setMode <| inv_modCore h

theorem inv_inFlight {n l x} (h : Inv s) : Inv (inFlight n l x s) := inv_modCore h

theorem inv_updateBexp {n re im} (h : Inv s) : Inv (updateBexp n re im s) := inv_ite (inv_setNat h) h

theorem inv_applyWr {n x} (h : Inv s) : Inv (applyWr n x s) := by
  unfold applyWr
  split
  · exact inv_regWrite h
  · exact inv_regWrite h
  · exact inv_updateBexp <| inv_regWrite h
  · exact inv_when inv_setStat <| inv_putAccu h

theorem inv_ageResults {n} (h : Inv s) : Inv (ageResults n s) := inv_foldl inv_applyWr <| inv_modCore h

theorem inv_drainResults {n} (h : Inv s) : Inv (drainResults n s) := inv_foldl inv_applyWr <| inv_modCore h

theorem inv_stepPc {n} (h : Inv s) : Inv (stepPc n s) := inv_ite (inv_setPc (inv_setNat h)) <| inv_setPc h

theorem inv_setTrap {n v} (h : Inv s) : Inv (setTrap n v s) := inv_modCore h

theorem inv_endSlot {n} (h : Inv s) : Inv (endSlot n s) := by
  unfold endSlot
  refine inv_ite h <| inv_ite (inv_coreStop ?hs) ?hs
  split
  · exact inv_ageResults <| inv_modCore h
  · dsimp only
    split
    · exact inv_setPc <| inv_modCore <| inv_ageResults <| inv_modCore h
    · exact inv_modCore <| inv_ageResults <| inv_modCore h
  · exact inv_modCore <| inv_ageResults <| inv_modCore h

theorem inv_issue {n i f} (hf : ∀ {s}, Inv s → Inv (f s)) (h : Inv s) : Inv (issue n i f s) :=
  inv_ite (inv_endSlot (inv_ite (inv_setTrap (inv_stepPc (inv_when inv_countCorr h))) (hf (inv_stepPc (inv_when
    inv_countCorr h))))) h

theorem inv_aluZN {n d r} (h : Inv s) : Inv (aluZN n d r s) := inv_setZN <| inv_inFlight h

theorem inv_aluAll {n d x} (h : Inv s) : Inv (aluAll n d x s) := inv_setCV <| inv_aluZN h

theorem inv_flagsOnly {n x} (h : Inv s) : Inv (flagsOnly n x s) := inv_setCV <| inv_setZN h

theorem inv_mulZN {n d r} (h : Inv s) : Inv (mulZN n d r s) := inv_setZN <| inv_inFlight h

theorem inv_cplxSat {n d re im} (h : Inv s) : Inv (cplxSat n d re im s) := inv_when inv_setStat <| inv_inFlight h

theorem inv_cplxPlain {n d v} (h : Inv s) : Inv (cplxPlain n d v s) := inv_inFlight h

theorem inv_loadWord {n d ai mj mode} (h : Inv s) : Inv (loadWord n d ai mj mode s) := by
  unfold loadWord
  split
  · exact inv_setTrap h
  · next e =>
    have hu := inv_useAddr h e
    exact inv_ite (inv_when inv_setTrap (inv_modCore (inv_memRead hu))) <| inv_farRequest <| inv_modCore hu

theorem inv_storeWord {n v ai mj mode} (h : Inv s) : Inv (storeWord n v ai mj mode s) := by
  unfold storeWord
  split
  · exact inv_setTrap h
  · next e =>
    have hu := inv_useAddr h e
    exact inv_ite (inv_memWrite hu) <| inv_farRequest <| inv_modCore hu

theorem inv_loadDesc {n l} (h : Inv s) : Inv (loadDesc n l s) := inv_ite h <| inv_loadWord h

theorem inv_dualLoad {n l1 l2} (h : Inv s) : Inv (dualLoad n l1 l2 s) := inv_loadDesc <| inv_loadDesc h

theorem inv_macWith {n accB rep conj neg a b l1 l2} (h : Inv s) : Inv (macWith n accB rep conj neg a b l1 l2 s) :=
  inv_ite (inv_setTrap h) <| inv_dualLoad <| inv_inFlight h

theorem inv_branchTo {n t} (h : Inv s) : Inv (branchTo n t s) := inv_modCore h

theorem inv_loopTo {n count endA} (h : Inv s) : Inv (loopTo n count endA s) :=
  inv_ite (inv_setTrap h) <| inv_when inv_setPc <| inv_setNat <| inv_setNat <| inv_setNat h

theorem inv_haltCore {n} (h : Inv s) : Inv (haltCore n s) := by
  unfold haltCore
  refine inv_coreStop <| inv_drainResults ?_
  split
  · exact inv_setPc h
  · exact h

theorem inv_enterVector {n v isTrap} (h : Inv s) : Inv (enterVector n v isTrap s) :=
  inv_setPc <| inv_when inv_setStat <| inv_setStat <| inv_setNat <| inv_setNat h

theorem inv_takeIrq {n} (h : Inv s) : Inv (takeIrq n s) := by
  unfold takeIrq
  split
  · exact h
  · exact inv_enterVector <| inv_setBit h

theorem inv_interruptEntry {n} (h : Inv s) : Inv (interruptEntry n s) := inv_ite (inv_takeIrq h) h

theorem inv_idleWake {n} (h : Inv s) : Inv (idleWake n s) := inv_ite (inv_interruptEntry (inv_setMode h)) h

theorem inv_trapEntry {n} (h : Inv s) : Inv (trapEntry n s) := by
  unfold trapEntry
  dsimp only
  split
  · exact inv_ite (inv_endSlot (inv_setTrap (inv_stepPc (inv_when inv_countCorr h)))) h
  · refine inv_ite (inv_ite (inv_coreStop ?hs) (inv_enterVector ?hs)) <| inv_ite (inv_endSlot (inv_setTrap
      (inv_stepPc (inv_when inv_countCorr h)))) h
    exact inv_modCore <| inv_drainResults <| inv_ite (inv_endSlot (inv_setTrap (inv_stepPc (inv_when inv_countCorr
      h)))) h

theorem inv_takeDone {x} (h : Inv s) : Inv (takeDone x s) := inv_frame h

theorem inv_setBe {n} (h : Inv s) : Inv (setBe n s) := inv_ite h <| inv_raise <| inv_setStat h

theorem inv_farLoad {n resp v} (h : Inv s) : Inv (farLoad n resp v s) := by
  unfold farLoad
  split
  · exact h
  · exact inv_ite (inv_modCore (inv_takeDone h)) <| inv_ite (inv_endSlot (inv_ite (inv_modCore (inv_takeDone h))
      (inv_when inv_setTrap (inv_setBe (inv_modCore (inv_takeDone h)))))) h

theorem inv_farStore {n resp} (h : Inv s) : Inv (farStore n resp s) := by
  unfold farStore
  split
  · exact h
  · exact inv_ite (inv_ite (inv_modCore (inv_takeDone h)) (inv_setBe (inv_modCore (inv_takeDone h)))) h

theorem inv_fetchUncorrectable {n} (h : Inv s) : Inv (fetchUncorrectable n s) :=
  inv_ite (inv_coreStop (inv_countUncorr h)) h

theorem inv_timerExpiry {n} (h : Inv s) : Inv (timerExpiry n s) := inv_ite h <| inv_coreIrq h

theorem inv_dspWatchdog {n} (h : Inv s) : Inv (dspWatchdog n s) := inv_ite h <| inv_raise <| inv_coreStop h

theorem inv_patrolRead {n a} (h : Inv s) : Inv (patrolRead n a s) := by
  unfold patrolRead
  split
  · exact h
  · exact inv_setMemErr <| inv_countCorr h
  · exact inv_coreStop <| inv_countUncorr h

theorem inv_masterReset {m} (h : Inv s) : Inv (masterReset m s) := inv_when inv_flagAll <| inv_setF <| inv_frame h

theorem inv_clearCore {n} (h : Inv s) : Inv (clearCore n s) :=
  inv_showCore <| inv_putCore <| inv_masterReset <| h.putRegs (Store.wf_keep _ _ _)

theorem inv_coreStart {n} (h : Inv s) : Inv (coreStart n s) := inv_ite h <| inv_setF <| inv_setMode h

theorem inv_coreRunOff {n} (h : Inv s) : Inv (coreRunOff n s) := inv_ite (inv_coreStop h) h

theorem inv_dspCtrlEffect {n rst} (h : Inv s) : Inv (dspCtrlEffect n rst s) :=
  inv_ite (inv_coreStart (inv_when inv_clearCore h)) <| inv_coreRunOff <| inv_when inv_clearCore h

/-! ### Map -/

theorem inv_ilkError {m a code isWrite} (h : Inv s) : Inv (ilkError m a code isWrite s) :=
  inv_ite (inv_flagAll h) <| inv_setF <| inv_setF <| inv_setF <| inv_setF <| inv_setF <| inv_flagAll h

theorem inv_takeEvent {c} (h : Inv s) : Inv (takeEvent c s).2 := by
  unfold takeEvent
  split
  · exact h
  · exact inv_setQueue h

theorem inv_clearSts {e} (h : Inv s) : Inv (clearSts e s) := inv_setF <| inv_setF h

theorem inv_stsWrite {k w} (h : Inv s) : Inv (stsWrite k w s) := inv_foldl (inv_when inv_clearSts) h

theorem inv_depCond {b} (h : Inv s) : Inv (depCond b s) := inv_ite (inv_flagAll h) <| inv_flagEvt h

/-! ### SignalBox -/

theorem inv_setSbx {x} (h : Inv s) : Inv (setSbx x s) := inv_setF h

theorem inv_sbxHold (h : Inv s) : Inv (sbxHold s) := inv_incF <| inv_raise <| inv_setSbx <| inv_clearCore h

theorem inv_sbxRestartWrite {m} (h : Inv s) : Inv (sbxRestartWrite m s) := inv_ite (inv_sbxHold h) h

theorem inv_lockstepMismatch (h : Inv s) : Inv (lockstepMismatch s) :=
  inv_ite h <| inv_ite (inv_resignIfLead (inv_raise (inv_raise (inv_setSbx (inv_clearCore (inv_frame (inv_incF
    h))))))) <| inv_sbxHold <| inv_frame <| inv_incF h

/-! ### Checks -/

theorem inv_injSubmit (h : Inv s) : Inv (injSubmit s) :=
  inv_ite (inv_injResult h) <| inv_ite (inv_injDone (inv_putInj (inv_frame (inv_frame h)))) <| inv_putInj <|
    inv_injResult h

theorem inv_setMonRun {c x} (h : Inv s) : Inv (setMonRun c x s) := inv_frame h

theorem inv_clockResult {c bad} (h : Inv s) : Inv (clockResult c bad s) :=
  inv_ite (inv_when inv_insEvent (inv_setMonRun (inv_setF h))) <| inv_when inv_setF <| inv_setMonRun h

theorem inv_clockWindow {c n} (h : Inv s) : Inv (clockWindow c n s) := inv_ite (inv_clockResult h) h

theorem inv_injStrike {x} (h : Inv s) : Inv (injStrike x s) := by
  unfold injStrike
  split
  · exact inv_caParityError h
  · exact inv_setMemErr h
  · exact inv_lockstepMismatch h
  · exact inv_clockResult <| inv_clockResult h
  · exact h

theorem inv_injectionApply (h : Inv s) : Inv (injectionApply s) := by
  unfold injectionApply
  split
  · exact h
  · exact inv_ite (inv_injStrike (inv_injDone h)) h

theorem inv_injectionExpire (h : Inv s) : Inv (injectionExpire s) := inv_ite (inv_injResult (inv_putInj h)) h

theorem inv_busCorrReport (h : Inv s) : Inv (busCorrReport s) := inv_ite (inv_insEvent (inv_frame h)) h

/-! ### Flash -/

theorem inv_putFlash {a b} (h : Inv s) : Inv (putFlash a b s) := inv_ite (h.putFlashStore (Store.wf_set _ _ _ _)) h

theorem inv_putFlashBytes {a bs} (h : Inv s) : Inv (putFlashBytes a bs s) := by
  induction bs generalizing a s with
  | nil => exact h
  | cons b t ih => exact ih <| inv_putFlash h

theorem inv_putBuf {k bs} (h : Inv s) : Inv (putBuf k bs s) := by
  induction bs generalizing k s with
  | nil => exact h
  | cons b t ih => exact ih <| inv_setF h

theorem inv_flashGo (h : Inv s) : Inv (flashGo s) := by
  unfold flashGo
  refine inv_ite h ?_
  dsimp only
  split
  · exact inv_depCond <| inv_setF h
  · exact inv_setF <| inv_setF <| inv_frame h

theorem inv_flashEnd {r} (h : Inv s) : Inv (flashEnd r s) := inv_setF <| inv_setF <| inv_frame h

theorem inv_flashComplete (h : Inv s) : Inv (flashComplete s) := by
  unfold flashComplete
  split
  · exact h
  · exact inv_ite h <| inv_flashEnd <| inv_ite (inv_putBuf h) <| inv_putFlashBytes h

theorem inv_flashTimeout (h : Inv s) : Inv (flashTimeout s) := by
  unfold flashTimeout
  split
  · exact h
  · exact inv_ite h <| inv_depCond <| inv_flashEnd <| inv_frame <| inv_putFlashBytes h

/-! ### Bus -/

theorem inv_trkEffect {i off old w locked} (h : Inv s) : Inv (trkEffect i off old w locked s) := by
  unfold trkEffect
  split
  · exact inv_trkCtrlEffect h
  · exact inv_ite h <| inv_ite (inv_wr h) <| inv_eqReject h
  · exact inv_trkTestEffect <| inv_when inv_prbsClear h
  · exact h

theorem inv_coreEffect {m n off w} (h : Inv s) : Inv (coreEffect m n off w s) := by
  unfold coreEffect
  split
  · exact inv_ite (inv_when inv_sbxRestartWrite h) <| inv_dspCtrlEffect h
  · exact inv_coreIrq h
  · exact inv_when inv_modCore h
  · exact h

theorem inv_shunterRequest {k a n w} (h : Inv s) : Inv (shunterRequest k a n w s) :=
  inv_setF <| inv_incF <| inv_frame h

theorem inv_putShunter {k x} (h : Inv s) : Inv (putShunter k x s) := inv_frame h

theorem inv_shunterFetch {k a} (h : Inv s) : Inv (shunterFetch k a s) :=
  inv_shunterRequest <| inv_setF <| inv_putShunter h

theorem inv_shunterGo {k} (h : Inv s) : Inv (shunterGo k s) :=
  inv_ite h <| inv_shunterFetch <| inv_setF <| inv_setF <| inv_putShunter h

theorem inv_shunterStop {k} (h : Inv s) : Inv (shunterStop k s) := inv_ite (inv_putShunter h) h

theorem inv_targetEffect {m t} (h : Inv s) : Inv (targetEffect m t s) := inv_ite (inv_setF h) <| inv_requestState h

theorem inv_aouEffect {n off m w free} (h : Inv s) : Inv (aouEffect n off m w free s) := by
  unfold aouEffect
  split
  · exact inv_ite (inv_aoDepotLoad (inv_when inv_aoClearFault (inv_when inv_aoEnterFault h))) <| inv_when
      inv_aoHostRole <| inv_aoCtrlWrite h
  · exact inv_ite (inv_aoDepotTarget h) <| inv_aoTargetWrite h
  · exact h

theorem inv_sdgCtrlEffect {w} (h : Inv s) : Inv (sdgCtrlEffect w s) :=
  inv_when inv_pasrRelease <| inv_when inv_pasrRequest <| inv_rateWrite h

theorem inv_cplEffect {w} (h : Inv s) : Inv (cplEffect w s) :=
  inv_when inv_cplJoinWrite <| inv_when inv_cplResignWrite <| inv_when inv_cplPromoteWrite h

theorem inv_belEffect {e w} (h : Inv s) : Inv (belEffect e w s) := inv_when inv_raiseInj <| inv_when inv_clearSts h

theorem inv_psegTagSet (h : Inv s) : Inv (psegTagSet s) := inv_psegReadyCheck <| inv_frame h

theorem inv_psegChkSet (h : Inv s) : Inv (psegChkSet s) := inv_psegReadyCheck <| inv_frame h

theorem inv_tblTagSet (h : Inv s) : Inv (tblTagSet s) := inv_tblReadyCheck <| inv_frame h

theorem inv_tblChkSet (h : Inv s) : Inv (tblChkSet s) := inv_tblReadyCheck <| inv_frame h

theorem inv_ptsEffect {a w} (h : Inv s) : Inv (ptsEffect a w s) :=
  inv_ite (inv_when inv_clearWords h) <| inv_ite (inv_psegTagSet h) <| inv_ite (inv_psegChkSet h) h

theorem inv_tblEffect {a w} (h : Inv s) : Inv (tblEffect a w s) :=
  inv_ite (inv_when inv_tblStop (inv_when inv_tblCounterClear h)) <| inv_ite (inv_tblTagSet h) <| inv_ite
    (inv_tblChkSet h) h

theorem inv_tmnEffect {a w} (h : Inv s) : Inv (tmnEffect a w s) :=
  inv_ite (inv_when inv_tmnStop (inv_when inv_tmnCounterClear h)) <| inv_ite (inv_when inv_routeStop h) h

theorem inv_regEffect {m a old w locked free} (h : Inv s) : Inv (regEffect m a old w locked free s) := by
  unfold regEffect
  split
  · exact inv_coreEffect h
  · exact inv_ite (inv_enqueueGo h) h
  · exact inv_ite (inv_belEffect h) h
  · exact inv_ite (inv_when inv_shunterGo (inv_when inv_shunterStop h)) h
  · exact inv_when inv_flashGo h
  · exact inv_ite (inv_targetEffect h) <| inv_ite (inv_aouEffect h) h
  · exact inv_ite (inv_cplEffect h) h
  · exact inv_ptsEffect h
  · exact inv_when inv_framingClear h
  · exact inv_tblEffect h
  · exact inv_ite (inv_sdgCtrlEffect h) h
  · exact inv_when inv_forceJunction h
  · exact inv_when inv_injSubmit h
  · exact inv_tmnEffect h
  · exact inv_ite (inv_trkEffect h) h

theorem inv_regWrite1 {m a w free} (h : Inv s) : Inv (regWrite1 m a w free s) := by
  unfold regWrite1
  split
  · exact h
  · exact inv_ite h <| inv_regEffect <| inv_when inv_depCond <| inv_when inv_depCond <| inv_wr h

theorem inv_windowSign {a w} (h : Inv s) : Inv (windowSign a w s) :=
  inv_ite (inv_psegSigWord h) <| inv_ite (inv_tblSigWord h) h

theorem inv_windowWrite {m a w reload t bank k} (h : Inv s) : Inv (windowWrite m a w reload t bank k s) :=
  inv_ite h <| inv_ite (inv_wr (inv_wr h)) <| inv_ite h <| inv_windowSign <| inv_wr h

theorem inv_wordWrite {m a w reload} (h : Inv s) : Inv (wordWrite m a w reload s).2 := by
  unfold wordWrite
  dsimp only
  split
  · exact inv_ite_snd (inv_raise h) <| inv_ite_snd h <| inv_memWrite h
  · refine inv_ite_snd (inv_ite_snd h (inv_ite (inv_regWrite h) h)) <| inv_ite_snd (inv_stsWrite h) <| inv_ite_snd
      (inv_wr h) <| inv_ite_snd h <| inv_ite_snd h ?_
    refine inv_ite_snd ?_ ?_
    · split
      · exact h
      · exact inv_ite_snd (inv_p3Write h) h
    · split
      · exact inv_windowWrite h
      · exact inv_regWrite1 h

theorem inv_wordRead {m a} (h : Inv s) : Inv (wordRead m a s).2.2 := by
  unfold wordRead
  split
  · split
    · exact h
    · split
      · next e => exact (Prod.ext_iff.1 e).2 ▸ inv_memRead h
      · next e => exact (Prod.ext_iff.1 e).2 ▸ inv_memRead h
  · refine inv_ite_snd_snd h <| inv_ite_snd_snd (inv_ite_snd_snd h h) <| inv_ite_snd_snd h <| inv_ite_snd_snd h <|
      inv_ite_snd_snd h <| inv_ite_snd_snd h <| inv_ite_snd_snd (inv_takeEvent h) <| inv_ite_snd_snd h <|
      inv_ite_snd_snd h <| inv_ite_snd_snd (inv_ite_snd_snd h h) <| inv_ite_snd_snd ?_ <| inv_ite_snd_snd h ?_
    · split
      · exact h
      · exact inv_ite_snd_snd (inv_p3Read h) h
    · split
      · exact h
      · exact inv_foldl inv_frame h

theorem inv_targetWrite {m a w} (h : Inv s) : Inv (targetWrite m a w s).2 := by
  unfold targetWrite
  split
  · exact h
  · exact inv_ite_snd (inv_wordWrite h) h

theorem inv_targetRead {m a} (h : Inv s) : Inv (targetRead m a s).2.2 := by
  unfold targetRead
  split
  · exact h
  · exact inv_ite_snd_snd (inv_wordRead h) h

theorem inv_noteError {m a code isWrite} (h : Inv s) : Inv (noteError m a code isWrite s) := inv_when inv_ilkError h

theorem inv_burstNote {b m a code isWrite} (h : Inv s) : Inv (Burst.note b m a code isWrite s) :=
  inv_ite h <| inv_noteError h

theorem inv_burstWrite {m a ws b} (h : Inv s) : Inv (burstWrite m a ws b s).2 := by
  induction ws generalizing a b s with
  | nil => exact h
  | cons w t ih => exact ih <| inv_burstNote <| inv_targetWrite h

theorem inv_burstRead {m a n b} (h : Inv s) : Inv (burstRead m a n b s).2 := by
  induction n generalizing a b s with
  | zero => exact h
  | succ n ih => exact inv_ite_snd (ih h) <| ih <| inv_burstNote <| inv_targetRead h

theorem inv_putAnswer {m x} (h : Inv s) : Inv (putAnswer m x s) := inv_frame h

theorem inv_countIssue {m} (h : Inv s) : Inv (countIssue m s) := inv_incF h

theorem inv_holdAccess {m a w} (h : Inv s) : Inv (holdAccess m a w s) :=
  inv_ite (inv_incF (inv_frame (inv_countIssue h))) h

theorem inv_writeAccess {m a w} (h : Inv s) : Inv (writeAccess m a w s) := by
  unfold writeAccess
  split
  · exact inv_holdAccess h
  · have hb : Inv (burstWrite m a [w] {} (countIssue m s)).2 := inv_burstWrite <| inv_countIssue h
    exact inv_putAnswer hb

theorem inv_readAccess {m a} (h : Inv s) : Inv (readAccess m a s) := by
  unfold readAccess
  split
  · exact inv_holdAccess h
  · have hb : Inv (burstRead m a 1 {} (countIssue m s)).2 := inv_burstRead <| inv_countIssue h
    exact inv_putAnswer hb

/-! ### Access -/

theorem inv_fieldWrite {m base f v} (h : Inv s) : Inv (fieldWrite m base f v s) := inv_writeAccess h

theorem inv_injWrite {m code unit arg} (h : Inv s) : Inv (injWrite m code unit arg s) :=
  inv_writeAccess <| inv_writeAccess <| inv_writeAccess h

/-! ### Image -/

theorem inv_putReserved {x v} (h : Inv s) : Inv (putReserved x v s) := inv_ite h <| inv_p3Write h

theorem inv_putReservedWords {x ws} (h : Inv s) : Inv (putReservedWords x ws s) := by
  induction ws generalizing x s with
  | nil => exact h
  | cons w t ih => exact ih <| inv_putReserved h

theorem inv_copyImage {x f} (h : Inv s) : Inv (copyImage x f s) := inv_putReservedWords h

theorem inv_relayout {old new} (h : Inv s) : Inv (relayout old new s) :=
  inv_ite h <| inv_foldl inv_putMask <| inv_foldl (fun h => h.putHbm (Store.wf_set _ _ _ _) id) <| inv_setWork <|
    h.putHbm (Store.wf_keep _ _ _) (Store.wf_keep _ _ _)

/-! ### Reset -/

theorem inv_clearSticky {n} (h : Inv s) : Inv (clearSticky n s) := inv_setF <| inv_setF h

theorem inv_resetDomains {hbm} (h : Inv s) : Inv (resetDomains hbm s) := by
  obtain ⟨hq, hr, hh, he, -, hf⟩ := inv_iff.1 h
  refine inv_foldl (fun h => inv_ite (inv_aoCodes (inv_clearSticky h)) (inv_aoPowerUp h)) <| inv_wr <|
    inv_foldl inv_setF <| inv_iff.2 ⟨hq, Store.wf_keep _ _ _ hr, ?_, ?_, Store.wf_nil _, hf⟩
  all_goals
    split
    · exact Store.wf_keep _ _ _ ‹_›
    · exact Store.wf_nil _

theorem inv_resetAll (h : Inv s) : Inv (resetAll s) := by
  obtain ⟨hq, hr, -, -, -, hf⟩ := inv_iff.1 h
  exact inv_iff.2 ⟨hq, Store.wf_keep _ _ _ hr, Store.wf_nil _, Store.wf_nil _, Store.wf_nil _, hf⟩

theorem inv_startClock {d} (h : Inv s) : Inv (startClock s d) := inv_ite (inv_setDom h) h

theorem inv_powerDomains {ds exits} (h : Inv s) : Inv (powerDomains ds exits s) :=
  inv_foldl inv_startClock <| inv_runSteps h

theorem inv_pllsLocked (h : Inv s) : Inv (pllsLocked s) := inv_setF h

theorem inv_wakeDone (h : Inv s) : Inv (wakeDone s) := inv_setF <| inv_incF h

theorem inv_bootDomains (h : Inv s) : Inv (bootDomains s) := inv_powerDomains <| inv_pllsLocked h

theorem inv_lampUp (h : Inv s) : Inv (lampUp s) := inv_setDom h

theorem inv_resetRecord {cause} (h : Inv s) : Inv (resetRecord cause s) :=
  inv_setF <| inv_setF <| inv_setF <| inv_setF <| inv_setF h

theorem inv_drawNonce (h : Inv s) : Inv (drawNonce s) := inv_set2 <| inv_frame h

theorem inv_fullReset {cause hbm} (h : Inv s) : Inv (fullReset cause hbm s) :=
  inv_lampUp <| inv_setPstate <| inv_drawNonce <| inv_resetRecord <| inv_incF <| inv_resetDomains h

/-! ### Depot -/

theorem inv_depotWrite {a w reload} (h : Inv s) : Inv (depotWrite a w reload s).2 := by
  unfold depotWrite
  split
  · exact inv_noteError h
  · exact inv_ite_snd (inv_when inv_noteError (inv_wordWrite h)) <| inv_noteError h

theorem inv_depotWrites {reload a ws ok} (h : Inv s) : Inv (depotWrites reload a ws ok s).2 := by
  induction ws generalizing a ok s with
  | nil => exact h
  | cons w t ih => exact ih <| inv_depotWrite h

theorem inv_applyRecords {reload rs ok} (h : Inv s) : Inv (applyRecords reload rs ok s).2 := by
  induction rs generalizing ok s with
  | nil => exact h
  | cons r t ih => exact ih <| inv_depotWrites <| inv_incF h

theorem inv_applyRegisters {reload f} (h : Inv s) : Inv (applyRegisters reload f s).2 :=
  inv_foldl_snd inv_applyRecords h

theorem inv_applyMap {f} (h : Inv s) : Inv (applyMap f s) := by
  unfold applyMap
  split
  · exact h
  · split
    · exact h
    · exact inv_depotWrite <| inv_frame h

theorem inv_applyEvents {reload f} (h : Inv s) : Inv (applyEvents reload f s) := by
  unfold applyEvents
  split
  · exact h
  · exact inv_depotWrites h

theorem inv_applyCaptures {f} (h : Inv s) : Inv (applyCaptures f s) := by
  unfold applyCaptures
  split
  · exact h
  · exact inv_putReservedWords h

theorem inv_fillMemory {base size ws} (h : Inv s) : Inv (fillMemory base size ws s) :=
  inv_foldl inv_wr <| (h.putRegs (Store.wf_keep _ _ _)).putMemErr (Store.wf_keep _ _ _)

theorem inv_loadFirmware {x f} (h : Inv s) : Inv (loadFirmware x f s) := inv_fillMemory <| inv_fillMemory h

theorem inv_releaseCore {n} (h : Inv s) : Inv (releaseCore n s) := inv_coreStart <| inv_setF <| inv_clearCore h

theorem inv_putMeas {k ws} (h : Inv s) : Inv (putMeas k ws s) := inv_foldl inv_wr h

theorem inv_measure {f b} (h : Inv s) : Inv (measure f b s) :=
  inv_putCpl <| inv_foldl inv_putMeas <| inv_putMeas <| inv_putMeas <| inv_putMeas <| inv_putMeas h

theorem inv_selectPlan {reload f} (h : Inv s) : Inv (selectPlan reload f s) := by
  unfold selectPlan
  dsimp only
  split
  · exact inv_depCond <| inv_setF <| inv_setF <| inv_setF <| inv_setF h
  · exact inv_setF <| inv_setF <| inv_applyRecords <| inv_setF <| inv_setF h

theorem inv_boardPut {reload a w} (h : Inv s) : Inv (boardPut reload a w s) := inv_depotWrite h

theorem inv_loadColmap {x w} (h : Inv s) : Inv (loadColmap x w s) := inv_ite (inv_setBit (inv_wr h)) <| inv_wr h

theorem inv_applyCalibration {reload v} (h : Inv s) : Inv (applyCalibration reload v s) :=
  inv_insShow <| inv_when inv_insEvent <| inv_foldl inv_wr <| inv_foldl inv_loadColmap <| inv_foldl inv_setF <|
    inv_foldl inv_boardPut <| inv_foldl inv_boardPut <| inv_foldl inv_boardPut <| inv_setF h

theorem inv_applyIdentity {v} (h : Inv s) : Inv (applyIdentity v s) :=
  inv_foldl inv_wr <| inv_setF <| inv_setF <| inv_setF <| inv_setF h

theorem inv_applyBoard {reload b} (h : Inv s) : Inv (applyBoard reload b s) := by
  unfold applyBoard
  refine inv_ite h ?_
  dsimp only
  split
  · refine inv_applyIdentity ?_
    split
    · exact inv_applyCalibration h
    · exact h
  · split
    · exact inv_applyCalibration h
    · exact h

theorem inv_writePace (h : Inv s) : Inv (writePace s) := inv_setF h

theorem inv_planAndBoard {reload f b} (h : Inv s) : Inv (planAndBoard reload f b s) :=
  inv_writePace <| inv_applyBoard <| inv_selectPlan h

theorem inv_configReapply (h : Inv s) : Inv (configReapply s) := inv_planAndBoard <| inv_applyRegisters h

theorem inv_burn {k w} (h : Inv s) : Inv (burn k w s) := inv_wr h

theorem inv_kpsApply {ws} (h : Inv s) : Inv (kpsApply ws s) := by
  unfold kpsApply
  split
  · exact inv_depCond h
  · exact inv_ite h <| inv_depCond <| inv_foldl inv_aoCodes <| inv_foldl inv_burn h

theorem inv_kpsRun {key rbidx n ws} (h : Inv s) : Inv (kpsRun key rbidx n ws s) := by
  induction n generalizing ws s with
  | zero => exact h
  | succ n ih =>
    cases ws with
    | nil => exact h
    | cons w t => exact ih <| inv_kpsApply h

theorem inv_applyKeepsake {f} (h : Inv s) : Inv (applyKeepsake f s) := by
  unfold applyKeepsake
  split
  · exact h
  · exact inv_kpsRun h

theorem inv_stackUp {k} (h : Inv s) : Inv (stackUp k s) := inv_setStack <| inv_setF <| inv_beginTraining h

theorem inv_stackFails {step k} (h : Inv s) : Inv (stackFails step k s) :=
  inv_trainingFail <| inv_trainingFail <| inv_trainingFail <| inv_beginTraining h

theorem inv_stackBoot {env k} (h : Inv s) : Inv (stackBoot env s k) :=
  inv_ite (inv_stackUp (inv_startClock h)) <| inv_stackFails <| inv_startClock h

theorem inv_stacksBoot {env ks} (h : Inv s) : Inv (stacksBoot env ks s) :=
  inv_drainSteps <| inv_foldl inv_stackBoot <| inv_runSteps h

theorem inv_homeBoot {env} (h : Inv s) : Inv (homeBoot env s) :=
  inv_setWork <| inv_relayout <| inv_setWork <| inv_foldl inv_stacksBoot h

theorem inv_othersBoot {env} (h : Inv s) : Inv (othersBoot env s) := inv_stacksBoot h

theorem inv_discover {env} (h : Inv s) : Inv (discover env s) :=
  inv_ite (inv_setF (inv_setF (inv_setF (inv_frame h)))) <| inv_frame h

theorem inv_bootPrep {env tell} (h : Inv s) : Inv (bootPrep env tell s) :=
  inv_when inv_depCond <| inv_when inv_depCond <| inv_setF <| inv_discover <| inv_when inv_depCond <| inv_frame <|
    inv_bootDomains <| inv_frame h

/-- The slot's words are made a variable first: they stand for reads of the flash, which no step of the proof is to
evaluate. -/
theorem inv_trySlot {env k} (h : Inv s) : Inv (trySlot env k s).2.2 := by
  unfold trySlot
  obtain ⟨f, hf⟩ : ∃ f, f = slotFlash k s := ⟨_, rfl⟩
  rw [← hf]
  dsimp only
  refine inv_ite_snd_snd h ?_
  split
  · exact h
  · refine inv_ite_snd_snd h <| inv_ite_snd_snd ?_ <| inv_ite_snd_snd ?_ <| inv_ite_snd_snd ?_ <|
      inv_ite_snd_snd ?_ ?_
    · exact inv_applyRegisters <| inv_applyMap <| inv_copyImage <| inv_when inv_copyImage <| inv_homeBoot h
    all_goals
      exact inv_when inv_depCond <| inv_applyCaptures <| inv_applyEvents <| inv_applyRegisters <| inv_applyMap <|
        inv_copyImage <| inv_when inv_copyImage <| inv_homeBoot h

theorem inv_putSlot {k cause} (h : Inv s) : Inv (putSlot k cause s) := inv_setF h

theorem inv_finishSlot {env k} (h : Inv s) : Inv (finishSlot env k s) :=
  inv_foldl inv_releaseCore <| inv_beamConfigCheck <| inv_depCond <| inv_setF <| inv_foldl inv_loadFirmware <|
    inv_measure <| inv_planAndBoard <| inv_othersBoot <| inv_applyKeepsake <| inv_frame <| inv_setF <| inv_setF h

theorem inv_trySlots {env ks} (h : Inv s) : Inv (trySlots env ks s).2 := by
  induction ks generalizing s with
  | nil => exact h
  | cons k t ih =>
    have hp : Inv (putSlot k (trySlot env k s).1 (trySlot env k s).2.2) := inv_putSlot <| inv_trySlot h
    unfold trySlots
    dsimp only
    refine inv_ite_snd (inv_finishSlot hp) ?_
    refine inv_ite_snd (ih ?_) (ih (inv_when inv_depCond <| inv_depCond hp))
    exact inv_wr <| inv_wr <| inv_set2 <| inv_bootPrep <| inv_lampUp <| inv_resetDomains <|
      inv_when inv_depCond <| inv_depCond hp

theorem inv_recovery (h : Inv s) : Inv (recovery s) := inv_depCond <| inv_setF h

theorem inv_bootTwin (h : Inv s) : Inv (bootTwin s) := inv_ite (inv_setJstate (inv_setF h)) h

theorem inv_stopPlane (h : Inv s) : Inv (stopPlane s) := inv_foldl (fun h => inv_ite (inv_setDom h) h) h

theorem inv_bootEnd (h : Inv s) : Inv (bootEnd s) := by
  refine inv_ite (inv_requestState ?hs) ?hs
  exact inv_endTransit <| inv_depCond <| inv_setF <| inv_bootTwin <| inv_stopPlane <| inv_powerDomains h

theorem inv_boot {env} (h : Inv s) : Inv (boot env s) := by
  unfold boot
  refine inv_ite h ?_
  extract_lets _ t order
  have ht : Inv t := inv_foldl inv_setF <| inv_wakeDone <| inv_bootPrep h
  split
  next ok u e =>
    have hu : Inv (ok, u).2 := e ▸ inv_ite_snd (inv_trySlots ht) ht
    exact inv_bootEnd <| inv_ite hu <| inv_recovery hu

theorem inv_reloadFirmware {n} (h : Inv s) : Inv (reloadFirmware n s) := by
  unfold reloadFirmware
  obtain ⟨f, hf⟩ : ∃ f, f = slotWords s := ⟨_, rfl⟩
  obtain ⟨g, hg⟩ : ∃ g, g = slotFlash (getF R.DEP_STATE F.DEP_STATE_SLOT s) s := ⟨_, rfl⟩
  rw [← hf, ← hg]
  dsimp only
  split
  · refine inv_ite (inv_loadFirmware h) <| inv_ite ?_ (inv_loadFirmware h)
    split
    · exact inv_loadFirmware <| inv_when inv_raise h
    · exact inv_when inv_raise h
  · split
    · exact inv_loadFirmware <| inv_when inv_raise h
    · exact h

theorem inv_attest {nonce} (h : Inv s) : Inv (attest nonce s).2 := inv_depCond <| inv_frame h

theorem inv_debugCertTake {c} (h : Inv s) : Inv (debugCertTake c s).2 :=
  inv_ite_snd (inv_depCond (inv_setF (inv_setF (inv_setF h)))) <| inv_depCond h

theorem inv_scanDomain {d tdi} (h : Inv s) : Inv (scanDomain d tdi s) :=
  inv_ite h <| inv_foldl inv_wr <| inv_frame <| h.putRegs (Store.wf_keep _ _ _)

theorem inv_jtag {op} (h : Inv s) : Inv (jtag op s) := by
  unfold jtag
  split
  · exact inv_ite (inv_scanDomain h) h
  · exact inv_ite (inv_readAccess h) h
  · exact inv_ite (inv_writeAccess h) h
  · exact h
  · exact h
  · exact h
  · exact h
  · exact h
  · exact h
  · exact h
  · exact h
  · exact h

/-! ### Interlocking -/

theorem inv_enterPort {r} (h : Inv s) : Inv (enterPort r s) := inv_ite (inv_incF (inv_incF (inv_frame h))) h

theorem inv_leavePort {r} (h : Inv s) : Inv (leavePort r s) := inv_frame h

theorem inv_respond {r x} (h : Inv s) : Inv (respond r x s) :=
  inv_ite (inv_setF (inv_putAnswer h)) <| inv_frame <| inv_setF <| inv_putAnswer h

theorem inv_grantReq {r} (h : Inv s) : Inv (grantReq r s) :=
  inv_ite h <| inv_ite (inv_flagAll h) <| inv_ite (inv_respond (inv_noteError (inv_leavePort h))) <| inv_frame <|
    inv_leavePort h

theorem inv_transactionAdmit {r} (h : Inv s) : Inv (transactionAdmit r s) :=
  inv_ite (inv_grantReq (inv_enterPort h)) h

theorem inv_perform {r} (h : Inv s) : Inv (perform r s).2 := by
  unfold perform
  split
  · exact inv_burstWrite h
  · exact inv_burstRead h

theorem inv_dropOut {r} (h : Inv s) : Inv (dropOut r s) := inv_frame h

theorem inv_landAll (h : Inv s) : Inv (landAll s) := inv_foldl inv_perform <| inv_frame h

theorem inv_mastersReset (h : Inv s) : Inv (mastersReset s) := inv_landAll <| inv_foldl inv_masterReset h

theorem inv_transactionResponse {m tid} (h : Inv s) : Inv (transactionResponse m tid s) := by
  unfold transactionResponse
  split
  · exact inv_ite h <| inv_perform <| inv_frame h
  · split
    · exact h
    · exact inv_ite h <| inv_respond <| inv_perform <| inv_dropOut h

theorem inv_lateWrite {m a ws} (h : Inv s) : Inv (lateWrite m a ws s) := by
  induction ws generalizing a s with
  | nil => exact h
  | cons w t ih => exact ih <| inv_ite (inv_targetWrite (inv_frame h)) <| inv_frame h

theorem inv_transactionTimeout {m tid} (h : Inv s) : Inv (transactionTimeout m tid s) := by
  unfold transactionTimeout
  split
  · exact h
  · exact inv_respond <| inv_noteError <| inv_lateWrite <| inv_dropOut h

theorem inv_shunterNotify {x} (h : Inv s) : Inv (shunterNotify x s) :=
  inv_ite (inv_coreIrq h) <| inv_ite (inv_coreIrq h) h

theorem inv_shunterEnd {k r} (h : Inv s) : Inv (shunterEnd k r s) := inv_setF <| inv_setF <| inv_putShunter h

theorem inv_shunterFail {k code a} (h : Inv s) : Inv (shunterFail k code a s) :=
  inv_shunterEnd <| inv_shunterNotify <| inv_flagAll <| inv_setF <| inv_setF h

theorem inv_shunterGoOn {k} (h : Inv s) : Inv (shunterGoOn k s) :=
  inv_ite (inv_shunterEnd h) <| inv_ite (inv_shunterRequest h) <| inv_ite (inv_shunterEnd (inv_shunterNotify h)) <|
    inv_shunterFetch <| inv_shunterNotify h

theorem inv_shunterDescriptorRead {k} (h : Inv s) : Inv (shunterDescriptorRead k s) := by
  unfold shunterDescriptorRead
  split
  · exact h
  · refine inv_ite h <| inv_ite (inv_shunterFail (inv_takeDone h)) <| inv_ite (inv_shunterGoOn ?hs) <|
      inv_shunterEnd ?hs
    exact inv_setF <| inv_putShunter <| inv_takeDone h

theorem inv_shunterBurstComplete {k} (h : Inv s) : Inv (shunterBurstComplete k s) := by
  unfold shunterBurstComplete
  split
  · exact h
  · refine inv_ite h ?_
    dsimp only
    split
    · exact inv_ite (inv_shunterRequest (inv_takeDone h)) <| inv_ite (inv_shunterFail (inv_takeDone h)) <|
        inv_shunterRequest <| inv_putShunter <| inv_takeDone h
    · refine inv_ite (inv_shunterFail (inv_takeDone h)) ?_
      split
      · exact inv_shunterFail <| inv_takeDone h
      · exact inv_shunterGoOn <| inv_putShunter <| inv_takeDone h

/-! ### Power -/

theorem inv_applyWords {ws} (h : Inv s) : Inv (applyWords ws s) := by
  induction ws generalizing s with
  | nil => exact h
  | cons x t ih => exact inv_ite (inv_frame h) <| ih <| inv_writeAccess h

theorem inv_applySettings {p} (h : Inv s) : Inv (applySettings p s) := inv_ite (inv_applyWords h) <| inv_frame h

theorem inv_settingsGoOn (h : Inv s) : Inv (settingsGoOn s) := inv_applyWords <| inv_frame h

theorem inv_replan (h : Inv s) : Inv (replan s) := inv_ite h <| inv_planAndBoard <| inv_flushFrames h

theorem inv_reconfigure (h : Inv s) : Inv (reconfigure s) :=
  inv_ite h <| inv_applySettings <| inv_configReapply <| inv_flushFrames h

theorem inv_moveDom {d x} (h : Inv s) : Inv (moveDom d x s) := inv_ite h <| inv_setDom h

theorem inv_moveDoms {ds x} (h : Inv s) : Inv (moveDoms ds x s) := inv_foldl inv_moveDom h

theorem inv_dropDistricts (h : Inv s) : Inv (dropDistricts s) := inv_requestSteps h

theorem inv_withdrawUps (h : Inv s) : Inv (withdrawUps s) := inv_showQlen <| inv_putPow h

theorem inv_gateDistricts (h : Inv s) : Inv (gateDistricts s) :=
  inv_requestSteps <| inv_requestSteps <| inv_withdrawUps h

theorem inv_notchingUp (h : Inv s) : Inv (notchingUp s) :=
  inv_ite h <| inv_putPow <| inv_requestSteps <| inv_moveDoms <| inv_beginTransit h

theorem inv_districtReady {k} (h : Inv s) : Inv (districtReady k s) := by
  refine inv_ite h <| inv_ite (inv_endTransit (inv_putPow ?hs)) ?hs
  exact inv_raise <| inv_setBit <| inv_setDom h

theorem inv_enterStanding (h : Inv s) : Inv (enterStanding s) := inv_rateDue <| inv_endTransit h

theorem inv_stayStanding (h : Inv s) : Inv (stayStanding s) := by
  refine inv_enterStanding <| inv_ite (inv_setPend ?hs) ?hs
  exact inv_stopPlane <| inv_dropDistricts <| inv_withdrawUps <| inv_putPow h

theorem inv_followPlan (h : Inv s) : Inv (followPlan s) :=
  inv_ite (inv_ite (inv_gateDistricts h) (inv_stayStanding h)) <| inv_ite h <| inv_ite (inv_gateDistricts h) <|
    inv_when inv_setPend h

theorem inv_replanNow (h : Inv s) : Inv (replanNow s) :=
  inv_ite h <| inv_ite (inv_followPlan (inv_replan h)) <| inv_ite (inv_setF h) <| inv_frame h

theorem inv_districtFail {k} (h : Inv s) : Inv (districtFail k s) :=
  inv_replanNow <| inv_ite (inv_stayStanding (inv_raise (inv_setF h))) <| inv_requestStep <| inv_raise <| inv_setF h

theorem inv_districtReadyTimeout {k} (h : Inv s) : Inv (districtReadyTimeout k s) := inv_ite (inv_districtFail h) h

theorem inv_runningToStanding (h : Inv s) : Inv (runningToStanding s) :=
  inv_ite h <| inv_requestSteps <| inv_putPow <| inv_dataPlaneReset <| inv_beginTransit h

theorem inv_nextStep (h : Inv s) : Inv (nextStep s) := by
  unfold nextStep
  split
  · exact inv_putPow h
  · exact inv_doStep <| inv_showQlen <| inv_putPow h

theorem inv_loadStepStart (h : Inv s) : Inv (loadStepStart s) :=
  inv_ite h <| inv_ite (inv_enterStanding (inv_stopPlane (inv_putPow (inv_nextStep h)))) <| inv_nextStep h

theorem inv_signBank {b} (h : Inv s) : Inv (signBank s b) := inv_putPow h

theorem inv_retain {ds} (h : Inv s) : Inv (retain ds s) := inv_runSteps <| inv_foldl inv_signBank h

theorem inv_sendResign {c} (h : Inv s) : Inv (sendResign s c) :=
  inv_ite (inv_sendTrain (inv_fillerDue (inv_putCpl h))) h

theorem inv_resignNow (h : Inv s) : Inv (resignNow s) := inv_ite (inv_becomeBanker (inv_foldl inv_sendResign h)) h

theorem inv_twinDown (h : Inv s) : Inv (twinDown s) := inv_ite (inv_setJstate (inv_setRole (inv_putCpl h))) h

theorem inv_finishP3 (h : Inv s) : Inv (finishP3 s) := by
  unfold finishP3
  split
  · exact h
  · exact inv_respond <| inv_perform <| inv_dropOut h

theorem inv_quiesce (h : Inv s) : Inv (quiesce s) :=
  inv_foldl (fun h => inv_ite (inv_setStack h) h) <| inv_foldl inv_finishP3 <| inv_endCaptures h

theorem inv_laneOff {i} (h : Inv s) : Inv (laneOff s i) := inv_modLane <| inv_darken h

theorem inv_laneHalt {i} (h : Inv s) : Inv (laneHalt s i) := inv_ite (inv_modLane h) <| inv_laneOff h

theorem inv_cutParks {i} (h : Inv s) : Inv (cutParks s i) := inv_ite (inv_laneOff h) h

theorem inv_clearWatch (h : Inv s) : Inv (clearWatch s) := inv_frame h

theorem inv_haltEntry (h : Inv s) : Inv (haltEntry s) :=
  inv_ite h <| inv_endTransit <| inv_clearWatch <| inv_putPow <| inv_moveDoms <| inv_retain <| inv_foldl inv_laneHalt
    <| inv_when inv_subCond <| inv_quiesce <| inv_twinDown <| inv_resignNow <| inv_beginTransit h

theorem inv_settleSetpoints (h : Inv s) : Inv (settleSetpoints s) :=
  inv_foldl (fun h => inv_ite (inv_showPhase (inv_setF h)) h) h

theorem inv_corruptSignature (h : Inv s) : Inv (corruptSignature s) := by
  unfold corruptSignature
  split
  · exact inv_useInj <| inv_putPow h
  · exact h

theorem inv_stopPlls (h : Inv s) : Inv (stopPlls s) :=
  inv_foldl inv_settleQlock <| inv_setF <| inv_foldl (fun h => inv_setF <| inv_setF h) h

theorem inv_laidUpEntry (h : Inv s) : Inv (laidUpEntry s) :=
  inv_ite h <| inv_settleSetpoints <| inv_endTransit <| inv_clearWatch <| inv_putPow <| inv_moveDoms <| inv_stopPlls
    <| inv_runSteps <| inv_corruptSignature <| inv_retain <| inv_foldl inv_laneOff <| inv_quiesce <| inv_twinDown <|
    inv_resignNow <| inv_beginTransit h

theorem inv_offEntry (h : Inv s) : Inv (offEntry s) :=
  inv_ite h <| inv_endTransit <| inv_putPow <| inv_frame <| inv_foldl (fun h => inv_wr <| inv_setF h) <| inv_setDom <|
    inv_runSteps <| inv_stopPlls <| inv_foldl inv_laneOff <| inv_quiesce <| inv_resignNow h

theorem inv_beginWatch (h : Inv s) : Inv (beginWatch s) :=
  inv_foldl (fun h => inv_ite (inv_tryLeaveDark (inv_setF (inv_cutParks h))) h) <| inv_moveDoms <| inv_clearWatch <|
    inv_putPow h

theorem inv_watchStart (h : Inv s) : Inv (watchStart s) :=
  inv_ite h <| inv_ite (inv_subCond (inv_satF (inv_putPow h))) <| inv_beginWatch h

theorem inv_watchEnd (h : Inv s) : Inv (watchEnd s) := by
  refine inv_ite h <| inv_ite (inv_beginWatch ?hs) ?hs
  exact inv_incF <| inv_clearWatch <| inv_putPow <| inv_moveDoms <| inv_foldl (fun h => inv_ite (inv_laneOff h) h) h

theorem inv_wakePin {edges} (h : Inv s) : Inv (wakePin edges s) := inv_ite (inv_wakeRequest h) h

theorem inv_lampAlarm (h : Inv s) : Inv (lampAlarm s) := inv_ite (inv_when inv_wakeRequest (inv_setF h)) h

theorem inv_rateEnd (h : Inv s) : Inv (rateEnd s) := inv_sdgCond <| inv_frame h

theorem inv_trainingOver (h : Inv s) : Inv (trainingOver s) :=
  inv_rateDue <| inv_ite (inv_replanNow (inv_rateEnd (inv_settingsGoOn h))) <| inv_settingsGoOn h

theorem inv_trainingStepTimeout {k step} (h : Inv s) : Inv (trainingStepTimeout k step s) :=
  inv_ite (inv_trainingOver (inv_trainingFail h)) h

theorem inv_trainingComplete {k} (h : Inv s) : Inv (trainingComplete k s) :=
  inv_ite h <| inv_trainingOver <| inv_setF <| inv_frame <| inv_setStack h

theorem inv_workingSetChange (h : Inv s) : Inv (workingSetChange s) := by
  refine inv_ite h <| inv_ite (inv_emptyRest (inv_forceJunction h)) <| inv_followPlan <| inv_dataPlaneReset <|
      inv_beamConfigCheck <| inv_ite (inv_sdgCond (inv_reconfigure ?hs)) <| inv_replan ?hs
  exact inv_emptyRest <| inv_when inv_rateEnd <| inv_frame <| inv_setWork <| inv_relayout h

/-! ### Wake -/

theorem inv_reloadWords {p} (h : Inv s) : Inv (reloadWords p s) := inv_applySettings <| inv_foldl inv_depotWrite h

theorem inv_reloadBank {b p} (h : Inv s) : Inv (reloadBank b p s) := inv_reloadWords <| inv_clearWords h

theorem inv_reloadGains (h : Inv s) : Inv (reloadGains s) := inv_wr <| inv_reloadBank h

theorem inv_restartCore {n b} (h : Inv s) : Inv (restartCore n b s) :=
  inv_ite (inv_releaseCore (inv_applySettings (inv_reloadFirmware (inv_clearCore h)))) <| inv_ite (inv_reloadFirmware
    h) <| inv_ite h <| inv_sbxHold h

theorem inv_repairBank {b} (h : Inv s) : Inv (repairBank s b) := by
  unfold repairBank
  dsimp only
  split
  · exact inv_restartCore h
  · exact inv_restartCore h
  · exact inv_setF <| inv_reloadBank h
  · exact inv_setF <| inv_reloadGains h
  · exact inv_clearWords <| inv_clearWords <| inv_frame h
  · exact inv_clearWords h
  · exact inv_ttbCond <| inv_countQueue <| inv_clearWords <| inv_frame h
  · exact inv_setF <| inv_reloadBank h
  · exact inv_setF <| inv_clearWords h
  · exact inv_reloadBank h
  · exact inv_clearWords h
  · exact inv_applySettings <| inv_applyEvents <| inv_clearWords h
  · exact inv_applySettings <| inv_measure h
  · exact inv_restartCore h

theorem inv_checkBank {b} (h : Inv s) : Inv (checkBank s b) :=
  inv_ite (inv_subCond (inv_satF (inv_setBit (inv_incF h)))) <| inv_incF h

theorem inv_upset {x} (h : Inv s) : Inv (upset s x) := inv_ite (inv_wr (inv_when inv_putPow h)) h

theorem inv_laneWake {i} (h : Inv s) : Inv (laneWake s i) :=
  inv_ite (inv_laneChange (inv_cutParks h)) <| inv_tryLeaveDark <| inv_settleLane <| inv_setF <| inv_cutParks h

theorem inv_noteTry {cause} (h : Inv s) : Inv (noteTry cause s) := inv_setF <| inv_setF h

theorem inv_fullSteps (h : Inv s) : Inv (fullSteps s) := inv_settleSetpoints <| inv_pllsLocked h

theorem inv_wakeToStanding {cause upsets} (h : Inv s) : Inv (wakeToStanding cause upsets s) := by
  refine inv_ite h <| inv_ite (inv_requestState ?hs) ?hs
  exact inv_rateDue <| inv_foldl inv_laneWake <| inv_dataPlaneReset <| inv_when inv_replan <| inv_foldl
      inv_repairBank <| inv_endTransit <| inv_stopPlane <| inv_yardLost <| inv_clearWatch <| inv_wakeDone <|
      inv_putPow <| inv_frame <| inv_powerDomains <| inv_when inv_fullSteps <| inv_foldl inv_checkBank <|
      inv_beginTransit <| inv_noteTry <| inv_foldl inv_upset h

theorem inv_abortWake {evt} (h : Inv s) : Inv (abortWake evt s) := by
  unfold abortWake
  refine inv_ite ?hs <| inv_setPstate <| inv_setF ?hs
  refine inv_putPow ?_
  split
  · exact inv_subCond <| inv_when inv_beginTransit <| inv_noteTry h
  · exact inv_when inv_beginTransit <| inv_noteTry h

theorem inv_regulatorTimeout (h : Inv s) : Inv (regulatorTimeout s) := inv_ite (inv_abortWake h) h

theorem inv_pllLockTimeout (h : Inv s) : Inv (pllLockTimeout s) := inv_ite (inv_abortWake h) h

theorem inv_subpgxTimeout (h : Inv s) : Inv (subpgxTimeout s) := inv_ite (inv_abortWake h) h

theorem inv_wakeRetry (h : Inv s) : Inv (wakeRetry s) :=
  inv_ite h <| inv_ite (inv_putPow h) <| inv_subCond <| inv_setF <| inv_when inv_setPend <| inv_putPow <| inv_frame h

theorem inv_domainReadyTimeout {d} (h : Inv s) : Inv (domainReadyTimeout d s) :=
  inv_ite (inv_districtReadyTimeout h) <| inv_ite h <| inv_ite (inv_abortWake h) <| inv_ite (inv_failStack (inv_setF
    h)) <| inv_subCond <| inv_when inv_putPow <| inv_requestStep <| inv_setF h

theorem inv_sampleStraps {mode adr} (h : Inv s) : Inv (sampleStraps mode adr s) := inv_setF <| inv_setF h

theorem inv_bootRegulators (h : Inv s) : Inv (bootRegulators s) := inv_foldl inv_setF h

theorem inv_powerUp {cause env} (h : Inv s) : Inv (powerUp cause env s) :=
  inv_lampUp <| inv_bootRegulators <| inv_drawNonce <| inv_resetRecord <| inv_foldl inv_aoPowerUp <| inv_sampleStraps
    <| inv_frame <| inv_resetAll h

theorem inv_powerOnReset {env} (h : Inv s) : Inv (powerOnReset env s) := inv_powerUp h

theorem inv_offExit {env} (h : Inv s) : Inv (offExit env s) := inv_ite (inv_powerUp h) h

theorem inv_wakeNLow {ms edges env} (h : Inv s) : Inv (wakeNLow ms edges env s) :=
  inv_ite (inv_ite (inv_offExit h) h) <| inv_wakePin h

theorem inv_pinReset (h : Inv s) : Inv (pinReset s) := inv_fullReset <| inv_mastersReset h

theorem inv_resetNLow {ns env} (h : Inv s) : Inv (resetNLow ns env s) :=
  inv_ite h <| inv_ite (inv_ite (inv_offExit h) (inv_pinReset h)) <| inv_ite (inv_ite (inv_offExit (inv_frame h))
    (inv_pinReset (inv_frame h))) <| inv_frame h

theorem inv_sbxWatchdog (h : Inv s) : Inv (sbxWatchdog s) :=
  inv_ite h <| inv_fullReset <| inv_quiesce <| inv_mastersReset <| inv_raise h

theorem inv_hostReset (h : Inv s) : Inv (hostReset s) :=
  inv_fullReset <| inv_quiesce <| inv_mastersReset <| inv_resignNow h

theorem inv_crystalSwitch (h : Inv s) : Inv (crystalSwitch s) := inv_ite (inv_putPow h) h

theorem inv_crystalTimeout (h : Inv s) : Inv (crystalTimeout s) :=
  inv_ite (inv_clockResult (inv_clockResult (inv_putPow h))) h

theorem inv_vaonLoss (h : Inv s) : Inv (vaonLoss s) := inv_setF <| inv_resetAll h

theorem inv_sbxRestarted (h : Inv s) : Inv (sbxRestarted s) :=
  inv_ite (inv_raise (inv_setSbx (inv_coreStart (inv_reloadFirmware h)))) h

/-! ### Mgmt -/

theorem inv_putMgt {x} (h : Inv s) : Inv (putMgt x s) := inv_frame h

theorem inv_answerAt {f st addr pay} (h : Inv s) : Inv (answerAt f st addr pay s) :=
  inv_when inv_flagAll <| inv_putMgt h

theorem inv_answer {f st pay} (h : Inv s) : Inv (answer f st pay s) := inv_answerAt h

theorem inv_frameDiscard {fld e} (h : Inv s) : Inv (frameDiscard fld e s) := inv_incF <| inv_flagAll <| inv_putMgt h

theorem inv_requestFrame {bs} (h : Inv s) : Inv (requestFrame bs s) := by
  refine inv_ite h <| inv_ite (inv_frameDiscard h) <| inv_ite (inv_frameDiscard (inv_putMgt h)) <| inv_ite ?hs <|
      inv_answer ?hs
  exact inv_incF <| inv_putMgt <| inv_frame <| inv_putMgt h

theorem inv_statusSelector (h : Inv s) : Inv (statusSelector s) := inv_ite h <| inv_putMgt h

theorem inv_responseRead {n} (h : Inv s) : Inv (responseRead n s) := inv_ite h <| inv_putMgt h

theorem inv_runOp {op lenOk run} (hrun : ∀ {x0 s}, Inv s → Inv (run x0 s)) (h : Inv s) : Inv (runOp op lenOk run s)
    := by
  unfold runOp
  split
  · exact h
  · exact inv_ite h <| inv_ite (inv_answer h) <| inv_ite (inv_answer h) <| hrun h

theorem inv_mgtReads {late fuel a n acc} (h : Inv s) : Inv (mgtReads late fuel a n acc s).2 := by
  induction fuel generalizing late a n acc s with
  | zero => exact h
  | succ fuel ih =>
    cases n with
    | zero => exact h
    | succ n =>
      have hb : Inv (burstRead 10 a (Nat.min 16 (n + 1)) {} (countIssue 10 s)).2 := inv_burstRead <| inv_countIssue h
      unfold mgtReads
      dsimp only
      exact inv_ite_snd (inv_noteError (inv_countIssue h)) <| inv_ite_snd (ih hb) hb

theorem inv_mgtWrites {late fuel a ws done} (h : Inv s) : Inv (mgtWrites late fuel a ws done s).2 := by
  induction fuel generalizing late a ws done s with
  | zero => exact h
  | succ fuel ih =>
    cases ws with
    | nil => exact h
    | cons w t =>
      have hb : Inv (burstWrite 10 a ((w :: t).take 16) {} (countIssue 10 s)).2 := inv_burstWrite <| inv_countIssue h
      unfold mgtWrites
      dsimp only
      exact inv_ite_snd (inv_noteError (inv_lateWrite (inv_countIssue h))) <| inv_ite_snd (ih hb) hb

theorem inv_readRun {late f} (h : Inv s) : Inv (readRun late f s) :=
  inv_ite (inv_answer h) <| inv_ite h <| inv_answerAt <| inv_mgtReads h

theorem inv_writeRun {late f} (h : Inv s) : Inv (writeRun late f s) :=
  inv_ite (inv_answer h) <| inv_ite h <| inv_answerAt <| inv_mgtWrites h

theorem inv_mgtRead {late} (h : Inv s) : Inv (mgtRead late s) := inv_runOp inv_readRun h

theorem inv_mgtWrite {late} (h : Inv s) : Inv (mgtWrite late s) := inv_runOp inv_writeRun h

theorem inv_withSbx {run f} (hrun : ∀ {x0 s}, Inv s → Inv (run x0 s)) (h : Inv s) : Inv (withSbx run f s) :=
  inv_ite (inv_answer h) <| inv_ite (hrun h) h

theorem inv_sbxWaitTimeout (h : Inv s) : Inv (sbxWaitTimeout s) := by
  unfold sbxWaitTimeout
  split
  · exact inv_ite (inv_answer h) h
  · exact h

theorem inv_recordSetting {a ws} (h : Inv s) : Inv (recordSetting a ws s) := inv_frame h

theorem inv_configRun {late f} (h : Inv s) : Inv (configRun late f s) :=
  inv_ite (inv_answer h) <| inv_ite h <| inv_answerAt <| inv_ite (inv_mgtWrites h) <| inv_flagAll <| inv_mirrorChange
    <| inv_setF <| inv_setF <| inv_recordSetting <| inv_mgtWrites h

theorem inv_configWrite {late} (h : Inv s) : Inv (configWrite late s) := inv_runOp (inv_withSbx inv_configRun) h

theorem inv_mgtStatus (h : Inv s) : Inv (mgtStatus s) := inv_runOp inv_answer h

theorem inv_setStateRun {f} (h : Inv s) : Inv (setStateRun f s) := inv_answer <| inv_requestState h

theorem inv_mgtSetState (h : Inv s) : Inv (mgtSetState s) := inv_runOp inv_setStateRun h

theorem inv_consistRun {f} (h : Inv s) : Inv (consistRun f s) := inv_answer h

theorem inv_mgtConsist (h : Inv s) : Inv (mgtConsist s) := inv_runOp (inv_withSbx inv_consistRun) h

theorem inv_attestRun {f} (h : Inv s) : Inv (attestRun f s) := by
  have ha : Inv (attest (framePay f) s).2 := inv_attest h
  exact inv_answer ha

theorem inv_whenServed {run f} (hrun : ∀ {x0 s}, Inv s → Inv (run x0 s)) (h : Inv s) : Inv (whenServed run f s) :=
  inv_ite h <| hrun h

theorem inv_mgtAttest (h : Inv s) : Inv (mgtAttest s) := inv_runOp (inv_whenServed inv_attestRun) h

theorem inv_certRun {f} (h : Inv s) : Inv (certRun f s) := inv_answer <| inv_debugCertTake h

theorem inv_mgtDebugCert (h : Inv s) : Inv (mgtDebugCert s) := inv_runOp (inv_whenServed inv_certRun) h

theorem inv_resetAccepted (h : Inv s) : Inv (resetAccepted s) := inv_flagAll h

theorem inv_fullResetRun {f} (h : Inv s) : Inv (fullResetRun f s) :=
  inv_ite (inv_hostReset (inv_resetAccepted (inv_putMgt h))) <| inv_answer h

theorem inv_mgtFullReset (h : Inv s) : Inv (mgtFullReset s) := inv_runOp inv_fullResetRun h

theorem inv_mgtPlaneReset (h : Inv s) : Inv (mgtPlaneReset s) :=
  inv_runOp (fun h => inv_answer <| inv_dataPlaneReset <| inv_resetAccepted h) h

theorem inv_trackResetRun {f} (h : Inv s) : Inv (trackResetRun f s) :=
  inv_ite (inv_answer h) <| inv_answer <| inv_settleLane <| inv_trackReset <| inv_resetAccepted h

theorem inv_mgtTrackReset (h : Inv s) : Inv (mgtTrackReset s) := inv_runOp inv_trackResetRun h

/-! ### Install -/

theorem inv_clearStage (h : Inv s) : Inv (clearStage s) := inv_putCpl h

theorem inv_mdata {cseq addr ws} (h : Inv s) : Inv (mdata cseq addr ws s) :=
  inv_ite h <| inv_putCpl <| inv_when inv_putReservedWords <| inv_ite h <| inv_clearStage h

theorem inv_sendMack {cseq result} (h : Inv s) : Inv (sendMack cseq result s) := inv_queueAny <| inv_setF h

theorem inv_applyRun {x} (h : Inv s) : Inv (applyRun s x) :=
  inv_when inv_cplCond <| inv_recordSetting <| inv_mgtWrites h

theorem inv_applyRuns {c rs} (h : Inv s) : Inv (applyRuns c rs s) := by
  induction rs generalizing s with
  | nil => exact inv_sendMack <| inv_setF <| inv_setF <| inv_setF h
  | cons x t ih => exact inv_ite (inv_setF (inv_putCpl h)) <| ih <| inv_applyRun h

theorem inv_applyCommit {c} (h : Inv s) : Inv (applyCommit c s) := inv_applyRuns h

theorem inv_mirrorGap {cseq} (h : Inv s) : Inv (mirrorGap cseq s) := inv_waitJoin <| inv_cplCond <| inv_sendMack h

theorem inv_takeCommit {c} (h : Inv s) : Inv (takeCommit c s) :=
  inv_ite (inv_applyCommit h) <| inv_ite (inv_sendMack h) <| inv_mirrorGap h

theorem inv_takeCommits {cs} (h : Inv s) : Inv (takeCommits cs s) := by
  induction cs generalizing s with
  | nil => exact inv_setF h
  | cons c t ih => exact inv_ite (ih (inv_takeCommit h)) <| inv_putCpl <| inv_takeCommit h

theorem inv_takeWaiting (h : Inv s) : Inv (takeWaiting s) := inv_takeCommits <| inv_putCpl h

theorem inv_mcommit {cseq tag crc count} (h : Inv s) : Inv (mcommit cseq tag crc count s) := by
  refine inv_ite h <| inv_ite (inv_cplCond (inv_sendMack (inv_clearStage h))) <| inv_ite ?hs <| inv_ite
      (inv_mirrorGap (inv_clearStage h)) <| inv_ite (inv_applyCommit (inv_clearStage h)) ?hs
  exact inv_setF <| inv_putCpl <| inv_clearStage h

theorem inv_jdata {run addr ws} (h : Inv s) : Inv (jdata run addr ws s) := inv_ite h <| inv_putCpl h

theorem inv_installField {a f w} (h : Inv s) : Inv (installField a f w s) := inv_setF h

theorem inv_installWord {a w} (h : Inv s) : Inv (installWord a w s) :=
  inv_ite (inv_wr h) <| inv_ite (inv_installField (inv_installField h)) <| inv_ite (inv_installField (inv_installField
    h)) <| inv_ite (inv_installField h) <| inv_ite (inv_installField h) <| inv_ite (inv_frame h) <| inv_ite
    (inv_frame h) <| inv_ite h <| inv_ite (inv_wr h) <| inv_wr h

theorem inv_installWords {x} (h : Inv s) : Inv (installWords s x) := inv_foldl inv_installWord h

theorem inv_rebuildQueue (h : Inv s) : Inv (rebuildQueue s) := inv_countQueue <| inv_frame h

theorem inv_rebuildRake {g} (h : Inv s) : Inv (rebuildRake s g) := inv_setSpans h

theorem inv_rebuildCapture {c} (h : Inv s) : Inv (rebuildCapture s c) :=
  inv_ite (inv_putCapture (inv_wr h)) <| inv_putCapture <| inv_wr h

theorem inv_replayRecord {r} (h : Inv s) : Inv (replayRecord s r) := by
  unfold replayRecord
  dsimp only
  split
  · exact inv_epochRecord h
  · exact inv_inbandEntry h
  · exact inv_inbandEntry h
  · exact inv_sethdr h
  · exact inv_delayRecord h
  · exact h

theorem inv_replayDue {code key arg} (h : Inv s) : Inv (replayDue code key arg s) := by
  unfold replayDue
  split
  · exact inv_ite (inv_removeEntry h) h
  · exact h

theorem inv_dropPast {f} (h : Inv s) : Inv (dropPast f s) := inv_foldl inv_removeEntry h

theorem inv_replayItem {x} (h : Inv s) : Inv (replayItem s x) := by
  unfold replayItem
  split
  · exact inv_replayRecord <| inv_dropPast h
  · exact inv_replayDue h

theorem inv_installCut (h : Inv s) : Inv (installCut s) :=
  inv_setJstate <| inv_putCpl <| inv_set2 <| inv_dropPast <| inv_foldl inv_replayItem <| inv_putCpl <| inv_foldl
    inv_rebuildCapture <| inv_foldl inv_rebuildRake <| inv_rebuildQueue <| inv_frame <| inv_wr <| inv_foldl
    inv_installWords h

theorem inv_jcommit {crc count} (h : Inv s) : Inv (jcommit crc count s) :=
  inv_ite h <| inv_ite (inv_putCpl h) <| inv_ite (inv_joinFail h) <| inv_ite (inv_takeWaiting (inv_installCut h)) <|
    inv_installCut h

theorem inv_joinStep (h : Inv s) : Inv (joinStep s) := by
  unfold joinStep
  refine inv_ite h ?_
  dsimp only
  split
  · exact inv_ite (inv_jcommit (inv_putCpl (inv_joinReached h))) <| inv_joinReached h
  · exact inv_joinReached h

theorem inv_releaseNext (h : Inv s) : Inv (releaseNext s) := inv_joinReady <| inv_joinStep <| inv_releaseBlock h

theorem inv_blockRelease (h : Inv s) : Inv (blockRelease s) := inv_ite (inv_releaseNext h) h

theorem inv_arrSkewExpiry (h : Inv s) : Inv (arrSkewExpiry s) := inv_ite (inv_releaseNext h) h

theorem inv_nominalRelease (h : Inv s) : Inv (nominalRelease s) := inv_ite (inv_releaseNext h) h

theorem inv_commitsGoOn (h : Inv s) : Inv (commitsGoOn s) := inv_ite (inv_takeWaiting h) h

theorem inv_sbxInService (h : Inv s) : Inv (sbxInService s) :=
  inv_ite (inv_commitsGoOn (inv_applySettings (inv_setSbx h))) h

/-! ### Tick -/

theorem inv_advanceTick {n} (h : Inv s) : Inv (advanceTick n s) := inv_set2 h

theorem inv_countLclk (h : Inv s) : Inv (countLclk s) := inv_set2 h

theorem inv_tclkTick (h : Inv s) : Inv (tclkTick s) :=
  inv_sbxInService <| inv_when inv_countLclk <| inv_advanceTick <| inv_frame h

theorem inv_lclkTick (h : Inv s) : Inv (lclkTick s) := inv_countLclk <| inv_advanceTick <| inv_frame h

theorem inv_idleTick (h : Inv s) : Inv (idleTick s) := inv_ite h <| inv_ite (inv_lclkTick h) <| inv_tclkTick h

/-! ### Execution and the step -/

/-- The invariant of what an execution answers: of its next state, where it answers one. -/
def OutInv : Host.Outcome State Fault Refusal → Prop
  | .next t => Inv t
  | _ => True

theorem inv_exec (h : Inv s) : ∀ c : Instr, OutInv (exec c s)
  | .registerWrite .. | .tableWindowWrite .. | .trkEqWrite .. | .psegBankWrite .. | .apertureAccess _ _ (some _) |
    .beamDelayBankWrite .. | .doorbellWrite .. | .codeMemoryWrite .. | .coreRegsAccess _ _ _ (some _) |
    .aoTargetWrite .. | .flashRead .. | .flashProgram .. | .flashErase .. => inv_writeAccess h
  | .loWordLatchRead .. | .yardDebugRead .. | .apertureAccess _ _ none | .coreRegsAccess _ _ _ none |
    .eventQueueRead .. => inv_readAccess h
  | .dwellStart .. => inv_dwellStart h
  | .promotionSweep .. => inv_promotionSweep h
  | .flushComplete .. => inv_flushComplete h
  | .drainRow .. => inv_drainRow h
  | .platformSwitch .. => inv_platformSwitch h
  | .forceDrain .. | .trkEnSet .. | .trkEnClear .. | .trkTrst .. | .trkPersWrite .. | .trkTestWrite .. |
    .prbsClear .. | .psegTagWrite .. | .psegChkWrite .. | .coefReadyMark .. | .gainReadyMark .. | .ptsIcntClear .. |
    .framingCounterClear .. | .sdgRateWrite .. | .pasrRequest .. | .pasrRelease .. | .tmnCounterClear .. |
    .beamDtagWrite .. | .beamDchkWrite .. | .beamGainReadyMark .. | .tblCounterClear .. | .enqueueSubmit .. |
    .coreRunSet .. | .coreRunClear .. | .coreReset .. | .sbxRestart .. | .watchdogKick .. | .shunterGo .. |
    .shunterStop .. | .eventInject .. | .cplPromote .. | .cplResign .. | .cplJoin .. | .targetWrite .. |
    .aoRangeChange .. | .aoFaultForce .. | .aoClearFault .. => inv_fieldWrite h
  | .feedParityError .. => inv_feedParity h
  | .workingSetChange .. => inv_workingSetChange h
  | .districtReady .. => inv_districtReady h
  | .districtReadyTimeout .. => inv_districtReadyTimeout h
  | .prbsLock .. | .prbsLoss .. => inv_prbsReceive h
  | .energyPresent .. => inv_energyPresent h
  | .cdrLock .. => inv_cdrLock h
  | .signalTimeout .. => inv_signalTimeout h
  | .commaReceive .. => inv_commaReceive h
  | .commaTimeout .. => inv_commaTimeout h
  | .alignmentLoss .. => inv_alignmentLoss h
  | .frameAcquired .. => inv_frameAcquired h
  | .frameTimeout .. => inv_frameTimeout h
  | .handshakeTimeout .. => inv_handshakeTimeout h
  | .tokenLoss .. => inv_tokenLoss h
  | .energyLost .. => inv_energyLost h
  | .retryHoldoffEnd .. => inv_retryHoldoffEnd h
  | .rateAbort .. => inv_rateAbort h
  | .qpllLost .. => inv_qpllLost h
  | .qpllRelock .. => inv_qpllRelock h
  | .rxlinkChange .. => inv_rxlinkChange h
  | .uncorrRunLimit .. => inv_uncorrRunLimit h
  | .trainTransmit .. => inv_trainTransmit h
  | .dataTrainReceive .. | .fillerReceive .. | .timetableTrainReceive .. | .testTrainReceive .. |
    .couplingTrainReceive .. => inv_trainReceive inv_couplingTrain h
  | .fillerMiss .. => inv_fillerMiss h
  | .uncorrectableTrain .. => inv_uncorrectable h
  | .blockRelease .. => inv_blockRelease h
  | .arrSkewExpiry .. => inv_arrSkewExpiry h
  | .nominalRelease .. => inv_nominalRelease h
  | .timetableTrainProcess .. => inv_timetableTrainProcess h
  | .epoch .. => inv_applyRec inv_epochRecord h
  | .action .. | .trigger .. => inv_applyRec inv_inbandEntry h
  | .sethdr .. => inv_applyRec inv_sethdr h
  | .delay .. => inv_applyRec inv_delayRecord h
  | .pointsBlockFilter .. => inv_pointsBlockFilter h
  | .busCorrReport .. => inv_busCorrReport h
  | .fastBlockEnd .. => inv_joinStep <| inv_fastBlocks h
  | .kurtosisBlockEnd .. => inv_joinStep <| inv_kurtosisBlocks h
  | .gaugeSnapshot .. => inv_joinStep <| inv_gaugeSnapshot h
  | .hbmReadComplete .. => inv_hbmReadComplete h
  | .refresh .. => inv_ite h h
  | .stackTrainingStart .. => inv_stackTrainingStart h
  | .trainingStepTimeout .. => inv_commitsGoOn <| inv_trainingStepTimeout h
  | .trainingComplete .. => inv_commitsGoOn <| inv_trainingComplete h
  | .phyLockLoss .. | .caParityLimit .. => inv_retrainInPlace h
  | .caParityError .. => inv_caParityError h
  | .sdgRateAbort .. => inv_rateAbortSdg h
  | .srExitTimeout .. => inv_srExitTimeout h
  | .captureStreamStart .. => inv_captureStreamStart h
  | .capturePieceRead .. => inv_capturePieceRead h
  | .captureRelease .. => inv_captureRelease h
  | .scrubRead .. => inv_scrubRead h
  | .stackTempRead .. => inv_stackTempRead h
  | .consignmentBoundary .. => inv_consignmentBoundary h
  | .beamSampleForm .. => inv_beamSampleForm h
  | .integrationEnd .. => inv_integrationEnd h
  | .beamFrameEmit .. => inv_beamFrameEmit h
  | .ptsCswap .. => inv_deliverDue inv_ptsCswapDue h
  | .ptsGswap .. => inv_deliverDue inv_ptsGswapDue h
  | .tblGswap .. => inv_deliverDue inv_tblGswapDue h
  | .tblDswap .. => inv_deliverDue inv_tblDswapDue h
  | .rakeOpen .. => inv_deliverDue inv_rakeOpenDue h
  | .rakeClose .. => inv_deliverDue inv_rakeCloseDue h
  | .capture .. => inv_deliverDue inv_captureDue h
  | .snapshot .. => inv_deliverDue inv_snapshotDue h
  | .mark .. => inv_deliverDue inv_markDue h
  | .dpReset .. => inv_dpReset h
  | .dprBackHalf .. => inv_dprBackHalf h
  | .snapshotCopyDone .. => inv_snapshotCopyDone h
  | .trefLoss .. => inv_trefLoss h
  | .trefReturn .. => inv_trefReturn h
  | .ppsEdge .. => inv_ppsEdge h
  | .ppsTimeout .. => inv_ppsTimeout h
  | .nop .. => inv_issue (fun h => h) h
  | .idle .. => inv_issue (fun h => inv_ite (inv_setMode h) h) h
  | .idleWake .. => inv_idleWake h
  | .halt .. => inv_issue inv_haltCore h
  | .rti .. => inv_issue (fun h => inv_inFlight <| inv_setPc h) h
  | .sync .. => inv_issue (fun h => inv_ite h <| inv_modCore h) h
  | .trap .. => inv_issue inv_setTrap h
  | .bxclr .. | .movk .. | .cshr .. | .mova .. => inv_issue inv_inFlight h
  | .add .. | .addc .. | .sub .. | .subb .. | .neg .. | .addi .. => inv_issue inv_aluAll h
  | .and .. | .or .. | .xor .. | .andn .. | .shl .. | .shr .. | .shrl .. | .min .. | .max .. | .minu .. | .maxu .. |
    .not .. | .clz .. | .andi .. | .ori .. | .xori .. | .shli .. | .shri .. | .shrli .. => inv_issue inv_aluZN h
  | .cmp .. | .cmpi .. => inv_issue inv_flagsOnly h
  | .mull .. | .mulh .. | .mulhu .. => inv_issue inv_mulZN h
  | .abs .. => inv_issue (fun h => inv_setStat <| inv_aluZN h) h
  | .cadd .. | .csub .. | .cmulr .. | .cmulj .. | .cneg .. => inv_issue inv_cplxSat h
  | .cconj .. => inv_issue (fun h => inv_ite (inv_cplxPlain (inv_frame h)) <| inv_cplxPlain h) h
  | .cswap .. => inv_issue inv_cplxPlain h
  | .cmag2 .. => inv_issue (fun h => inv_when inv_setStat <| inv_cplxPlain h) h
  | .mva .. => inv_issue (fun h => inv_when inv_putAccu <| inv_cplxSat h) h
  | .movx .. => inv_issue (fun h => inv_ite (inv_inFlight h) <| inv_inFlight h) h
  | .ld .. => inv_ite h <| inv_issue inv_loadWord h
  | .st .. => inv_ite h <| inv_issue inv_storeWord h
  | .br .. => inv_issue inv_branchTo h
  | .call .. => inv_issue (fun h => inv_ite (inv_branchTo (inv_inFlight h)) <| inv_branchTo h) h
  | .jr .. => inv_issue (fun h => inv_ite (inv_ite (inv_branchTo h) (inv_setTrap h)) <| inv_branchTo h) h
  | .loopi .. | .loopr .. => inv_issue inv_loopTo h
  | .macl .. | .mpyl .. => inv_ite h <| inv_issue inv_macWith h
  | .ldd .. => inv_ite h <| inv_issue (fun h => inv_ite (inv_setTrap h) <| inv_dualLoad h) h
  | .interruptEntry .. => inv_interruptEntry h
  | .trapEntry .. => inv_trapEntry h
  | .farLoadResponse .. => inv_farLoad h
  | .farStoreResponse .. => inv_farStore h
  | .fetchUncorrectable .. => inv_fetchUncorrectable h
  | .lockstepMismatch .. => inv_lockstepMismatch h
  | .coreTimerExpiry .. => inv_timerExpiry h
  | .dispatcherWatchdog .. => inv_dspWatchdog h
  | .sbxWatchdog .. => inv_sbxWatchdog h
  | .corePatrolRead .. => inv_ite (inv_patrolRead h) h
  | .transactionAdmit .. => inv_transactionAdmit h
  | .transactionResponse .. => inv_transactionResponse h
  | .transactionTimeout .. => inv_transactionTimeout h
  | .shunterDescriptorRead .. => inv_shunterDescriptorRead h
  | .shunterBurstComplete .. => inv_shunterBurstComplete h
  | .requestFrameWrite .. => inv_requestFrame h
  | .statusSelector .. => inv_statusSelector h
  | .responseRead .. => inv_responseRead h
  | .read .. => inv_mgtRead h
  | .write .. => inv_mgtWrite h
  | .configWrite .. => inv_configWrite h
  | .status .. => inv_mgtStatus h
  | .setState .. => inv_mgtSetState h
  | .consist .. => inv_mgtConsist h
  | .attest .. => inv_mgtAttest h
  | .debugCert .. => inv_mgtDebugCert h
  | .fullReset .. => inv_mgtFullReset h
  | .dataPlaneReset .. => inv_mgtPlaneReset h
  | .trackReset .. => inv_mgtTrackReset h
  | .sbxWaitTimeout .. => inv_sbxWaitTimeout h
  | .injClear .. | .injTrainCodeword .. | .injPointsResidue .. | .injSShape .. | .injHbmParity .. | .injRowParity ..
    | .injColumnParity .. | .injCellAccumulator .. | .injYardCodeword .. | .injPromotionResidue .. |
    .injTurntableResidue .. | .injBusCode .. | .injCoreMemory .. | .injLockstep .. | .injClockMonitor .. |
    .injRetentionSignature .. | .injMirrorCrc .. => inv_injWrite h
  | .injectionApply .. => inv_injectionApply h
  | .injectionExpire .. => inv_injectionExpire h
  | .clockMonitorWindow .. => inv_clockWindow h
  | .role .. => inv_roleReceive h
  | .health .. => inv_healthReceive h
  | .mdata .. => inv_mdata h
  | .mcommit .. => inv_mcommit h
  | .mack .. => inv_mack h
  | .mackTimeout .. => inv_mackTimeout h
  | .jreq .. => inv_jreq h
  | .jgrant .. => inv_jgrant h
  | .jdata .. => inv_jdata h
  | .jcommit .. => inv_jcommit h
  | .jcommitTimeout .. => inv_jcommitTimeout h
  | .jreqRetry .. => inv_jreqRetry h
  | .resign .. => inv_resignReceive h
  | .takeover .. => inv_takeoverReceive h
  | .couplingTrainSend .. => inv_couplingTrainSend h
  | .couplingLoss .. => inv_couplingLoss h
  | .bootRoleTimeout .. => inv_bootRoleTimeout h
  | .notchingUp .. => inv_notchingUp h
  | .runningToStanding .. => inv_runningToStanding h
  | .haltEntry .. => inv_haltEntry h
  | .laidUpEntry .. => inv_laidUpEntry h
  | .offEntry .. => inv_offEntry h
  | .wakeToStanding .. => inv_wakeToStanding h
  | .loadStepStart .. => inv_loadStepStart h
  | .regulatorTimeout .. => inv_regulatorTimeout h
  | .pllLockTimeout .. => inv_pllLockTimeout h
  | .subpgxTimeout .. => inv_subpgxTimeout h
  | .domainReadyTimeout .. => inv_domainReadyTimeout h
  | .wakeRetry .. => inv_wakeRetry h
  | .watchStart .. => inv_watchStart h
  | .watchEnd .. => inv_watchEnd h
  | .wakeNLow .. => inv_wakeNLow h
  | .lampAlarm .. => inv_lampAlarm h
  | .resetNLow .. => inv_resetNLow h
  | .powerOnReset .. => inv_powerOnReset h
  | .offExit .. => inv_offExit h
  | .crystalSwitch .. => inv_crystalSwitch h
  | .crystalTimeout .. => inv_crystalTimeout h
  | .aoRangeSettle .. => inv_aoRangeSettle h
  | .aoSlewTick .. => inv_aoSlewTick h
  | .aoHeadroomCheck .. => inv_aoHeadroom h
  | .monConversion .. => inv_monConversion h
  | .boot .. => inv_boot h
  | .flashOpComplete .. => inv_flashComplete h
  | .flashTimeout .. => inv_flashTimeout h
  | .sbxRestarted .. => inv_sbxRestarted h
  | .vaonLoss .. => inv_vaonLoss h
  | .jtagInstruction .. => inv_jtag h

theorem queueWf_tail {c : Instr} {rest : List Instr} (hp : s.pending = c :: rest) (h : queueWf s = true) :
    queueWf { s with pending := rest } = true := by
  rw [queueWf, hp, List.all_cons, Bool.and_eq_true] at h
  exact h.2

/-- Taking the front command off the queue keeps the invariant. -/
theorem inv_popFront {c : Instr} {rest : List Instr} (hp : s.pending = c :: rest) (h : Inv s) :
    Inv { s with pending := rest } := ⟨queueWf_tail hp h.1, h.2⟩

theorem inv_step (h : Inv s) : OutInv (step s) := by
  unfold step
  split
  · exact inv_idleTick h
  · next c rest hp => exact inv_exec (inv_popFront hp h) c

end

/-- Settles O58: a step is the clock's tick or the execution of the front command, and each keeps the invariant, built
up from the writes of the stores through every function of the model. -/
theorem everyStepKeepsTheInvariant : Obligations.EveryStepKeepsTheInvariant := by
  intro s t h ht
  have hs := inv_step h
  rwa [ht] at hs

/-- Settles O57: after reset no command waits, and no store lists an entry. -/
theorem invariantHoldsAtReset : Obligations.InvariantHoldsAtReset :=
  inv_iff.2 ⟨rfl, Store.wf_nil _, Store.wf_nil _, Store.wf_nil _, Store.wf_nil _, Store.wf_nil _⟩

/-! ### One transaction of one word -/

section
variable {s t : State} {m a b : Nat}

theorem rd_countIssue (h : a ≠ R.ILK_MST m) : rd a (countIssue m s) = rd a s := rd_setF_other _ _ h

theorem getF_countIssue {f : Fld} (h : a + f.sub ≠ R.ILK_MST m) : getF a f (countIssue m s) = getF a f s :=
  getF_congr (rd_countIssue h)

theorem only_countIssue : Only [] (fun b => b = R.ILK_MST m) s (countIssue m s) := only_setF _ _ _ _

theorem only_putAnswer (x : Answer) : Only [.ans] (fun _ => False) s (putAnswer m x s) := by
  refine ⟨rfl, fun p hp => ?_, fun _ _ => rfl⟩
  cases p
  case ans => exact absurd List.mem_cons_self hp
  all_goals rfl

@[simp] theorem answered_putAnswer (x : Answer) : answered m (putAnswer m x s) = x := Store.get_set_same _ _ _ _

theorem pstate_countIssue (hm : m < 16) : pstate (countIssue m s) = pstate s :=
  getF_countIssue (by simp only [R.SUB_STATE, R.ILK_MST, F.SUB_STATE_STATE]; omega)

theorem domState_countIssue (hm : m < 16) (d : Nat) : domState d (countIssue m s) = domState d s :=
  getF_countIssue (by simp only [R.SUB_DOM, R.ILK_MST, F.SUB_DOM_STATE]; omega)

theorem answers_countIssue (hm : m < 16) (k : Nat) (r : Range) : answers k a r (countIssue m s) = answers k a r s := by
  simp only [answers, pstate_countIssue hm, domState_countIssue hm]

theorem sealed_countIssue (hm : m < 16) : sealed (countIssue m s) = sealed s := by
  unfold sealed isSet
  rw [getF_countIssue]
  simp only [R.DEP_STATE, R.ILK_MST, F.DEP_STATE_SEALED]; omega

theorem ilkUp_countIssue (hm : m < 16) : ilkUp (countIssue m s) = ilkUp s := by
  have h : isSet R.DEP_STATE F.DEP_STATE_STEP (countIssue m s) = isSet R.DEP_STATE F.DEP_STATE_STEP s := by
    unfold isSet
    rw [getF_countIssue]
    simp only [R.DEP_STATE, R.ILK_MST, F.DEP_STATE_STEP]; omega
  simp only [ilkUp, pstate_countIssue hm, domState_countIssue hm, h]

/-- Below the paged aperture no access waits at port P3. -/
theorem p3Waits_below (h : a < 0x8000000) : p3Waits m a s = false := by
  rw [p3Waits, decide_eq_false (by omega), Bool.false_and, Bool.false_and]

theorem targetWrite_of_reaches (hr : Reaches m a s) (w : Word) : targetWrite m a w s = wordWrite m a w false s := by
  obtain ⟨r, ht, ha⟩ := hr
  simp only [targetWrite, ht, ha, if_true]

theorem targetRead_of_reaches (hr : Reaches m a s) : targetRead m a s = wordRead m a s := by
  obtain ⟨r, ht, ha⟩ := hr
  simp only [targetRead, ht, ha, if_true]

theorem reaches_countIssue (hm : m < 16) (hr : Reaches m a s) : Reaches m a (countIssue m s) := by
  obtain ⟨r, ht, ha⟩ := hr
  exact ⟨r, ht, (answers_countIssue hm m r).trans ha⟩

/-- A word write that its target takes is answered OKAY. -/
theorem writeAccess_okay {w : Word} (hm : m < 16) (hr : Reaches m a s) (ha : a < 0x8000000)
    (hw : wordWrite m a w false (countIssue m s) = (0, t)) : writeAccess m a w s = putAnswer m ⟨0, [], 1⟩ t := by
  have ht := (targetWrite_of_reaches (reaches_countIssue hm hr) w).trans hw
  simp only [writeAccess, p3Waits_below ha, burstWrite, ht, Burst.note, Burst.add, Burst.answer]
  rfl

/-- A word read that its target takes is answered OKAY, with the word. -/
theorem readAccess_okay {v : Word} (hm : m < 16) (hr : Reaches m a s) (ha : a < 0x8000000)
    (hw : wordRead m a (countIssue m s) = (0, v, t)) : readAccess m a s = putAnswer m ⟨0, [v], 1⟩ t := by
  have ht := (targetRead_of_reaches (reaches_countIssue hm hr)).trans hw
  simp only [readAccess, p3Waits_below ha, burstRead, ht, Burst.note, Burst.add, Burst.answer]
  rfl

/-! ### The register words -/

/-- Word `a` is no core memory, no window and no view: a register, or no content at all. -/
def RegisterWord (a : Nat) : Prop :=
  0x1000000 ≤ a ∧ a < 0x8000000 ∧ ¬ (0x1010100 ≤ a ∧ a < 0x1010120) ∧ ¬ (0x1041000 ≤ a ∧ a < 0x1041100)
    ∧ ¬ (0x3001000 ≤ a ∧ a < 0x3001400) ∧ ¬ (0x3010000 ≤ a ∧ a < 0x3020000) ∧ ¬ (0x3080000 ≤ a ∧ a < 0x30C0000)
    ∧ ¬ (0x3300000 ≤ a ∧ a < 0x3600000) ∧ ¬ (0x5100000 ≤ a ∧ a < 0x5500000)

theorem RegisterWord.below (h : RegisterWord a) : a < 0x8000000 := by
  obtain ⟨-, hb, -⟩ := h
  exact hb

theorem coreMemory_eq_none (h : 0x200000 ≤ a) : coreMemory a = none := by
  unfold coreMemory
  rw [if_neg (by omega), if_neg (by omega), if_neg (by omega)]

theorem windowAt_eq_none (h : RegisterWord a) : windowAt a s = none := by
  obtain ⟨-, -, -, -, h1, h2, h3, h4, -⟩ := h
  unfold windowAt
  rw [if_neg h1, if_neg h2, if_neg h3, if_neg (by omega), if_neg (by omega)]

/-- A write of a register word that has content goes by the register table. -/
theorem wordWrite_register (h : RegisterWord a) (hv : wordVoid a s = false) (w : Word) :
    wordWrite m a w false s = (0, regWrite1 m a w (!sealed s) s) := by
  have hwin : windowAt a s = none := windowAt_eq_none h
  obtain ⟨hlo, hhi, hsts, hbuf, -, -, -, -, hyrd⟩ := h
  simp only [wordWrite, coreMemory_eq_none (show 0x200000 ≤ a by omega), hsts, hbuf, hyrd, hv, hwin, if_false,
    Bool.or_false, if_neg (show ¬ 0x8000000 ≤ a by omega), Bool.false_eq_true,
    if_neg (show ¬ (0xF00000 ≤ a ∧ a < 0xF00900 ∧ 0x40 ≤ a % 0x100 ∧ a % 0x100 < 0x80) by omega)]

end

/-! ### The fields of a word after a write -/

/-- Two fields of a word share no bit. -/
def Apart (f g : Fld) : Prop := f.lo + f.w ≤ g.lo ∨ g.lo + g.w ≤ f.lo

/-- The fields lie within a word and share no bit. -/
def FieldsFit (l : List FieldDef) : Prop :=
  l.Pairwise (fun f g => Apart f.fld g.fld) ∧ ∀ f ∈ l, f.fld.lo + f.fld.w ≤ 40

/-- Every row of the register tables is laid out so. -/
theorem regBlock_fieldsFit (a : Nat) : ∀ d ∈ regBlock a, FieldsFit d.fields := by
  unfold FieldsFit Apart regBlock
  split
  case h_19 =>
    split
    · decide +kernel
    · simp
  all_goals decide +kernel

theorem regDef_fieldsFit {a : Nat} {d : WordDef} (h : regDef a = some d) : FieldsFit d.fields :=
  regBlock_fieldsFit a d (List.mem_of_find?_eq_some h)

section
variable {s : State} {a : Nat} {v x : Word} {free : Bool}

theorem bitsOf_lt (x : Word) (lo w : Nat) : bitsOf x lo w < 2 ^ w := Nat.mod_lt _ (by positivity)

theorem bitsOf_putBits_apart {f g : Fld} (n : Nat) (hf : f.lo + f.w ≤ 40) (h : Apart f g) :
    bitsOf (putBits x f.lo f.w n) g.lo g.w = bitsOf x g.lo g.w := by
  rcases h with h | h
  · exact bitsOf_putBits_above _ hf h
  · exact bitsOf_putBits_below _ hf h

/-- Field `d` of a word that a write of `v` finds with the value `old` (R7, R9). -/
def storedField (d : FieldDef) (a : Nat) (v : Word) (free : Bool) (s : State) (old : Nat) : Nat :=
  let n := bitsOf v d.fld.lo d.fld.w
  let set := if Fld.special a d.fld s || (d.zrej && n == 0) || !d.rule.holds a n v s then old else n
  match d.acc with
  | .ro => old
  | .wo => old
  | .w1c => old &&& (2 ^ d.fld.w - 1 - n)
  | .rw => set
  | .rwl => if sealed s && !free then old else set

/-- The store of one field leaves the fields apart from it. -/
theorem bitsOf_store_apart {d : FieldDef} {g : Fld} (hd : d.fld.lo + d.fld.w ≤ 40) (h : Apart d.fld g) :
    bitsOf (d.store a v free s x) g.lo g.w = bitsOf x g.lo g.w := by
  have hp (n : Nat) : bitsOf (putBits x d.fld.lo d.fld.w n) g.lo g.w = bitsOf x g.lo g.w :=
    bitsOf_putBits_apart n hd h
  unfold FieldDef.store
  dsimp only
  split
  · rfl
  · rfl
  · exact hp _
  · split
    · rfl
    · exact hp _
  · split
    · rfl
    · split
      · rfl
      · exact hp _

theorem bitsOf_store_same {d : FieldDef} (hd : d.fld.lo + d.fld.w ≤ 40) :
    bitsOf (d.store a v free s x) d.fld.lo d.fld.w = storedField d a v free s (bitsOf x d.fld.lo d.fld.w) := by
  obtain ⟨f, acc, zrej, rule⟩ := d
  have hp := fun n => bitsOf_putBits_same x f.lo f.w n hd
  have hv : bitsOf v f.lo f.w % 2 ^ f.w = bitsOf v f.lo f.w := Nat.mod_mod _ _
  have hc (n : Nat) : (bitsOf x f.lo f.w &&& n) % 2 ^ f.w = bitsOf x f.lo f.w &&& n :=
    Nat.mod_eq_of_lt (Nat.and_le_left.trans_lt (bitsOf_lt _ _ _))
  cases acc with
  | ro => rfl
  | wo => rfl
  | w1c => exact (hp _).trans (hc _)
  | rw =>
    simp only [FieldDef.store, storedField]
    split
    · rfl
    · exact (hp _).trans hv
  | rwl =>
    simp only [FieldDef.store, storedField]
    split
    · rfl
    · split
      · rfl
      · exact (hp _).trans hv

/-- The stores of fields apart from `g` leave it. -/
theorem bitsOf_foldl_store_apart {l : List FieldDef} {g : Fld} (h : ∀ d ∈ l, d.fld.lo + d.fld.w ≤ 40)
    (ha : ∀ d ∈ l, Apart d.fld g) :
    bitsOf (l.foldl (fun x d => d.store a v free s x) x) g.lo g.w = bitsOf x g.lo g.w := by
  induction l generalizing x with
  | nil => rfl
  | cons d t ih =>
    obtain ⟨hd, ht⟩ := List.forall_mem_cons.1 h
    obtain ⟨had, hat⟩ := List.forall_mem_cons.1 ha
    exact (ih ht hat).trans (bitsOf_store_apart hd had)

/-- After a write of its word, each field holds what its own store gives. -/
theorem bitsOf_foldl_store {l : List FieldDef} {f : FieldDef} (hl : FieldsFit l) (hf : f ∈ l) :
    bitsOf (l.foldl (fun x d => d.store a v free s x) x) f.fld.lo f.fld.w
      = storedField f a v free s (bitsOf x f.fld.lo f.fld.w) := by
  obtain ⟨hp, hw⟩ := hl
  induction l generalizing x with
  | nil => cases hf
  | cons d t ih =>
    obtain ⟨hd, ht⟩ := List.forall_mem_cons.1 hw
    obtain ⟨hdt, hpt⟩ := List.pairwise_cons.1 hp
    rw [List.foldl_cons]
    rcases List.mem_cons.1 hf with rfl | hf
    · rw [bitsOf_foldl_store_apart ht fun g hg => Or.symm (hdt g hg), bitsOf_store_same hd]
    · rw [ih hf hpt ht, bitsOf_store_apart hd (hdt f hf)]

end

/-! ### Raises, conditions and error records -/

section
variable {s : State} {b k j : Nat} {f : Fld}

theorem getBit_eq_getF (hk : k < f.w) : getBit b f k s = (getF b ⟨f.sub, f.lo + k, 1⟩ s == 1) := by
  obtain ⟨j, hj⟩ := Nat.exists_eq_add_of_lt hk
  unfold getBit getF bitsOf
  rw [hj, pow_add 2 f.lo k, ← Nat.div_div_eq_div_mul, add_assoc, pow_add 2 k, Nat.mod_mul_right_div_self,
    Nat.mod_mod_of_dvd _ (by rw [pow_succ]; exact Dvd.intro_left _ rfl), pow_one]

/-- Setting one bit of a field leaves the others. -/
theorem getBit_setBit_other (v : Bool) (hk : k < f.w) (hj : j < f.w) (hne : j ≠ k) (hf : f.lo + f.w ≤ 40) :
    getBit b f j (setBit b f k v s) = getBit b f j s := by
  rw [getBit_eq_getF hj, getBit_eq_getF hj, setBit, getF_setF_apart _ _ (by dsimp only; omega) (by dsimp only; omega)]

theorem getBit_congr {t : State} (h : rd (b + f.sub) t = rd (b + f.sub) s) : getBit b f k t = getBit b f k s := by
  unfold getBit
  rw [getF_congr h]

theorem isSet_congr {t : State} (h : rd (b + f.sub) t = rd (b + f.sub) s) : isSet b f t = isSet b f s := by
  unfold isSet
  rw [getF_congr h]

/-- The delivery of an event writes no word but the host log's. -/
theorem rd_deliver {a e : Nat} {inj : Bool} (h : a ≠ R.BEL_LOGPOS) (hl : ¬ (R.BEL_LOG ≤ a ∧ a < R.BEL_LOG + 1024)) :
    rd a (deliver e inj s) = rd a s := by
  have hw {c : Bool} {g : State → State} {t : State} (hg : rd a (g t) = rd a t) : rd a (when c g t) = rd a t := by
    cases c
    · rfl
    · exact hg
  have hq {c : Nat} {t : State} : rd a (enqueueEvent c e inj t) = rd a t :=
    (only_enqueueEvent c e inj t).2.2 a not_false
  unfold deliver
  exact (hw rfl).trans <| (hw ((only_logEvent _ _ _ _ _).2.2 a (not_or.2 ⟨h, hl⟩))).trans <| (hw hq).trans (hw hq)

/-- A raised event has its status set. -/
theorem raised_raise {e : Nat} (he : e < 1024) : Raised e (raise e s) := by
  have hd {t : State} : rd (R.BEL_SRC e) (deliver e false t) = rd (R.BEL_SRC e) t :=
    rd_deliver (by simp only [R.BEL_SRC, R.BEL_LOGPOS]; omega) (by simp only [R.BEL_SRC, R.BEL_LOG]; omega)
  have hs : getF (R.BEL_SRC e) F.BEL_SRC_STS
      (satF (R.BEL_SRC e) F.BEL_SRC_COUNT 1 (setF (R.BEL_SRC e) F.BEL_SRC_STS 1 s)) = 1 := by
    rw [satF, getF_setF_apart _ _ (by decide) (by decide), getF_setF_same _ _ _ _ (by decide)]
    rfl
  have hr : getF (R.BEL_SRC e) F.BEL_SRC_STS (raise e s) = 1 := by
    unfold raise raiseInj when
    split
    · exact (getF_congr hd).trans hs
    · exact hs
  unfold Raised isSet
  rw [hr]
  rfl

theorem getBit_raise {e : Nat} (h : ¬ bellWord e (b + f.sub)) : getBit b f k (raise e s) = getBit b f k s :=
  getBit_congr (rd_raise_other e s h)

/-- A sticky bit that is set has its bit, whether the event is raised each time or on the change alone. -/
theorem getBit_flagAll {e : Nat} (hk : k < f.w) (hf : f.lo + f.w ≤ 40) (h : ¬ bellWord e (b + f.sub)) :
    getBit b f k (flagAll b f k e s) = true :=
  (getBit_raise h).trans (getBit_setBit_same b f k true s hk hf)

theorem getBit_flagEvt {e : Nat} (hk : k < f.w) (hf : f.lo + f.w ≤ 40) (h : ¬ bellWord e (b + f.sub)) :
    getBit b f k (flagEvt b f k e s) = true := by
  unfold flagEvt
  split
  · assumption
  · exact getBit_flagAll hk hf h

theorem getBit_flagEvt_other {e : Nat} (hk : k < f.w) (hj : j < f.w) (hne : j ≠ k) (hf : f.lo + f.w ≤ 40)
    (h : ¬ bellWord e (b + f.sub)) : getBit b f j (flagEvt b f k e s) = getBit b f j s := by
  unfold flagEvt
  split
  · rfl
  · exact (getBit_raise h).trans (getBit_setBit_other true hk hj hne hf)

theorem depStatus_not_bellWord (hk : k < 18) : ¬ bellWord (ev 15 k) (R.DEP_STATUS + F.DEP_STATUS_EVT.sub) := by
  simp only [bellWord, ev, R.DEP_STATUS, F.DEP_STATUS_EVT, R.BEL_SRC, R.BEL_LOGPOS, R.BEL_LOG]
  omega

theorem only_depCond (k : Nat) :
    Only [.bellq, .health] (fun a => a = R.DEP_STATUS ∨ bellWord (ev 15 k) a) s (depCond k s) := by
  unfold depCond
  split
  · exact only_flagAll R.DEP_STATUS F.DEP_STATUS_EVT k _ s
  · exact only_flagEvt R.DEP_STATUS F.DEP_STATUS_EVT k _ s

theorem getBit_depCond (hk : k < 18) : getBit R.DEP_STATUS F.DEP_STATUS_EVT k (depCond k s) = true := by
  unfold depCond
  split
  · exact getBit_flagAll hk (by decide) (depStatus_not_bellWord hk)
  · exact getBit_flagEvt hk (by decide) (depStatus_not_bellWord hk)

/-- RWL_LOCKED stays when CFG_ZERO is reported. -/
theorem getBit_depCond_zero :
    getBit R.DEP_STATUS F.DEP_STATUS_EVT 6 (depCond 7 s) = getBit R.DEP_STATUS F.DEP_STATUS_EVT 6 s := by
  unfold depCond
  rw [if_neg (by decide)]
  exact getBit_flagEvt_other (by decide) (by decide) (by decide) (by decide) (depStatus_not_bellWord (by decide))

end

/-! ### A write of a register word -/

section
variable {s : State} {m a : Nat} {v : Word} {d : WordDef} {f : FieldDef}

/-- The word with its fields stored, and the conditions that the write reports. -/
def fieldsWritten (d : WordDef) (a : Nat) (v : Word) (free : Bool) (s : State) : State :=
  wr a (d.fields.foldl (fun x f => f.store a v free s x) (rd a s)) s
    |> when (d.fields.any fun f => f.locked free s) (depCond 6) |> when (d.fields.any fun f => f.zero v) (depCond 7)

theorem when_true (f : State → State) : when true f s = f s := rfl

theorem when_false (f : State → State) : when false f s = s := rfl

theorem regWrite1_eq (hd : regDef a = some d) (hq : foreignEnq m a = false) (free : Bool) :
    regWrite1 m a v free s
      = regEffect m a (rd a s) v (d.fields.any fun f => f.locked free s) free (fieldsWritten d a v free s) := by
  simp only [regWrite1, hd, hq, Bool.false_eq_true, if_false]
  rfl

theorem only_fieldsWritten (free : Bool) : Only [.bellq, .health]
    (fun b => b = a ∨ b = R.DEP_STATUS ∨ bellWord (ev 15 6) b ∨ bellWord (ev 15 7) b) s (fieldsWritten d a v free s) := by
  have hk {c : Bool} {k : Nat} {t : State} := only_when c (depCond k) (Only.refl [.bellq, .health] _ t) (only_depCond k)
  unfold fieldsWritten
  refine ((only_wr a _ s).widen (by simp) fun b h => Or.inl h).trans ((hk.widen (by simp) fun b h => ?_).trans
    (hk.widen (by simp) fun b h => ?_))
  · exact Or.inr (h.imp_right Or.inl)
  · exact Or.inr (h.imp_right Or.inr)

/-- Word `a` is not one that the reports of a write touch. -/
def Unreported (a : Nat) : Prop := a ≠ R.DEP_STATUS ∧ ¬ bellWord (ev 15 6) a ∧ ¬ bellWord (ev 15 7) a

theorem rd_fieldsWritten (free : Bool) (h : Unreported a) :
    rd a (fieldsWritten d a v free s) = d.fields.foldl (fun x f => f.store a v free s x) (rd a s) := by
  obtain ⟨hs, h6, h7⟩ := h
  have hk {c : Bool} {k : Nat} {t : State} (hb : ¬ bellWord (ev 15 k) a) : rd a (when c (depCond k) t) = rd a t :=
    (only_when c (depCond k) (Only.refl [.bellq, .health] _ t) (only_depCond k)).2.2 a (not_or.2 ⟨hs, hb⟩)
  unfold fieldsWritten
  rw [hk h7, hk h6, rd_wr_same]

/-- Each field of the word holds what its access type gives. -/
theorem bitsOf_fieldsWritten (free : Bool) (h : Unreported a) (hd : regDef a = some d) (hf : f ∈ d.fields) :
    bitsOf (rd a (fieldsWritten d a v free s)) f.fld.lo f.fld.w
      = storedField f a v free s (bitsOf (rd a s) f.fld.lo f.fld.w) := by
  rw [rd_fieldsWritten free h]
  exact bitsOf_foldl_store (regDef_fieldsFit hd) hf

/-- A locked field reports RWL_LOCKED. -/
theorem fieldsWritten_locked {free : Bool} (hf : f ∈ d.fields) (hl : f.locked free s = true) :
    getBit R.DEP_STATUS F.DEP_STATUS_EVT 6 (fieldsWritten d a v free s) = true := by
  have hany : (d.fields.any fun f => f.locked free s) = true := List.any_eq_true.2 ⟨f, hf, hl⟩
  unfold fieldsWritten
  rw [hany, when_true]
  cases d.fields.any fun f => f.zero v with
  | true =>
    rw [when_true]
    exact getBit_depCond_zero.trans (getBit_depCond (by decide))
  | false =>
    rw [when_false]
    exact getBit_depCond (by decide)

/-- Zero in a field that rejects it reports CFG_ZERO. -/
theorem fieldsWritten_zero {free : Bool} (hf : f ∈ d.fields) (hz : f.zero v = true) :
    getBit R.DEP_STATUS F.DEP_STATUS_EVT 7 (fieldsWritten d a v free s) = true := by
  have hany : (d.fields.any fun f => f.zero v) = true := List.any_eq_true.2 ⟨f, hf, hz⟩
  unfold fieldsWritten
  rw [hany, when_true]
  exact getBit_depCond (by decide)

/-- The range of a field does not turn on the count of accesses. -/
theorem holds_countIssue (hm : m < 16) (ha : a + 1 ≠ R.ILK_MST m) (r : Rule) (n : Nat) :
    r.holds a n v (countIssue m s) = r.holds a n v s := by
  have hc {b : Nat} {g : Fld} (hb : 0x2000000 ≤ b) : getF b g (countIssue m s) = getF b g s :=
    getF_countIssue (by simp only [R.ILK_MST]; omega)
  have hp : cfgP (countIssue m s) = cfgP s := congrArg (2 ^ ·) (hc (by decide))
  have hl : platLen (countIssue m s) = platLen s := hc (by decide)
  have hi : isSet R.SDG_CTRL F.SDG_CTRL_DBG (countIssue m s) = isSet R.SDG_CTRL F.SDG_CTRL_DBG s :=
    isSet_congr (rd_countIssue (by simp only [R.SDG_CTRL, R.ILK_MST, F.SDG_CTRL_DBG]; omega))
  have hs : apageSpace v (countIssue m s) = apageSpace v s := by
    simp only [apageSpace, hi, hc (show 0x2000000 ≤ R.SDG_APAGE by decide)]
  have hb (k : Nat) : beamMode k (countIssue m s) = beamMode k s := hc (by simp only [R.TBL_BEAM]; omega)
  cases r <;> simp only [Rule.holds, hp, hl, hs, hb, rd_countIssue ha]

end

/-- A word that a write gives no meaning beyond its fields' access types and `regEffect`. -/
structure WrittenByFields (a : Nat) : Prop where
  register : RegisterWord a
  apart : Unreported a
  own : ∀ m : Nat, m < 16 → a ≠ R.ILK_MST m ∧ a + 1 ≠ R.ILK_MST m
  content : ∀ s, wordVoid a s = false
  plain : ∀ f s, Fld.special a f s = false
  shared : ∀ m, foreignEnq m a = false

section
variable {s : State} {m a : Nat} {v : Word} {d : WordDef} {f : FieldDef}

/-- A write of such a word stores its fields, reports, has its effect and is answered OKAY. -/
theorem writeAccess_fields (hm : m < 16) (h : WrittenByFields a) (hr : Reaches m a s) (hd : regDef a = some d) :
    writeAccess m a v s = putAnswer m ⟨0, [], 1⟩ (regEffect m a (rd a s) v
      (d.fields.any fun f => f.locked (!sealed s) (countIssue m s)) (!sealed s)
      (fieldsWritten d a v (!sealed s) (countIssue m s))) := by
  have hw := (wordWrite_register h.register (h.content (countIssue m s)) v).trans
    (congrArg (Prod.mk 0) (regWrite1_eq hd (h.shared m) _))
  rw [writeAccess_okay hm hr h.register.below hw, sealed_countIssue hm, rd_countIssue (h.own m hm).1]

/-- Each field's new value follows from its old one. -/
theorem bitsOf_written (hm : m < 16) (h : WrittenByFields a) (hd : regDef a = some d) (hf : f ∈ d.fields) :
    bitsOf (rd a (fieldsWritten d a v (!sealed s) (countIssue m s))) f.fld.lo f.fld.w
      = storedField f a v (!sealed s) s (bitsOf (rd a s) f.fld.lo f.fld.w) := by
  rw [bitsOf_fieldsWritten _ h.apart hd hf, rd_countIssue (h.own m hm).1]
  simp only [storedField, h.plain, holds_countIssue hm (h.own m hm).2, sealed_countIssue hm]

end

/-! ### Access types (R7, R9, R403) -/

section
variable {s : State} {a old : Nat} {v : Word} {f : FieldDef} {free : Bool}

/-- The field takes what is written to it: RW, and RWL before the seal. -/
def Writable (f : FieldDef) (s : State) : Prop := f.acc = .rw ∨ f.acc = .rwl ∧ sealed s = false

theorem storedField_ro (h : f.acc = .ro) : storedField f a v free s old = old := by
  simp only [storedField, h]

theorem storedField_wo (h : f.acc = .wo) : storedField f a v free s old = old := by
  simp only [storedField, h]

theorem storedField_w1c (h : f.acc = .w1c) :
    storedField f a v free s old = old &&& (2 ^ f.fld.w - 1 - bitsOf v f.fld.lo f.fld.w) := by
  simp only [storedField, h]

/-- After the seal an RWL field keeps its value. -/
theorem storedField_locked (h : f.acc = .rwl) (hs : sealed s = true) : storedField f a v (!sealed s) s old = old := by
  simp only [storedField, h, hs, Bool.not_true, Bool.not_false, Bool.and_true, if_true]

theorem storedField_writable (h : Writable f s) : storedField f a v (!sealed s) s old
    = if Fld.special a f.fld s || (f.zrej && bitsOf v f.fld.lo f.fld.w == 0)
        || !f.rule.holds a (bitsOf v f.fld.lo f.fld.w) v s then old else bitsOf v f.fld.lo f.fld.w := by
  rcases h with h | ⟨h, hs⟩
  · simp only [storedField, h]
  · simp only [storedField, h, hs, Bool.false_and, Bool.false_eq_true, if_false]

/-- A value in its range, and not a rejected zero, is stored. -/
theorem storedField_taken (h : Writable f s) (hp : Fld.special a f.fld s = false)
    (hz : f.zrej = true → bitsOf v f.fld.lo f.fld.w ≠ 0) (hr : f.rule.holds a (bitsOf v f.fld.lo f.fld.w) v s = true) :
    storedField f a v (!sealed s) s old = bitsOf v f.fld.lo f.fld.w := by
  have hzero : (f.zrej && bitsOf v f.fld.lo f.fld.w == 0) = false := by
    cases hc : f.zrej with
    | false => rfl
    | true => simpa using hz hc
  rw [storedField_writable h, hp, hzero, hr]
  rfl

/-- A value out of its range is not stored. -/
theorem storedField_outOfRange (h : Writable f s) (hr : f.rule.holds a (bitsOf v f.fld.lo f.fld.w) v s = false) :
    storedField f a v (!sealed s) s old = old := by
  rw [storedField_writable h, hr, Bool.not_false, Bool.or_true, if_pos rfl]

/-- A rejected zero is not stored. -/
theorem storedField_zero (h : Writable f s) (hz : f.zrej = true) (hx : bitsOf v f.fld.lo f.fld.w = 0) :
    storedField f a v (!sealed s) s old = old := by
  rw [storedField_writable h, hz, hx]
  simp only [beq_self_eq_true, Bool.and_true, Bool.or_true, Bool.true_or, if_true]

theorem zero_of_rejected (hz : f.zrej = true) (hx : bitsOf v f.fld.lo f.fld.w = 0) : f.zero v = true := by
  rw [FieldDef.zero, hz, hx]
  rfl

end

/-! ### The Timetable's configuration and status words -/

section
variable {s : State} {m a : Nat} {v : Word}

theorem writtenByFields_timetable (h : within 0x1000000 0x1000040 a) : WrittenByFields a := by
  obtain ⟨hlo, hhi⟩ := h
  have hblock : a / 0x10000 = 0x100 := by omega
  refine ⟨?_, ?_, fun m hm => ?_, fun s => ?_, fun f s => ?_, fun m => ?_⟩
  · unfold RegisterWord; omega
  · simp only [Unreported, bellWord, ev, R.DEP_STATUS, R.BEL_SRC, R.BEL_LOGPOS, R.BEL_LOG]; omega
  · simp only [R.ILK_MST]; omega
  · simp only [wordVoid, hblock, decide_eq_false (show ¬ 0x1008000 ≤ a by omega), Bool.false_and]
  · simp only [Fld.special, hblock]; rfl
  · simp only [foreignEnq, decide_eq_false (show ¬ 0x1000040 ≤ a by omega), Bool.false_and]

theorem regEffect_timetable (h : within 0x1000000 0x1000040 a) {old : Word} {l fr : Bool} :
    regEffect m a old v l fr s = s := by
  obtain ⟨hlo, hhi⟩ := h
  simp only [regEffect, show a / 0x10000 = 0x100 by omega]
  exact if_neg fun h => by omega

theorem writeAccess_timetable {d : WordDef} (hm : m < 16) (h : within 0x1000000 0x1000040 a) (hr : Reaches m a s)
    (hd : regDef a = some d) :
    writeAccess m a v s = putAnswer m ⟨0, [], 1⟩ (fieldsWritten d a v (!sealed s) (countIssue m s)) := by
  rw [writeAccess_fields hm (writtenByFields_timetable h) hr hd, regEffect_timetable h]

theorem writesFollowAccessTypes : WritesFollowAccessTypes := by
  intro m a v d f s ha hd hf hr
  refine ⟨_, congrArg Host.Outcome.next (writeAccess_timetable m.isLt ha hr hd), ?_⟩
  have hw := writtenByFields_timetable ha
  have hseal : sealed (countIssue m.val s) = sealed s := sealed_countIssue m.isLt
  beta_reduce
  intro old new x
  have hnew : new = storedField f a.toNat v (!sealed s) s old := bitsOf_written m.isLt hw hd hf
  rw [hnew]
  refine ⟨?_, storedField_ro, storedField_w1c, fun hacc hs => ⟨storedField_locked hacc hs, ?_⟩,
    fun hacc hs hz => storedField_taken (Or.inr ⟨hacc, hs⟩) (hw.plain _ _) hz,
    fun hacc hs hz hx => ⟨storedField_zero (Or.inr ⟨hacc, hs⟩) hz hx,
      fieldsWritten_zero hf (zero_of_rejected hz hx)⟩, ?_⟩
  · rw [Okay, answered_putAnswer]
  · refine fieldsWritten_locked hf ?_
    simp only [FieldDef.locked, hacc, hseal, hs]
    rfl
  · refine (only_countIssue.widen (by simp) fun b h => ?_).trans
      (((only_fieldsWritten _).widen (by simp) fun b h => ?_).trans ((only_putAnswer _).widen (by simp) fun b h => h.elim))
    · exact Or.inr (Or.inl h)
    · exact h.imp_right Or.inr

end

/-! ### Words with no effect of their own (R7, R9) -/

section
variable {s : State} {m a b : Nat} {v : Word}

theorem writtenByFields_plain : ∀ a ∈ plainWords, WrittenByFields a := by
  have hreg : ∀ a ∈ plainWords, RegisterWord a := by unfold RegisterWord; decide
  have hapart : ∀ a ∈ plainWords, Unreported a := by
    simp only [Unreported, bellWord, ev, R.DEP_STATUS, R.BEL_SRC, R.BEL_LOGPOS, R.BEL_LOG]
    decide
  have hown : ∀ a ∈ plainWords, ¬ (0x1020010 ≤ a + 1 ∧ a < 0x1020020) := by decide
  have hcontent : ∀ a ∈ plainWords, ∀ s, wordVoid a s = false := by
    intro a ha s
    fin_cases ha <;> rfl
  have hspecial : ∀ a ∈ plainWords, ∀ f s, Fld.special a f s = false := by
    intro a ha f s
    fin_cases ha <;> rfl
  have hshared : ∀ a ∈ plainWords, ∀ m, foreignEnq m a = false := by
    intro a ha m
    fin_cases ha <;> rfl
  intro a ha
  refine ⟨hreg a ha, hapart a ha, fun m hm => ?_, hcontent a ha, hspecial a ha, hshared a ha⟩
  have h := hown a ha
  simp only [R.ILK_MST]
  omega

theorem rd_when {c : Bool} {f : State → State} (hf : rd b (f s) = rd b s) : rd b (when c f s) = rd b s := by
  cases c
  · rfl
  · exact hf

theorem rd_foldl {β : Type} {f : State → β → State} {l : List β} (hf : ∀ t x, rd b (f t x) = rd b t) :
    rd b (l.foldl f s) = rd b s := by
  induction l generalizing s with
  | nil => rfl
  | cons x t ih => exact ih.trans (hf s x)

theorem rd_clearWords {x y : Nat} (h : ¬ (x ≤ b ∧ b < y)) : rd b (clearWords x y s) = rd b s := by
  unfold rd clearWords
  rw [Store.get_keep, decide_eq_false h]
  rfl

theorem rd_flagEvt {base k e : Nat} {f : Fld} (hb : b ≠ base + f.sub) (he : ¬ bellWord e b) :
    rd b (flagEvt base f k e s) = rd b s := (only_flagEvt base f k e s).2.2 b (not_or.2 ⟨hb, he⟩)

theorem rd_showStore (h : b ≠ R.TBL_STORE) : rd b (showStore s) = rd b s :=
  (rd_when (rd_setF_other _ _ h)).trans (rd_setF_other _ _ h)

theorem rd_tblStop (h : b ≠ R.TBL_STORE) : rd b (tblStop s) = rd b s := (rd_showStore h).trans rfl

theorem rd_tblCounterClear (hs : b ≠ R.TBL_STORE) (hb : b ≠ R.TBL_BANKS) : rd b (tblCounterClear s) = rd b s :=
  (rd_setF_other _ _ hb).trans <| (rd_setF_other _ _ hb).trans <| (rd_setF_other _ _ hs).trans (rd_setF_other _ _ hs)

theorem rd_tblEffect (hs : b ≠ R.TBL_STORE) (hb : b ≠ R.TBL_BANKS) :
    rd b (tblEffect R.TBL_CTRL v s) = rd b s := by
  unfold tblEffect
  rw [if_pos rfl]
  exact (rd_when (rd_tblStop hs)).trans (rd_when (rd_tblCounterClear hs hb))

/-- A discarded consignment leaves the words below the Terminus' status. -/
theorem rd_dropConsig {c : Consig} (h : b ≤ R.TMN_CTRL) (hb : b ≠ R.TBL_STORE) (he : ∀ e, e < 1024 → ¬ bellWord e b) :
    rd b (dropConsig c s) = rd b s := by
  have hfree : rd b (freeConsig c s) = rd b s := by
    unfold freeConsig
    split
    · exact rd_showStore hb
    · have hbuf : b ≠ R.TMN_BUF := by simp only [R.TMN_CTRL, R.TMN_BUF] at *; omega
      exact (rd_when (rd_setF_other _ _ hbuf)).trans (rd_setF_other _ _ hbuf)
  refine Eq.trans ?_ hfree
  have hroute (k : Nat) : b ≠ R.TMN_ROUTE (c.route % 16) + k := by simp only [R.TMN_CTRL, R.TMN_ROUTE] at *; omega
  have hstat : b ≠ R.TMN_STATUS := by simp only [R.TMN_CTRL, R.TMN_STATUS] at *; omega
  unfold dropConsig countDrop
  exact (rd_flagEvt (hroute _) (he _ (by unfold ev; omega))).trans <| (rd_setF_other _ _ hstat).trans
    (rd_setF_other _ _ (hroute _))

theorem rd_tmnStop (h : b ≤ R.TMN_CTRL) (hb : b ≠ R.TBL_STORE) (he : ∀ e, e < 1024 → ¬ bellWord e b) :
    rd b (tmnStop s) = rd b s :=
  rd_foldl fun _ _ => (rd_foldl fun _ _ => rd_dropConsig h hb he).trans rfl

theorem rd_tmnCounterClear (h : b ≤ R.TMN_CTRL) : rd b (tmnCounterClear s) = rd b s := by
  have hroute (r k : Nat) : b ≠ R.TMN_ROUTE r + k := by simp only [R.TMN_CTRL, R.TMN_ROUTE] at *; omega
  have hdep (d k : Nat) : b ≠ R.TMN_DEP d + k := by simp only [R.TMN_CTRL, R.TMN_DEP] at *; omega
  have hbuf : b ≠ R.TMN_BUF := by simp only [R.TMN_CTRL, R.TMN_BUF] at *; omega
  exact (rd_setF_other _ _ hbuf).trans <| rd_foldl fun t r => (rd_setF_other _ _ (hdep _ _)).trans <|
    (rd_setF_other _ _ (hroute _ _)).trans (rd_setF_other _ _ (hroute _ _))

theorem rd_tmnEffect (h : b ≤ R.TMN_CTRL) (hb : b ≠ R.TBL_STORE) (he : ∀ e, e < 1024 → ¬ bellWord e b) :
    rd b (tmnEffect R.TMN_CTRL v s) = rd b s := by
  unfold tmnEffect
  rw [if_pos rfl]
  exact (rd_when (rd_tmnStop h hb he)).trans (rd_when (rd_tmnCounterClear h))

/-- The plain words whose write is its fields' alone. -/
def inertWords : List Nat :=
  [0x1010000, 0x1020000, 0x104000B, 0x104000C, 0x1050000, 0x1050001, 0x1050002, 0x1050003, 0x1050010, 0x1050013,
   0x300000E, 0x3100000, 0x3100005, 0x400000A, 0x5002000, 0x5080000, 0x5080021, 0x5080022]

theorem plainWords_cases : ∀ a ∈ plainWords,
    a = R.PTS_CTRL ∨ a = R.TBL_CTRL ∨ a = R.JCT_CTRL ∨ a = R.TMN_CTRL ∨ a ∈ inertWords := by decide

theorem regEffect_inert (ha : a ∈ inertWords) {old : Word} {l fr : Bool} : regEffect m a old v l fr s = s := by
  fin_cases ha <;> rfl

/-- The effects of writes to these words leave the word itself and the Depot's conditions. -/
theorem rd_regEffect_plain (ha : a ∈ plainWords) (hb : b = a ∨ b = R.DEP_STATUS) {old : Word} {l fr : Bool} :
    rd b (regEffect m a old v l fr s) = rd b s := by
  have hmem : b ∈ R.DEP_STATUS :: plainWords := by
    rcases hb with rfl | rfl
    · exact List.mem_cons_of_mem _ ha
    · exact List.mem_cons_self
  have hbell : ∀ a ∈ R.DEP_STATUS :: plainWords, ¬ (0x1010001 ≤ a ∧ a < 0x1012400) := by decide
  have hfar : ∀ a ∈ R.DEP_STATUS :: plainWords,
    a ≠ R.TBL_STORE ∧ a ≠ R.TBL_BANKS ∧ a ≤ R.TMN_CTRL ∧ ¬ (0x3020000 ≤ a ∧ a < 0x3028000) := by decide
  obtain ⟨hstore, hbanks, hctrl, hcount⟩ := hfar b hmem
  have he : ∀ e, e < 1024 → ¬ bellWord e b := by
    intro e he
    have h := hbell b hmem
    simp only [bellWord, R.BEL_SRC, R.BEL_LOGPOS, R.BEL_LOG]
    omega
  rcases plainWords_cases a ha with rfl | rfl | rfl | rfl | h
  · exact rd_when (rd_clearWords hcount)
  · exact rd_tblEffect hstore hbanks
  · refine rd_when ?_
    unfold forceJunction
    split <;> rfl
  · exact rd_tmnEffect hctrl hstore he
  · rw [regEffect_inert h]

theorem getBit_regEffect_plain (ha : a ∈ plainWords) {k : Nat} {old : Word} {l fr : Bool} :
    getBit R.DEP_STATUS F.DEP_STATUS_EVT k (regEffect m a old v l fr s) = getBit R.DEP_STATUS F.DEP_STATUS_EVT k s :=
  getBit_congr (rd_regEffect_plain ha (Or.inr rfl))

theorem readWriteAndWriteOnlyFields : ReadWriteAndWriteOnlyFields := by
  intro m a v d f s ha hd hf hr
  have hw := writtenByFields_plain a.toNat ha
  refine ⟨_, congrArg Host.Outcome.next (writeAccess_fields m.isLt hw hr hd), ?_⟩
  beta_reduce
  intro old new x
  have hnew : new = storedField f a.toNat v (!sealed s) s old := by
    refine Eq.trans ?_ (bitsOf_written m.isLt hw hd hf)
    exact congrArg (bitsOf · f.fld.lo f.fld.w) (rd_regEffect_plain ha (Or.inl rfl))
  rw [hnew]
  refine ⟨?_, fun hacc hz => storedField_taken (Or.inl hacc) (hw.plain _ _) hz,
    fun hacc => storedField_outOfRange (Or.inl hacc), fun hacc hz hx => ⟨storedField_zero (Or.inl hacc) hz hx, ?_⟩,
    storedField_wo⟩
  · rw [Okay, answered_putAnswer]
  · exact (getBit_regEffect_plain ha).trans (fieldsWritten_zero hf (zero_of_rejected hz hx))

end

/-! ### Accesses complete (R7, R277, R279) -/

section
variable {s t u : State} {m a : Nat} {v w : Word}

/-- Word `a` is a register or a word of a table window: no memory, no register file, no debug window and no HBM. -/
structure RegisterOrWindow (a : Nat) : Prop where
  noMemory : coreMemory a = none
  noFile : ¬ (0xF00000 ≤ a ∧ a < 0xF00900 ∧ 0x40 ≤ a % 0x100 ∧ a % 0x100 < 0x80)
  noDebug : ¬ (0x5100000 ≤ a ∧ a < 0x5500000)
  below : a < 0x8000000

theorem registerOrWindow_of (hc : coreMemory a = none)
    (h : (within 0xF00000 0xF00900 a ∧ a % 0x100 < 0x40) ∨ within 0x1000000 0x5100000 a ∨ within 0x6000000 0x8000000 a) :
    RegisterOrWindow a := by
  unfold within at h
  refine ⟨hc, ?_, ?_, ?_⟩ <;> omega

theorem wordWrite_code (h : RegisterOrWindow a) : (wordWrite m a w false s).1 = 0 := by
  have hbelow := Nat.not_le.2 h.below
  simp only [wordWrite, h.noMemory, if_neg h.noFile, if_neg h.noDebug, if_neg hbelow]
  split
  · rfl
  · split
    · rfl
    · split
      · rfl
      · split <;> rfl

/-- The components and words that a read keeps. -/
structure ReadKeeps (s t : State) : Prop where
  regs : t.regs = s.regs
  hbm : t.hbm = s.hbm
  lanes : t.lanes = s.lanes
  cores : t.cores = s.cores

theorem ReadKeeps.refl : ReadKeeps s s := ⟨rfl, rfl, rfl, rfl⟩

theorem ReadKeeps.trans (h : ReadKeeps s t) (k : ReadKeeps t u) : ReadKeeps s u :=
  ⟨k.regs.trans h.regs, k.hbm.trans h.hbm, k.lanes.trans h.lanes, k.cores.trans h.cores⟩

theorem readKeeps_putAnswer (x : Answer) : ReadKeeps s (putAnswer m x s) :=
  ⟨putAnswer_regs s m x, putAnswer_hbm s m x, putAnswer_lanes s m x, putAnswer_cores s m x⟩

theorem readKeeps_takeEvent (c : Nat) : ReadKeeps s (takeEvent c s).2 := by
  unfold takeEvent
  split
  · exact .refl
  · exact ⟨rfl, rfl, rfl, rfl⟩

/-- Word `h` is latched for the master. -/
def latchWord (m h : Nat) (s : State) : State :=
  { s with latches := s.latches.set (fun _ => none) (latchKey m h) (some (rd h s)) }

/-- A read of a LO word: the words of `l` are latched for the master. -/
def latchWords (m : Nat) (l : List Nat) (s : State) : State := l.foldl (fun s h => latchWord m h s) s

theorem readKeeps_latchWord (h : Nat) : ReadKeeps s (latchWord m h s) := ⟨rfl, rfl, rfl, rfl⟩

theorem readKeeps_latchWords (l : List Nat) : ReadKeeps s (latchWords m l s) := by
  induction l generalizing s with
  | nil => exact .refl
  | cons h t ih => exact (readKeeps_latchWord h).trans ih

/-- The read answers a word, and changes at most a queue and the latches. -/
def Completes (s : State) (x : Nat × Word × State) : Prop := ∃ v t, x = (0, v, t) ∧ ReadKeeps s t

theorem completes_word (v : Word) : Completes s (0, v, s) := ⟨v, s, rfl, .refl⟩

theorem completes_ite {c : Prop} [Decidable c] {x y : Nat × Word × State} (hx : Completes s x) (hy : Completes s y) :
    Completes s (if c then x else y) := by
  split
  · exact hx
  · exact hy

theorem completes_else {c : Prop} [Decidable c] {x y : Nat × Word × State} (hc : ¬ c) (hy : Completes s y) :
    Completes s (if c then x else y) := by
  rwa [if_neg hc]

theorem wordRead_completes (h : RegisterOrWindow a) : Completes s (wordRead m a s) := by
  have hw := @completes_word s
  unfold wordRead
  rw [h.noMemory]
  refine completes_ite (hw _) <| completes_else h.noFile <| completes_ite (hw _) <| completes_ite (hw _) <|
    completes_ite (hw _) <| completes_ite (hw _) <| completes_ite ⟨_, _, rfl, readKeeps_takeEvent _⟩ <|
    completes_ite (hw _) <| completes_ite (hw _) <| completes_else h.noDebug <|
    completes_else (Nat.not_le.2 h.below) <| completes_ite (hw _) ?_
  split
  · exact hw _
  · exact ⟨rd a s, latchWords m (latches a) s, rfl, readKeeps_latchWords _⟩

theorem getF_countIssue_count : getF (R.ILK_MST m) F.ILK_MST_COUNT (countIssue m s)
    = (getF (R.ILK_MST m) F.ILK_MST_COUNT s + 1) % 2 ^ F.ILK_MST_COUNT.w :=
  getF_setF_same _ _ _ _ (by decide)

theorem registerAccessesComplete : RegisterAccessesComplete := by
  intro m a s hr hc hwhere
  have ha := registerOrWindow_of hc hwhere
  refine ⟨fun v => ?_, ?_⟩
  · have hw : wordWrite m.val a.toNat v false (countIssue m.val s)
        = (0, (wordWrite m.val a.toNat v false (countIssue m.val s)).2) := Prod.ext (wordWrite_code ha) rfl
    refine ⟨_, congrArg Host.Outcome.next (writeAccess_okay m.isLt hr ha.below hw), ?_⟩
    rw [Okay, answered_putAnswer]
  · obtain ⟨v, t, hread, hkeep⟩ := @wordRead_completes (countIssue m s) m _ ha
    refine ⟨_, congrArg Host.Outcome.next (readAccess_okay m.isLt hr ha.below hread), ?_⟩
    have hk : ReadKeeps (countIssue m s) (putAnswer m ⟨0, [v], 1⟩ t) := hkeep.trans (readKeeps_putAnswer _)
    refine ⟨?_, ⟨v, ?_⟩, (getF_congr (rd_congr hk.regs _)).trans getF_countIssue_count,
      hk.hbm.trans (incF_hbm _ _ _ _), hk.lanes.trans (incF_lanes _ _ _ _), hk.cores.trans (incF_cores _ _ _ _)⟩
    · rw [Okay, answered_putAnswer]
    · rw [answered_putAnswer]

end

/-! ### Failed accesses (R280, R281) -/

section
variable {s : State} {m a c : Nat} {v : Word}

/-- The record of an error in ILK_ERR. -/
def errorRecord (m a c : Nat) (isWrite : Bool) (s : State) : State :=
  s |> setF R.ILK_ERR F.ILK_ERR_ADDR a |> setF R.ILK_ERR F.ILK_ERR_MASTER m |> setF R.ILK_ERR F.ILK_ERR_KIND c
    |> setF R.ILK_ERR F.ILK_ERR_WRITE (b2n isWrite) |> setF R.ILK_ERR F.ILK_ERR_VALID 1

theorem only_setF_first {b n : Nat} {f : Fld} (hf : f.sub = 0) : Only [] (fun a => a = b) s (setF b f n s) :=
  (only_setF b f n s).widen (fun _ h => h) fun a h => by rw [h, hf, Nat.add_zero]

theorem only_errorRecord (isWrite : Bool) : Only [] (fun b => b = R.ILK_ERR) s (errorRecord m a c isWrite s) :=
  (only_setF_first rfl).trans <| (only_setF_first rfl).trans <| (only_setF_first rfl).trans <|
    (only_setF_first rfl).trans (only_setF_first rfl)

theorem errorRecord_addr (isWrite : Bool) : getF R.ILK_ERR F.ILK_ERR_ADDR (errorRecord m a c isWrite s) = a % 2 ^ 28 := by
  rw [errorRecord, getF_setF_apart _ _ (by decide) (by decide), getF_setF_apart _ _ (by decide) (by decide),
    getF_setF_apart _ _ (by decide) (by decide), getF_setF_apart _ _ (by decide) (by decide),
    getF_setF_same _ _ _ _ (by decide)]
  rfl

theorem errorRecord_master (isWrite : Bool) :
    getF R.ILK_ERR F.ILK_ERR_MASTER (errorRecord m a c isWrite s) = m % 2 ^ 4 := by
  rw [errorRecord, getF_setF_apart _ _ (by decide) (by decide), getF_setF_apart _ _ (by decide) (by decide),
    getF_setF_apart _ _ (by decide) (by decide), getF_setF_same _ _ _ _ (by decide)]
  rfl

theorem errorRecord_kind (isWrite : Bool) : getF R.ILK_ERR F.ILK_ERR_KIND (errorRecord m a c isWrite s) = c % 2 ^ 2 := by
  rw [errorRecord, getF_setF_apart _ _ (by decide) (by decide), getF_setF_apart _ _ (by decide) (by decide),
    getF_setF_same _ _ _ _ (by decide)]
  rfl

theorem errorRecord_valid (isWrite : Bool) : isSet R.ILK_ERR F.ILK_ERR_VALID (errorRecord m a c isWrite s) = true := by
  rw [isSet, errorRecord, getF_setF_same _ _ _ _ (by decide)]
  rfl

/-- The sticky bit of an error response, with its event. -/
def errorFlag (c : Nat) (s : State) : State := flagAll R.ILK_STATUS ⟨0, 0, 6⟩ (c - 1) (ev 13 (c - 1)) s

theorem ilkError_eq (m a c : Nat) (isWrite : Bool) (s : State) : ilkError m a c isWrite s
    = if isSet R.ILK_ERR F.ILK_ERR_VALID (errorFlag c s) then errorFlag c s
      else errorRecord m a c isWrite (errorFlag c s) := rfl

theorem ilkWord_not_bellWord {b : Nat} (hc : c < 7) (hb : b = R.ILK_STATUS ∨ b = R.ILK_ERR) :
    ¬ bellWord (ev 13 (c - 1)) b := by
  simp only [bellWord, ev, R.ILK_STATUS, R.ILK_ERR, R.BEL_SRC, R.BEL_LOGPOS, R.BEL_LOG] at *
  omega

theorem getBit_errorFlag (h0 : 0 < c) (hc : c < 7) :
    getBit R.ILK_STATUS ⟨0, 0, 6⟩ (c - 1) (errorFlag c s) = true :=
  getBit_flagAll (by dsimp only; omega) (by decide) (ilkWord_not_bellWord hc (Or.inl rfl))

theorem rd_errorFlag (hc : c < 7) :
    rd (R.ILK_ERR + F.ILK_ERR_VALID.sub) (errorFlag c s) = rd (R.ILK_ERR + F.ILK_ERR_VALID.sub) s :=
  (only_flagAll R.ILK_STATUS ⟨0, 0, 6⟩ (c - 1) (ev 13 (c - 1)) s).2.2 _
    (not_or.2 ⟨by decide, ilkWord_not_bellWord hc (Or.inr rfl)⟩)

theorem raised_errorFlag (hc : c < 7) : Raised (ev 13 (c - 1)) (errorFlag c s) :=
  raised_raise (by unfold ev; omega)

/-- The error is flagged, and its event raised, whether ILK_ERR takes it or not. -/
theorem ilkError_flagged (h0 : 0 < c) (hc : c < 7) (isWrite : Bool) :
    getBit R.ILK_STATUS ⟨0, 0, 6⟩ (c - 1) (ilkError m a c isWrite s) = true
      ∧ Raised (ev 13 (c - 1)) (ilkError m a c isWrite s) := by
  have hflag := @getBit_errorFlag s c h0 hc
  have hraised := @raised_errorFlag s c hc
  rw [ilkError_eq]
  split
  · exact ⟨hflag, hraised⟩
  · have hother {b : Nat} (hb : b ≠ R.ILK_ERR) : rd b (errorRecord m a c isWrite (errorFlag c s)) = rd b (errorFlag c s) :=
      (only_errorRecord isWrite).2.2 b hb
    refine ⟨(getBit_congr (hother (by decide))).trans hflag, Eq.trans (isSet_congr (hother ?_)) hraised⟩
    simp only [R.BEL_SRC, R.ILK_ERR, F.BEL_SRC_STS, ev]
    omega

/-- ILK_ERR takes the error when it holds none. -/
theorem ilkError_recorded (hc : c < 7) (isWrite : Bool) (h : isSet R.ILK_ERR F.ILK_ERR_VALID s = false) :
    ilkError m a c isWrite s = errorRecord m a c isWrite (errorFlag c s) := by
  have hv : isSet R.ILK_ERR F.ILK_ERR_VALID (errorFlag c s) = false := (isSet_congr (rd_errorFlag hc)).trans h
  rw [ilkError_eq, hv]
  rfl

theorem only_ilkError (isWrite : Bool) : Only [.bellq, .health]
    (fun b => b = R.ILK_STATUS ∨ b = R.ILK_ERR ∨ bellWord (ev 13 (c - 1)) b) s (ilkError m a c isWrite s) := by
  have hflag := (only_flagAll R.ILK_STATUS ⟨0, 0, 6⟩ (c - 1) (ev 13 (c - 1)) s).widen (fun _ h => h)
    (fun b h => show b = R.ILK_STATUS ∨ b = R.ILK_ERR ∨ bellWord (ev 13 (c - 1)) b from h.imp_right Or.inr)
  rw [ilkError_eq]
  split
  · exact hflag
  · exact hflag.trans ((only_errorRecord isWrite).widen (by simp) fun b h => Or.inr (Or.inl h))

theorem getF_putAnswer (b : Nat) (f : Fld) (x : Answer) : getF b f (putAnswer m x s) = getF b f s :=
  getF_congr (rd_putAnswer _ _ _ _)

theorem isSet_putAnswer (b : Nat) (f : Fld) (x : Answer) : isSet b f (putAnswer m x s) = isSet b f s :=
  isSet_congr (rd_putAnswer _ _ _ _)

theorem getBit_putAnswer (b : Nat) (f : Fld) (k : Nat) (x : Answer) :
    getBit b f k (putAnswer m x s) = getBit b f k s := getBit_congr (rd_putAnswer _ _ _ _)

/-- A write that fails is answered with its response, and the error is flagged. -/
theorem writeAccess_fails (hm : m < 16) (hup : ilkUp s = true) (hp : p3Waits m a s = false) (hc : c = 1 ∨ c = 2)
    (ht : targetWrite m a v (countIssue m s) = (c, countIssue m s)) :
    writeAccess m a v s = putAnswer m ⟨c, [], 0⟩ (ilkError m a c true (countIssue m s)) := by
  have hup' := (ilkUp_countIssue hm).trans hup
  have hnote : Burst.note {} m a c true (countIssue m s) = ilkError m a c true (countIssue m s) := by
    unfold Burst.note noteError
    rw [hup', if_neg (by rcases hc with rfl | rfl <;> simp), when_true]
  unfold writeAccess
  rw [hp, if_neg Bool.false_ne_true, burstWrite, ht]
  dsimp only [burstWrite]
  rw [hnote]
  rcases hc with rfl | rfl <;> rfl

/-- What R280 and R281 say of the state after a write that fails. -/
theorem after_writeAccess_fails {m : Master} {a : WAddr} (hup : ilkUp s = true) (hp : p3Waits m a.toNat s = false)
    (hc : c = 1 ∨ c = 2) (ht : targetWrite m a.toNat v (countIssue m s) = (c, countIssue m s)) :
    After (exec (.registerWrite m a v) s) fun t => (answered m t).code = c
      ∧ getBit R.ILK_STATUS ⟨0, 0, 6⟩ (c - 1) t = true ∧ Raised (ev 13 (c - 1)) t
      ∧ (isSet R.ILK_ERR F.ILK_ERR_VALID s = false → getF R.ILK_ERR F.ILK_ERR_ADDR t = a.toNat
          ∧ getF R.ILK_ERR F.ILK_ERR_MASTER t = m ∧ getF R.ILK_ERR F.ILK_ERR_KIND t = c
          ∧ isSet R.ILK_ERR F.ILK_ERR_VALID t = true)
      ∧ Only [.ans, .bellq, .health] (fun b => b = R.ILK_MST m ∨ b = R.ILK_STATUS ∨ within R.ILK_ERR (R.ILK_ERR + 4) b
          ∨ bellWord (ev 13 (c - 1)) b) s t := by
  have hc0 : 0 < c := by omega
  have hc7 : c < 7 := by omega
  obtain ⟨hflag, hraised⟩ := @ilkError_flagged (countIssue m s) m a.toNat c hc0 hc7 true
  refine ⟨_, congrArg Host.Outcome.next (writeAccess_fails m.isLt hup hp hc ht), ?_, ?_, ?_, fun hv => ?_, ?_⟩
  · rw [answered_putAnswer]
  · rw [getBit_putAnswer, hflag]
  · rw [Raised, isSet_putAnswer]
    exact hraised
  · have hv' : isSet R.ILK_ERR F.ILK_ERR_VALID (countIssue m s) = false := by
      refine (isSet_congr (rd_countIssue ?_)).trans hv
      simp only [R.ILK_ERR, R.ILK_MST, F.ILK_ERR_VALID]
      omega
    simp only [getF_putAnswer, isSet_putAnswer, ilkError_recorded hc7 true hv', errorRecord_addr, errorRecord_master,
      errorRecord_kind, errorRecord_valid, and_true]
    exact ⟨Nat.mod_eq_of_lt a.isLt, Nat.mod_eq_of_lt m.isLt, Nat.mod_eq_of_lt (by omega)⟩
  · refine (only_countIssue.widen (by simp) fun b h => Or.inl h).trans (((only_ilkError true).widen (by simp) ?_).trans
      ((only_putAnswer _).widen (by simp) fun b h => h.elim))
    rintro b (h | rfl | h)
    · exact Or.inr (Or.inl h)
    · exact Or.inr (Or.inr (Or.inl ⟨le_rfl, by omega⟩))
    · exact Or.inr (Or.inr (Or.inr h))

theorem failedAccessesAreAnswered : FailedAccessesAreAnswered := by
  intro m a v s hup
  refine ⟨fun ht => ?_, fun r ht ha => ?_⟩
  · refine after_writeAccess_fails hup ?_ (Or.inl rfl) ?_
    · rw [p3Waits, ht, Option.any_none, Bool.and_false, Bool.false_and]
    · simp only [targetWrite, ht]
  · refine after_writeAccess_fails hup ?_ (Or.inr rfl) ?_
    · rw [p3Waits, ht, Option.any_some, ha, Bool.and_false, Bool.false_and]
    · simp only [targetWrite, ht, answers_countIssue m.isLt, ha, Bool.false_eq_true, if_false]

end

/-! ### LO and HI words (R48, R285) -/

section
variable {s : State} {m a h : Nat}

theorem latchKey_ne {k : Nat} (hk : h ≠ k) : latchKey m h ≠ latchKey m k := by
  unfold latchKey
  omega

theorem latchWord_latches : (latchWord m h s).latches
    = s.latches.set (fun _ => none) (latchKey m h) (some (rd h s)) := rfl

theorem get_latchWord_same : (latchWord m h s).latches.get (fun _ => none) (latchKey m h) = some (rd h s) := by
  rw [latchWord_latches, Store.get_set_same]

theorem get_latchWord_other {k : Nat} (hk : h ≠ k) : (latchWord m k s).latches.get (fun _ => none) (latchKey m h)
    = s.latches.get (fun _ => none) (latchKey m h) := by
  rw [latchWord_latches, Store.get_set_other _ _ _ (latchKey_ne hk)]

theorem only_latchWord (k : Nat) : Only [.latches] (fun _ => False) s (latchWord m k s) := by
  refine ⟨rfl, fun p hp => ?_, fun _ _ => rfl⟩
  cases p
  case latches => exact absurd List.mem_cons_self hp
  all_goals rfl

theorem get_latchWords_other {l : List Nat} (hl : h ∉ l) : (latchWords m l s).latches.get (fun _ => none) (latchKey m h)
    = s.latches.get (fun _ => none) (latchKey m h) := by
  induction l generalizing s with
  | nil => rfl
  | cons k t ih =>
    obtain ⟨hk, ht⟩ := not_or.1 (mt List.mem_cons.2 hl)
    exact (ih ht).trans (get_latchWord_other hk)

/-- The latches of the words of `l` hold them as they stood. -/
theorem get_latchWords {l : List Nat} (hl : h ∈ l) :
    (latchWords m l s).latches.get (fun _ => none) (latchKey m h) = some (rd h s) := by
  induction l generalizing s with
  | nil => cases hl
  | cons k t ih =>
    by_cases ht : h ∈ t
    · exact ih ht
    · obtain rfl := (List.mem_cons.1 hl).resolve_right ht
      exact (get_latchWords_other ht).trans get_latchWord_same

theorem only_latchWords (l : List Nat) : Only [.latches] (fun _ => False) s (latchWords m l s) := by
  induction l generalizing s with
  | nil => exact Only.refl _ _ _
  | cons k t ih =>
    exact (only_latchWord k).trans ih

/-- Word `a` is a register whose word no view computes. -/
def RegisterRead (a : Nat) : Prop :=
  RegisterWord a ∧ ¬ (0x1048000 ≤ a ∧ a < 0x1048080) ∧ ¬ (0x1020010 ≤ a ∧ a < 0x1020020)
    ∧ ¬ (0x1010200 ≤ a ∧ a < 0x1010209) ∧ ¬ (0x3110000 ≤ a ∧ a < 0x3120000)

theorem RegisterRead.uncounted (h : RegisterRead a) : ¬ (0x1020010 ≤ a ∧ a < 0x1020020) := by
  obtain ⟨-, -, hm, -⟩ := h
  exact hm

/-- A read of a register of a latched pair: the LO word latches, the HI word answers what was latched. -/
theorem wordRead_pair (h : RegisterRead a) (hv : wordVoid a s = false) (hp : latched a = true ∨ latches a ≠ []) :
    wordRead m a s
      = if latched a then (0, latchedWord m a s, s) else (0, rd a s, latchWords m (latches a) s) := by
  obtain ⟨hreg, hkps, hmst, hq, hgau⟩ := h
  have hwin : windowAt a s = none := windowAt_eq_none hreg
  obtain ⟨hlo, hhi, hsts, -, -, -, -, -, hyrd⟩ := hreg
  have hjct : ¬ (0x5000000 ≤ a ∧ a < 0x5001000 ∧ (!latched a) = true ∧ (latches a).isEmpty = true) := by
    rintro ⟨-, -, h1, h2⟩
    rcases hp with hp | hp
    · rw [hp] at h1
      cases h1
    · exact hp (List.isEmpty_iff.1 h2)
  unfold wordRead
  rw [coreMemory_eq_none (show 0x200000 ≤ a by omega), hwin]
  dsimp only
  rw [if_neg (by omega), if_neg (by omega), hv, if_neg Bool.false_ne_true, if_neg hsts, if_neg hkps, if_neg hmst,
    if_neg hq, if_neg hgau, if_neg hjct, if_neg hyrd, if_neg (by omega)]
  rfl

/-- A register that has content, whatever the configuration. -/
structure Readable (a : Nat) : Prop where
  register : RegisterRead a
  content : ∀ s, wordVoid a s = false

/-- The LO word of a latched pair or of a group of words; none of the words that it latches counts accesses. -/
structure LoWord (a : Nat) : Prop extends Readable a where
  own : latched a = false
  some : latches a ≠ []
  apart : ∀ h ∈ latches a, ¬ (0x1020010 ≤ h ∧ h < 0x1020020)

/-- A word that answers what a LO read latched. -/
structure HiWord (a : Nat) : Prop extends Readable a where
  own : latched a = true

theorem after_loRead {m : Master} {a : WAddr} (hr : Reaches m a.toNat s) (h : LoWord a.toNat) :
    After (exec (.loWordLatchRead m a) s) fun t => Okay m t ∧ (answered m t).data = [rd a.toNat s]
      ∧ (∀ h ∈ latches a.toNat, t.latches.get (fun _ => none) (latchKey m h) = some (rd h s))
      ∧ Only [.latches, .ans] (fun b => b = R.ILK_MST m) s t := by
  have hrd {b : Nat} (hb : ¬ (0x1020010 ≤ b ∧ b < 0x1020020)) : rd b (countIssue m s) = rd b s := by
    refine rd_countIssue ?_
    simp only [R.ILK_MST]
    omega
  have hread : wordRead m a.toNat (countIssue m s)
      = (0, rd a.toNat s, latchWords m (latches a.toNat) (countIssue m s)) := by
    rw [wordRead_pair h.register (h.content _) (Or.inr h.some), h.own, if_neg Bool.false_ne_true,
      hrd h.register.uncounted]
  refine ⟨_, congrArg Host.Outcome.next (readAccess_okay m.isLt hr h.register.1.below hread), ?_, ?_, fun k hk => ?_, ?_⟩
  · rw [Okay, answered_putAnswer]
  · rw [answered_putAnswer]
  · rw [putAnswer_latches, get_latchWords hk, hrd (h.apart k hk)]
  · exact (only_countIssue.widen (by simp) fun _ hb => hb).trans
      (((only_latchWords _).widen (by simp) fun _ hb => hb.elim).trans
        ((only_putAnswer _).widen (by simp) fun _ hb => hb.elim))

theorem after_hiRead {m : Master} {a : WAddr} (hr : Reaches m a.toNat s) (h : HiWord a.toNat) :
    After (exec (.loWordLatchRead m a) s) fun t => Okay m t
      ∧ (answered m t).data = [(s.latches.get (fun _ => none) (latchKey m a.toNat)).getD (resetWord a.toNat)]
      ∧ Only [.ans] (fun b => b = R.ILK_MST m) s t := by
  have hread : wordRead m a.toNat (countIssue m s)
      = (0, (s.latches.get (fun _ => none) (latchKey m a.toNat)).getD (resetWord a.toNat), countIssue m s) := by
    rw [wordRead_pair h.register (h.content _) (Or.inl h.own), if_pos h.own, latchedWord, countIssue, incF_latches]
  refine ⟨_, congrArg Host.Outcome.next (readAccess_okay m.isLt hr h.register.1.below hread), ?_, ?_, ?_⟩
  · rw [Okay, answered_putAnswer]
  · rw [answered_putAnswer]
  · exact (only_countIssue.widen (by simp) fun _ hb => hb).trans ((only_putAnswer _).widen (by simp) fun _ hb => hb.elim)

end

section
variable {a : Nat}

/-- The LO words of the pairs outside the lanes (R285), and TTB_EPOCH's. -/
def loWords : List Nat :=
  [0x30F0802, 0x3100002, 0x4000002, 0x5000002, 0x1000003, 0x1000005, 0x1000031, 0x1000034, 0x1070006, 0x1070008,
   0x1050004, 0x1040007, 0x100000A]

/-- Their HI words. -/
def hiWords : List Nat :=
  [0x30F0803, 0x3100003, 0x4000003, 0x5000003, 0x1000004, 0x1000006, 0x100000B, 0x100000C, 0x100000D, 0x100000E, 0x1000032,
   0x1000035, 0x1070007, 0x1070009, 0x1050005, 0x1040008]

theorem readable_of_mem (ha : a ∈ loWords ++ hiWords) : Readable a := by
  have hreg : ∀ a ∈ loWords ++ hiWords, RegisterRead a := by unfold RegisterRead RegisterWord; decide
  refine ⟨hreg a ha, fun s => ?_⟩
  fin_cases ha <;> rfl

theorem loWord_of_mem (ha : a ∈ loWords) : LoWord a := by
  have hown : ∀ a ∈ loWords, latched a = false ∧ latches a ≠ []
    ∧ ∀ h ∈ latches a, ¬ (0x1020010 ≤ h ∧ h < 0x1020020) := by decide
  obtain ⟨hl, hs, hap⟩ := hown a ha
  exact ⟨readable_of_mem (List.mem_append_left _ ha), hl, hs, hap⟩

theorem hiWord_of_mem (ha : a ∈ hiWords) : HiWord a := by
  have hown : ∀ a ∈ hiWords, latched a = true := by decide
  exact ⟨readable_of_mem (List.mem_append_right _ ha), hown a ha⟩

theorem readable_lane {i k : Nat} (hi : i < 84) (hk : k ≤ 3) (ha : a = R.TRK_PERR i + k) : Readable a := by
  have hb : 0x2000000 ≤ a ∧ a < 0x2054000 := by
    simp only [R.TRK_PERR] at ha
    omega
  refine ⟨by unfold RegisterRead RegisterWord; omega, fun s => ?_⟩
  unfold wordVoid
  split
  case h_9 => rfl
  all_goals omega

/-- The PRBS counters of a lane (R48): the LO word latches the other three. -/
theorem lane_latches (i : LaneId) (ha : a = R.TRK_PERR i.val) : latches a = [a + 1, a + 2, a + 3] := by
  have hi := i.isLt
  simp only [R.TRK_PERR] at ha
  unfold latches
  rw [if_pos (by omega), if_pos (by omega)]

theorem loWord_lane (i : LaneId) (ha : a = R.TRK_PERR i.val) : LoWord a := by
  have hi := i.isLt
  refine ⟨readable_lane hi (Nat.zero_le 3) ha, ?_, ?_, ?_⟩
  · simp only [R.TRK_PERR] at ha
    unfold latched
    rw [if_pos (by omega), decide_eq_false (by omega), Bool.false_and]
  · rw [lane_latches i ha]
    exact List.cons_ne_nil _ _
  · rw [lane_latches i ha]
    simp only [R.TRK_PERR] at ha
    simp only [List.forall_mem_cons, List.not_mem_nil, false_implies, implies_true, and_true]
    omega

theorem hiWord_lane (i : LaneId) {k : Nat} (h0 : 0 < k) (hk : k ≤ 3) (ha : a = R.TRK_PERR i.val + k) : HiWord a := by
  have hi := i.isLt
  refine ⟨readable_lane hi hk ha, ?_⟩
  simp only [R.TRK_PERR] at ha
  unfold latched
  rw [if_pos (by omega), decide_eq_true (by omega), decide_eq_true (by omega)]
  rfl

theorem loReadsLatchHiWords : LoReadsLatchHiWords := by
  intro m a s hr
  refine ⟨fun ha _ => ?_, fun ha => after_hiRead hr (hiWord_of_mem ha), fun ha => ?_,
    fun i => ⟨fun ha => ?_, fun k hk ha => ?_⟩⟩
  · have hmem : a.toNat ∈ loWords := List.mem_append_left [0x100000A] ha
    have hnext : a.toNat + 1 ∈ latches a.toNat := by
      generalize a.toNat = x at ha
      revert x
      decide
    obtain ⟨t, ht, hok, hdata, hlatch, honly⟩ := after_loRead hr (loWord_of_mem hmem)
    exact ⟨t, ht, hok, hdata, hlatch _ hnext, honly⟩
  · obtain ⟨t, ht, hok, hdata, hlatch, honly⟩ := after_loRead hr (loWord_of_mem (ha ▸ (by decide : 0x100000A ∈ loWords)))
    refine ⟨t, ht, hok, hdata, fun k hk => hlatch _ ?_, honly⟩
    rw [ha]
    revert k
    decide
  · obtain ⟨t, ht, hok, hdata, hlatch, honly⟩ := after_loRead hr (loWord_lane i ha)
    refine ⟨t, ht, hok, hdata, fun k hk => hlatch _ ?_, honly⟩
    rw [lane_latches i ha]
    simpa using hk
  · have hall : ∀ k ∈ [1, 2, 3], 0 < k ∧ k ≤ 3 := by decide
    obtain ⟨h0, h3⟩ := hall k hk
    exact after_hiRead hr (hiWord_lane i h0 h3 ha)

end

/-- Settles O13: field by field for the writes, word by word for the failures, and through the latches for the reads. -/
theorem accessesFollowTypesAndTargets : Obligations.AccessesFollowTypesAndTargets :=
  ⟨writesFollowAccessTypes, readWriteAndWriteOnlyFields, registerAccessesComplete, failedAccessesAreAnswered,
    loReadsLatchHiWords⟩

/-! ### The state after reset (R8, Table 14.10) -/

theorem rd_reset (a : Nat) : rd a State.reset = resetWord a := rfl

/-- IRQ_EN is 0 after reset, so that no source asserts IRQ_N. -/
theorem irqAsserted_reset : irqAsserted State.reset = false := by
  have h : isSet R.BEL_CTRL F.BEL_CTRL_IRQ_EN State.reset = false := by decide +kernel
  rw [irqAsserted, h, Bool.false_and, Bool.false_and]

theorem laneState_reset : ∀ i : LaneId, laneState i.val State.reset = 0 := by decide +kernel

theorem laneControl_reset : ∀ i : LaneId, rd (R.TRK_CTRL i.val) State.reset = 0x18#40
    ∧ rd (R.TRK_EQ i.val) State.reset = 0x3F0#40 := by decide +kernel

theorem domainState_reset : ∀ d : Fin 35, getF (R.SUB_DOM d.val) F.SUB_DOM_STATE State.reset = 0 := by decide +kernel

theorem masterWord_reset : ∀ m : Fin 16, rd (R.ILK_MST m.val) State.reset = 0x8#40 := by decide +kernel

/-- Settles O56: the control space after reset is the Reset column, and its words are read from the table. -/
theorem resetLeavesTheResetColumns : Obligations.ResetLeavesTheResetColumns := by
  refine ⟨rfl, ?pstate, irqAsserted_reset, laneState_reset, rd_reset, ?clkcfg, laneControl_reset, ?sdg, domainState_reset,
    ?mgt, ?watch, ?gpage, masterWord_reset⟩
  all_goals decide +kernel

end Sys2Proof.Safety

namespace Sys2Proof.Safety
open Sys2Proof.Machine

/-! ### Trains on the line (R28-R30, R53-R56) -/

section
variable {α : Type} {k n x : Nat}

/-! #### Digits and pieces -/

theorem length_digits : (digits k n x).length = n := by
  induction n with
  | zero => rfl
  | succ n ih => exact congrArg (· + 1) ih

theorem digits_lt {d : Nat} (h : d ∈ digits k n x) : d < 2 ^ k := by
  induction n with
  | zero => cases h
  | succ n ih =>
    rcases List.mem_cons.1 h with rfl | h
    · exact Nat.mod_lt _ (by positivity)
    · exact ih h

theorem foldl_digits (a : Nat) :
    (digits k n x).foldl (fun a d => a * 2 ^ k + d) a = a * 2 ^ (k * n) + x % 2 ^ (k * n) := by
  induction n generalizing a with
  | zero => simp [digits, Nat.mod_one]
  | succ n ih =>
    rw [digits, List.foldl_cons, ih, Nat.mul_succ, pow_add, Nat.mod_mul]
    ring

/-- The digits of a number tell it, modulo their range. -/
theorem undigits_digits : undigits k (digits k n x) = x % 2 ^ (k * n) := by
  rw [undigits, foldl_digits, Nat.zero_mul, Nat.zero_add]

/-- Pieces of `k` elements that were put in a row are found again. -/
theorem chunks_flatMap {β : Type} {f : β → List α} (hk : 0 < k) (l : List β) (hf : ∀ b ∈ l, (f b).length = k) :
    chunks k l.length (l.flatMap f) = l.map f := by
  induction l with
  | nil => rfl
  | cons b t ih =>
    obtain ⟨hb, ht⟩ := List.forall_mem_cons.1 hf
    obtain ⟨y, ys, hy⟩ : ∃ y ys, f b = y :: ys := List.exists_cons_of_length_pos (hb ▸ hk)
    have htake : (f b ++ t.flatMap f).take k = f b := List.take_left' hb
    have hdrop : (f b ++ t.flatMap f).drop k = t.flatMap f := List.drop_left' hb
    rw [List.flatMap_cons, List.length_cons, List.map_cons]
    rw [hy, List.cons_append] at htake hdrop ⊢
    rw [chunks, htake, hdrop, ih ht]
    exact List.cons_ne_nil _ _

/-! #### Mapping, precoder, polarity and scrambler undo themselves -/

theorem ungray_gray (h : x < 4) : ungray (gray x) = x := by
  interval_cases x <;> rfl

theorem unprecode_precode (p : BitVec 2) (gs : List (BitVec 2)) : unprecode p (precode p gs) = gs := by
  induction gs generalizing p with
  | nil => rfl
  | cons g t ih => rw [precode, unprecode, ih, BitVec.sub_add_cancel]

theorem length_precode (p : BitVec 2) (gs : List (BitVec 2)) : (precode p gs).length = gs.length := by
  induction gs generalizing p with
  | nil => rfl
  | cons g t ih => exact congrArg (· + 1) (ih _)

theorem invert_invert (pol : Bool) (l : List (BitVec 2)) : invert pol (invert pol l) = l := by
  have h : ∀ y : BitVec 2, 3#2 - (3#2 - y) = y := by decide
  cases pol
  · rfl
  · simp only [invert, if_true, List.map_map, Function.comp_def, h, List.map_id']

theorem length_invert (pol : Bool) (l : List (BitVec 2)) : (invert pol l).length = l.length := by
  cases pol
  · rfl
  · exact List.length_map _

theorem scramble_scramble (st : Nat) (cars : List Word) : scramble st (scramble st cars) = cars := by
  induction cars generalizing st with
  | nil => rfl
  | cons c t ih => rw [scramble, scramble, ih, BitVec.xor_assoc, BitVec.xor_self, BitVec.xor_zero]

theorem length_scramble (st : Nat) (cars : List Word) : (scramble st cars).length = cars.length := by
  induction cars generalizing st with
  | nil => rfl
  | cons c t ih => exact congrArg (· + 1) (ih _)

/-! #### The code symbols of a train -/

/-- A product in GF(2^10) is a symbol of ten bits. -/
theorem gfMulAux_lt {a b acc : Nat} (ha : a < 2 ^ 10) (hacc : acc < 2 ^ 10) : gfMulAux 10 0x409 n a b acc < 2 ^ 10 := by
  induction n generalizing a b acc with
  | zero => exact hacc
  | succ n ih =>
    refine ih ?_ ?_
    · split
      · assumption
      · have hq : (2 * a ^^^ 0x409) / 2 ^ 10 = 0 := by
          rw [Nat.xor_div_two_pow, show 2 * a / 2 ^ 10 = 1 by omega]
          rfl
        omega
    · split
      · exact Nat.xor_lt_two_pow hacc ha
      · exact hacc

theorem length_xorWith (f : Nat → Nat) {rs gs : List Nat} (h : rs.length = gs.length) :
    (xorWith f rs gs).length = gs.length := by
  induction rs generalizing gs with
  | nil => exact List.length_map _
  | cons r rs ih =>
    cases gs with
    | nil => exact h
    | cons g gs => exact congrArg (· + 1) (ih (Nat.succ.inj h))

theorem xorWith_lt {f : Nat → Nat} (hf : ∀ c, f c < 2 ^ 10) {rs gs : List Nat} (hr : ∀ r ∈ rs, r < 2 ^ 10) :
    ∀ d ∈ xorWith f rs gs, d < 2 ^ 10 := by
  induction rs generalizing gs with
  | nil => exact List.forall_mem_map.2 fun g _ => hf g
  | cons r rs ih =>
    obtain ⟨hr0, hrs⟩ := List.forall_mem_cons.1 hr
    cases gs with
    | nil => exact hr
    | cons g gs => exact List.forall_mem_cons.2 ⟨Nat.xor_lt_two_pow hr0 (hf g), ih hrs⟩

/-- The check symbols are as many as the generator's coefficients, each of ten bits. -/
theorem rsParity_symbols (g msg : List Nat) (hm : ∀ m ∈ msg, m < 2 ^ 10) :
    (rsParity 10 0x409 g msg).length = g.length ∧ ∀ d ∈ rsParity 10 0x409 g msg, d < 2 ^ 10 := by
  unfold rsParity
  have hstart : (List.replicate g.length 0).length = g.length ∧ ∀ d ∈ List.replicate g.length 0, d < 2 ^ 10 :=
    ⟨List.length_replicate, fun d hd => by rw [List.eq_of_mem_replicate hd]; norm_num⟩
  revert hstart
  generalize List.replicate g.length 0 = reg
  intro hreg
  induction msg generalizing reg with
  | nil => exact hreg
  | cons m t ih =>
    obtain ⟨hm0, hmt⟩ := List.forall_mem_cons.1 hm
    refine ih hmt _ ?_
    cases reg with
    | nil => exact hreg
    | cons r rs =>
      obtain ⟨hlen, hlt⟩ := hreg
      obtain ⟨hr, hrs⟩ := List.forall_mem_cons.1 hlt
      refine ⟨length_xorWith _ ?_, xorWith_lt (fun c => gfMulAux_lt (Nat.xor_lt_two_pow hm0 hr) (by norm_num)) ?_⟩
      · rw [List.length_append]
        exact hlen
      · exact List.forall_mem_append.2 ⟨hrs, fun d hd => by rw [List.mem_singleton.1 hd]; norm_num⟩

theorem length_trainGenerator : (rsGen 10 0x409 16 1 []).length = 16 := by decide +kernel

end

section
variable (h : Nat) {cars : List Word}

theorem length_trainSymbols (hc : cars.length = 128) : (trainSymbols h cars).length = 520 := by
  have hsum : (cars.map fun c => (digits 10 4 c.toNat).length).sum = 4 * cars.length := by
    simp only [length_digits, List.map_const', List.sum_replicate, smul_eq_mul, Nat.mul_comm]
  rw [trainSymbols, List.length_append, length_digits, List.length_flatMap, hsum, hc]

theorem trainSymbols_lt : ∀ d ∈ trainSymbols h cars, d < 2 ^ 10 := by
  refine List.forall_mem_append.2 ⟨fun d hd => digits_lt hd, fun d hd => ?_⟩
  obtain ⟨c, -, hd⟩ := List.mem_flatMap.1 hd
  exact digits_lt hd

/-- The codeword of a train: 520 payload symbols and 16 check symbols, of ten bits each. -/
def trainCodeword (cars : List Word) : List Nat := trainSymbols h cars ++ trainParity (trainSymbols h cars)

theorem length_trainCodeword (hc : cars.length = 128) : (trainCodeword h cars).length = 536 := by
  have hp := (rsParity_symbols (rsGen 10 0x409 16 1 []) _ (trainSymbols_lt h (cars := cars))).1
  rw [trainCodeword, List.length_append, length_trainSymbols h hc, trainParity, hp, length_trainGenerator]

theorem trainCodeword_lt : ∀ d ∈ trainCodeword h cars, d < 2 ^ 10 :=
  List.forall_mem_append.2 ⟨trainSymbols_lt h, (rsParity_symbols _ _ (trainSymbols_lt h)).2⟩

/-- A codeword that no symbol error has met decodes to its payload, none corrected. -/
theorem rsDecode_trainCodeword (hc : cars.length = 128) :
    rsDecode 10 0x409 16 8 (trainCodeword h cars) = some (trainSymbols h cars, 0) := by
  have hk : (trainCodeword h cars).length - 16 = (trainSymbols h cars).length := by
    rw [length_trainCodeword h hc, length_trainSymbols h hc]
  rw [rsDecode, hk, trainCodeword, List.take_left, List.drop_left]
  exact if_pos rfl

/-- The payload symbols give the header and the cars back. -/
theorem undigits_trainSymbols_head : undigits 10 ((trainSymbols h cars).take 8) = h % 2 ^ 80 := by
  rw [trainSymbols, List.take_left' length_digits, undigits_digits]

theorem cars_of_trainSymbols (hc : cars.length = 128) :
    ((chunks 4 128 ((trainSymbols h cars).drop 8)).map fun c => BitVec.ofNat 40 (undigits 10 c)) = cars := by
  have hcar : (fun c : Word => BitVec.ofNat 40 (undigits 10 (digits 10 4 c.toNat))) = id := by
    funext c
    rw [undigits_digits, Nat.mod_eq_of_lt c.isLt, BitVec.ofNat_toNat, BitVec.setWidth_eq, id]
  rw [trainSymbols, List.drop_left' length_digits, ← hc, chunks_flatMap (by norm_num) _ fun c _ => length_digits,
    List.map_map]
  exact (congrArg (List.map · cars) hcar).trans (List.map_id cars)

end

/-! #### Header and symbols -/

/-- The header is read as it was written, and the scrambler of its SEQ undone. -/
theorem trainOf_trainHeader (t : Train) :
    trainHeader t < 2 ^ 80 ∧ trainOf (trainHeader t) (scramble (scrambleSeed t.seq.toNat) t.cars) = t := by
  obtain ⟨typ, seq, stream, cchan, fmt, flags, tlow, cars⟩ := t
  have htyp := typ.isLt
  have hseq := seq.isLt
  have hstream := stream.isLt
  have hcchan := cchan.isLt
  have hfmt := fmt.isLt
  have hflags := flags.isLt
  have htlow := tlow.isLt
  have hfield {w v : Nat} {f : BitVec w} (hv : v % 2 ^ w = f.toNat) : BitVec.ofNat w v = f :=
    BitVec.eq_of_toNat_eq ((BitVec.toNat_ofNat _ _).trans hv)
  simp only [trainHeader, trainOf]
  refine ⟨by omega, ?_⟩
  congr 1
  iterate 7 exact hfield (by omega)
  · rw [show (typ.toNat * 2 ^ 76 + seq.toNat * 2 ^ 64 + stream.toNat * 2 ^ 48 + cchan.toNat * 2 ^ 36
      + fmt.toNat * 2 ^ 32 + flags.toNat * 2 ^ 24 + tlow.toNat) / 2 ^ 64 % 4096 = seq.toNat by omega, scramble_scramble]

section
variable {cw : List Nat}

/-- The Gray-mapped symbols of a codeword, five of the line to one of the code. -/
def codeLine (cw : List Nat) : List (BitVec 2) := cw.flatMap fun c => (digits 2 5 c).map gray

theorem length_codeLine : (codeLine cw).length = 5 * cw.length := by
  rw [codeLine, List.length_flatMap]
  simp only [List.length_map, length_digits, List.map_const', List.sum_replicate, smul_eq_mul, Nat.mul_comm]

theorem map_ungray_codeLine : (codeLine cw).map ungray = cw.flatMap (digits 2 5) := by
  rw [codeLine, List.map_flatMap]
  refine List.flatMap_congr fun c _ => ?_
  rw [List.map_map]
  exact (List.map_congr_left fun d hd => ungray_gray (digits_lt hd)).trans (List.map_id _)

theorem undigits_codeLine (h : ∀ d ∈ cw, d < 2 ^ 10) :
    (chunks 5 cw.length ((codeLine cw).map ungray)).map (undigits 2) = cw := by
  rw [map_ungray_codeLine, chunks_flatMap (by norm_num) _ fun c _ => length_digits, List.map_map]
  refine (List.map_congr_left fun d hd => ?_).trans (List.map_id cw)
  exact undigits_digits.trans (Nat.mod_eq_of_lt (h d hd))

end

section
variable (prec pol : Bool) {t : Train}

/-- The line symbols of a train, before polarity. -/
def driven (t : Train) : List (BitVec 2) :=
  let gs := codeLine (trainCodeword (trainHeader t) (scramble (scrambleSeed t.seq.toNat) t.cars))
  comma ++ if prec then precode 0#2 gs else gs

theorem lineSymbols_eq : lineSymbols prec pol t = invert pol (driven prec t) := rfl

theorem length_driven (hc : t.cars.length = 128) : (driven prec t).length = 2700 := by
  have hcode := length_trainCodeword (trainHeader t) ((length_scramble (scrambleSeed t.seq.toNat) t.cars).trans hc)
  rw [driven, List.length_append]
  cases prec
  · rw [if_neg Bool.false_ne_true, length_codeLine, hcode]
    rfl
  · rw [if_pos rfl, length_precode, length_codeLine, hcode]
    rfl

/-- The receiver finds the code symbols behind the comma. -/
theorem lineCodeword_driven (hc : t.cars.length = 128) : lineCodeword prec (driven prec t)
    = trainCodeword (trainHeader t) (scramble (scrambleSeed t.seq.toNat) t.cars) := by
  have hcars := (length_scramble (scrambleSeed t.seq.toNat) t.cars).trans hc
  have hundo (gs : List (BitVec 2)) : (if prec then unprecode 0#2 (if prec then precode 0#2 gs else gs)
      else if prec then precode 0#2 gs else gs) = gs := by
    cases prec
    · rfl
    · exact unprecode_precode _ _
  rw [lineCodeword, driven, List.drop_left' (show comma.length = 20 from rfl), hundo,
    ← length_trainCodeword (trainHeader t) hcars]
  exact undigits_codeLine (trainCodeword_lt _)

end

/-- Settles O59: the receiver undoes polarity, precoder, mapping and scrambler one after another, and the codeword it
finds meets its check symbols. -/
theorem trainsSurviveTheLine : Obligations.TrainsSurviveTheLine := by
  intro prec pol t hc
  obtain ⟨hlt, hof⟩ := trainOf_trainHeader t
  have hcars := (length_scramble (scrambleSeed t.seq.toNat) t.cars).trans hc
  rw [lineSymbols_eq, invert_invert, length_invert, lineTrain, length_driven prec hc, if_neg (not_not.2 rfl),
    lineCodeword_driven prec hc, rsDecode_trainCodeword _ hcars, Option.map_some, cars_of_trainSymbols _ hcars,
    undigits_trainSymbols_head, Nat.mod_eq_of_lt hlt, hof]
  exact ⟨rfl, rfl⟩

end Sys2Proof.Safety

namespace Sys2Proof.Safety
open Sys2Proof.Machine

/-! ### Frames of a lane -/

section
variable {i k e b v : Nat} {f : Fld} {g : Lane → Lane} {ps qs : List Part} {w x : Nat → Prop} {s t u : State}

theorem laneOf_congr (h : t.lanes = s.lanes) : laneOf k t = laneOf k s := by unfold laneOf; rw [h]

theorem laneOf_of_only (h : Only ps w s t) (hp : .lanes ∉ ps) : laneOf k t = laneOf k s :=
  laneOf_congr (h.2.1 .lanes hp)

@[simp] theorem laneOf_modLane_same : laneOf i (modLane i g s) = g (laneOf i s) := laneOf_setLane_same _ _ _

@[simp] theorem laneOf_setF : laneOf k (setF b f v s) = laneOf k s := rfl

@[simp] theorem laneOf_raise : laneOf k (raise e s) = laneOf k s := laneOf_of_only (only_raise e s) (by decide)

@[simp] theorem rd_modLane (a : Nat) : rd a (modLane i g s) = rd a s := rfl

/-- From `s` to `t` nothing changes but the components `ps` and the words of `w`, and of the lanes only lane `i`. -/
def LaneOnly (i : Nat) (ps : List Part) (w : Nat → Prop) (s t : State) : Prop :=
  Only ps w s t ∧ ∀ k, k ≠ i → laneOf k t = laneOf k s

theorem LaneOnly.refl : LaneOnly i ps w s s := ⟨Only.refl _ _ _, fun _ _ => rfl⟩

theorem LaneOnly.trans (h : LaneOnly i ps w s t) (h' : LaneOnly i ps w t u) : LaneOnly i ps w s u :=
  ⟨h.1.trans h'.1, fun k hk => (h'.2 k hk).trans (h.2 k hk)⟩

theorem LaneOnly.widen (h : LaneOnly i ps w s t) (hp : ∀ p ∈ ps, p ∈ qs) (hw : ∀ a, w a → x a) :
    LaneOnly i qs x s t :=
  ⟨h.1.widen hp hw, h.2⟩

/-- A word that the frame does not name reads as before. -/
theorem LaneOnly.rd_eq {a : Nat} (h : LaneOnly i ps w s t) (ha : ¬ w a) : rd a t = rd a s := h.1.2.2 a ha

theorem LaneOnly.getF_eq (h : LaneOnly i ps w s t) (ha : ¬ w (b + f.sub)) : getF b f t = getF b f s :=
  getF_congr (h.rd_eq ha)

theorem LaneOnly.isSet_eq (h : LaneOnly i ps w s t) (ha : ¬ w (b + f.sub)) : isSet b f t = isSet b f s :=
  isSet_congr (h.rd_eq ha)

theorem Only.laneOnly (h : Only ps w s t) (hp : .lanes ∉ ps) : LaneOnly i ps w s t :=
  ⟨h, fun _ _ => laneOf_of_only h hp⟩

theorem laneOnly_setF (h : w (b + f.sub)) : LaneOnly i ps w s (setF b f v s) :=
  ((only_setF b f v s).laneOnly (by simp)).widen (by simp) fun _ ha => ha ▸ h

theorem laneOnly_modLane (hp : .lanes ∈ ps) : LaneOnly i ps w s (modLane i g s) :=
  ⟨(only_setLane i _ s).widen (by simpa using hp) fun _ => False.elim, fun _ hk => laneOf_setLane_other _ s hk⟩

theorem laneOnly_raise (hq : .bellq ∈ ps) (hh : .health ∈ ps) (hw : ∀ a, bellWord e a → w a) :
    LaneOnly i ps w s (raise e s) :=
  ((only_raise e s).laneOnly (by decide)).widen (by simp [hq, hh]) hw

theorem laneOnly_when {c : Bool} {op : State → State} (h : LaneOnly i ps w s (op s)) :
    LaneOnly i ps w s (when c op s) := by
  cases c
  · exact .refl
  · exact h

theorem laneOnly_foldl {β : Type} {op : State → β → State} (l : List β) (h : ∀ u y, LaneOnly i ps w u (op u y)) :
    LaneOnly i ps w s (l.foldl op s) := by
  induction l generalizing s with
  | nil => exact .refl
  | cons y l ih => exact (h s y).trans ih

end

/-! ### The words of the state machine (Table 2.3) -/

section
variable {i k e a : Nat}

/-- The registers of lane `i` that its state machine writes. -/
def machineWord (i a : Nat) : Prop := a = R.TRK_STATE i ∨ a = R.TRK_PEER i ∨ a = R.TRK_STATUS i ∨ a = R.TRK_TEST i

/-- A word outside the Tracks' registers. -/
def farWord (a : Nat) : Prop := a < 0x2000000 ∨ 0x2100000 ≤ a

/-- The words that a state change of lane `i` may write. -/
def laneReach (i a : Nat) : Prop := machineWord i a ∨ farWord a

/-- The words that a state change of lane `i` with a change of its rate may write: its quadrant's also (R26). -/
def rateReach (i a : Nat) : Prop := a = R.TRK_QUAD (quadOf i) ∨ laneReach i a

/-- The components that a state change may touch: beside the lane's, a departure's consignments (R204). -/
def lossParts (i : Nat) : List Part := laneParts i ++ [.tmnHeld, .beamHeld]

theorem mem_laneParts : .lanes ∈ laneParts i ∧ .bellq ∈ laneParts i ∧ .health ∈ laneParts i := by simp [laneParts]

theorem mem_lossParts : .lanes ∈ lossParts i ∧ .bellq ∈ lossParts i ∧ .health ∈ lossParts i := by
  simp [lossParts, laneParts]

theorem farWord_of_bellWord (he : e < 1024) (h : bellWord e a) : farWord a := by
  simp only [bellWord, R.BEL_SRC, R.BEL_LOGPOS, R.BEL_LOG] at h
  unfold farWord
  omega

theorem laneEvent_lt (hi : i < 84) : laneEvent i < 1024 := by unfold laneEvent ev; split <;> omega

theorem laneErrEvent_lt (hi : i < 84) : laneErrEvent i < 1024 := by unfold laneErrEvent ev; split <;> omega

theorem frameEvent_lt (hi : i < 84) : frameEvent i < 1024 := by unfold frameEvent ev; split <;> omega

theorem machineWord_near (hi : i < 84) (h : machineWord i a) : ¬ farWord a ∧ laneWord i a := by
  simp only [machineWord, R.TRK_STATE, R.TRK_PEER, R.TRK_STATUS, R.TRK_TEST] at h
  simp only [laneWord, R.TRK_CTRL, farWord]
  omega

theorem state_not_far (hi : i < 84) : ¬ farWord (R.TRK_STATE i) := (machineWord_near hi (.inl rfl)).1

theorem status_not_far (hi : i < 84) : ¬ farWord (R.TRK_STATUS i) := (machineWord_near hi (.inr (.inr (.inl rfl)))).1

theorem peer_not_far (hi : i < 84) : ¬ farWord (R.TRK_PEER i) := (machineWord_near hi (.inr (.inl rfl))).1

theorem test_not_far (hi : i < 84) : ¬ farWord (R.TRK_TEST i) := (machineWord_near hi (.inr (.inr (.inr rfl)))).1

/-- A register of a lane that its state machine does not write. -/
def fixedWord (i a : Nat) : Prop := a = R.TRK_CTRL i ∨ a = R.TRK_EQ i ∨ a = R.TRK_LINKID i
  ∨ (R.TRK_PERR i ≤ a ∧ a < R.TRK_PERR i + 4)

theorem fixedWord_not_reach (hi : i < 84) (h : fixedWord i a) : ¬ rateReach i a := by
  simp only [fixedWord, R.TRK_CTRL, R.TRK_EQ, R.TRK_LINKID, R.TRK_PERR] at h
  have hq : quadOf i < 4 := by unfold quadOf; split <;> [skip; split] <;> omega
  simp only [rateReach, laneReach, machineWord, farWord, R.TRK_STATE, R.TRK_PEER, R.TRK_STATUS, R.TRK_TEST, R.TRK_QUAD]
  omega

/-- A register of another lane is out of reach. -/
theorem laneWord_not_reach (hi : i < 84) (hk : k < 84) (hne : k ≠ i) (h : laneWord k a) : ¬ rateReach i a := by
  simp only [laneWord, R.TRK_CTRL] at h
  have hq : quadOf i < 4 := by unfold quadOf; split <;> [skip; split] <;> omega
  simp only [rateReach, laneReach, machineWord, farWord, R.TRK_STATE, R.TRK_PEER, R.TRK_STATUS, R.TRK_TEST, R.TRK_QUAD]
  omega

theorem quad_not_reach {q : Nat} (hi : i < 84) (hq : q < 4) : ¬ laneReach i (R.TRK_QUAD q) := by
  simp only [laneReach, machineWord, farWord, R.TRK_STATE, R.TRK_PEER, R.TRK_STATUS, R.TRK_TEST, R.TRK_QUAD]
  omega

end

/-! ### Consignments given up (R200, R204) -/

section
variable {i k n : Nat} {c : Consig} {s : State}

/-- The components of a discard. -/
def dropParts : List Part := [.tmnHeld, .beamHeld, .bellq, .health]

theorem only_setF_far {b v : Nat} {f : Fld} (h : farWord (b + f.sub)) : Only dropParts farWord s (setF b f v s) :=
  (only_setF b f v s).widen (by simp) fun _ ha => ha ▸ h

theorem only_putTmnHeld : Only dropParts farWord s (putTmnHeld n s) := by
  have hheld : Only dropParts farWord s { s with tmnHeld := n } := by
    refine ⟨rfl, fun p hp => ?_, fun _ _ => rfl⟩
    cases p
    case tmnHeld => exact absurd (by decide) hp
    all_goals rfl
  have hbuf : farWord R.TMN_BUF := Or.inr (by decide)
  exact only_when _ _ (hheld.trans (only_setF_far hbuf)) (only_setF_far hbuf)

theorem only_showStore : Only dropParts farWord s (showStore s) := by
  have hstore : farWord R.TBL_STORE := Or.inr (by decide)
  exact only_when _ _ (only_setF_far hstore) (only_setF_far hstore)

theorem only_putBeamHeld : Only dropParts farWord s (putBeamHeld n s) := by
  have hheld : Only dropParts farWord s { s with beamHeld := n } := by
    refine ⟨rfl, fun p hp => ?_, fun _ _ => rfl⟩
    cases p
    case beamHeld => exact absurd (by decide) hp
    all_goals rfl
  exact hheld.trans only_showStore

theorem only_dropConsig : Only dropParts farWord s (dropConsig c s) := by
  have hfree : Only dropParts farWord s (freeConsig c s) := by
    unfold freeConsig
    split
    · exact only_putBeamHeld
    · exact only_putTmnHeld
  have hroute (k : Nat) : farWord (R.TMN_ROUTE (c.route % 16) + k) := by unfold farWord R.TMN_ROUTE; omega
  have hstatus : farWord (R.TMN_STATUS + F.TMN_STATUS_DROP.sub) := Or.inr (by decide)
  have hflag {u : State} : Only dropParts farWord u
      (flagEvt (R.TMN_ROUTE (c.route % 16)) F.TMN_ROUTE_DROPF 0 (ev 10 (c.route % 16)) u) := by
    refine (only_flagEvt _ _ _ _ _).widen (by decide) fun a ha => ?_
    rcases ha with rfl | ha
    · exact hroute _
    · exact farWord_of_bellWord (by unfold ev; omega) ha
  exact hfree.trans ((only_setF_far (hroute _)).trans ((only_setF_far hstatus).trans hflag))

/-- A departure that gives up its consignments: its lane forgets them, and the rest of the Tracks is as before. -/
theorem laneOnly_departureLoss : LaneOnly i (lossParts i) farWord s (departureLoss i s) := by
  have hparts : ∀ p ∈ dropParts, p ∈ lossParts i := by simp [dropParts, lossParts, laneParts]
  refine (laneOnly_modLane mem_lossParts.1).trans (laneOnly_foldl _ fun u c => ?_)
  exact (only_dropConsig.laneOnly (by decide)).widen hparts fun _ => id

theorem laneOf_departureLoss : laneOf i (departureLoss i s) = forgetConsigs (fun _ => true) (laneOf i s) := by
  have hfold (l : List Consig) (u : State) : laneOf i (l.foldl (fun s c => dropConsig c s) u) = laneOf i u := by
    induction l generalizing u with
    | nil => rfl
    | cons c l ih => exact (ih _).trans (laneOf_of_only only_dropConsig (by decide))
  exact (hfold _ _).trans laneOf_modLane_same

theorem laneConsigs_departureLoss : laneConsigs (laneOf i (departureLoss i s)) = [] := by
  simp [laneOf_departureLoss, laneConsigs, forgetConsigs]

end

/-! ### State changes (R36, R37) -/

section
variable {i k a st c v : Nat} {f : Fld} {ps : List Part} {w : Nat → Prop} {s t u : State}

/-- What a lane holds with what state changes may alter of it left out. -/
def kept (l : Lane) : Lane :=
  { l with txSeq := 0, commas := 0, sendSeen := false, wrongId := false, gotValid := false, tokAny := 0, tokSeen := 0,
           leftDark := 0, gen := 0, chk := {}, eth := {}, liveFrom := 0, hiBlock := none, txq := [], beamq := [],
           cur := none }

/-! What leaving and entering a state do inside the lane is left out of it. -/

theorem kept_leftDark (l : Lane) (n : Nat) : kept { l with leftDark := n } = kept l := rfl

theorem kept_forgetConsigs (l : Lane) (p : Consig → Bool) : kept (forgetConsigs p l) = kept l := rfl

theorem kept_dark (l : Lane) : kept { l with txSeq := 0, commas := 0, sendSeen := false } = kept l := rfl

theorem kept_test (l : Lane) (n : Nat) : kept { l with gen := n, chk := {} } = kept l := rfl

theorem kept_comma (l : Lane) : kept { l with commas := 0 } = kept l := rfl

theorem kept_handshake (l : Lane) : kept { l with sendSeen := false, wrongId := false, gotValid := false, tokAny := 0,
                                                  tokSeen := 0 } = kept l := rfl

theorem kept_open (l : Lane) (n : Nat) : kept { l with liveFrom := n, hiBlock := none } = kept l := rfl

/-- What a lane holds with its rate left out also. -/
def durable (l : Lane) : Lane := { kept l with rate170 := false }

section
variable {l m : Lane}

theorem durable_of_kept (h : kept l = kept m) : durable l = durable m := by rw [durable, h, durable]

theorem rate170_of_kept (h : kept l = kept m) : l.rate170 = m.rate170 := (congrArg Lane.rate170 h :)

theorem energy_of_durable (h : durable l = durable m) : l.energy = m.energy := (congrArg Lane.energy h :)

theorem ratePers_of_durable (h : durable l = durable m) : l.ratePers = m.ratePers := (congrArg Lane.ratePers h :)

theorem rxSeq_of_durable (h : durable l = durable m) : l.rxSeq = m.rxSeq := (congrArg Lane.rxSeq h :)

theorem uncSince_of_durable (h : durable l = durable m) : l.uncSince = m.uncSince := (congrArg Lane.uncSince h :)

theorem nonFill_of_durable (h : durable l = durable m) : l.nonFill = m.nonFill := (congrArg Lane.nonFill h :)

theorem fifo_of_durable (h : durable l = durable m) : l.fifo = m.fifo := (congrArg Lane.fifo h :)

theorem durable_rate (l : Lane) (p : Bool) : durable { l with rate170 := p, eth := {} } = durable l := rfl

end

/-- Only a coupling lane has records that wait for it. -/
theorem unpin_of_lt (h : i < 80) : unpin i s = s := by
  have hsame (r : OutRec) : (if r.txn ≠ 0 ∧ r.lane.map (80 + ·) = some i then { r with lane := none } else r) = r := by
    refine if_neg fun hr => ?_
    obtain ⟨j, -, hj⟩ := Option.map_eq_some_iff.1 hr.2
    omega
  simp only [unpin, hsame, List.map_id']

theorem laneOf_unpin : laneOf k (unpin i s) = laneOf k s := rfl

theorem laneOnly_unpin (hps : ∀ p ∈ laneParts i, p ∈ ps) : LaneOnly i ps w s (unpin i s) := by
  by_cases h : i < 80
  · rw [unpin_of_lt h]
    exact .refl
  · refine ⟨⟨rfl, fun p hp => ?_, fun _ _ => rfl⟩, fun _ _ => rfl⟩
    cases p
    case cpl => exact absurd (hps _ (by simp [laneParts, Nat.not_lt.1 h])) hp
    all_goals rfl

theorem leaveState_only (hps : ∀ p ∈ laneParts i, p ∈ ps) (hpeer : w (R.TRK_PEER i)) (htest : w (R.TRK_TEST i))
    (hloss : laneState i s = 5 → isDeparture i = true → LaneOnly i ps w s (departureLoss i s)) :
    LaneOnly i ps w s (leaveState i s) := by
  unfold leaveState
  split
  · exact (laneOnly_setF hpeer).trans (laneOnly_modLane (hps _ mem_laneParts.1))
  · exact laneOnly_setF htest
  · split
    · exact hloss (by assumption) (by assumption)
    · exact laneOnly_unpin hps
  · exact .refl

theorem only_slowInvalid {p : Nat × Nat} : Only [] (fun a => 0x11000000 ≤ a) s (slowInvalid p s) :=
  (only_setF _ _ _ s).widen (by simp) fun a ha => by
    subst ha
    simp only [gauKey]
    omega

theorem enterState_only (hl : .lanes ∈ ps) (hstate : w (R.TRK_STATE i))
    (hopen : st = 5 → isArrival i = true → ∀ a, 0x11000000 ≤ a → w a) : LaneOnly i ps w s (enterState i st s) := by
  unfold enterState
  split
  · exact (laneOnly_modLane hl).trans (laneOnly_setF hstate)
  · exact laneOnly_modLane hl
  · exact laneOnly_modLane hl
  · exact (laneOnly_modLane hl).trans (laneOnly_setF hstate)
  · split
    · next ha =>
      refine (laneOnly_modLane hl).trans (laneOnly_foldl _ fun u e => laneOnly_foldl _ fun u p => ?_)
      exact (only_slowInvalid.laneOnly (by simp)).widen (by simp) (hopen rfl ha)
    · exact .refl
  · exact .refl

theorem laneOnly_setStatusFlag (hw : w (R.TRK_STATUS i)) : LaneOnly i ps w s (setStatusFlag i c s) := by
  have hsub : ∀ f, causeFlag c = some f → f.sub = 0 := by
    intro f hf
    unfold causeFlag at hf
    split at hf <;> cases hf <;> rfl
  unfold setStatusFlag
  split
  · next f hf => exact laneOnly_setF ((hsub f hf).symm ▸ hw)
  · exact .refl

/-- A state change touches what leaving, entering and the raise touch, and TRK_STATE and TRK_STATUS. -/
theorem laneChange_only (hps : ∀ p ∈ laneParts i, p ∈ ps) (hw : ∀ a, machineWord i a → w a)
    (hb : ∀ a, bellWord (laneEvent i) a → w a)
    (hloss : laneState i s = 5 → isDeparture i = true → LaneOnly i ps w s (departureLoss i s))
    (hopen : st = 5 → isArrival i = true → ∀ a, 0x11000000 ≤ a → w a) : LaneOnly i ps w s (laneChange i st c s) := by
  have hstate : w (R.TRK_STATE i) := hw _ (.inl rfl)
  have hleave : LaneOnly i ps w s (leaveState i s) :=
    leaveState_only hps (hw _ (.inr (.inl rfl))) (hw _ (.inr (.inr (.inr rfl)))) hloss
  obtain ⟨hlanes, hbell, hhealth⟩ := mem_laneParts (i := i)
  exact hleave.trans <| (laneOnly_setF hstate).trans <| (laneOnly_setF hstate).trans <| (laneOnly_setF hstate).trans <|
    (laneOnly_setStatusFlag (hw _ (.inr (.inr (.inl rfl))))).trans <|
    (enterState_only (hps _ hlanes) hstate hopen).trans (laneOnly_raise (hps _ hbell) (hps _ hhealth) hb)

theorem laneOnly_laneChange (hi : i < 84) : LaneOnly i (lossParts i) (laneReach i) s (laneChange i st c s) :=
  laneChange_only (fun _ => List.mem_append_left _) (fun _ => .inl)
    (fun _ ha => .inr (farWord_of_bellWord (laneEvent_lt hi) ha))
    (fun _ _ => laneOnly_departureLoss.widen (fun _ => id) fun _ => .inr) fun _ _ a ha => .inr (by unfold farWord; omega)

/-- Beside a departure that leaves OPEN and a lane that enters it, a state change stays within the lane. -/
theorem laneStep_laneChange (hi : i < 84) (hloss : laneState i s = 5 → isDeparture i = false) (hst : st ≠ 5) :
    LaneStep i s (laneChange i st c s) :=
  laneChange_only (fun _ => id) (fun _ ha => .inl (machineWord_near hi ha).2) (fun _ => .inr)
    (fun h hd => Bool.noConfusion ((hloss h).symm.trans hd)) fun h => absurd h hst

end

/-! #### The lane after a state change -/

section
variable {i k a st c v : Nat} {f : Fld} {s t u : State}

theorem laneOnly_leaveState : LaneOnly i (lossParts i) (fun a => a = R.TRK_PEER i ∨ a = R.TRK_TEST i ∨ farWord a) s
    (leaveState i s) :=
  leaveState_only (fun _ => List.mem_append_left _) (.inl rfl) (.inr (.inl rfl))
    fun _ _ => laneOnly_departureLoss.widen (fun _ => id) fun _ ha => .inr (.inr ha)

theorem laneOnly_enterState : LaneOnly i (lossParts i) (fun a => a = R.TRK_STATE i ∨ farWord a) s (enterState i st s) :=
  enterState_only mem_lossParts.1 (.inl rfl) fun _ _ a ha => .inr (by unfold farWord; omega)

theorem kept_leaveState : kept (laneOf i (leaveState i s)) = kept (laneOf i s) := by
  unfold leaveState
  split
  · rw [laneOf_modLane_same, laneOf_setF, kept_leftDark]
  · rw [laneOf_setF]
  · split
    · rw [laneOf_departureLoss, kept_forgetConsigs]
    · rw [laneOf_unpin]
  · rfl

theorem laneOf_foldl_slowInvalid {β : Type} {l : List β} {p : β → List (Nat × Nat)} :
    laneOf k (l.foldl (fun s e => (p e).foldl (fun s p => slowInvalid p s) s) s) = laneOf k s := by
  refine foldl_keeps (P := fun u => laneOf k u = laneOf k s) (fun h => ?_) rfl
  exact foldl_keeps (P := fun u => laneOf k u = laneOf k s) (fun h => laneOf_setF.trans h) h

theorem kept_enterState : kept (laneOf i (enterState i st s)) = kept (laneOf i s) := by
  unfold enterState
  split
  · rw [laneOf_setF, laneOf_modLane_same, kept_dark]
  · rw [laneOf_modLane_same, kept_test]
  · rw [laneOf_modLane_same, kept_comma]
  · rw [laneOf_setF, laneOf_modLane_same, kept_handshake]
  · split
    · rw [laneOf_foldl_slowInvalid, laneOf_modLane_same, kept_open]
    · rfl
  · rfl

theorem laneOf_setStatusFlag : laneOf k (setStatusFlag i c s) = laneOf k s := by
  unfold setStatusFlag
  split
  · exact laneOf_setF
  · rfl

/-- What a state change leaves of what the lane holds. -/
theorem kept_laneChange : kept (laneOf i (laneChange i st c s)) = kept (laneOf i s) := by
  rw [laneChange, laneOf_raise, kept_enterState, laneOf_setStatusFlag, incF, laneOf_setF, laneOf_setF, laneOf_setF,
    kept_leaveState]

/-- The fields of TRK_STATE that entering a state leaves. -/
theorem getF_enterState (hi : i < 84) (hf : f.sub = 0) (hp : Apart F.TRK_STATE_PARKED f) :
    getF (R.TRK_STATE i) f (enterState i st s) = getF (R.TRK_STATE i) f s := by
  have hparked {u : State} : getF (R.TRK_STATE i) f (setF (R.TRK_STATE i) F.TRK_STATE_PARKED 0 u)
      = getF (R.TRK_STATE i) f u := getF_setF_apart _ _ (by decide) hp.symm
  unfold enterState
  split
  · exact hparked
  · rfl
  · rfl
  · exact hparked
  · split
    · have hfar : ¬ 0x11000000 ≤ R.TRK_STATE i + f.sub := by rw [hf]; unfold R.TRK_STATE; omega
      exact getF_congr (rd_foldl fun u e => rd_foldl fun u p => only_slowInvalid.2.2 _ hfar)
    · rfl
  · rfl

/-- A field of TRK_STATE after a state change, from the fields that the change sets. -/
theorem getF_laneChange (hi : i < 84) (hf : f.sub = 0) (hp : Apart F.TRK_STATE_PARKED f) :
    getF (R.TRK_STATE i) f (laneChange i st c s) = getF (R.TRK_STATE i) f (incF (R.TRK_STATE i) F.TRK_STATE_TRANS 1
      (setF (R.TRK_STATE i) F.TRK_STATE_CAUSE c (setF (R.TRK_STATE i) F.TRK_STATE_STATE st (leaveState i s)))) := by
  have hbell : ¬ bellWord (laneEvent i) (R.TRK_STATE i + f.sub) := fun h =>
    state_not_far hi (farWord_of_bellWord (laneEvent_lt hi) (by rwa [hf] at h))
  have hstatus : ¬ R.TRK_STATE i + f.sub = R.TRK_STATUS i := by rw [hf]; unfold R.TRK_STATE R.TRK_STATUS; omega
  refine (getF_raise_other _ _ hbell).trans ((getF_enterState hi hf hp).trans ?_)
  exact (laneOnly_setStatusFlag (i := i) (ps := []) (w := fun a => a = R.TRK_STATUS i) rfl).getF_eq hstatus

theorem rd_leaveState (hi : i < 84) : rd (R.TRK_STATE i) (leaveState i s) = rd (R.TRK_STATE i) s := by
  have hpeer : R.TRK_STATE i ≠ R.TRK_PEER i := by unfold R.TRK_STATE R.TRK_PEER; omega
  have htest : R.TRK_STATE i ≠ R.TRK_TEST i := by unfold R.TRK_STATE R.TRK_TEST; omega
  exact laneOnly_leaveState.rd_eq (not_or.2 ⟨hpeer, not_or.2 ⟨htest, state_not_far hi⟩⟩)

theorem getF_leaveState (hi : i < 84) (hf : f.sub = 0) :
    getF (R.TRK_STATE i) f (leaveState i s) = getF (R.TRK_STATE i) f s :=
  getF_congr (by rw [hf]; exact rd_leaveState hi)

/-- HOLDOFF, RATE_PEND, RXLINK and QLOCK outlast a state change. -/
theorem getF_laneChange_apart (hi : i < 84) (hf : f.sub = 0) (h7 : 7 ≤ f.lo) (h11 : f.lo + f.w ≤ 11) :
    getF (R.TRK_STATE i) f (laneChange i st c s) = getF (R.TRK_STATE i) f s := by
  have htrans : Apart f F.TRK_STATE_TRANS := .inl (h11.trans (by decide))
  have hcause : Apart f F.TRK_STATE_CAUSE := .inr h7
  have hstate : Apart f F.TRK_STATE_STATE := .inr (Nat.le_trans (by decide) h7)
  rw [getF_laneChange hi hf (.inr h11), incF, getF_setF_apart _ _ (by decide) htrans,
    getF_setF_apart _ _ (by decide) hcause, getF_setF_apart _ _ (by decide) hstate, getF_leaveState hi hf]

theorem laneState_laneChange (hi : i < 84) : laneState i (laneChange i st c s) = st % 2 ^ 3 := by
  unfold laneState
  rw [getF_laneChange hi rfl (.inr (by decide)), incF, getF_setF_apart _ _ (by decide) (by decide),
    getF_setF_apart _ _ (by decide) (by decide), getF_setF_same _ _ _ _ (by decide)]
  rfl

theorem cause_laneChange (hi : i < 84) :
    getF (R.TRK_STATE i) F.TRK_STATE_CAUSE (laneChange i st c s) = c % 2 ^ 4 := by
  rw [getF_laneChange hi rfl (.inr (by decide)), incF, getF_setF_apart _ _ (by decide) (by decide),
    getF_setF_same _ _ _ _ (by decide)]
  rfl

theorem trans_laneChange (hi : i < 84) : getF (R.TRK_STATE i) F.TRK_STATE_TRANS (laneChange i st c s)
    = (getF (R.TRK_STATE i) F.TRK_STATE_TRANS s + 1) % 2 ^ 16 := by
  rw [getF_laneChange hi rfl (.inl (by decide)), incF, getF_setF_same _ _ _ _ (by decide),
    getF_setF_apart _ _ (by decide) (by decide), getF_setF_apart _ _ (by decide) (by decide), getF_leaveState hi rfl]
  rfl

theorem raised_laneChange (hi : i < 84) : Raised (laneEvent i) (laneChange i st c s) := raised_raise (laneEvent_lt hi)

/-- A state change counts, names its cause and raises its event (R37). -/
theorem moved_laneChange (hi : i < 84) (hst : st < 8) (hc : c < 16) : Moved i st c s (laneChange i st c s) :=
  ⟨(laneState_laneChange hi).trans (Nat.mod_eq_of_lt hst), (cause_laneChange hi).trans (Nat.mod_eq_of_lt hc),
    trans_laneChange hi, raised_laneChange hi⟩

/-- What came before the change does not matter when it left TRANS. -/
theorem Moved.from (h : Moved i st c u t)
    (hs : getF (R.TRK_STATE i) F.TRK_STATE_TRANS u = getF (R.TRK_STATE i) F.TRK_STATE_TRANS s) : Moved i st c s t := by
  obtain ⟨hst, hc, ht, hr⟩ := h
  exact ⟨hst, hc, ht.trans (by rw [hs]), hr⟩

end

/-! ### Rates (R26, R42) -/

section
variable {i k a q st c v b : Nat} {p hx : Bool} {f : Fld} {ps : List Part} {w : Nat → Prop} {s t u : State}

theorem isSet_setF_same (h : f.lo + f.w ≤ 40) : isSet b f (setF b f v s) = (v % 2 ^ f.w != 0) := by
  rw [isSet, getF_setF_same _ _ _ _ h]

theorem laneOnly_putRxlink (hq : .bellq ∈ ps) (hh : .health ∈ ps) (hw : w (R.TRK_STATE i))
    (hb : ∀ a, bellWord (laneErrEvent i) a → w a) : LaneOnly i ps w s (putRxlink i p s) := by
  unfold putRxlink
  split
  · exact .refl
  · exact (laneOnly_setF hw).trans (laneOnly_raise hq hh hb)

theorem laneOnly_settleQuad (hw : w (R.TRK_QUAD q)) : LaneOnly i ps w s (settleQuad q s) := by
  unfold settleQuad
  split
  · exact laneOnly_setF hw
  · exact (laneOnly_setF hw).trans (laneOnly_setF hw)

theorem laneOnly_applyRate (hi : i < 84) : LaneOnly i (lossParts i) (rateReach i) s (applyRate i p s) := by
  obtain ⟨hl, hq, hh⟩ := mem_lossParts (i := i)
  have hstate : rateReach i (R.TRK_STATE i) := .inr (.inl (.inl rfl))
  have hb : ∀ a, bellWord (laneErrEvent i) a → rateReach i a :=
    fun a ha => .inr (.inr (farWord_of_bellWord (laneErrEvent_lt hi) ha))
  exact (laneOnly_modLane hl).trans <| (laneOnly_setF hstate).trans <|
    (laneOnly_when (laneOnly_putRxlink hq hh hstate hb)).trans <|
    (laneOnly_settleQuad (.inl rfl)).trans (laneOnly_setF hstate)

theorem laneOf_putRxlink : laneOf k (putRxlink i p s) = laneOf k s := by
  unfold putRxlink
  split
  · rfl
  · rw [laneOf_raise, laneOf_setF]

theorem laneOf_settleQuad : laneOf k (settleQuad q s) = laneOf k s := by
  unfold settleQuad
  split
  · rw [laneOf_setF]
  · rw [laneOf_setF, laneOf_setF]

theorem laneOf_when {n : Bool} {op : State → State} (h : laneOf k (op s) = laneOf k s) :
    laneOf k (when n op s) = laneOf k s := by
  cases n
  · rfl
  · exact h

theorem laneOf_applyRate : laneOf i (applyRate i p s) = { laneOf i s with rate170 := p, eth := {} } := by
  rw [applyRate, settleQlock, laneOf_setF, laneOf_settleQuad, laneOf_when laneOf_putRxlink, laneOf_setF,
    laneOf_modLane_same]

theorem durable_applyRate : durable (laneOf i (applyRate i p s)) = durable (laneOf i s) := by
  rw [laneOf_applyRate, durable_rate]

theorem rate170_applyRate : (laneOf i (applyRate i p s)).rate170 = p := by rw [laneOf_applyRate]

theorem rd_settleQuad (hi : i < 84) (hq : q < 4) : rd (R.TRK_STATE i) (settleQuad q s) = rd (R.TRK_STATE i) s := by
  refine (laneOnly_settleQuad (i := i) (ps := []) (w := fun a => a = R.TRK_QUAD q) rfl).rd_eq ?_
  unfold R.TRK_STATE R.TRK_QUAD
  omega

theorem quadOf_lt (hi : i < 84) : quadOf i < 4 := by unfold quadOf; split <;> [skip; split] <;> omega

theorem getF_when {n : Bool} {op : State → State} (h : getF b f (op s) = getF b f s) :
    getF b f (when n op s) = getF b f s := by
  cases n
  · rfl
  · exact h

theorem getF_putRxlink (hi : i < 84) (hf : f.sub = 0) (h : Apart f F.TRK_STATE_RXLINK) :
    getF (R.TRK_STATE i) f (putRxlink i p s) = getF (R.TRK_STATE i) f s := by
  have hbell : ¬ bellWord (laneErrEvent i) (R.TRK_STATE i + f.sub) := fun hb =>
    state_not_far hi (farWord_of_bellWord (laneErrEvent_lt hi) (by rwa [hf] at hb))
  unfold putRxlink
  split
  · rfl
  · exact (getF_raise_other _ _ hbell).trans (getF_setF_apart _ _ (by decide) h)

/-- A field of TRK_STATE apart from RXLINK and QLOCK after a rate takes effect. -/
theorem getF_applyRate (hi : i < 84) (hf : f.sub = 0) (hr : Apart f F.TRK_STATE_RXLINK) (hl : Apart f F.TRK_STATE_QLOCK) :
    getF (R.TRK_STATE i) f (applyRate i p s)
      = getF (R.TRK_STATE i) f (setF (R.TRK_STATE i) F.TRK_STATE_RATE_PEND 0 s) := by
  have hquad {u : State} : getF (R.TRK_STATE i) f (settleQuad (quadOf i) u) = getF (R.TRK_STATE i) f u :=
    getF_congr (by rw [hf]; exact rd_settleQuad hi (quadOf_lt hi))
  rw [applyRate, settleQlock, getF_setF_apart _ _ (by decide) hl, hquad, getF_when (getF_putRxlink hi hf hr)]
  rfl

/-- STATE, CAUSE, HOLDOFF, PARKED and TRANS outlast a change of the rate. -/
theorem getF_applyRate_apart (hi : i < 84) (hf : f.sub = 0) (h : f.lo + f.w ≤ 8 ∨ 11 ≤ f.lo) :
    getF (R.TRK_STATE i) f (applyRate i p s) = getF (R.TRK_STATE i) f s := by
  have hr : Apart f F.TRK_STATE_RXLINK := h.imp (·.trans (by decide)) (Nat.le_trans (by decide))
  have hl : Apart f F.TRK_STATE_QLOCK := h.imp (·.trans (by decide)) (Nat.le_trans (by decide))
  have hp : Apart f F.TRK_STATE_RATE_PEND := h.imp (·.trans (by decide)) (Nat.le_trans (by decide))
  rw [getF_applyRate hi hf hr hl, getF_setF_apart _ _ (by decide) hp]

theorem ratePend_applyRate (hi : i < 84) : ratePend i (applyRate i p s) = false := by
  rw [ratePend, isSet, getF_applyRate hi rfl (by unfold Apart; decide) (by unfold Apart; decide),
    getF_setF_same _ _ _ _ (by decide)]
  rfl

theorem ratePend_laneChange (hi : i < 84) : ratePend i (laneChange i st c s) = ratePend i s := by
  rw [ratePend, ratePend, isSet, isSet, getF_laneChange_apart hi rfl (by decide) (by decide)]

end

/-! ### To DARK (R35, R36, R42) -/

section
variable {i k a q st c v b : Nat} {p hx : Bool} {f : Fld} {s t u : State}

/-- The lane reaches DARK, before a rate that waited is applied. -/
def reachDark (i c : Nat) (hx : Bool) (s : State) : State :=
  setF (R.TRK_STATE i) F.TRK_STATE_HOLDOFF (b2n (hx && holdoffRuns i s)) (when (laneState i s != 0) (laneChange i 0 c) s)

theorem darken_eq : darken i c hx s = applyPending i (reachDark i c hx s) := rfl

theorem kept_when {n : Bool} {op : State → State} (h : kept (laneOf i (op s)) = kept (laneOf i s)) :
    kept (laneOf i (when n op s)) = kept (laneOf i s) := by
  cases n
  · rfl
  · exact h

theorem kept_reachDark : kept (laneOf i (reachDark i c hx s)) = kept (laneOf i s) := by
  unfold reachDark
  rw [laneOf_setF]
  exact kept_when kept_laneChange

/-- RATE_PEND, RXLINK and QLOCK outlast the way to DARK. -/
theorem getF_reachDark_apart (hi : i < 84) (hf : f.sub = 0) (h8 : 8 ≤ f.lo) (h11 : f.lo + f.w ≤ 11) :
    getF (R.TRK_STATE i) f (reachDark i c hx s) = getF (R.TRK_STATE i) f s := by
  have hholdoff : Apart f F.TRK_STATE_HOLDOFF := .inr h8
  rw [reachDark, getF_setF_apart _ _ (by decide) hholdoff,
    getF_when (getF_laneChange_apart hi hf (Nat.le_trans (by decide) h8) h11)]

theorem ratePend_reachDark (hi : i < 84) : ratePend i (reachDark i c hx s) = ratePend i s := by
  rw [ratePend, ratePend, isSet, isSet, getF_reachDark_apart hi rfl (by decide) (by decide)]

theorem b2n_mod (n : Bool) : b2n n % 2 = b2n n := by cases n <;> rfl

theorem holdoff_reachDark :
    getF (R.TRK_STATE i) F.TRK_STATE_HOLDOFF (reachDark i c hx s) = b2n (hx && holdoffRuns i s) := by
  rw [reachDark, getF_setF_same _ _ _ _ (by decide)]
  exact b2n_mod _

theorem laneState_reachDark (hi : i < 84) : laneState i (reachDark i c hx s) = 0 := by
  rw [reachDark, laneState, getF_setF_apart _ _ (by decide) (by decide)]
  by_cases h : laneState i s = 0
  · rw [h]
    exact h
  · rw [bne_iff_ne.2 h, when_true]
    exact laneState_laneChange hi

/-- A lane outside DARK makes a state change on its way there. -/
theorem moved_reachDark (hi : i < 84) (hc : c < 16) (h : laneState i s ≠ 0) : Moved i 0 c s (reachDark i c hx s) := by
  obtain ⟨hst, hcause, htrans, hraised⟩ := moved_laneChange (s := s) hi (show 0 < 8 by decide) hc
  rw [reachDark, bne_iff_ne.2 h, when_true]
  refine ⟨(getF_setF_apart _ _ (by decide) (by decide)).trans hst, (getF_setF_apart _ _ (by decide) (by decide)).trans hcause,
    (getF_setF_apart _ _ (by decide) (by decide)).trans htrans, ?_⟩
  have hsrc : R.BEL_SRC (laneEvent i) + F.BEL_SRC_STS.sub ≠ R.TRK_STATE i + F.TRK_STATE_HOLDOFF.sub := fun he =>
    state_not_far hi (farWord_of_bellWord (laneEvent_lt hi) (.inl he.symm))
  exact (isSet_setF_other _ _ hsrc).trans hraised

theorem laneOnly_reachDark (hi : i < 84) : LaneOnly i (lossParts i) (laneReach i) s (reachDark i c hx s) :=
  (laneOnly_when (laneOnly_laneChange hi)).trans (laneOnly_setF (.inl (.inl rfl)))

theorem laneStep_reachDark (hi : i < 84) (hd : isDeparture i = false) : LaneStep i s (reachDark i c hx s) :=
  LaneOnly.trans (laneOnly_when (laneStep_laneChange hi (fun _ => hd) (by decide)))
    (laneOnly_setF (.inl (machineWord_near hi (.inl rfl)).2))

/-- The states a lane takes without its partner: none, or one state change. -/
theorem settleOnce_induct {P : State → Prop} (h : P s) (hchange : ∀ st c, P (laneChange i st c s)) :
    P (settleOnce i s) := by
  unfold settleOnce
  split
  · split
    · split
      · exact h
      · exact hchange 6 13
    · split
      · exact hchange 5 12
      · exact h
  · exact h

theorem laneOnly_settleOnce (hi : i < 84) : LaneOnly i (lossParts i) (laneReach i) s (settleOnce i s) :=
  settleOnce_induct .refl fun _ _ => laneOnly_laneChange hi

theorem kept_settleOnce : kept (laneOf i (settleOnce i s)) = kept (laneOf i s) :=
  settleOnce_induct (P := fun u => kept (laneOf i u) = kept (laneOf i s)) rfl fun _ _ => kept_laneChange

theorem getF_settleOnce_apart (hi : i < 84) (hf : f.sub = 0) (h7 : 7 ≤ f.lo) (h11 : f.lo + f.w ≤ 11) :
    getF (R.TRK_STATE i) f (settleOnce i s) = getF (R.TRK_STATE i) f s :=
  settleOnce_induct (P := fun u => getF (R.TRK_STATE i) f u = getF (R.TRK_STATE i) f s) rfl
    fun _ _ => getF_laneChange_apart hi hf h7 h11

theorem ratePend_settleOnce (hi : i < 84) : ratePend i (settleOnce i s) = ratePend i s := by
  rw [ratePend, ratePend, isSet, isSet, getF_settleOnce_apart hi rfl (by decide) (by decide)]

/-- Without a rate that waits, the lane stays in DARK. -/
theorem toDark_of_not_pend (hi : i < 84) (h : ratePend i s = false) : toDark i c hx s = reachDark i c hx s := by
  rw [toDark, darken_eq, applyPending, ratePend_reachDark hi, h, when_false, if_neg Bool.false_ne_true]

/-- A rate that waited takes effect in DARK, and the lane settles. -/
theorem toDark_of_pend (hi : i < 84) (h : ratePend i s = true) :
    toDark i c hx s = settleOnce i (applyRate i (laneOf i s).ratePers (reachDark i c hx s)) := by
  have hpers : (laneOf i (reachDark i c hx s)).ratePers = (laneOf i s).ratePers :=
    ratePers_of_durable (durable_of_kept kept_reachDark)
  rw [toDark, darken_eq, applyPending, ratePend_reachDark hi, h, when_true, if_pos rfl, hpers]

theorem laneOnly_toDark (hi : i < 84) : LaneOnly i (lossParts i) (rateReach i) s (toDark i c hx s) := by
  have hdark : LaneOnly i (lossParts i) (rateReach i) s (reachDark i c hx s) :=
    (laneOnly_reachDark hi).widen (fun _ => id) fun _ => .inr
  cases h : ratePend i s with
  | false =>
    rw [toDark_of_not_pend hi h]
    exact hdark
  | true =>
    rw [toDark_of_pend hi h]
    exact hdark.trans ((laneOnly_applyRate hi).trans ((laneOnly_settleOnce hi).widen (fun _ => id) fun _ => .inr))

theorem holdoff_toDark (hi : i < 84) :
    getF (R.TRK_STATE i) F.TRK_STATE_HOLDOFF (toDark i c hx s) = b2n (hx && holdoffRuns i s) := by
  cases h : ratePend i s with
  | false => rw [toDark_of_not_pend hi h, holdoff_reachDark]
  | true =>
    rw [toDark_of_pend hi h, getF_settleOnce_apart hi rfl (by decide) (by decide),
      getF_applyRate_apart hi rfl (by decide), holdoff_reachDark]

/-- Beside its rate, the lane keeps what state changes keep. -/
theorem durable_toDark (hi : i < 84) : durable (laneOf i (toDark i c hx s)) = durable (laneOf i s) := by
  have hdark : durable (laneOf i (reachDark i c hx s)) = durable (laneOf i s) := durable_of_kept kept_reachDark
  cases h : ratePend i s with
  | false => rw [toDark_of_not_pend hi h, hdark]
  | true => rw [toDark_of_pend hi h, durable_of_kept kept_settleOnce, durable_applyRate, hdark]

/-- A change that waited is in force (R42). -/
theorem applied_toDark (hi : i < 84) (h : ratePend i s = true) : Applied i s (toDark i c hx s) := by
  rw [toDark_of_pend hi h, Applied, ratePend_settleOnce hi, ratePend_applyRate hi]
  exact ⟨(rate170_of_kept kept_settleOnce).trans rate170_applyRate, rfl⟩

theorem ratePend_toDark (hi : i < 84) : ratePend i (toDark i c hx s) = false := by
  cases h : ratePend i s with
  | false => rw [toDark_of_not_pend hi h, ratePend_reachDark hi, h]
  | true => exact (applied_toDark hi h).2

/-- The frame of a loss. -/
theorem laneLoss_toDark (hi : i < 84) : LaneLoss i s (toDark i c hx s) := by
  obtain ⟨⟨hpend, hparts, -⟩, hothers⟩ := laneOnly_toDark (s := s) (c := c) (hx := hx) hi
  refine ⟨hparts, hpend, hothers, fun hd hr => ?_⟩
  rw [toDark_of_not_pend hi hr]
  exact laneStep_reachDark hi hd

end

/-! ### What the conditions of a lane turn on -/

section
variable {i st c v : Nat} {hx : Bool} {s t : State}

@[simp] theorem getF_modLane {b k : Nat} {f : Fld} {g : Lane → Lane} : getF b f (modLane k g s) = getF b f s := rfl

@[simp] theorem isSet_modLane {b k : Nat} {f : Fld} {g : Lane → Lane} : isSet b f (modLane k g s) = isSet b f s := rfl

@[simp] theorem laneState_modLane {k : Nat} {g : Lane → Lane} : laneState i (modLane k g s) = laneState i s := rfl

@[simp] theorem ratePend_modLane {k : Nat} {g : Lane → Lane} : ratePend i (modLane k g s) = ratePend i s := rfl

theorem laneEn_congr (h : rd (R.TRK_CTRL i) t = rd (R.TRK_CTRL i) s) : laneEn i t = laneEn i s := isSet_congr h

theorem oneWay_congr (h : rd (R.TRK_CTRL i) t = rd (R.TRK_CTRL i) s) : oneWay i t = oneWay i s := by
  rw [oneWay, oneWay, isSet_congr h]

theorem deaf_congr (h : rd (R.TRK_CTRL i) t = rd (R.TRK_CTRL i) s) (hr : (laneOf i t).rate170 = (laneOf i s).rate170) :
    deaf i t = deaf i s := by
  rw [deaf, deaf, oneWay_congr h, hr]

theorem pllLocked_congr (h : rd (R.TRK_QUAD (quadOf i)) t = rd (R.TRK_QUAD (quadOf i)) s)
    (hr : (laneOf i t).rate170 = (laneOf i s).rate170) : pllLocked i t = pllLocked i s := by
  have hlock {f : Fld} (hf : f.sub = 0) : isSet (R.TRK_QUAD (quadOf i)) f t = isSet (R.TRK_QUAD (quadOf i)) f s :=
    isSet_congr (by rw [hf]; exact h)
  rw [pllLocked, pllLocked, hr, hlock rfl, hlock rfl]

theorem receiverOn_congr (hp : rd R.SUB_STATE t = rd R.SUB_STATE s)
    (hc : ∀ k, rd (R.TRK_CTRL k) t = rd (R.TRK_CTRL k) s) (hw : t.pow = s.pow) : receiverOn i t = receiverOn i s := by
  have hwatch (k : Nat) : isSet (R.TRK_CTRL k) F.TRK_CTRL_WATCH t = isSet (R.TRK_CTRL k) F.TRK_CTRL_WATCH s :=
    isSet_congr (hc k)
  have hstate : pstate t = pstate s := getF_congr hp
  simp only [receiverOn, watched, watchLanes, hwatch, hstate, hw]

/-- A lane whose conditions hold leaves DARK (Table 2.3). -/
theorem tryLeaveDark_eq (hst : laneState i s = 0) (hen : laneEn i s = true) (hpll : pllLocked i s = true)
    (hdeaf : deaf i s = false) (hrx : receiverOn i s = true) (hold : isSet (R.TRK_STATE i) F.TRK_STATE_HOLDOFF s = false)
    (henergy : (laneOf i s).energy = true) : tryLeaveDark i s = laneChange i 1 12 s := by
  have hmay : mayLeaveDark i s = true := by
    simp only [mayLeaveDark, hst, hen, hpll, hdeaf, hrx, hold, henergy, beq_self_eq_true, Bool.not_false, Bool.and_self]
  rw [tryLeaveDark, hmay, if_pos rfl]

theorem commas_laneChange : (laneOf i (laneChange i 2 c s)).commas = 0 := by
  rw [laneChange, laneOf_raise]
  exact congrArg Lane.commas laneOf_modLane_same

/-- The lane keeps its state when HOLDOFF alone changes. -/
theorem laneState_setHoldoff : laneState i (setF (R.TRK_STATE i) F.TRK_STATE_HOLDOFF v s) = laneState i s :=
  getF_setF_apart _ _ (by decide) (by decide)

/-- A departure's OPEN by normal progress, when no change of its rate waits. -/
theorem toOpen_of_not_pend (hi : i < 84) (h : ratePend i s = false) : toOpen i s = laneChange i 5 12 s := by
  rw [toOpen, applyAtOpen, ratePend_laneChange hi, h]
  exact if_neg fun hc => Bool.noConfusion hc.2

end

/-! ### The receiver's advance (Table 2.3) -/

section
variable {s : State}

theorem energyPresent_eq (i : LaneId) (hst : laneState i s = 0) (hen : laneEn i s = true)
    (hpll : pllLocked i s = true) (hdeaf : deaf i s = false) (hrx : receiverOn i s = true)
    (hold : isSet (R.TRK_STATE i) F.TRK_STATE_HOLDOFF s = false) :
    energyPresent i s = laneChange i 1 12 (modLane i (fun l => { l with energy := true }) s) := by
  have hrate : (laneOf i (modLane i (fun l => { l with energy := true }) s)).rate170 = (laneOf i s).rate170 := by
    rw [laneOf_modLane_same]
  refine tryLeaveDark_eq hst hen ((pllLocked_congr (rd_modLane _) hrate).trans hpll)
    ((deaf_congr (rd_modLane _) hrate).trans hdeaf)
    ((receiverOn_congr (rd_modLane _) (fun _ => rd_modLane _) rfl).trans hrx) hold ?_
  rw [laneOf_modLane_same]

theorem energyPresent_leavesDark (i : LaneId) (hst : laneState i s = 0) (hen : laneEn i s = true)
    (hpll : pllLocked i s = true) (hdeaf : deaf i s = false) (hrx : receiverOn i s = true)
    (hold : isSet (R.TRK_STATE i) F.TRK_STATE_HOLDOFF s = false) :
    After (exec (.energyPresent i) s) fun t => Moved i 1 12 s t ∧ (laneOf i t).energy = true ∧ LaneStep i s t := by
  refine ⟨_, rfl, ?_⟩
  beta_reduce
  rw [energyPresent_eq i hst hen hpll hdeaf hrx hold]
  refine ⟨(moved_laneChange i.isLt (by decide) (by decide)).from getF_modLane, ?_, ?_⟩
  · rw [energy_of_durable (durable_of_kept kept_laneChange), laneOf_modLane_same]
  · refine LaneOnly.trans (laneOnly_modLane mem_laneParts.1) (laneStep_laneChange i.isLt (fun h => ?_) (by decide))
    exact absurd (hst.symm.trans h) (by decide)

theorem retryHoldoffEnd_eq (i : LaneId) (hst : laneState i s = 0) (hen : laneEn i s = true)
    (hpll : pllLocked i s = true) (hdeaf : deaf i s = false) (hrx : receiverOn i s = true)
    (henergy : (laneOf i s).energy = true) :
    retryHoldoffEnd i s = laneChange i 1 12 (setF (R.TRK_STATE i) F.TRK_STATE_HOLDOFF 0 s) := by
  have hrd {a : Nat} (ha : a ≠ R.TRK_STATE i) : rd a (setF (R.TRK_STATE i) F.TRK_STATE_HOLDOFF 0 s) = rd a s :=
    rd_setF_other _ _ ha
  have hctrl (k : Nat) : R.TRK_CTRL k ≠ R.TRK_STATE i := by unfold R.TRK_CTRL R.TRK_STATE; omega
  have hquad : R.TRK_QUAD (quadOf i) ≠ R.TRK_STATE i := by
    have := quadOf_lt i.isLt
    unfold R.TRK_QUAD R.TRK_STATE
    omega
  have hsub : R.SUB_STATE ≠ R.TRK_STATE i := by unfold R.SUB_STATE R.TRK_STATE; omega
  exact tryLeaveDark_eq (laneState_setHoldoff.trans hst) ((laneEn_congr (hrd (hctrl i))).trans hen)
    ((pllLocked_congr (hrd hquad) rfl).trans hpll) ((deaf_congr (hrd (hctrl i)) rfl).trans hdeaf)
    ((receiverOn_congr (hrd hsub) (fun k => hrd (hctrl k)) rfl).trans hrx) (isSet_setF_same (by decide)) henergy

theorem retryHoldoffEnd_leavesDark (i : LaneId) (hst : laneState i s = 0) (hen : laneEn i s = true)
    (hpll : pllLocked i s = true) (hdeaf : deaf i s = false) (hrx : receiverOn i s = true)
    (henergy : (laneOf i s).energy = true) : After (exec (.retryHoldoffEnd i) s) fun t =>
      Moved i 1 12 s t ∧ isSet (R.TRK_STATE i) F.TRK_STATE_HOLDOFF t = false ∧ LaneStep i s t := by
  refine ⟨_, rfl, ?_⟩
  beta_reduce
  rw [retryHoldoffEnd_eq i hst hen hpll hdeaf hrx henergy]
  refine ⟨(moved_laneChange i.isLt (by decide) (by decide)).from ?_, ?_, ?_⟩
  · exact getF_setF_apart _ _ (by decide) (by decide)
  · rw [isSet, getF_laneChange_apart i.isLt rfl (by decide) (by decide)]
    exact isSet_setF_same (by decide)
  · refine LaneOnly.trans (laneOnly_setF (.inl (machineWord_near i.isLt (.inl rfl)).2))
      (laneStep_laneChange i.isLt (fun h => ?_) (by decide))
    exact absurd ((laneState_setHoldoff.trans hst).symm.trans h) (by decide)

theorem cdrLock_reachesComma (i : LaneId) (hst : laneState i s = 1) : After (exec (.cdrLock i) s) fun t =>
    Moved i 2 12 s t ∧ (laneOf i t).commas = 0 ∧ LaneStep i s t :=
  ⟨_, congrArg Host.Outcome.next (if_pos hst), moved_laneChange i.isLt (by decide) (by decide), commas_laneChange,
    laneStep_laneChange i.isLt (fun h => absurd (hst.symm.trans h) (by decide)) (by decide)⟩

/-- The count of comma matches after one at spacing `n` (R33). -/
def commaCount (n : Nat) (l : Lane) : Nat := if n = 2700 then l.commas + 1 else 1

theorem commaReceive_eq (i n : Nat) (levels : List (BitVec 2)) (hst : laneState i s = 2)
    (hmatch : commaMatch (invert (isSet (R.TRK_CTRL i) F.TRK_CTRL_POL_RX s) levels) = true) :
    commaReceive i n levels s = if 3 ≤ commaCount n (laneOf i s)
      then laneChange i 3 12 (modLane i (fun l => { l with commas := commaCount n l }) s)
      else modLane i (fun l => { l with commas := commaCount n l }) s := if_pos ⟨hst, hmatch⟩

/-- A comma match counts on at exact spacing, and starts the count afresh at another. -/
theorem commaReceive_counts (i : LaneId) (n : Nat) (levels : List (BitVec 2)) (hst : laneState i s = 2)
    (hmatch : commaMatch (invert (isSet (R.TRK_CTRL i) F.TRK_CTRL_POL_RX s) levels) = true) :
    After (exec (.commaReceive i n levels) s) fun t => LaneStep i s t
      ∧ (n = 2700 → 2 ≤ (laneOf i s).commas → Moved i 3 12 s t)
      ∧ (n ≠ 2700 → laneState i t = 2 ∧ (laneOf i t).commas = 1) := by
  have hcount : LaneStep i s (modLane i (fun l => { l with commas := commaCount n l }) s) :=
    laneOnly_modLane mem_laneParts.1
  refine ⟨_, rfl, ?_⟩
  beta_reduce
  rw [commaReceive_eq i n levels hst hmatch]
  refine ⟨?_, fun hn h2 => ?_, fun hn => ?_⟩
  · split
    · refine LaneOnly.trans hcount (laneStep_laneChange i.isLt (fun h => ?_) (by decide))
      exact absurd (hst.symm.trans h) (by decide)
    · exact hcount
  · rw [commaCount, if_pos hn, if_pos (by omega)]
    exact (moved_laneChange i.isLt (by decide) (by decide)).from getF_modLane
  · rw [commaCount, if_neg hn, if_neg (by decide), laneState_modLane, laneOf_modLane_same]
    exact ⟨hst, if_neg hn⟩

/-- Four trains with consecutive SEQ bring the lane to its next state. -/
theorem frameAcquired_eq (i : LaneId) (a b c d : BitVec 12) (hst : laneState i s = 3) (hp : pstate s ≠ 3)
    (hb : b = a + 1) (hc : c = b + 1) (hd : d = c + 1) (hpark : isSet (R.TRK_STATE i) F.TRK_STATE_PARKED s = false)
    (hpend : ratePend i s = false) : frameAcquired i [a, b, c, d] s = laneChange i (if oneWay i s then 5 else 4) 12
      (modLane i (fun l => { l with rxSeq := d.toNat, rxValid := true, uncSince := 0 }) s) := by
  have hrun : consecutive [a, b, c, d] = true := by simp [consecutive, hb, hc, hd]
  have hwatch {u : State} (hu : pstate u = pstate s) : parkedWatch i u = false := by
    rw [parkedWatch, hu, beq_false_of_ne hp, Bool.false_and]
  refine (if_pos ⟨hst, Bool.eq_false_iff.1 hpark, hrun⟩).trans ?_
  dsimp only [List.getD_cons_succ, List.getD_cons_zero]
  rw [hwatch getF_modLane, if_neg Bool.false_ne_true, oneWay_congr (rd_modLane _)]
  split
  · exact toOpen_of_not_pend i.isLt (ratePend_modLane.trans hpend)
  · exact Eq.refl _

theorem frameAcquired_opens (i : LaneId) (a b c d : BitVec 12) (hst : laneState i s = 3) (hp : pstate s ≠ 3)
    (hb : b = a + 1) (hc : c = b + 1) (hd : d = c + 1) (hpark : isSet (R.TRK_STATE i) F.TRK_STATE_PARKED s = false)
    (hpend : ratePend i s = false) : After (exec (.frameAcquired i [a, b, c, d]) s) fun t =>
      Moved i (if oneWay i s then 5 else 4) 12 s t ∧ (laneOf i t).rxSeq = d.toNat := by
  refine ⟨_, rfl, ?_⟩
  beta_reduce
  rw [frameAcquired_eq i a b c d hst hp hb hc hd hpark hpend]
  refine ⟨(moved_laneChange i.isLt (by split <;> decide) (by decide)).from getF_modLane, ?_⟩
  rw [rxSeq_of_durable (durable_of_kept kept_laneChange), laneOf_modLane_same]

theorem frameAcquired_idle (i : LaneId) (a b c d : BitVec 12) (h : ¬ (b = a + 1 ∧ c = b + 1 ∧ d = c + 1)) :
    exec (.frameAcquired i [a, b, c, d]) s = .next s := by
  refine congrArg Host.Outcome.next (if_neg fun hc => h ?_)
  simpa [consecutive, and_assoc] using hc.2.2

theorem laneBringUpFollowsTable23 : LaneBringUpFollowsTable23 :=
  ⟨fun i _ => energyPresent_leavesDark i, fun i _ => retryHoldoffEnd_leavesDark i, fun i _ => cdrLock_reachesComma i,
    fun i n levels _ => commaReceive_counts i n levels, fun i a b c d _ => frameAcquired_opens i a b c d,
    fun i a b c d _ => frameAcquired_idle i a b c d⟩

end

/-! ### The ways back to DARK (Table 2.4) -/

section
variable {s t : State}

/-- What a timeout or a loss of tokens leaves. -/
theorem toDark_holdsOff {i c : Nat} (hi : i < 84) (hc : c < 16) (hst : laneState i s ≠ 0) :
    LaneLoss i s (toDark i c true s) ∧ HoldsOff i s (toDark i c true s)
      ∧ (ratePend i s = false → Moved i 0 c s (toDark i c true s))
      ∧ (ratePend i s = true → Applied i s (toDark i c true s)) := by
  refine ⟨laneLoss_toDark hi, ?_, fun h => ?_, applied_toDark hi⟩
  · rw [HoldsOff, holdoff_toDark hi, Bool.true_and, holdoffRuns, holdoffTicks]
  · rw [toDark_of_not_pend hi h]
    exact moved_reachDark hi hc hst

/-- The frame of a loss takes up a change of the lane alone before it. -/
theorem LaneLoss.after_modLane {i : Nat} {g : Lane → Lane} (h : LaneLoss i (modLane i g s) t) : LaneLoss i s t := by
  obtain ⟨hparts, hpend, hothers, hstep⟩ := h
  have hmod {ps : List Part} {w : Nat → Prop} (hp : .lanes ∈ ps) : LaneOnly i ps w s (modLane i g s) := laneOnly_modLane hp
  have hfirst : LaneOnly i (lossParts i) (fun _ => False) s (modLane i g s) := hmod mem_lossParts.1
  refine ⟨fun p hp => ?_, hpend.trans hfirst.1.1, fun k hk => (hothers k hk).trans (hfirst.2 k hk), fun hd hr => ?_⟩
  · have h1 := hfirst.1.2.1 p hp
    have h2 := hparts p hp
    cases p <;> exact Eq.trans h2 h1
  · exact LaneOnly.trans (hmod mem_laneParts.1) (hstep hd hr)

theorem energyLost_eq (i : Nat) (h0 : laneState i s ≠ 0) (h6 : laneState i s ≠ 6) (hdeaf : deaf i s = false) :
    energyLost i s = toDark i 4 false (modLane i (fun l => { l with energy := false }) s) := by
  have hrate : (laneOf i (modLane i (fun l => { l with energy := false }) s)).rate170 = (laneOf i s).rate170 := by
    rw [laneOf_modLane_same]
  refine if_neg ?_
  rw [laneState_modLane, deaf_congr (rd_modLane _) hrate, hdeaf]
  rintro (h | h | h)
  · exact h0 h
  · exact h6 h
  · exact Bool.false_ne_true h

theorem energyLost_darkens (i : LaneId) (h0 : laneState i s ≠ 0) (h6 : laneState i s ≠ 6) (hdeaf : deaf i s = false) :
    After (exec (.energyLost i) s) fun t => LaneLoss i s t ∧ (laneOf i t).energy = false
      ∧ getF (R.TRK_STATE i) F.TRK_STATE_HOLDOFF t = 0
      ∧ (ratePend i s = false → Moved i 0 4 s t) ∧ (ratePend i s = true → Applied i s t) := by
  refine ⟨_, rfl, ?_⟩
  beta_reduce
  rw [energyLost_eq i h0 h6 hdeaf]
  refine ⟨(laneLoss_toDark i.isLt).after_modLane, ?_, holdoff_toDark i.isLt, fun h => ?_, fun h => ?_⟩
  · rw [energy_of_durable (durable_toDark i.isLt), laneOf_modLane_same]
  · rw [toDark_of_not_pend i.isLt (ratePend_modLane.trans h)]
    exact (moved_reachDark i.isLt (by decide) (by rwa [laneState_modLane])).from getF_modLane
  · obtain ⟨hrate, hpend⟩ := applied_toDark (c := 4) (hx := false) i.isLt (ratePend_modLane.trans h)
    rw [laneOf_modLane_same] at hrate
    exact ⟨hrate, hpend⟩

/-- The cause of a handshake that timed out (Table 2.4). -/
theorem handshakeTimeout_eq (i : Nat) (hst : laneState i s = 4) : handshakeTimeout i s
    = toDark i (if getF (R.TRK_LINKID i) F.TRK_LINKID_PEER_ID s ≠ 0 ∧ (laneOf i s).wrongId = true
        ∧ (laneOf i s).gotValid = false then 8 else 9) true s := by
  rw [handshakeTimeout, if_pos hst]
  simp only [Bool.not_eq_true]

theorem laneTimeoutsReturnToDark : LaneTimeoutsReturnToDark := by
  refine ⟨fun i s hst => ?_, fun i s hst => ?_, fun i s hst hpark => ?_, fun i s hst => ?_, fun i s hst hdeaf hway => ?_,
    fun i s => energyLost_darkens i⟩
  · exact ⟨_, congrArg Host.Outcome.next (if_pos hst), toDark_holdsOff i.isLt (by decide) (by omega)⟩
  · exact ⟨_, congrArg Host.Outcome.next (if_pos hst), toDark_holdsOff i.isLt (by decide) (by omega)⟩
  · exact ⟨_, congrArg Host.Outcome.next (if_pos ⟨hst, Bool.eq_false_iff.1 hpark⟩),
      toDark_holdsOff i.isLt (by decide) (by omega)⟩
  · exact ⟨_, congrArg Host.Outcome.next (handshakeTimeout_eq i hst),
      toDark_holdsOff i.isLt (by split <;> decide) (by omega)⟩
  · exact ⟨_, congrArg Host.Outcome.next (if_pos ⟨hst, Bool.eq_false_iff.1 hdeaf, Bool.eq_false_iff.1 hway⟩),
      toDark_holdsOff i.isLt (by decide) (by omega)⟩

end

/-- Settles O1: each clause is one state change, or a way to DARK, of a lane whose state meets the command's condition. -/
theorem lanesFollowTheirStateMachine : Obligations.LanesFollowTheirStateMachine :=
  ⟨laneBringUpFollowsTable23, laneTimeoutsReturnToDark⟩

end Sys2Proof.Safety

namespace Sys2Proof.Safety
open Sys2Proof.Machine

/-! ### The framing registers (R83) -/

section
variable {i k n corr : Nat} {a : Nat} {t : Train} {c : Nat → Train → State → State} {f : Fld} {s u : State}

/-- The words that the count of a train and the framing conditions write. -/
def countWord (i a : Nat) : Prop :=
  a = R.PTS_FRSTAT i ∨ a = R.PTS_FRTRN i ∨ a = R.PTS_FRCSYM i ∨ bellWord (frameEvent i) a

/-- The components that the framing layer may change. -/
def frameParts : List Part := [.lanes, .bellq, .health]

theorem mem_frameParts : .lanes ∈ frameParts ∧ .bellq ∈ frameParts ∧ .health ∈ frameParts := by decide

theorem frameBell_range (hi : i < 84) (h : bellWord (frameEvent i) a) : 0x1010001 ≤ a ∧ a < 0x1012400 := by
  have he := frameEvent_lt hi
  simp only [bellWord, R.BEL_SRC, R.BEL_LOGPOS, R.BEL_LOG] at h
  omega

/-- A word that is none of the framing layer's. -/
theorem not_countWord (hi : i < 84) (h : a < 0x1010001 ∨ 0x1012400 ≤ a)
    (hf : a < 0x30F0000 ∨ 0x30F0003 + 0x10 * i ≤ a) :    ¬ countWord i a := by
  rintro (rfl | rfl | rfl | hb)
  · unfold R.PTS_FRSTAT at hf h; omega
  · unfold R.PTS_FRTRN at hf h; omega
  · unfold R.PTS_FRCSYM at hf h; omega
  · have := frameBell_range hi hb; omega

theorem frstat_not_bell (hi : i < 84) : ¬ bellWord (frameEvent i) (R.PTS_FRSTAT i + (⟨0, 0, 12⟩ : Fld).sub) := fun h => by
  have := frameBell_range hi h
  unfold R.PTS_FRSTAT at this
  omega

theorem only_frameCond : Only [.bellq, .health] (fun a => a = R.PTS_FRSTAT i ∨ bellWord (frameEvent i) a) s
    (frameCond i k s) := only_flagEvt _ _ _ _ _

theorem laneOnly_frameCond : LaneOnly i frameParts (countWord i) s (frameCond i k s) :=
  (only_frameCond.laneOnly (by decide)).widen (by decide) fun _ ha => ha.imp id fun h => .inr (.inr h)

@[simp] theorem laneOf_frameCond : laneOf n (frameCond i k s) = laneOf n s := laneOf_of_only only_frameCond (by decide)

/-- Bit `k` of PTS_FRSTAT. -/
def frameBit (i k : Nat) (s : State) : Bool := getBit (R.PTS_FRSTAT i) ⟨0, 0, 12⟩ k s

theorem frameBit_frameCond (hi : i < 84) (hk : k < 12) : frameBit i k (frameCond i k s) = true :=
  getBit_flagEvt hk (by decide) (frstat_not_bell hi)

theorem frameBit_frameCond_other {j : Nat} (hi : i < 84) (hk : k < 12) (hj : j < 12) (h : j ≠ k) :
    frameBit i j (frameCond i k s) = frameBit i j s := getBit_flagEvt_other hk hj h (by decide) (frstat_not_bell hi)

/-! ### Trains counted (R58, R83) -/

theorem laneOnly_countTrain : LaneOnly i frameParts (countWord i) s (countTrain i corr s) :=
  (laneOnly_setF (.inr (.inl rfl))).trans (laneOnly_setF (.inr (.inr (.inl rfl))))

@[simp] theorem laneOf_satF {b : Nat} : laneOf n (satF b f k s) = laneOf n s := laneOf_setF

@[simp] theorem laneOf_countTrain : laneOf n (countTrain i corr s) = laneOf n s := by
  rw [countTrain, laneOf_satF, laneOf_satF]

theorem frameBit_modLane {j : Nat} {g : Lane → Lane} : frameBit i j (modLane n g s) = frameBit i j s := rfl

theorem frameBit_countTrain {j : Nat} : frameBit i j (countTrain i corr s) = frameBit i j s := by
  have hsym : R.PTS_FRSTAT i + 0 ≠ R.PTS_FRCSYM i + 0 := by unfold R.PTS_FRSTAT R.PTS_FRCSYM; omega
  have htrn : R.PTS_FRSTAT i + 0 ≠ R.PTS_FRTRN i + 0 := by unfold R.PTS_FRSTAT R.PTS_FRTRN; omega
  exact (getBit_setF_other _ _ hsym).trans (getBit_setF_other _ _ htrn)

theorem laneOnly_seqCheck : LaneOnly i frameParts (countWord i) s (seqCheck i n s) :=
  (laneOnly_when laneOnly_frameCond).trans (laneOnly_modLane mem_frameParts.1)

theorem laneOf_seqCheck :
    laneOf i (seqCheck i n s) = { laneOf i s with rxSeq := n, rxValid := true, uncSince := 0 } := by
  rw [seqCheck, laneOf_modLane_same, laneOf_when laneOf_frameCond]

theorem frameBit_when {b : Bool} {j : Nat} {op : State → State} (h : frameBit i j (op s) = frameBit i j s) :
    frameBit i j (when b op s) = frameBit i j s := by
  cases b
  · rfl
  · exact h

theorem frameBit_seqCheck {j : Nat} (hi : i < 84) (hj : j < 12) (h : j ≠ 1) :
    frameBit i j (seqCheck i n s) = frameBit i j s :=
  frameBit_when (frameBit_frameCond_other hi (by decide) hj h)

theorem fillerMiss_induct {P : State → Prop} (h : P s) (hc : P (frameCond i 8 s)) : P (fillerMiss i s) := by
  unfold fillerMiss
  split
  · exact hc
  · exact h

/-- What every train does before its TYPE is looked at: counted, its SEQ checked, and the fillers' spacing watched. -/
def trainCounted (i : Nat) (t : Train) (corr : Nat) (s : State) : State :=
  let s := modLane i (fun l => { l with nonFill := if t.typ.toNat = typFiller then 0 else l.nonFill + 1 })
    (seqCheck i t.seq.toNat (countTrain i corr s))
  when (decide ((laneOf i s).nonFill = 2048)) (fillerMiss i) s

theorem laneOnly_trainCounted : LaneOnly i frameParts (countWord i) s (trainCounted i t corr s) :=
  laneOnly_countTrain.trans <| laneOnly_seqCheck.trans <| (laneOnly_modLane mem_frameParts.1).trans <|
    laneOnly_when (fillerMiss_induct .refl laneOnly_frameCond)

theorem laneOf_trainCounted : laneOf i (trainCounted i t corr s)
    = { laneOf i s with rxSeq := t.seq.toNat, rxValid := true, uncSince := 0,
                        nonFill := if t.typ.toNat = typFiller then 0 else (laneOf i s).nonFill + 1 } := by
  have hmiss {u : State} : laneOf i (fillerMiss i u) = laneOf i u :=
    fillerMiss_induct (P := fun v => laneOf i v = laneOf i u) rfl laneOf_frameCond
  rw [trainCounted, laneOf_when hmiss, laneOf_modLane_same, laneOf_seqCheck, laneOf_countTrain]

theorem frameBit_trainCounted {j : Nat} (hi : i < 84) (hj : j < 12) (h1 : j ≠ 1) (h8 : j ≠ 8) :
    frameBit i j (trainCounted i t corr s) = frameBit i j s := by
  have hmiss {u : State} : frameBit i j (fillerMiss i u) = frameBit i j u :=
    fillerMiss_induct (P := fun v => frameBit i j v = frameBit i j u) rfl
      (frameBit_frameCond_other hi (by decide) hj h8)
  rw [trainCounted, frameBit_when hmiss, frameBit_modLane, frameBit_seqCheck hi hj h1, frameBit_countTrain]

/-- A register that is none of the framing layer's reads as before. -/
theorem rd_trainCounted (hi : i < 84) (h : a < 0x1010001 ∨ 0x1012400 ≤ a)
    (hf : a < 0x30F0000 ∨ 0x30F0003 + 0x10 * i ≤ a) : rd a (trainCounted i t corr s) = rd a s :=
  laneOnly_trainCounted.rd_eq (not_countWord hi h hf)

theorem getF_state_trainCounted (hi : i < 84) (hf : f.sub = 0) :
    getF (R.TRK_STATE i) f (trainCounted i t corr s) = getF (R.TRK_STATE i) f s := by
  refine getF_congr ?_
  rw [hf]
  exact rd_trainCounted hi (.inr (by unfold R.TRK_STATE; omega)) (.inl (by unfold R.TRK_STATE; omega))

theorem laneState_trainCounted (hi : i < 84) : laneState i (trainCounted i t corr s) = laneState i s :=
  getF_state_trainCounted hi rfl

theorem rd_ctrl_trainCounted (hi : i < 84) : rd (R.TRK_CTRL i) (trainCounted i t corr s) = rd (R.TRK_CTRL i) s :=
  rd_trainCounted hi (.inr (by unfold R.TRK_CTRL; omega)) (.inl (by unfold R.TRK_CTRL; omega))

theorem pstate_trainCounted (hi : i < 84) : pstate (trainCounted i t corr s) = pstate s :=
  getF_congr (rd_trainCounted hi (.inr (by decide)) (.inl (by decide)))

/-! ### Trains by TYPE (Table 3.3) -/

/-- What a train of an accepted TYPE does, and UNKNOWN_TYPE for another. -/
def trainByType (c : Nat → Train → State → State) (i : Nat) (t : Train) (s : State) : State :=
  let typ := t.typ.toNat
  if typ = typFiller then tokenReceive i (t.cars.headD 0#40) s
  else if !typeAccepted i typ then frameCond i 2 s
  else if typ = typTest then when (t.cars.any (· != 0#40)) (frameCond i 11) s
  else if typ = typCoupling then (if laneState i s = 5 then c i t s else s)
  else if laneState i s = 3 ∧ isSet (R.TRK_STATE i) F.TRK_STATE_PARKED s ∧ typ = typData then watchTrain i t s
  else if laneState i s ≠ 5 ∨ pstate s ≠ 1 then s
  else if typ = typData then dataChecks i t s
  else ttChecks i t s

theorem trainAccept_eq : trainAccept c i t corr s = trainByType c i t (trainCounted i t corr s) := rfl

theorem trainByType_filler (h : t.typ = 2#4) : trainByType c i t s = tokenReceive i (t.cars.headD 0#40) s := by
  unfold trainByType
  rw [h]
  exact if_pos rfl

theorem trainByType_test (h : t.typ = 4#4) :
    trainByType c i t s = when (t.cars.any (· != 0#40)) (frameCond i 11) s := by
  have haccept : typeAccepted i 4 = true := by simp [typeAccepted, typTest]
  unfold trainByType
  rw [h]
  simp [haccept, typFiller, typTest]

theorem trainByType_coupling (hi : 80 ≤ i) (hst : laneState i s = 5) (h : t.typ = 5#4) :
    trainByType c i t s = c i t s := by
  have haccept : typeAccepted i 5 = true := by simp [typeAccepted, typCoupling, hi]
  unfold trainByType
  rw [h]
  simp [haccept, hst, typFiller, typTest, typCoupling]

theorem trainByType_timetable (ha : isArrival i = true) (hst : laneState i s = 5) (hp : pstate s = 1) (h : t.typ = 3#4) :
    trainByType c i t s = ttChecks i t s := by
  have haccept : typeAccepted i 3 = true := by simp [typeAccepted, typTimetable, ha]
  unfold trainByType
  rw [h]
  simp [haccept, hst, hp, typFiller, typTest, typCoupling, typData]

theorem useInj_of_none {p : Inj → Bool} (h : findInj p s = none) : useInj p s = s := by
  unfold useInj
  split
  · next x hx =>
    have hmem : x ∈ injs s := by simp [injs, hx]
    have hno : p x = false := by simpa using List.find?_eq_none.1 h x hmem
    rw [hno, when_false]
  · rfl

/-- A lane that decodes trains takes the train that its symbols carry. -/
theorem trainReceive_eq {syms : List (BitVec 2)} (hdec : decodes i s = true) (h : Carries i syms t corr s) :
    trainReceive c i syms s = trainByType c i t (trainCounted i t corr s) := by
  obtain ⟨htrain, hcorr, hrate, hign, hinj⟩ := h
  rw [← trainAccept_eq]
  unfold trainReceive
  simp only [hdec, hign, hrate, htrain, hinj, useInj_of_none hinj, Bool.not_true, Bool.or_self, Bool.false_eq_true,
    if_false, Nat.add_zero, if_neg (Nat.not_lt.2 hcorr)]

theorem decodes_of_range (h3 : 3 ≤ laneState i s) (h5 : laneState i s ≤ 5) : decodes i s = true := by
  simp [decodes, h3, h5]

end

/-! ### Tokens (R38) -/

section
variable {i n v : Nat} {car : Word} {f : Fld} {s u : State}

/-- A token's identity and stage in TRK_PEER. -/
def peerShown (i : Nat) (car : Word) (s : State) : State :=
  s |> setF (R.TRK_PEER i) F.TRK_PEER_LINK_ID (bitsOf car 0 16)
    |> setF (R.TRK_PEER i) F.TRK_PEER_STAGE (bitsOf car 30 2)
    |> setF (R.TRK_PEER i) F.TRK_PEER_ANY 1

theorem rd_peerShown {a : Nat} (h : a ≠ R.TRK_PEER i) : rd a (peerShown i car s) = rd a s := by
  rw [peerShown, rd_setF_other _ _ h, rd_setF_other _ _ h, rd_setF_other _ _ h]

theorem getF_state_peerShown (hf : f.sub = 0) : getF (R.TRK_STATE i) f (peerShown i car s) = getF (R.TRK_STATE i) f s :=
  getF_congr (rd_peerShown (by rw [hf]; unfold R.TRK_STATE R.TRK_PEER; omega))

theorem laneOf_peerShown : laneOf n (peerShown i car s) = laneOf n s := by
  rw [peerShown, laneOf_setF, laneOf_setF, laneOf_setF]

theorem linkId_peerShown : getF (R.TRK_PEER i) F.TRK_PEER_LINK_ID (peerShown i car s) = bitsOf car 0 16 := by
  rw [peerShown, getF_setF_apart _ _ (by decide) (by decide), getF_setF_apart _ _ (by decide) (by decide),
    getF_setF_same _ _ _ _ (by decide)]
  exact Nat.mod_eq_of_lt (bitsOf_lt _ _ _)

theorem stage_peerShown : getF (R.TRK_PEER i) F.TRK_PEER_STAGE (peerShown i car s) = bitsOf car 30 2 := by
  rw [peerShown, getF_setF_apart _ _ (by decide) (by decide), getF_setF_same _ _ _ _ (by decide)]
  exact Nat.mod_eq_of_lt (bitsOf_lt _ _ _)

theorem any_peerShown : getF (R.TRK_PEER i) F.TRK_PEER_ANY (peerShown i car s) = 1 := getF_setF_same _ _ _ _ (by decide)

/-- A valid token on a lane in OPEN: a peer that restarts its handshake takes the lane with it. -/
theorem tokenReceive_open (hst : laneState i s = 5) (hdeaf : deaf i s = false) (hway : oneWay i s = false)
    (hform : tokenForm car = true) (hpeer : peerOk i car s = true) : tokenReceive i car s
      = if bitsOf car 30 2 = 0 ∨ bitsOf car 30 2 = 3 then laneChange i 4 11 (peerShown i car s)
        else peerShown i car s := by
  have h5 : laneState i (peerShown i car s) = 5 := (getF_state_peerShown rfl).trans hst
  unfold peerShown at h5 ⊢
  unfold tokenReceive
  simp only [hdeaf, hway, hform, hpeer, Bool.or_self, Bool.false_eq_true, if_false, Bool.and_self, Bool.true_and,
    when_true, h5, Bool.or_eq_true, beq_iff_eq]

/-- Beside TRK_STATE and TRK_STATUS, a state change writes of the Tracks what leaving the old state does. -/
theorem rd_laneChange {a st c : Nat} (hi : i < 84) (hstate : a ≠ R.TRK_STATE i) (hstatus : a ≠ R.TRK_STATUS i)
    (hfar : ¬ farWord a) : rd a (laneChange i st c s) = rd a (leaveState i s) :=
  calc rd a (laneChange i st c s)
      = rd a (enterState i st (setStatusFlag i c (incF (R.TRK_STATE i) F.TRK_STATE_TRANS 1
          (setF (R.TRK_STATE i) F.TRK_STATE_CAUSE c (setF (R.TRK_STATE i) F.TRK_STATE_STATE st (leaveState i s)))))) :=
        rd_raise_other _ _ fun h => hfar (farWord_of_bellWord (laneEvent_lt hi) h)
    _ = rd a (setStatusFlag i c (incF (R.TRK_STATE i) F.TRK_STATE_TRANS 1
          (setF (R.TRK_STATE i) F.TRK_STATE_CAUSE c (setF (R.TRK_STATE i) F.TRK_STATE_STATE st (leaveState i s))))) :=
        laneOnly_enterState.rd_eq (not_or.2 ⟨hstate, hfar⟩)
    _ = rd a (incF (R.TRK_STATE i) F.TRK_STATE_TRANS 1
          (setF (R.TRK_STATE i) F.TRK_STATE_CAUSE c (setF (R.TRK_STATE i) F.TRK_STATE_STATE st (leaveState i s)))) :=
        (laneOnly_setStatusFlag (i := i) (ps := []) (w := fun a => a = R.TRK_STATUS i) rfl).rd_eq hstatus
    _ = rd a (leaveState i s) := by
        rw [incF, rd_setF_other _ _ hstate, rd_setF_other _ _ hstate, rd_setF_other _ _ hstate]

/-- TRK_PEER outlasts a state change of a lane that was not in DARK. -/
theorem getF_peer_laneChange {st c : Nat} (hi : i < 84) (hst : laneState i s ≠ 0) (hf : f.sub = 0) :
    getF (R.TRK_PEER i) f (laneChange i st c s) = getF (R.TRK_PEER i) f s := by
  have hstate : R.TRK_PEER i ≠ R.TRK_STATE i := by unfold R.TRK_PEER R.TRK_STATE; omega
  have hstatus : R.TRK_PEER i ≠ R.TRK_STATUS i := by unfold R.TRK_PEER R.TRK_STATUS; omega
  have htest : R.TRK_PEER i ≠ R.TRK_TEST i := by unfold R.TRK_PEER R.TRK_TEST; omega
  have hleave : rd (R.TRK_PEER i) (leaveState i s) = rd (R.TRK_PEER i) s := by
    unfold leaveState
    split
    · contradiction
    · exact rd_setF_other _ _ htest
    · split
      · exact laneOnly_departureLoss.rd_eq (peer_not_far hi)
      · rfl
    · rfl
  refine getF_congr ?_
  rw [hf]
  exact (rd_laneChange hi hstate hstatus (peer_not_far hi)).trans hleave

end

/-! ### The other trains -/

section
variable {s : State} {i : LaneId} {syms : List (BitVec 2)} {t : Train} {corr : Nat}

theorem deaf_of_carries (h : Carries i syms t corr s) (hway : oneWay i s = false) : deaf i s = false := by
  obtain ⟨-, -, hrate, -, -⟩ := h
  rw [deaf, hway, hrate, Bool.or_self, Bool.and_false]

/-- A valid token is shown in TRK_PEER, and one of stage HELLO or PARKED restarts the handshake. -/
theorem tokenReceive_shows {car : Word} {u : State} (hst : laneState i u = 5) (hdeaf : deaf i u = false)
    (hway : oneWay i u = false) (hform : tokenForm car = true) (hpeer : peerOk i car u = true) :
    (laneOf i (tokenReceive i car u)).nonFill = (laneOf i u).nonFill
      ∧ getF (R.TRK_PEER i) F.TRK_PEER_LINK_ID (tokenReceive i car u) = bitsOf car 0 16
      ∧ getF (R.TRK_PEER i) F.TRK_PEER_STAGE (tokenReceive i car u) = bitsOf car 30 2
      ∧ getF (R.TRK_PEER i) F.TRK_PEER_ANY (tokenReceive i car u) = 1
      ∧ (bitsOf car 30 2 = 0 ∨ bitsOf car 30 2 = 3 → Moved i 4 11 u (tokenReceive i car u))
      ∧ (bitsOf car 30 2 = 1 ∨ bitsOf car 30 2 = 2 → laneState i (tokenReceive i car u) = 5) := by
  have h5 : laneState i (peerShown i car u) = 5 := (getF_state_peerShown rfl).trans hst
  have h0 : laneState i (peerShown i car u) ≠ 0 := by rw [h5]; decide
  rw [tokenReceive_open hst hdeaf hway hform hpeer]
  split
  · next hstage =>
    refine ⟨?_, ?_, ?_, ?_, fun _ => ?_, fun h => by omega⟩
    · rw [nonFill_of_durable (durable_of_kept kept_laneChange), laneOf_peerShown]
    · exact (getF_peer_laneChange i.isLt h0 rfl).trans linkId_peerShown
    · exact (getF_peer_laneChange i.isLt h0 rfl).trans stage_peerShown
    · exact (getF_peer_laneChange i.isLt h0 rfl).trans any_peerShown
    · exact (moved_laneChange i.isLt (by decide) (by decide)).from (getF_state_peerShown rfl)
  · next hstage =>
    exact ⟨congrArg Lane.nonFill laneOf_peerShown, linkId_peerShown, stage_peerShown, any_peerShown,
      fun h => absurd h hstage, fun _ => h5⟩

theorem fillerReceive_restartsHandshake (hst : laneState i s = 5) (h : Carries i syms t corr s)
    (hway : oneWay i s = false) (htyp : t.typ = 2#4) (hform : tokenForm (t.cars.headD 0#40) = true)
    (hpeer : peerOk i (t.cars.headD 0#40) s = true) : After (exec (.fillerReceive i syms) s) fun u =>
      (laneOf i u).nonFill = 0
        ∧ getF (R.TRK_PEER i) F.TRK_PEER_LINK_ID u = bitsOf (t.cars.headD 0#40) 0 16
        ∧ getF (R.TRK_PEER i) F.TRK_PEER_STAGE u = bitsOf (t.cars.headD 0#40) 30 2
        ∧ getF (R.TRK_PEER i) F.TRK_PEER_ANY u = 1
        ∧ (bitsOf (t.cars.headD 0#40) 30 2 = 0 ∨ bitsOf (t.cars.headD 0#40) 30 2 = 3 → Moved i 4 11 s u)
        ∧ (bitsOf (t.cars.headD 0#40) 30 2 = 1 ∨ bitsOf (t.cars.headD 0#40) 30 2 = 2 → laneState i u = 5) := by
  have hi := i.isLt
  have hctrl := rd_ctrl_trainCounted (s := s) (t := t) (corr := corr) hi
  have hlink : rd (R.TRK_LINKID i) (trainCounted i t corr s) = rd (R.TRK_LINKID i) s :=
    rd_trainCounted hi (.inr (by unfold R.TRK_LINKID; omega)) (.inl (by unfold R.TRK_LINKID; omega))
  have hrate : (laneOf i (trainCounted i t corr s)).rate170 = (laneOf i s).rate170 := by rw [laneOf_trainCounted]
  have hdeaf := (deaf_congr hctrl hrate).trans (deaf_of_carries h hway)
  have hok : peerOk i (t.cars.headD 0#40) (trainCounted i t corr s) = true := by
    rw [peerOk, getF_congr hlink]
    exact hpeer
  have hfill : (laneOf i (trainCounted i t corr s)).nonFill = 0 :=
    (congrArg Lane.nonFill laneOf_trainCounted).trans (if_pos (by rw [htyp]; rfl))
  refine ⟨_, rfl, ?_⟩
  beta_reduce
  rw [trainReceive_eq (decodes_of_range (by omega) (by omega)) h, trainByType_filler htyp]
  obtain ⟨hnon, hid, hstage, hany, hmoved, hopen⟩ := tokenReceive_shows ((laneState_trainCounted hi).trans hst) hdeaf
    ((oneWay_congr hctrl).trans hway) hform hok
  exact ⟨hnon.trans hfill, hid, hstage, hany, fun hs => (hmoved hs).from (getF_state_trainCounted hi rfl), hopen⟩

/-- Where a TIMETABLE train waits: behind the highest block of the DATA trains before it. -/
theorem ttChecks_waits {u : State} (hen : isSet (R.PTS_FRCTL i) F.PTS_FRCTL_TT_EN u = true)
    (hstream : t.stream.toNat = getF R.PTS_ARRCFG F.PTS_ARRCFG_TT_STREAM u) (hfront : frontValid u = true)
    (hroom : (laneOf i u).fifo.length < 256) : (laneOf i (ttChecks i t u)).fifo = (laneOf i u).fifo
      ++ [⟨true, (match (laneOf i u).hiBlock with | some b => 40 * (b + 1) | none => 0), 0, t.tlow.toNat, 0,
          (laneOf i u).hiBlock.isNone, t.cars⟩] := by
  have hput {a : ArrTrain} : (laneOf i (fifoPut i a u)).fifo = (laneOf i u).fifo ++ [a] := by
    rw [fifoPut, if_neg (Nat.not_le.2 hroom), laneOf_modLane_same]
  unfold ttChecks
  simp only [hen, hstream, hfront, Bool.not_true, bne_self_eq_false, Bool.or_self, Bool.false_and, Bool.false_eq_true,
    if_false]
  exact hput.trans (by cases (laneOf i u).hiBlock <;> rfl)

theorem timetableTrainReceive_waits (hst : laneState i s = 5) (hp : pstate s = 1) (h : Carries i syms t corr s)
    (ha : isArrival i = true) (htyp : t.typ = 3#4) (hen : isSet (R.PTS_FRCTL i) F.PTS_FRCTL_TT_EN s = true)
    (hstream : t.stream.toNat = getF R.PTS_ARRCFG F.PTS_ARRCFG_TT_STREAM s) (hfront : frontValid s = true)
    (hroom : (laneOf i s).fifo.length < 256) : After (exec (.timetableTrainReceive i syms) s) fun u =>
      (laneOf i u).fifo = (laneOf i s).fifo ++ [⟨true,
        (match (laneOf i s).hiBlock with | some b => 40 * (b + 1) | none => 0), 0, t.tlow.toNat, 0,
        (laneOf i s).hiBlock.isNone, t.cars⟩] := by
  have hi := i.isLt
  have hctl : rd (R.PTS_FRCTL i) (trainCounted i t corr s) = rd (R.PTS_FRCTL i) s :=
    rd_trainCounted hi (.inr (by unfold R.PTS_FRCTL; omega)) (.inr (by unfold R.PTS_FRCTL; omega))
  have hnum : getF R.PTS_ARRCFG F.PTS_ARRCFG_TT_STREAM (trainCounted i t corr s)
      = getF R.PTS_ARRCFG F.PTS_ARRCFG_TT_STREAM s :=
    getF_congr (rd_trainCounted hi (.inr (by decide)) (.inr (by unfold R.PTS_ARRCFG; omega)))
  have hvalid : frontValid (trainCounted i t corr s) = frontValid s :=
    isSet_congr (rd_trainCounted hi (.inr (by decide)) (.inr (by unfold R.PTS_FRONT; omega)))
  have hfifo : (laneOf i (trainCounted i t corr s)).fifo = (laneOf i s).fifo := by rw [laneOf_trainCounted]
  have hblock : (laneOf i (trainCounted i t corr s)).hiBlock = (laneOf i s).hiBlock := by rw [laneOf_trainCounted]
  refine ⟨_, rfl, ?_⟩
  beta_reduce
  rw [trainReceive_eq (decodes_of_range (by omega) (by omega)) h, trainByType_timetable ha
    ((laneState_trainCounted hi).trans hst) ((pstate_trainCounted hi).trans hp) htyp,
    ttChecks_waits ((isSet_congr hctl).trans hen) (hstream.trans hnum.symm) (hvalid.trans hfront)
      (by rw [hfifo]; exact hroom), hfifo, hblock]

theorem testTrainReceive_flags (h3 : 3 ≤ laneState i s) (h5 : laneState i s ≤ 5) (h : Carries i syms t corr s)
    (htyp : t.typ = 4#4) : After (exec (.testTrainReceive i syms) s) fun u =>
      frameBit i 11 u = (frameBit i 11 s || t.cars.any (· != 0#40)) := by
  have hi := i.isLt
  refine ⟨_, rfl, ?_⟩
  beta_reduce
  rw [trainReceive_eq (decodes_of_range h3 h5) h, trainByType_test htyp]
  cases t.cars.any (· != 0#40) with
  | false => rw [when_false, frameBit_trainCounted hi (by decide) (by decide) (by decide), Bool.or_false]
  | true => rw [when_true, frameBit_frameCond hi (by decide), Bool.or_true]

theorem couplingTrain_flags {u : State} (hi : i.val < 84) : frameBit i 3 (couplingTrain i t u)
    = (frameBit i 3 u || t.stream.toNat != ownPair u || !carsParse 128 t.cars) ∧ (couplingTrain i t u).cpl = u.cpl := by
  unfold couplingTrain
  split
  · next hbad =>
    refine ⟨?_, only_frameCond.2.1 .cpl (by decide)⟩
    rw [frameBit_frameCond hi (by decide)]
    rcases hbad with h | h
    · simp [bne_iff_ne.2 h]
    · simp [h]
  · next hgood =>
    obtain ⟨hpair, hcars⟩ := not_or.1 hgood
    simp [not_not.1 hpair, eq_true_of_ne_false hcars]

theorem couplingTrainReceive_checks (hc : 80 ≤ i.val) (hst : laneState i s = 5) (h : Carries i syms t corr s)
    (htyp : t.typ = 5#4) : After (exec (.couplingTrainReceive i syms) s) fun u =>
      frameBit i 3 u = (frameBit i 3 s || t.stream.toNat != ownPair s || !carsParse 128 t.cars) ∧ u.cpl = s.cpl := by
  have hi := i.isLt
  have hpair : ownPair (trainCounted i t corr s) = ownPair s :=
    getF_congr (rd_trainCounted hi (.inr (by decide)) (.inl (by decide)))
  have hcpl : (trainCounted i t corr s).cpl = s.cpl := laneOnly_trainCounted.1.2.1 .cpl (by decide)
  refine ⟨_, rfl, ?_⟩
  beta_reduce
  rw [trainReceive_eq (decodes_of_range (by omega) (by omega)) h,
    trainByType_coupling hc ((laneState_trainCounted hi).trans hst) htyp]
  obtain ⟨hbit, hsame⟩ := couplingTrain_flags (u := trainCounted i t corr s) (t := t) hi
  rw [frameBit_trainCounted hi (by decide) (by decide) (by decide), hpair] at hbit
  exact ⟨hbit, hsame.trans hcpl⟩

end

/-! ### Uncorrectable codewords and missing fillers (R35, R60, R62) -/

section
variable {i b k n : Nat} {f : Fld} {s u : State}

theorem getF_satF_same (h : f.lo + f.w ≤ 40) :
    getF b f (satF b f k s) = Nat.min (getF b f s + k) (2 ^ f.w - 1) := by
  rw [satF, getF_setF_same _ _ _ _ h]
  refine Nat.mod_eq_of_lt (Nat.lt_of_le_of_lt (Nat.min_le_right _ _) ?_)
  exact Nat.sub_lt (by positivity) (by decide)

/-- An uncorrectable codeword counted: it breaks the counts of consecutive tokens. -/
def uncorrCounted (i : Nat) (s : State) : State :=
  s |> satF (R.PTS_FRUNC i) F.PTS_FRUNC_COUNT 1
    |> modLane i (fun l => { l with uncSince := l.uncSince + 1, tokAny := 0, tokSeen := 0 })
    |> frameCond i 0

theorem uncorrectable_eq (hdec : decodes i s = true) (hign : ignored i s = false) : uncorrectable i s
    = if laneState i (uncorrCounted i s) = 5 ∧ deaf i (uncorrCounted i s) = false
        ∧ 8 ≤ (laneOf i (uncorrCounted i s)).uncSince then laneChange i 2 7 (uncorrCounted i s)
      else uncorrCounted i s := by
  unfold uncorrectable uncorrCounted
  simp only [hdec, hign, Bool.not_false, Bool.and_self, if_true]

theorem laneOf_uncorrCounted : laneOf i (uncorrCounted i s)
    = { laneOf i s with uncSince := (laneOf i s).uncSince + 1, tokAny := 0, tokSeen := 0 } := by
  rw [uncorrCounted, laneOf_frameCond, laneOf_modLane_same, laneOf_satF]

theorem laneOnly_uncorrCounted :
    LaneOnly i frameParts (fun a => frameWord i a ∨ bellWord (frameEvent i) a) s (uncorrCounted i s) := by
  have hunc : frameWord i (R.PTS_FRUNC i + F.PTS_FRUNC_COUNT.sub) := by
    simp only [frameWord, R.PTS_FRUNC, R.PTS_FRSTAT, F.PTS_FRUNC_COUNT]
    omega
  have hstat : frameWord i (R.PTS_FRSTAT i) := by unfold frameWord R.PTS_FRSTAT; omega
  have hcond {u : State} : LaneOnly i frameParts (fun a => frameWord i a ∨ bellWord (frameEvent i) a) u
      (frameCond i 0 u) := by
    refine (only_frameCond.laneOnly (by decide)).widen (by decide) ?_
    rintro a (rfl | hb)
    exacts [.inl hstat, .inr hb]
  exact (laneOnly_setF (.inl hunc)).trans ((laneOnly_modLane mem_frameParts.1).trans hcond)

/-- A Track's register is none of the framing layer's. -/
theorem rd_uncorrCounted {a : Nat} (hi : i < 84) (h : 0x2000000 ≤ a) (h' : a < 0x30F0000) :
    rd a (uncorrCounted i s) = rd a s := by
  refine laneOnly_uncorrCounted.rd_eq ?_
  rintro (hf | hb)
  · simp only [frameWord, R.PTS_FRSTAT] at hf
    omega
  · have := frameBell_range hi hb
    omega

theorem getF_state_uncorrCounted (hi : i < 84) (hf : f.sub = 0) :
    getF (R.TRK_STATE i) f (uncorrCounted i s) = getF (R.TRK_STATE i) f s := by
  refine getF_congr ?_
  rw [hf]
  exact rd_uncorrCounted hi (by unfold R.TRK_STATE; omega) (by unfold R.TRK_STATE; omega)

theorem deaf_uncorrCounted (hi : i < 84) : deaf i (uncorrCounted i s) = deaf i s :=
  deaf_congr (rd_uncorrCounted hi (by unfold R.TRK_CTRL; omega) (by unfold R.TRK_CTRL; omega))
    (by rw [laneOf_uncorrCounted])

theorem count_uncorrCounted (hi : i < 84) : getF (R.PTS_FRUNC i) F.PTS_FRUNC_COUNT (uncorrCounted i s)
    = Nat.min (getF (R.PTS_FRUNC i) F.PTS_FRUNC_COUNT s + 1) (2 ^ 40 - 1) := by
  have hkeep {u : State} : getF (R.PTS_FRUNC i) F.PTS_FRUNC_COUNT (frameCond i 0 u)
      = getF (R.PTS_FRUNC i) F.PTS_FRUNC_COUNT u := by
    refine getF_congr (only_frameCond.2.2 _ ?_)
    rintro (h | h)
    · simp only [R.PTS_FRUNC, R.PTS_FRSTAT, F.PTS_FRUNC_COUNT] at h
      omega
    · have := frameBell_range hi h
      simp only [R.PTS_FRUNC] at this
      omega
  rw [uncorrCounted, hkeep, getF_modLane, getF_satF_same (by decide), F.PTS_FRUNC_COUNT]

theorem frameBit_uncorrCounted (hi : i < 84) : frameBit i 0 (uncorrCounted i s) = true :=
  frameBit_frameCond hi (by decide)

end

section
variable {s : State} (i : LaneId)

theorem uncorrectableTrain_counts (h3 : 3 ≤ laneState i s) (h5 : laneState i s ≤ 5) (hign : ignored i s = false)
    (hrun : laneState i s ≠ 5 ∨ deaf i s = true ∨ (laneOf i s).uncSince < 7) :
    After (exec (.uncorrectableTrain i) s) fun u => (laneOf i u).tokAny = 0 ∧ (laneOf i u).tokSeen = 0 ∧
        getF (R.PTS_FRUNC i) F.PTS_FRUNC_COUNT u = Nat.min (getF (R.PTS_FRUNC i) F.PTS_FRUNC_COUNT s + 1) (2 ^ 40 - 1)
        ∧ (laneOf i u).uncSince = (laneOf i s).uncSince + 1 ∧ frameBit i 0 u = true
        ∧ Only [.lanes, .bellq, .health] (fun a => frameWord i a ∨ bellWord (frameEvent i) a) s u := by
  have hshort : ¬ (laneState i (uncorrCounted i s) = 5 ∧ deaf i (uncorrCounted i s) = false
      ∧ 8 ≤ (laneOf i (uncorrCounted i s)).uncSince) := by
    rw [laneState, getF_state_uncorrCounted i.isLt rfl, deaf_uncorrCounted i.isLt, laneOf_uncorrCounted]
    rintro ⟨hst, hdeaf, hlong⟩
    rcases hrun with h | h | h
    · exact h hst
    · exact Bool.false_ne_true (hdeaf.symm.trans h)
    · exact Nat.not_le.2 h (Nat.le_of_succ_le_succ hlong)
  refine ⟨_, rfl, ?_⟩
  beta_reduce
  rw [uncorrectable_eq (decodes_of_range h3 h5) hign, if_neg hshort, laneOf_uncorrCounted]
  exact ⟨rfl, rfl, count_uncorrCounted i.isLt, rfl, frameBit_uncorrCounted i.isLt, laneOnly_uncorrCounted.1⟩

theorem fillerMiss_flags (h3 : 3 ≤ laneState i s) (h5 : laneState i s ≤ 5) (hign : ignored i s = false)
    (hmiss : 2048 ≤ (laneOf i s).nonFill) : After (exec (.fillerMiss i) s) fun u => frameBit i 8 u = true
        ∧ Only [.bellq, .health] (fun a => a = R.PTS_FRSTAT i ∨ bellWord (frameEvent i) a) s u := by
  have hcond : fillerMiss i s = frameCond i 8 s := if_pos ⟨decodes_of_range h3 h5, hign, hmiss⟩
  refine ⟨_, rfl, ?_⟩
  beta_reduce
  rw [hcond]
  exact ⟨frameBit_frameCond i.isLt (by decide), only_frameCond⟩

end

/-- Settles O5: each train is what its TYPE does after the count and the checks that all trains share. -/
theorem otherTrainsAreReceived : Obligations.OtherTrainsAreReceived :=
  ⟨fun _ _ _ _ _ => fillerReceive_restartsHandshake, fun _ _ _ _ _ => timetableTrainReceive_waits,
    fun _ _ _ _ _ => testTrainReceive_flags, fun _ _ _ _ _ => couplingTrainReceive_checks,
    fun i _ => uncorrectableTrain_counts i, fun i _ => fillerMiss_flags i⟩

end Sys2Proof.Safety

namespace Sys2Proof.Safety
open Sys2Proof.Machine

/-! ### Alignment, runs of uncorrectable codewords, and a forced rate (R33, R35, R42) -/

section
variable {i st c b v : Nat} {p hx : Bool} {f : Fld} {s t u : State}

/-- A quiet cause sets no bit of TRK_STATUS, and each other cause one bit. -/
theorem causeFlag_fits (h : causeFlag c = some f) :
    f.sub = 0 ∧ (f = F.TRK_STATUS_RATE_ABORT ∨ Apart F.TRK_STATUS_RATE_ABORT f) ∧ f.lo + f.w ≤ 40 := by
  unfold Apart
  unfold causeFlag at h
  split at h <;> cases h <;> decide

/-- A state change writes TRK_STATUS through its cause alone. -/
theorem rd_status_laneChange (hi : i < 84) :
    rd (R.TRK_STATUS i) (laneChange i st c s) = rd (R.TRK_STATUS i) (setStatusFlag i c s) := by
  have hstate : R.TRK_STATUS i ≠ R.TRK_STATE i := by unfold R.TRK_STATUS R.TRK_STATE; omega
  have hpeer : R.TRK_STATUS i ≠ R.TRK_PEER i := by unfold R.TRK_STATUS R.TRK_PEER; omega
  have htest : R.TRK_STATUS i ≠ R.TRK_TEST i := by unfold R.TRK_STATUS R.TRK_TEST; omega
  have hfar := status_not_far hi
  have hbefore : rd (R.TRK_STATUS i) (incF (R.TRK_STATE i) F.TRK_STATE_TRANS 1 (setF (R.TRK_STATE i) F.TRK_STATE_CAUSE c
      (setF (R.TRK_STATE i) F.TRK_STATE_STATE st (leaveState i s)))) = rd (R.TRK_STATUS i) s := by
    rw [incF, rd_setF_other _ _ hstate, rd_setF_other _ _ hstate, rd_setF_other _ _ hstate]
    exact laneOnly_leaveState.rd_eq (not_or.2 ⟨hpeer, not_or.2 ⟨htest, hfar⟩⟩)
  have hflag {t : State} (h : rd (R.TRK_STATUS i) t = rd (R.TRK_STATUS i) s) :
      rd (R.TRK_STATUS i) (setStatusFlag i c t) = rd (R.TRK_STATUS i) (setStatusFlag i c s) := by
    unfold setStatusFlag
    split
    · next f hf =>
      obtain ⟨hsub, -, -⟩ := causeFlag_fits hf
      rw [rd_setF, rd_setF, hsub, Nat.add_zero, h]
    · exact h
  refine (rd_raise_other _ _ fun h => hfar (farWord_of_bellWord (laneEvent_lt hi) h)).trans ?_
  exact (laneOnly_enterState.rd_eq (not_or.2 ⟨hstate, hfar⟩)).trans (hflag hbefore)

/-- RATE_ABORT of TRK_STATUS is set. -/
def AbortShown (i : Nat) (s : State) : Prop := getF (R.TRK_STATUS i) F.TRK_STATUS_RATE_ABORT s = 1

theorem AbortShown.congr (h : AbortShown i s) (hrd : rd (R.TRK_STATUS i) t = rd (R.TRK_STATUS i) s) : AbortShown i t :=
  (getF_congr hrd).trans h

theorem abortShown_setStatusFlag (h : AbortShown i s ∨ c = 3) : AbortShown i (setStatusFlag i c s) := by
  unfold setStatusFlag
  split
  · next f hf =>
    obtain ⟨-, rfl | hapart, hfit⟩ := causeFlag_fits hf
    · exact getF_setF_same _ _ _ _ (by decide)
    · rcases h with h | rfl
      · exact (getF_setF_apart _ _ hfit hapart).trans h
      · cases hf
        exact getF_setF_same _ _ _ _ (by decide)
  · next hf =>
    rcases h with h | rfl
    · exact h
    · cases hf

theorem abortShown_laneChange (hi : i < 84) (h : AbortShown i s ∨ c = 3) : AbortShown i (laneChange i st c s) :=
  (abortShown_setStatusFlag h).congr (rd_status_laneChange hi)

theorem abortShown_settleOnce (hi : i < 84) (h : AbortShown i s) : AbortShown i (settleOnce i s) :=
  settleOnce_induct h fun _ _ => abortShown_laneChange hi (.inl h)

theorem rd_status_applyRate (hi : i < 84) : rd (R.TRK_STATUS i) (applyRate i p s) = rd (R.TRK_STATUS i) s := by
  have hstate : R.TRK_STATUS i ≠ R.TRK_STATE i := by unfold R.TRK_STATUS R.TRK_STATE; omega
  have hquad : R.TRK_STATUS i ≠ R.TRK_QUAD (quadOf i) := by
    have := quadOf_lt hi
    unfold R.TRK_STATUS R.TRK_QUAD
    omega
  have hlink {u : State} : rd (R.TRK_STATUS i) (putRxlink i false u) = rd (R.TRK_STATUS i) u := by
    refine (laneOnly_putRxlink (ps := frameParts) (w := fun a => a = R.TRK_STATE i ∨ bellWord (laneErrEvent i) a)
      mem_frameParts.2.1 mem_frameParts.2.2 (.inl rfl) fun _ => .inr).rd_eq ?_
    exact not_or.2 ⟨hstate, fun h => status_not_far hi (farWord_of_bellWord (laneErrEvent_lt hi) h)⟩
  have hsettle {u : State} : rd (R.TRK_STATUS i) (settleQuad (quadOf i) u) = rd (R.TRK_STATUS i) u :=
    (laneOnly_settleQuad (i := i) (ps := []) (w := fun a => a = R.TRK_QUAD (quadOf i)) rfl).rd_eq hquad
  rw [applyRate, settleQlock, rd_setF_other _ _ hstate, hsettle, rd_when hlink, rd_setF_other _ _ hstate, rd_modLane]

/-- A lane forced through DARK shows it. -/
theorem abortShown_toDark (hi : i < 84) (hst : laneState i s ≠ 0) (h : ratePend i s = true) :
    AbortShown i (toDark i 3 hx s) := by
  have hstate : R.TRK_STATUS i ≠ R.TRK_STATE i := by unfold R.TRK_STATUS R.TRK_STATE; omega
  rw [toDark_of_pend hi h]
  refine abortShown_settleOnce hi (AbortShown.congr ?_ (rd_status_applyRate hi))
  rw [reachDark, bne_iff_ne.2 hst, when_true]
  exact (abortShown_laneChange hi (.inr rfl)).congr (rd_setF_other _ _ hstate)

/-- With no change that waits, a lane settles in one step. -/
theorem settleLane_of_not_pend (hi : i < 84) (h : ratePend i s = false) : settleLane i s = settleOnce i s := by
  rw [settleLane, applyAtOpen, ratePend_settleOnce hi, h]
  exact if_neg fun hc => Bool.false_ne_true hc.2

end

section
variable {s : State} (i : LaneId)

theorem alignmentLoss_reachesComma {windows : List (List (BitVec 2))} (hst : laneState i s = 5) (hdeaf : deaf i s = false)
    (hlen : 4 ≤ windows.length)
    (hmiss : ∀ x ∈ windows, commaMatch (invert (isSet (R.TRK_CTRL i) F.TRK_CTRL_POL_RX s) x) = false) :
    After (exec (.alignmentLoss i windows) s) (Moved i 2 6 s) := by
  have hall : windows.all (fun x => !commaMatch (invert (isSet (R.TRK_CTRL i) F.TRK_CTRL_POL_RX s) x)) = true :=
    List.all_eq_true.2 fun x hx => by rw [hmiss x hx]; rfl
  exact ⟨_, congrArg Host.Outcome.next (if_pos ⟨hst, Bool.eq_false_iff.1 hdeaf, hlen, hall⟩),
    moved_laneChange i.isLt (by decide) (by decide)⟩

/-- A lane that depends on its receiver listens to it. -/
theorem ignored_of_not_deaf {i : Nat} (h : deaf i s = false) : ignored i s = false := by
  rw [deaf, Bool.and_eq_false_iff, Bool.or_eq_false_iff] at h
  rcases h with h | ⟨h, -⟩
  · rw [ignored, h, Bool.false_and, Bool.false_and]
  · rw [ignored, h, Bool.and_false, Bool.false_and]

theorem uncorrRunLimit_reachesComma (hst : laneState i s = 5) (hdeaf : deaf i s = false) (hrun : 7 ≤ (laneOf i s).uncSince) :
    After (exec (.uncorrRunLimit i) s) fun t => Moved i 2 7 s t ∧ (laneOf i t).uncSince = (laneOf i s).uncSince + 1 := by
  have hi := i.isLt
  have hlong : laneState i (uncorrCounted i s) = 5 ∧ deaf i (uncorrCounted i s) = false
      ∧ 8 ≤ (laneOf i (uncorrCounted i s)).uncSince := by
    rw [laneState, getF_state_uncorrCounted hi rfl, deaf_uncorrCounted hi, laneOf_uncorrCounted]
    exact ⟨hst, hdeaf, Nat.succ_le_succ hrun⟩
  have heq : uncorrRunLimit i s = laneChange i 2 7 (uncorrCounted i s) := by
    rw [uncorrRunLimit, if_pos ⟨hst, hdeaf, hrun⟩,
      uncorrectable_eq (decodes_of_range (by omega) (by omega)) (ignored_of_not_deaf hdeaf), if_pos hlong]
  refine ⟨_, rfl, ?_⟩
  beta_reduce
  rw [heq]
  refine ⟨(moved_laneChange hi (by decide) (by decide)).from (getF_state_uncorrCounted hi rfl), ?_⟩
  rw [uncSince_of_durable (durable_of_kept kept_laneChange), laneOf_uncorrCounted]

theorem uncorrRunLimit_idle (h : (laneOf i s).uncSince < 7) : exec (.uncorrRunLimit i) s = .next s :=
  congrArg Host.Outcome.next (if_neg fun hc => Nat.not_le.2 h hc.2.2)

theorem rateAbort_applies (hpend : ratePend i s = true) (hst : laneState i s ≠ 0) : After (exec (.rateAbort i) s) fun t =>
    Applied i s t ∧ getF (R.TRK_STATUS i) F.TRK_STATUS_RATE_ABORT t = 1 := by
  have hi := i.isLt
  have heq : rateAbort i s = settleOnce i (toDark i 3 false s) := by
    rw [rateAbort, if_pos hpend, settleLane_of_not_pend hi (ratePend_toDark hi)]
  obtain ⟨hrate, hdone⟩ := applied_toDark (c := 3) (hx := false) hi hpend
  refine ⟨_, rfl, ?_⟩
  beta_reduce
  rw [heq]
  exact ⟨⟨(rate170_of_kept kept_settleOnce).trans hrate, (ratePend_settleOnce hi).trans hdone⟩,
    abortShown_settleOnce hi (abortShown_toDark hi hst hpend)⟩

end

/-! ### Pairs of counter words -/

section
variable {b k v : Nat} {lo hi : Fld} {s : State}

theorem get2_set2 (hlo : lo.lo + lo.w ≤ 40) (hhi : hi.lo + hi.w ≤ 40) (hsub : lo.sub ≠ hi.sub)
    (hv : v < 2 ^ (lo.w + hi.w)) : get2 b lo hi (set2 b lo hi v s) = v := by
  have hhigh : v / 2 ^ lo.w < 2 ^ hi.w := Nat.div_lt_of_lt_mul (by rwa [← pow_add])
  rw [get2, set2, getF_setF_other _ _ (by omega), getF_setF_same _ _ _ _ hlo, getF_setF_same _ _ _ _ hhi,
    Nat.mod_eq_of_lt hhigh]
  exact Nat.mod_add_div' v _

theorem get2_sat2 (hlo : lo.lo + lo.w ≤ 40) (hhi : hi.lo + hi.w ≤ 40) (hsub : lo.sub ≠ hi.sub) :
    get2 b lo hi (sat2 b lo hi k s) = Nat.min (get2 b lo hi s + k) (2 ^ (lo.w + hi.w) - 1) := by
  refine get2_set2 hlo hhi hsub (Nat.lt_of_le_of_lt (Nat.min_le_right _ _) ?_)
  exact Nat.sub_lt (by positivity) (by decide)

theorem get2_congr {t : State} (hlo : rd (b + lo.sub) t = rd (b + lo.sub) s) (hhi : rd (b + hi.sub) t = rd (b + hi.sub) s) :
    get2 b lo hi t = get2 b lo hi s := by
  rw [get2, get2, getF_congr hlo, getF_congr hhi]

theorem rd_sat2 {a : Nat} (hlo : a ≠ b + lo.sub) (hhi : a ≠ b + hi.sub) : rd a (sat2 b lo hi k s) = rd a s := by
  rw [sat2, set2, rd_setF_other _ _ hhi, rd_setF_other _ _ hlo]

theorem laneOnly_sat2 {i : Nat} {ps : List Part} {w : Nat → Prop} (hlo : w (b + lo.sub)) (hhi : w (b + hi.sub)) :
    LaneOnly i ps w s (sat2 b lo hi k s) := (laneOnly_setF hlo).trans (laneOnly_setF hhi)

end

/-! ### The checker of test patterns (R47) -/

section
variable {i : Nat} {x : BitVec 2} {s : State}

theorem prbsReceive_eq (h : Checking i s) : prbsReceive i [x] s = prbsSymbol i s x := by
  obtain ⟨hst, hchk, hlpbk, hpol⟩ := h
  rw [prbsReceive, if_pos ⟨hst, hchk⟩, received, hlpbk, hpol]
  rfl

/-- The checker's error-free symbols in a row after one more. -/
def seedGood (i : Nat) (x : BitVec 2) (s : State) : Nat := (prbsSeed (chkOf i s) (ungray x) (laneOf i s).chk).good

theorem seedGood_of_match (hx : ungray x = (prbsPair (chkOf i s) (laneOf i s).chk.reg).1)
    (hfill : prbsLen (chkOf i s) ≤ (laneOf i s).chk.fill) : seedGood i x s = (laneOf i s).chk.good + 1 := by
  simp [seedGood, prbsSeed, hx, hfill]

theorem seedGood_of_ne (hx : ungray x ≠ (prbsPair (chkOf i s) (laneOf i s).chk.reg).1) : seedGood i x s = 0 := by
  simp [seedGood, prbsSeed, hx.symm]

theorem prbsSymbol_unlocked (h : isSet (R.TRK_TEST i) F.TRK_TEST_CHK_LOCK s = false) : prbsSymbol i s x
    = when (decide (64 ≤ seedGood i x s)) (setF (R.TRK_TEST i) F.TRK_TEST_CHK_LOCK 1)
        (modLane i (fun l => { l with chk := prbsSeed (chkOf i s) (ungray x) (laneOf i s).chk }) s) := by
  rw [prbsSymbol, h]
  by_cases h64 : 64 ≤ seedGood i x s
  · rw [decide_eq_true h64, when_true]
    exact if_pos h64
  · rw [decide_eq_false h64, when_false]
    exact if_neg h64

theorem good_prbsSymbol (h : isSet (R.TRK_TEST i) F.TRK_TEST_CHK_LOCK s = false) :
    (laneOf i (prbsSymbol i s x)).chk.good = seedGood i x s := by
  rw [prbsSymbol_unlocked h, laneOf_when laneOf_setF, laneOf_modLane_same, seedGood]

theorem lock_prbsSymbol (h : isSet (R.TRK_TEST i) F.TRK_TEST_CHK_LOCK s = false) :
    isSet (R.TRK_TEST i) F.TRK_TEST_CHK_LOCK (prbsSymbol i s x) = decide (64 ≤ seedGood i x s) := by
  rw [prbsSymbol_unlocked h]
  cases decide (64 ≤ seedGood i x s)
  · exact h
  · exact isSet_setF_same (by decide)

theorem only_prbsSymbol (h : isSet (R.TRK_TEST i) F.TRK_TEST_CHK_LOCK s = false) :
    Only [.lanes] (fun a => 64 ≤ seedGood i x s ∧ a = R.TRK_TEST i) s (prbsSymbol i s x) := by
  rw [prbsSymbol_unlocked h]
  have hseed {w : Nat → Prop} {g : Lane → Lane} : Only [.lanes] w s (modLane i g s) :=
    (only_setLane _ _ _).widen (by simp) fun _ => False.elim
  by_cases h64 : 64 ≤ seedGood i x s
  · rw [decide_eq_true h64, when_true]
    exact hseed.trans ((only_setF _ _ _ _).widen (by simp) fun _ ha => ⟨h64, ha⟩)
  · rw [decide_eq_false h64, when_false]
    exact hseed

/-- The bit errors in the checker's last 128 symbols. -/
def recentErrors (i : Nat) (x : BitVec 2) (s : State) : Nat := symbolErrors i x s + ((laneOf i s).chk.errs.take 127).sum

/-- The locked checker's counters after one symbol. -/
def prbsCounted (i : Nat) (x : BitVec 2) (s : State) : State :=
  s |> sat2 (R.TRK_PERR i) F.TRK_PERR_ERR_LO F.TRK_PERR_ERR_HI (symbolErrors i x s)
    |> sat2 (R.TRK_PCMP i) F.TRK_PCMP_CMP_LO F.TRK_PCMP_CMP_HI 2

/-- The checker loses its lock and starts afresh. -/
def prbsLost (i : Nat) (s : State) : State :=
  s |> modLane i (fun l => { l with chk := {} })
    |> setF (R.TRK_TEST i) F.TRK_TEST_CHK_LOCK 0
    |> setF (R.TRK_STATUS i) F.TRK_STATUS_PRBS_LOSS 1
    |> raise (laneErrEvent i)

/-- The checker's register and recent errors after one symbol. -/
def prbsNoted (i : Nat) (x : BitVec 2) (s : State) (l : Lane) : Lane :=
  { l with chk := { (laneOf i s).chk with reg := (prbsPair (chkOf i s) (laneOf i s).chk.reg).2,
                                           errs := (symbolErrors i x s :: (laneOf i s).chk.errs).take 128 } }

theorem prbsSymbol_locked (h : isSet (R.TRK_TEST i) F.TRK_TEST_CHK_LOCK s = true) : prbsSymbol i s x
    = if 16 ≤ recentErrors i x s then prbsLost i (prbsCounted i x s)
      else modLane i (prbsNoted i x s) (prbsCounted i x s) := by
  have hsum : recentErrors i x s = ((symbolErrors i x s :: (laneOf i s).chk.errs).take 128).foldl (· + ·) 0 := by
    rw [← List.sum_eq_foldl_nat, List.take_succ_cons, List.sum_cons, recentErrors]
  rw [hsum]
  unfold prbsSymbol prbsLost prbsCounted prbsNoted symbolErrors chkOf
  simp only [h, Bool.not_true, Bool.false_eq_true, if_false]

theorem laneOnly_prbsCounted : LaneOnly i [] (fun a => R.TRK_PERR i ≤ a ∧ a < R.TRK_PERR i + 4) s
    (prbsCounted i x s) := by
  refine (laneOnly_sat2 ?_ ?_).trans (laneOnly_sat2 ?_ ?_) <;>
    simp only [R.TRK_PERR, R.TRK_PCMP, F.TRK_PERR_ERR_LO, F.TRK_PERR_ERR_HI, F.TRK_PCMP_CMP_LO, F.TRK_PCMP_CMP_HI] <;> omega

theorem errors_prbsCounted : get2 (R.TRK_PERR i) F.TRK_PERR_ERR_LO F.TRK_PERR_ERR_HI (prbsCounted i x s)
    = Nat.min (get2 (R.TRK_PERR i) F.TRK_PERR_ERR_LO F.TRK_PERR_ERR_HI s + symbolErrors i x s) (2 ^ 48 - 1) := by
  have hw : F.TRK_PERR_ERR_LO.w + F.TRK_PERR_ERR_HI.w = 48 := rfl
  have hapart {k m : Nat} (hk : k < 2) : R.TRK_PERR i + k ≠ R.TRK_PCMP i + m := by unfold R.TRK_PERR R.TRK_PCMP; omega
  have hkeep {u : State} : get2 (R.TRK_PERR i) F.TRK_PERR_ERR_LO F.TRK_PERR_ERR_HI
      (sat2 (R.TRK_PCMP i) F.TRK_PCMP_CMP_LO F.TRK_PCMP_CMP_HI 2 u)
      = get2 (R.TRK_PERR i) F.TRK_PERR_ERR_LO F.TRK_PERR_ERR_HI u :=
    get2_congr (rd_sat2 (hapart (by decide)) (hapart (by decide))) (rd_sat2 (hapart (by decide)) (hapart (by decide)))
  rw [prbsCounted, hkeep, get2_sat2 (by decide) (by decide) (by decide), hw]

theorem compared_prbsCounted : get2 (R.TRK_PCMP i) F.TRK_PCMP_CMP_LO F.TRK_PCMP_CMP_HI (prbsCounted i x s)
    = Nat.min (get2 (R.TRK_PCMP i) F.TRK_PCMP_CMP_LO F.TRK_PCMP_CMP_HI s + 2) (2 ^ 48 - 1) := by
  have hw : F.TRK_PCMP_CMP_LO.w + F.TRK_PCMP_CMP_HI.w = 48 := rfl
  have hapart {k m : Nat} (hm : m < 2) : R.TRK_PCMP i + k ≠ R.TRK_PERR i + m := by unfold R.TRK_PERR R.TRK_PCMP; omega
  rw [prbsCounted, get2_sat2 (by decide) (by decide) (by decide),
    get2_congr (rd_sat2 (hapart (by decide)) (hapart (by decide))) (rd_sat2 (hapart (by decide)) (hapart (by decide))),
    hw]

theorem laneOnly_prbsLost : LaneOnly i frameParts
    (fun a => a = R.TRK_TEST i ∨ a = R.TRK_STATUS i ∨ bellWord (laneErrEvent i) a) s (prbsLost i s) :=
  (laneOnly_modLane mem_frameParts.1).trans <| (laneOnly_setF (.inl rfl)).trans <|
    (laneOnly_setF (.inr (.inl rfl))).trans (laneOnly_raise mem_frameParts.2.1 mem_frameParts.2.2 fun _ ha => .inr (.inr ha))

end

section
variable {i : Nat} {s : State}

/-- The counters outlast the loss of the lock. -/
theorem rd_prbsLost {a : Nat} (hi : i < 84) (ha : R.TRK_PERR i ≤ a ∧ a < R.TRK_PERR i + 4) :
    rd a (prbsLost i s) = rd a s := by
  unfold R.TRK_PERR at ha
  refine laneOnly_prbsLost.rd_eq ?_
  rintro (rfl | rfl | h)
  · unfold R.TRK_TEST at ha
    omega
  · unfold R.TRK_STATUS at ha
    omega
  · have := farWord_of_bellWord (laneErrEvent_lt hi) h
    unfold farWord at this
    omega

theorem errors_prbsLost (hi : i < 84) : get2 (R.TRK_PERR i) F.TRK_PERR_ERR_LO F.TRK_PERR_ERR_HI (prbsLost i s)
    = get2 (R.TRK_PERR i) F.TRK_PERR_ERR_LO F.TRK_PERR_ERR_HI s := by
  refine get2_congr (rd_prbsLost hi ?_) (rd_prbsLost hi ?_) <;>
    simp only [R.TRK_PERR, F.TRK_PERR_ERR_LO, F.TRK_PERR_ERR_HI] <;> omega

theorem compared_prbsLost (hi : i < 84) : get2 (R.TRK_PCMP i) F.TRK_PCMP_CMP_LO F.TRK_PCMP_CMP_HI (prbsLost i s)
    = get2 (R.TRK_PCMP i) F.TRK_PCMP_CMP_LO F.TRK_PCMP_CMP_HI s := by
  refine get2_congr (rd_prbsLost hi ?_) (rd_prbsLost hi ?_) <;>
    simp only [R.TRK_PERR, R.TRK_PCMP, F.TRK_PCMP_CMP_LO, F.TRK_PCMP_CMP_HI] <;> omega

theorem get2_modLane {n b : Nat} {lo hi : Fld} {g : Lane → Lane} : get2 b lo hi (modLane n g s) = get2 b lo hi s := rfl

theorem lost_prbsLost (hi : i < 84) : isSet (R.TRK_TEST i) F.TRK_TEST_CHK_LOCK (prbsLost i s) = false
    ∧ isSet (R.TRK_STATUS i) F.TRK_STATUS_PRBS_LOSS (prbsLost i s) = true ∧ Raised (laneErrEvent i) (prbsLost i s) := by
  have hbell {a : Nat} (ha : ¬ farWord a) : ¬ bellWord (laneErrEvent i) a :=
    fun h => ha (farWord_of_bellWord (laneErrEvent_lt hi) h)
  have hother : R.TRK_TEST i + F.TRK_TEST_CHK_LOCK.sub ≠ R.TRK_STATUS i + F.TRK_STATUS_PRBS_LOSS.sub := by
    simp only [R.TRK_TEST, R.TRK_STATUS, F.TRK_TEST_CHK_LOCK, F.TRK_STATUS_PRBS_LOSS]
    omega
  refine ⟨?_, ?_, raised_raise (laneErrEvent_lt hi)⟩
  · exact (isSet_congr (rd_raise_other _ _ (hbell (test_not_far hi)))).trans
      ((isSet_setF_other _ _ hother).trans (isSet_setF_same (by decide)))
  · exact (isSet_congr (rd_raise_other _ _ (hbell (status_not_far hi)))).trans (isSet_setF_same (by decide))

end

section
variable {s : State} (i : LaneId)

theorem prbsLock_counts {x : BitVec 2} (hc : Checking i s) (hlock : isSet (R.TRK_TEST i) F.TRK_TEST_CHK_LOCK s = false) :
    (ungray x = (prbsPair (chkOf i s) (laneOf i s).chk.reg).1 → prbsLen (chkOf i s) ≤ (laneOf i s).chk.fill →
        After (exec (.prbsLock i [x]) s) fun t => (laneOf i t).chk.good = (laneOf i s).chk.good + 1
          ∧ isSet (R.TRK_TEST i) F.TRK_TEST_CHK_LOCK t = decide (63 ≤ (laneOf i s).chk.good)
          ∧ Only [.lanes] (fun a => a = R.TRK_TEST i) s t)
      ∧ (ungray x ≠ (prbsPair (chkOf i s) (laneOf i s).chk.reg).1 →
        After (exec (.prbsLock i [x]) s) fun t => (laneOf i t).chk.good = 0
          ∧ isSet (R.TRK_TEST i) F.TRK_TEST_CHK_LOCK t = false ∧ Only [.lanes] (fun _ => False) s t) := by
  refine ⟨fun hx hfill => ⟨_, rfl, ?_⟩, fun hx => ⟨_, rfl, ?_⟩⟩
  · have hgood := seedGood_of_match hx hfill
    beta_reduce
    rw [prbsReceive_eq hc, good_prbsSymbol hlock, lock_prbsSymbol hlock, hgood]
    refine ⟨rfl, decide_eq_decide.2 (by omega), (only_prbsSymbol hlock).widen (fun _ => id) fun _ ha => ha.2⟩
  · have hgood := seedGood_of_ne hx
    beta_reduce
    rw [prbsReceive_eq hc, good_prbsSymbol hlock, lock_prbsSymbol hlock, hgood]
    refine ⟨rfl, rfl, (only_prbsSymbol hlock).widen (fun _ => id) fun _ ha => ?_⟩
    exact absurd (hgood ▸ ha.1) (by decide)

theorem prbsLoss_counts {x : BitVec 2} (hc : Checking i s) (hlock : isSet (R.TRK_TEST i) F.TRK_TEST_CHK_LOCK s = true) :
    After (exec (.prbsLoss i [x]) s) fun t =>
        get2 (R.TRK_PERR i) F.TRK_PERR_ERR_LO F.TRK_PERR_ERR_HI t
            = Nat.min (get2 (R.TRK_PERR i) F.TRK_PERR_ERR_LO F.TRK_PERR_ERR_HI s + symbolErrors i x s) (2 ^ 48 - 1)
        ∧ get2 (R.TRK_PCMP i) F.TRK_PCMP_CMP_LO F.TRK_PCMP_CMP_HI t
            = Nat.min (get2 (R.TRK_PCMP i) F.TRK_PCMP_CMP_LO F.TRK_PCMP_CMP_HI s + 2) (2 ^ 48 - 1)
        ∧ (recentErrors i x s < 16 → isSet (R.TRK_TEST i) F.TRK_TEST_CHK_LOCK t = true
            ∧ Only [.lanes] (fun a => laneWord i a) s t)
        ∧ (16 ≤ recentErrors i x s →
            isSet (R.TRK_TEST i) F.TRK_TEST_CHK_LOCK t = false ∧ isSet (R.TRK_STATUS i) F.TRK_STATUS_PRBS_LOSS t = true
            ∧ Raised (laneErrEvent i) t
            ∧ Only [.lanes, .bellq, .health] (fun a => laneWord i a ∨ bellWord (laneErrEvent i) a) s t) := by
  have hi := i.isLt
  have hcount {a : Nat} (ha : R.TRK_PERR i ≤ a ∧ a < R.TRK_PERR i + 4) : laneWord i a := by
    unfold R.TRK_PERR at ha
    unfold laneWord R.TRK_CTRL
    omega
  have hcounted := laneOnly_prbsCounted (i := i) (x := x) (s := s)
  refine ⟨_, rfl, ?_⟩
  beta_reduce
  rw [prbsReceive_eq hc, prbsSymbol_locked hlock]
  by_cases hlost : 16 ≤ recentErrors i x s
  · rw [if_pos hlost, errors_prbsLost hi, errors_prbsCounted, compared_prbsLost hi, compared_prbsCounted]
    obtain ⟨hunlocked, hshown, hraised⟩ := lost_prbsLost (s := prbsCounted i x s) hi
    refine ⟨rfl, rfl, fun h => absurd hlost (Nat.not_le.2 h), fun _ => ⟨hunlocked, hshown, hraised, ?_⟩⟩
    refine (hcounted.1.widen (by simp) fun _ ha => .inl (hcount ha)).trans (laneOnly_prbsLost.1.widen (fun _ => id) ?_)
    rintro a (rfl | rfl | h)
    · exact .inl (machineWord_near hi (.inr (.inr (.inr rfl)))).2
    · exact .inl (machineWord_near hi (.inr (.inr (.inl rfl)))).2
    · exact .inr h
  · have htest : ¬ (R.TRK_PERR i ≤ R.TRK_TEST i ∧ R.TRK_TEST i < R.TRK_PERR i + 4) := by
      unfold R.TRK_PERR R.TRK_TEST
      omega
    rw [if_neg hlost, get2_modLane, errors_prbsCounted, get2_modLane, compared_prbsCounted, isSet_modLane]
    refine ⟨rfl, rfl, fun _ => ⟨?_, ?_⟩, fun h => absurd h hlost⟩
    · exact (hcounted.isSet_eq htest).trans hlock
    · exact (hcounted.1.widen (by simp) fun _ ha => hcount ha).trans (laneOnly_modLane (by simp)).1

theorem rxlinkChange_shows (up : Bool) (hdep : isDeparture i = true) (hrate : (laneOf i s).rate170 = true)
    (hold : isSet (R.TRK_STATE i) F.TRK_STATE_RXLINK s = !up) : After (exec (.rxlinkChange i up) s) fun t =>
      isSet (R.TRK_STATE i) F.TRK_STATE_RXLINK t = up ∧ Raised (laneErrEvent i) t
        ∧ Only [.bellq, .health] (fun a => a = R.TRK_STATE i ∨ bellWord (laneErrEvent i) a) s t := by
  have hi := i.isLt
  have hchange : ¬ isSet (R.TRK_STATE i) F.TRK_STATE_RXLINK s = up := by rw [hold]; cases up <;> decide
  have heq : rxlinkChange i up s = raise (laneErrEvent i) (setF (R.TRK_STATE i) F.TRK_STATE_RXLINK (b2n up) s) := by
    rw [rxlinkChange, if_pos ⟨hdep, hrate⟩, putRxlink, if_neg hchange]
  have hbell : ¬ bellWord (laneErrEvent i) (R.TRK_STATE i) := fun h =>
    state_not_far hi (farWord_of_bellWord (laneErrEvent_lt hi) h)
  refine ⟨_, rfl, ?_⟩
  beta_reduce
  rw [heq]
  refine ⟨(isSet_congr (rd_raise_other _ _ hbell)).trans ?_, raised_raise (laneErrEvent_lt hi), ?_⟩
  · rw [isSet_setF_same (by decide)]
    cases up <;> rfl
  · exact ((only_setF _ _ _ _).widen (by simp) fun _ ha => .inl ha).trans ((only_raise _ _).widen (fun _ => id) fun _ => .inr)

end

theorem laneConditionsAndTestPatterns : LaneConditionsAndTestPatterns :=
  ⟨fun i _ _ => alignmentLoss_reachesComma i, fun i _ => uncorrRunLimit_reachesComma i, fun i _ => uncorrRunLimit_idle i,
    fun i _ => rateAbort_applies i, fun i _ _ => prbsLock_counts i, fun i _ _ => prbsLoss_counts i,
    fun i up _ => rxlinkChange_shows i up⟩

/-! ### Lanes of a quadrant, one after the other (R27) -/

section
variable {i j k q : Nat} {a : Nat} {f : Fld} {s t u : State}

/-- Lane `k` and its registers are the same in `s` and `t`. -/
def SameLane (k : Nat) (s t : State) : Prop := laneOf k t = laneOf k s ∧ ∀ a, laneWord k a → rd a t = rd a s

theorem SameLane.refl : SameLane k s s := ⟨rfl, fun _ _ => rfl⟩

theorem SameLane.trans (h : SameLane k s t) (h' : SameLane k t u) : SameLane k s u :=
  ⟨h'.1.trans h.1, fun a ha => (h'.2 a ha).trans (h.2 a ha)⟩

theorem SameLane.rd_state (h : SameLane k s t) : rd (R.TRK_STATE k) t = rd (R.TRK_STATE k) s :=
  h.2 _ (by unfold laneWord R.TRK_STATE R.TRK_CTRL; omega)

theorem SameLane.getF_state (h : SameLane k s t) (hf : f.sub = 0) :
    getF (R.TRK_STATE k) f t = getF (R.TRK_STATE k) f s := getF_congr (by rw [hf]; exact h.rd_state)

theorem SameLane.ratePend_eq (h : SameLane k s t) : ratePend k t = ratePend k s := isSet_congr h.rd_state

theorem SameLane.laneEn_eq (h : SameLane k s t) : laneEn k t = laneEn k s :=
  laneEn_congr (h.2 _ (by unfold laneWord R.TRK_CTRL; omega))

/-- Another lane's step leaves lane `k` as it was. -/
theorem LaneOnly.sameLane (h : LaneOnly i (lossParts i) (rateReach i) s t) (hi : i < 84) (hk : k < 84) (hne : k ≠ i) :
    SameLane k s t := ⟨h.2 k hne, fun _ ha => h.rd_eq (laneWord_not_reach hi hk hne ha)⟩

/-- A quadrant's register is no lane's. -/
theorem sameLane_setF_quad {v : Nat} (hk : k < 84) (hf : f.sub = 0) : SameLane k s (setF (R.TRK_QUAD q) f v s) := by
  refine ⟨laneOf_setF, fun a ha => rd_setF_other _ _ ?_⟩
  rw [hf]
  unfold laneWord R.TRK_CTRL at ha
  unfold R.TRK_QUAD
  omega

theorem sameLane_raise {e : Nat} (hk : k < 84) (he : e < 1024) : SameLane k s (raise e s) := by
  refine ⟨laneOf_raise, fun a ha => rd_raise_other _ _ fun hb => ?_⟩
  have hfar := farWord_of_bellWord he hb
  unfold laneWord R.TRK_CTRL at ha
  unfold farWord at hfar
  omega

theorem mem_quadLanes : i ∈ quadLanes q ↔ i < 84 ∧ quadOf i = q := by
  simp [quadLanes]

theorem nodup_quadLanes : (quadLanes q).Nodup := List.nodup_range.filter _

section
variable {op : State → Nat → State} {l : List Nat}
  (hop : ∀ u j, j ∈ l → LaneOnly j (lossParts j) (rateReach j) u (op u j)) (hl : ∀ j ∈ l, j < 84)
include hop hl

/-- Steps of other lanes leave lane `k` as it was. -/
theorem sameLane_foldl (hk : k < 84) (hout : k ∉ l) : SameLane k s (l.foldl op s) := by
  induction l generalizing s with
  | nil => exact .refl
  | cons j l ih =>
    obtain ⟨hne, hout⟩ := not_or.1 (mt List.mem_cons.2 hout)
    have hstep := (hop s j (List.mem_cons_self ..)).sameLane (hl j (List.mem_cons_self ..)) hk hne
    have hl' : ∀ j ∈ l, j < 84 := fun j hj => hl j (List.mem_cons_of_mem _ hj)
    exact hstep.trans (ih (fun u j hj => hop u j (List.mem_cons_of_mem _ hj)) hl' hout)

/-- A lane of the list meets its own step, as it stood before the others', once. -/
theorem foldl_at (hi : i ∈ l) (hnodup : l.Nodup) :
    ∃ u, SameLane i s u ∧ SameLane i (op u i) (l.foldl op s) := by
  induction l generalizing s with
  | nil => cases hi
  | cons j l ih =>
    have hl' : ∀ j ∈ l, j < 84 := fun j hj => hl j (List.mem_cons_of_mem _ hj)
    have hop' : ∀ u j, j ∈ l → LaneOnly j (lossParts j) (rateReach j) u (op u j) :=
      fun u j hj => hop u j (List.mem_cons_of_mem _ hj)
    obtain ⟨hout, hnodup⟩ := List.nodup_cons.1 hnodup
    rcases List.mem_cons.1 hi with rfl | hi
    · exact ⟨s, .refl, sameLane_foldl hop' hl' (hl i (List.mem_cons_self ..)) hout⟩
    · obtain ⟨u, hsame, hrest⟩ := ih (s := op s j) hop' hl' hi hnodup
      have hne : i ≠ j := fun h => hout (h ▸ hi)
      have hstep := (hop s j (List.mem_cons_self ..)).sameLane (hl j (List.mem_cons_self ..)) (hl' i hi) hne
      exact ⟨u, hstep.trans hsame, hrest⟩

end

/-! ### The register of the quadrant -/

/-- A property of quadrant `q`'s register that the changes of its lanes' rates keep. -/
structure QuadStable (q : Nat) (P : State → Prop) : Prop where
  congr : ∀ {u v}, rd (R.TRK_QUAD q) v = rd (R.TRK_QUAD q) u → P u → P v
  settle : ∀ {u}, P u → P (settleQuad q u)

/-- PLL180_LOCK, LREF_PRESENT and LOSS_COUNT keep their values. -/
theorem quadStable_getF {n : Nat} (hf : f.sub = 0) (hrun : Apart f F.TRK_QUAD_PLL170_RUN)
    (hlock : Apart f F.TRK_QUAD_PLL170_LOCK) : QuadStable q fun u => getF (R.TRK_QUAD q) f u = n where
  congr h hu := (getF_congr (by rw [hf]; exact h)).trans hu
  settle hu := by
    unfold settleQuad
    split
    · exact (getF_setF_apart _ _ (by decide) hrun).trans hu
    · exact (getF_setF_apart _ _ (by decide) hlock).trans ((getF_setF_apart _ _ (by decide) hrun).trans hu)

/-- A PLL that is not locked stays so. -/
theorem quadStable_unlocked170 : QuadStable q fun u => getF (R.TRK_QUAD q) F.TRK_QUAD_PLL170_LOCK u = 0 where
  congr h hu := (getF_congr h).trans hu
  settle hu := by
    unfold settleQuad
    split
    · exact (getF_setF_apart _ _ (by decide) (by decide)).trans hu
    · exact getF_setF_same _ _ _ _ (by decide)

section
variable {P : State → Prop} {c : Nat} {p hx : Bool} (hP : QuadStable (quadOf i) P) (hi : i < 84)
include hP hi

theorem QuadStable.of_laneReach {ps : List Part} (hs : P s) (h : LaneOnly i ps (laneReach i) s t) : P t :=
  hP.congr (h.rd_eq (quad_not_reach hi (quadOf_lt hi))) hs

theorem QuadStable.applyRate (hs : P s) : P (applyRate i p s) := by
  have hstate : laneReach i (R.TRK_STATE i) := .inl (.inl rfl)
  have hb : ∀ a, bellWord (laneErrEvent i) a → laneReach i a :=
    fun a ha => .inr (farWord_of_bellWord (laneErrEvent_lt hi) ha)
  have hfirst : LaneOnly i (lossParts i) (laneReach i) s (when (!p) (putRxlink i false)
      (setF (R.TRK_STATE i) F.TRK_STATE_RATE_PEND 0 (modLane i (fun l => { l with rate170 := p, eth := {} }) s))) :=
    (laneOnly_modLane mem_lossParts.1).trans <| (laneOnly_setF hstate).trans <|
      laneOnly_when (laneOnly_putRxlink mem_lossParts.2.1 mem_lossParts.2.2 hstate hb)
  have hlast {u : State} : LaneOnly i (lossParts i) (laneReach i) u (settleQlock i u) := laneOnly_setF hstate
  exact hP.of_laneReach hi (hP.settle (hP.of_laneReach hi hs hfirst)) hlast

theorem QuadStable.toDark (hs : P s) : P (toDark i c hx s) := by
  have hdark : P (reachDark i c hx s) := hP.of_laneReach hi hs (laneOnly_reachDark hi)
  cases h : ratePend i s with
  | false => rwa [toDark_of_not_pend hi h]
  | true =>
    rw [toDark_of_pend hi h]
    exact hP.of_laneReach hi (hP.applyRate hi hdark) (laneOnly_settleOnce hi)

end

end

/-! ### Loss and relock of a quadrant PLL (R27) -/

section
variable {i q : Nat} {x : Bool} {s u : State}

/-- The lock bit of the PLL of one rate. -/
def lockFld (x170 : Bool) : Fld := if x170 then F.TRK_QUAD_PLL170_LOCK else F.TRK_QUAD_PLL180_LOCK

theorem lockFld_fits : (lockFld x).sub = 0 ∧ (lockFld x).lo + (lockFld x).w ≤ 40 ∧ (lockFld x).w = 1
    ∧ Apart F.TRK_QUAD_LOSS_COUNT (lockFld x) := by
  unfold Apart
  cases x <;> decide

theorem loseLane_other (h : (laneOf i u).rate170 = !x) : loseLane x u i = u :=
  if_neg fun hc => by rw [hc] at h; cases x <;> cases h

theorem loseLane_eq (h : (laneOf i u).rate170 = x) (hen : laneEn i u = true) : loseLane x u i
    = modLane i (fun l => { l with energy := false }) (toDark i 1 false (setF (R.TRK_STATE i) F.TRK_STATE_QLOCK 0 u)) := by
  rw [loseLane, if_pos h, hen, when_true]

theorem laneOnly_loseLane (hi : i < 84) : LaneOnly i (lossParts i) (rateReach i) u (loseLane x u i) := by
  unfold loseLane
  split
  · refine (laneOnly_setF (.inr (.inl (.inl rfl)))).trans (laneOnly_when ?_)
    exact (laneOnly_toDark hi).trans (laneOnly_modLane mem_lossParts.1)
  · exact .refl

theorem QuadStable.loseLane {P : State → Prop} (hP : QuadStable (quadOf i) P) (hi : i < 84) (hs : P u) :
    P (loseLane x u i) := by
  have hlock : P (setF (R.TRK_STATE i) F.TRK_STATE_QLOCK 0 u) :=
    hP.of_laneReach (ps := []) hi hs (laneOnly_setF (.inl (.inl rfl)))
  unfold Machine.loseLane
  split
  · cases laneEn i u
    · exact hlock
    · exact hP.congr (rd_modLane (i := i) (g := fun l => { l with energy := false }) _) (hP.toDark hi hlock)
  · exact hs

/-- An enabled lane that loses its PLL is in DARK with cause QPLL_LOST, with no holdoff and no energy. -/
theorem loseLane_darkens (hi : i < 84) (hen : laneEn i u = true) (hrate : (laneOf i u).rate170 = x)
    (hpend : ratePend i u = false) : (laneState i u ≠ 0 → getF (R.TRK_STATE i) F.TRK_STATE_CAUSE (loseLane x u i) = 1)
      ∧ laneState i (loseLane x u i) = 0 ∧ (laneOf i (loseLane x u i)).energy = false
      ∧ getF (R.TRK_STATE i) F.TRK_STATE_HOLDOFF (loseLane x u i) = 0 := by
  have hst : laneState i (setF (R.TRK_STATE i) F.TRK_STATE_QLOCK 0 u) = laneState i u :=
    getF_setF_apart _ _ (by decide) (by decide)
  have hpend' : ratePend i (setF (R.TRK_STATE i) F.TRK_STATE_QLOCK 0 u) = false := by
    rw [ratePend, isSet, getF_setF_apart _ _ (by decide) (by decide)]
    exact hpend
  rw [loseLane_eq hrate hen, toDark_of_not_pend hi hpend', getF_modLane, laneState_modLane, laneOf_modLane_same,
    getF_modLane, holdoff_reachDark]
  refine ⟨fun h0 => ?_, laneState_reachDark hi, rfl, rfl⟩
  obtain ⟨-, hcause, -, -⟩ := moved_reachDark (hx := false) hi (show 1 < 16 by decide) (hst.trans_ne h0)
  exact hcause

/-- The quadrant's register when its PLL has lost lock. -/
def lockLost (q : Nat) (x170 : Bool) (s : State) : State :=
  s |> setF (R.TRK_QUAD q) (lockFld x170) 0 |> incF (R.TRK_QUAD q) F.TRK_QUAD_LOSS_COUNT 1

theorem qpllLost_eq (h : isSet (R.TRK_QUAD q) (lockFld x) s = true) :
    qpllLost q x s = raise (ev 2 (40 + q)) ((quadLanes q).foldl (loseLane x) (lockLost q x s)) := if_pos h

theorem sameLane_lockLost {k : Nat} (hk : k < 84) : SameLane k s (lockLost q x s) :=
  (sameLane_setF_quad hk lockFld_fits.1).trans (sameLane_setF_quad hk rfl)

theorem lock_lockLost : getF (R.TRK_QUAD q) (lockFld x) (lockLost q x s) = 0 := by
  obtain ⟨-, hfit, -, hapart⟩ := lockFld_fits (x := x)
  rw [lockLost, incF, getF_setF_apart _ _ (by decide) hapart.symm, getF_setF_same _ _ _ _ hfit, Nat.zero_mod]

theorem count_lockLost : getF (R.TRK_QUAD q) F.TRK_QUAD_LOSS_COUNT (lockLost q x s)
    = (getF (R.TRK_QUAD q) F.TRK_QUAD_LOSS_COUNT s + 1) % 2 ^ F.TRK_QUAD_LOSS_COUNT.w := by
  obtain ⟨-, hfit, -, hapart⟩ := lockFld_fits (x := x)
  rw [lockLost, incF, getF_setF_same _ _ _ _ (by decide), getF_setF_apart _ _ hfit hapart]

theorem quadStable_unlocked : QuadStable q fun u => getF (R.TRK_QUAD q) (lockFld x) u = 0 := by
  cases x
  · exact quadStable_getF (f := F.TRK_QUAD_PLL180_LOCK) rfl (by unfold Apart; decide) (by unfold Apart; decide)
  · exact quadStable_unlocked170

/-- What the lanes' changes keep of the quadrant's register holds after the loss. -/
theorem quadStable_qpllLost {P : State → Prop} (hP : QuadStable q P) (hq : q < 4)
    (hlost : isSet (R.TRK_QUAD q) (lockFld x) s = true) (hs : P (lockLost q x s)) : P (qpllLost q x s) := by
  have hfold : P ((quadLanes q).foldl (loseLane x) (lockLost q x s)) := by
    refine List.foldlRecOn (motive := P) _ _ hs fun u hu i hmem => ?_
    obtain ⟨hi, rfl⟩ := mem_quadLanes.1 hmem
    exact hP.loseLane hi hu
  rw [qpllLost_eq hlost]
  refine hP.congr (rd_raise_other _ _ fun h => ?_) hfold
  have hfar := farWord_of_bellWord (by unfold ev; omega) h
  unfold farWord R.TRK_QUAD at hfar
  omega

end

/-! ### Settling (R41, R42, R46) -/

section
variable {i q : Nat} {x : Bool} {s u : State}

/-- A property that settling and the way to DARK keep is kept by the whole of settling. -/
theorem settleLane_induct {P : State → Prop} (hs : P s) (hsettle : ∀ {u}, P u → P (settleOnce i u))
    (hdark : ∀ {u}, P u → P (toDark i 14 false u)) : P (settleLane i s) := by
  rw [settleLane, applyAtOpen]
  split
  · exact hsettle (hdark (hsettle hs))
  · exact hsettle hs

theorem laneOnly_settleLane (hi : i < 84) : LaneOnly i (lossParts i) (rateReach i) s (settleLane i s) :=
  settleLane_induct (P := LaneOnly i (lossParts i) (rateReach i) s) .refl
    (fun h => h.trans ((laneOnly_settleOnce hi).widen (fun _ => id) fun _ => .inr)) fun h => h.trans (laneOnly_toDark hi)

theorem QuadStable.settleLane {P : State → Prop} (hP : QuadStable (quadOf i) P) (hi : i < 84) (hs : P u) :
    P (settleLane i u) :=
  settleLane_induct hs (fun h => hP.of_laneReach hi h (laneOnly_settleOnce hi)) fun h => hP.toDark hi h

/-- Settling starts no holdoff. -/
theorem holdoff_settleLane (hi : i < 84) (h : getF (R.TRK_STATE i) F.TRK_STATE_HOLDOFF s = 0) :
    getF (R.TRK_STATE i) F.TRK_STATE_HOLDOFF (settleLane i s) = 0 :=
  settleLane_induct (P := fun u => getF (R.TRK_STATE i) F.TRK_STATE_HOLDOFF u = 0) h
    (fun hu => (getF_settleOnce_apart hi rfl (by decide) (by decide)).trans hu) fun _ => holdoff_toDark hi

/-- A lane of the quadrant after a relock. -/
def relockLane (x170 : Bool) (s : State) (i : Nat) : State :=
  if (laneOf i s).rate170 = x170 then s |> settleQlock i |> settleLane i else s

theorem relockLane_induct {P : State → Prop} (h : P u) (hsettle : P (settleLane i (settleQlock i u))) :
    P (relockLane x u i) := by
  unfold relockLane
  split
  · exact hsettle
  · exact h

theorem laneOnly_settleQlock {ps : List Part} : LaneOnly i ps (laneReach i) u (settleQlock i u) :=
  laneOnly_setF (.inl (.inl rfl))

theorem laneOnly_relockLane (hi : i < 84) : LaneOnly i (lossParts i) (rateReach i) u (relockLane x u i) :=
  relockLane_induct .refl
    ((laneOnly_settleQlock.widen (fun _ => id) fun _ => .inr).trans (laneOnly_settleLane hi))

theorem QuadStable.relockLane {P : State → Prop} (hP : QuadStable (quadOf i) P) (hi : i < 84) (hs : P u) :
    P (relockLane x u i) :=
  relockLane_induct hs (hP.settleLane hi (hP.of_laneReach (ps := []) hi hs laneOnly_settleQlock))

theorem holdoff_relockLane (hi : i < 84) (h : getF (R.TRK_STATE i) F.TRK_STATE_HOLDOFF u = 0) :
    getF (R.TRK_STATE i) F.TRK_STATE_HOLDOFF (relockLane x u i) = 0 :=
  relockLane_induct (P := fun v => getF (R.TRK_STATE i) F.TRK_STATE_HOLDOFF v = 0) h <|
    holdoff_settleLane hi ((getF_setF_apart _ _ (by decide) (by decide)).trans h)

/-- With no change that waits, the lane leaves the quadrant's register as it is, and none waits afterwards. -/
theorem relockLane_of_not_pend (hi : i < 84) (hq : q < 4) (h : ratePend i u = false) :
    rd (R.TRK_QUAD q) (relockLane x u i) = rd (R.TRK_QUAD q) u ∧ ratePend i (relockLane x u i) = false := by
  have hpend : ratePend i (settleQlock i u) = false := by
    rw [ratePend, isSet, settleQlock, getF_setF_apart _ _ (by decide) (by decide)]
    exact h
  refine relockLane_induct (P := fun v => rd (R.TRK_QUAD q) v = rd (R.TRK_QUAD q) u ∧ ratePend i v = false) ⟨rfl, h⟩ ?_
  rw [settleLane_of_not_pend hi hpend, ratePend_settleOnce hi]
  exact ⟨((laneOnly_settleQlock (ps := lossParts i)).trans (laneOnly_settleOnce hi)).rd_eq (quad_not_reach hi hq), hpend⟩

/-- The quadrant's register when its PLL has locked again. -/
def lockRegained (q : Nat) (x170 : Bool) (s : State) : State :=
  s |> setF (R.TRK_QUAD q) (lockFld x170) 1 |> setF (R.TRK_QUAD q) F.TRK_QUAD_LREF_PRESENT 1

theorem qpllRelock_eq (h : x = true → isSet (R.TRK_QUAD q) F.TRK_QUAD_PLL170_RUN s = true) :
    qpllRelock q x s = (quadLanes q).foldl (relockLane x) (lockRegained q x s) :=
  if_neg fun hc => hc.2 (h hc.1)

theorem sameLane_lockRegained {k : Nat} (hk : k < 84) : SameLane k s (lockRegained q x s) :=
  (sameLane_setF_quad hk lockFld_fits.1).trans (sameLane_setF_quad hk rfl)

theorem lock_lockRegained : getF (R.TRK_QUAD q) (lockFld x) (lockRegained q x s) = 1 := by
  obtain ⟨-, hfit, hwidth, -⟩ := lockFld_fits (x := x)
  have hapart : Apart (lockFld x) F.TRK_QUAD_LREF_PRESENT := by
    unfold Apart
    cases x <;> decide
  rw [lockRegained, getF_setF_apart _ _ (by decide) hapart, getF_setF_same _ _ _ _ hfit, hwidth]
  rfl

theorem isSet_of_getF_eq_one {b : Nat} {f : Fld} (h : getF b f s = 1) : isSet b f s = true := by rw [isSet, h]; rfl

theorem isSet_of_getF_eq_zero {b : Nat} {f : Fld} (h : getF b f s = 0) : isSet b f s = false := by rw [isSet, h]; rfl

theorem getF_eq_zero_of_isSet {b : Nat} {f : Fld} (h : isSet b f s = false) : getF b f s = 0 := by
  rw [isSet, bne_eq_false_iff_eq] at h
  exact h

/-- What the lanes' changes keep of the quadrant's register holds after a relock. -/
theorem quadStable_qpllRelock {P : State → Prop} (hP : QuadStable q P)
    (hrun : x = true → isSet (R.TRK_QUAD q) F.TRK_QUAD_PLL170_RUN s = true) (hs : P (lockRegained q x s)) :
    P (qpllRelock q x s) := by
  rw [qpllRelock_eq hrun]
  refine List.foldlRecOn (motive := P) _ _ hs fun u hu i hmem => ?_
  obtain ⟨hi, rfl⟩ := mem_quadLanes.1 hmem
  exact hP.relockLane hi hu

/-- The 170 PLL stays locked when none of its lanes waits for another rate. -/
theorem lock_qpllRelock170 (hq : q < 4) (hrun : isSet (R.TRK_QUAD q) F.TRK_QUAD_PLL170_RUN s = true)
    (hpend : ∀ i, i ∈ quadLanes q → ratePend i s = false) :
    getF (R.TRK_QUAD q) F.TRK_QUAD_PLL170_LOCK (qpllRelock q true s) = 1 := by
  have hfirst : getF (R.TRK_QUAD q) F.TRK_QUAD_PLL170_LOCK (lockRegained q true s) = 1 := lock_lockRegained (x := true)
  rw [qpllRelock_eq fun _ => hrun]
  refine (List.foldlRecOn (motive := fun u => getF (R.TRK_QUAD q) F.TRK_QUAD_PLL170_LOCK u = 1
    ∧ ∀ i, i ∈ quadLanes q → ratePend i u = false) _ _ ⟨hfirst, fun i hi => ?_⟩ ?_).1
  · obtain ⟨hlt, -⟩ := mem_quadLanes.1 hi
    exact (sameLane_lockRegained hlt).ratePend_eq.trans (hpend i hi)
  · rintro u ⟨hlock, hnone⟩ i hi
    obtain ⟨hlt, -⟩ := mem_quadLanes.1 hi
    obtain ⟨hsame, hlast⟩ := relockLane_of_not_pend (x := true) hlt hq (hnone i hi)
    refine ⟨(getF_congr hsame).trans hlock, fun k hk => ?_⟩
    by_cases hne : k = i
    · rw [hne, hlast]
    · exact ((laneOnly_relockLane hlt).sameLane hlt (mem_quadLanes.1 hk).1 hne).ratePend_eq.trans (hnone k hk)

end

/-! ### The statements about a quadrant -/

section
variable {s : State} (q : Fin 4) (x : Bool)

theorem qpllLost_darkensLanes (hlock : isSet (R.TRK_QUAD q) (lockFld x) s = true) : After (exec (.qpllLost q x) s) fun t =>
    isSet (R.TRK_QUAD q) (lockFld x) t = false ∧ Raised (ev 2 (40 + q)) t
      ∧ getF (R.TRK_QUAD q) F.TRK_QUAD_LOSS_COUNT t
          = (getF (R.TRK_QUAD q) F.TRK_QUAD_LOSS_COUNT s + 1) % 2 ^ F.TRK_QUAD_LOSS_COUNT.w
      ∧ (∀ i : LaneId, (laneOf i s).rate170 = (!x) →
          laneOf i t = laneOf i s ∧ rd (R.TRK_STATE i) t = rd (R.TRK_STATE i) s)
      ∧ (∀ i : LaneId, quadOf i = q → laneEn i s = true → (laneOf i s).rate170 = x → ratePend i s = false →
          (laneState i s ≠ 0 → getF (R.TRK_STATE i) F.TRK_STATE_CAUSE t = 1) ∧ laneState i t = 0
            ∧ (laneOf i t).energy = false ∧ getF (R.TRK_STATE i) F.TRK_STATE_HOLDOFF t = 0)
      ∧ (∀ i : LaneId, quadOf i ≠ q → laneOf i t = laneOf i s ∧ rd (R.TRK_STATE i) t = rd (R.TRK_STATE i) s) := by
  have he : ev 2 (40 + q) < 1024 := by unfold ev; omega
  have hop (u : State) (j : Nat) (hj : j ∈ quadLanes q) : LaneOnly j (lossParts j) (rateReach j) u (loseLane x u j) :=
    laneOnly_loseLane (mem_quadLanes.1 hj).1
  have hl : ∀ j ∈ quadLanes q, j < 84 := fun j hj => (mem_quadLanes.1 hj).1
  have hlast {i : Nat} (hi : i < 84) : SameLane i ((quadLanes q).foldl (loseLane x) (lockLost q x s)) (qpllLost q x s) := by
    rw [qpllLost_eq hlock]
    exact sameLane_raise hi he
  have hother {i : Nat} (hi : i < 84) (hne : quadOf i ≠ q) : SameLane i s (qpllLost q x s) :=
    ((sameLane_lockLost hi).trans (sameLane_foldl hop hl hi fun h => hne (mem_quadLanes.1 h).2)).trans (hlast hi)
  have hown {i : Nat} (hi : i < 84) (hq : quadOf i = q) :
      ∃ u, SameLane i s u ∧ SameLane i (loseLane x u i) (qpllLost q x s) := by
    obtain ⟨u, hbefore, hafter⟩ := foldl_at (s := lockLost q x s) hop hl (mem_quadLanes.2 ⟨hi, hq⟩) nodup_quadLanes
    exact ⟨u, (sameLane_lockLost hi).trans hbefore, hafter.trans (hlast hi)⟩
  refine ⟨_, rfl, ?_, ?_, ?_, fun i hrate => ?_, fun i hq hen hrate hpend => ?_, fun i hne => ?_⟩
  · exact isSet_of_getF_eq_zero (quadStable_qpllLost quadStable_unlocked q.isLt hlock lock_lockLost)
  · rw [qpllLost_eq hlock]
    exact raised_raise he
  · exact quadStable_qpllLost (quadStable_getF rfl (by unfold Apart; decide) (by unfold Apart; decide)) q.isLt hlock
      count_lockLost
  · by_cases hq : quadOf i = q
    · obtain ⟨u, hbefore, hafter⟩ := hown i.isLt hq
      rw [loseLane_other (by rw [hbefore.1, hrate])] at hafter
      exact ⟨(hbefore.trans hafter).1, (hbefore.trans hafter).rd_state⟩
    · exact ⟨(hother i.isLt hq).1, (hother i.isLt hq).rd_state⟩
  · obtain ⟨u, hbefore, hafter⟩ := hown i.isLt hq
    obtain ⟨hcause, hdark, henergy, hholdoff⟩ := loseLane_darkens (x := x) i.isLt (hbefore.laneEn_eq.trans hen)
      (by rw [hbefore.1, hrate]) (hbefore.ratePend_eq.trans hpend)
    refine ⟨fun h0 => ?_, (hafter.getF_state rfl).trans hdark, ?_, (hafter.getF_state rfl).trans hholdoff⟩
    · exact (hafter.getF_state rfl).trans (hcause ((hbefore.getF_state rfl).trans_ne h0))
    · rw [hafter.1, henergy]
  · exact ⟨(hother i.isLt hne).1, (hother i.isLt hne).rd_state⟩

theorem qpllRelock_settlesLanes (hrun : x = true → isSet (R.TRK_QUAD q) F.TRK_QUAD_PLL170_RUN s = true) :
    After (exec (.qpllRelock q x) s) fun t =>
      ((x = true → ∀ i : LaneId, quadOf i = q → ratePend i s = false) → isSet (R.TRK_QUAD q) (lockFld x) t = true)
        ∧ isSet (R.TRK_QUAD q) F.TRK_QUAD_LREF_PRESENT t = true
        ∧ (∀ i : LaneId, isSet (R.TRK_STATE i) F.TRK_STATE_HOLDOFF s = false →
            isSet (R.TRK_STATE i) F.TRK_STATE_HOLDOFF t = false)
        ∧ ∀ i : LaneId, quadOf i ≠ q → laneOf i t = laneOf i s ∧ rd (R.TRK_STATE i) t = rd (R.TRK_STATE i) s := by
  have hop (u : State) (j : Nat) (hj : j ∈ quadLanes q) : LaneOnly j (lossParts j) (rateReach j) u (relockLane x u j) :=
    laneOnly_relockLane (mem_quadLanes.1 hj).1
  have hl : ∀ j ∈ quadLanes q, j < 84 := fun j hj => (mem_quadLanes.1 hj).1
  have hother {i : Nat} (hi : i < 84) (hne : quadOf i ≠ q) : SameLane i s (qpllRelock q x s) := by
    rw [qpllRelock_eq hrun]
    exact (sameLane_lockRegained hi).trans (sameLane_foldl hop hl hi fun h => hne (mem_quadLanes.1 h).2)
  refine ⟨_, rfl, fun hpend => ?_, ?_, fun i hold => ?_, fun i hne => ?_⟩
  · refine isSet_of_getF_eq_one ?_
    cases x with
    | false =>
      exact quadStable_qpllRelock (quadStable_getF (f := F.TRK_QUAD_PLL180_LOCK) rfl (by unfold Apart; decide)
        (by unfold Apart; decide)) hrun lock_lockRegained
    | true =>
      refine lock_qpllRelock170 q.isLt (hrun rfl) fun i hi => ?_
      obtain ⟨hlt, hq⟩ := mem_quadLanes.1 hi
      exact hpend rfl ⟨i, hlt⟩ hq
  · refine isSet_of_getF_eq_one (quadStable_qpllRelock (quadStable_getF (f := F.TRK_QUAD_LREF_PRESENT) rfl
      (by unfold Apart; decide) (by unfold Apart; decide)) hrun ?_)
    exact getF_setF_same _ _ _ _ (by decide)
  · refine isSet_of_getF_eq_zero ?_
    have hnone := getF_eq_zero_of_isSet hold
    by_cases hq : quadOf i = q
    · obtain ⟨u, hbefore, hafter⟩ := foldl_at (s := lockRegained q x s) hop hl (mem_quadLanes.2 ⟨i.isLt, hq⟩)
        nodup_quadLanes
      rw [← qpllRelock_eq hrun] at hafter
      refine (hafter.getF_state rfl).trans (holdoff_relockLane i.isLt ?_)
      exact (((sameLane_lockRegained i.isLt).trans hbefore).getF_state rfl).trans hnone
    · exact ((hother i.isLt hq).getF_state rfl).trans hnone
  · exact ⟨(hother i.isLt hne).1, (hother i.isLt hne).rd_state⟩

end

theorem quadrantPllLossAndRelock : QuadrantPllLossAndRelock :=
  ⟨fun q x _ => qpllLost_darkensLanes q x, fun q x _ => qpllRelock_settlesLanes q x⟩

/-- Settles O2: the lanes' clauses are one step of a lane each, and the quadrant's an induction over its lanes. -/
theorem laneAndPllConditions : Obligations.LaneAndPllConditions :=
  ⟨laneConditionsAndTestPatterns, quadrantPllLossAndRelock⟩

end Sys2Proof.Safety

namespace Sys2Proof.Safety
open Sys2Proof.Machine

/-! ### A field of a word written, the other fields as they stand -/

section
variable {a n : Nat} {x : Word} {f g : Fld} {d : FieldDef} {w : WordDef} {s : State}

/-- A field as a writer of another one leaves it in the word that it writes. -/
def holdField (x : Word) (d : FieldDef) : Word := if d.acc = .wo ∨ d.acc = .w1c then putBits x d.fld.lo d.fld.w 0 else x

theorem heldWord_eq (h : regDef a = some w) : heldWord a s = w.fields.foldl holdField (rd a s) := by
  rw [heldWord, h]
  rfl

theorem bitsOf_holdField_apart (hd : d.fld.lo + d.fld.w ≤ 40) (h : Apart d.fld g) :
    bitsOf (holdField x d) g.lo g.w = bitsOf x g.lo g.w := by
  unfold holdField
  split
  · exact bitsOf_putBits_apart 0 hd h
  · rfl

theorem bitsOf_foldl_holdField_apart {l : List FieldDef} (h : ∀ d ∈ l, d.fld.lo + d.fld.w ≤ 40)
    (ha : ∀ d ∈ l, Apart d.fld g) : bitsOf (l.foldl holdField x) g.lo g.w = bitsOf x g.lo g.w := by
  induction l generalizing x with
  | nil => rfl
  | cons d t ih =>
    obtain ⟨hd, ht⟩ := List.forall_mem_cons.1 h
    obtain ⟨had, hat⟩ := List.forall_mem_cons.1 ha
    exact (ih ht hat).trans (bitsOf_holdField_apart hd had)

/-- Each field is held by itself. -/
theorem bitsOf_foldl_holdField {l : List FieldDef} (hl : FieldsFit l) (hd : d ∈ l) :
    bitsOf (l.foldl holdField x) d.fld.lo d.fld.w = bitsOf (holdField x d) d.fld.lo d.fld.w := by
  obtain ⟨hp, hw⟩ := hl
  induction l generalizing x with
  | nil => cases hd
  | cons c t ih =>
    obtain ⟨hc, ht⟩ := List.forall_mem_cons.1 hw
    obtain ⟨hct, hpt⟩ := List.pairwise_cons.1 hp
    rw [List.foldl_cons]
    rcases List.mem_cons.1 hd with rfl | hd
    · exact bitsOf_foldl_holdField_apart ht fun e he => Or.symm (hct e he)
    · have hsame : bitsOf x d.fld.lo d.fld.w = bitsOf (holdField x c) d.fld.lo d.fld.w :=
        (bitsOf_holdField_apart hc (hct d hd)).symm
      rw [ih hd hpt ht]
      unfold holdField at hsame ⊢
      split
      · rw [bitsOf_putBits_same _ _ _ _ (ht d hd), bitsOf_putBits_same _ _ _ _ (ht d hd)]
      · exact hsame.symm

/-- A field that is not written keeps its value in the word that is. -/
theorem bitsOf_held_kept (h : regDef a = some w) (hd : d ∈ w.fields) (hacc : d.acc ≠ .wo ∧ d.acc ≠ .w1c)
    (hf : f.lo + f.w ≤ 40) (hapart : Apart f d.fld) :
    bitsOf (putBits (heldWord a s) f.lo f.w n) d.fld.lo d.fld.w = bitsOf (rd a s) d.fld.lo d.fld.w := by
  rw [bitsOf_putBits_apart n hf hapart, heldWord_eq h, bitsOf_foldl_holdField (regDef_fieldsFit h) hd, holdField,
    if_neg (not_or.2 hacc)]

/-- A WO or W1C field that is not written is 0 in the word that is. -/
theorem bitsOf_held_zero (h : regDef a = some w) (hd : d ∈ w.fields) (hacc : d.acc = .wo ∨ d.acc = .w1c)
    (hf : f.lo + f.w ≤ 40) (hapart : Apart f d.fld) :
    bitsOf (putBits (heldWord a s) f.lo f.w n) d.fld.lo d.fld.w = 0 := by
  have hfit := regDef_fieldsFit h
  rw [bitsOf_putBits_apart n hf hapart, heldWord_eq h, bitsOf_foldl_holdField hfit hd, holdField, if_pos hacc,
    bitsOf_putBits_same _ _ _ _ (hfit.2 d hd), Nat.zero_mod]

/-- A field that is written its own value keeps it. -/
theorem storedField_held {v : Word} {free : Bool} (hacc : d.acc ≠ .w1c) :
    storedField d a v free s (bitsOf v d.fld.lo d.fld.w) = bitsOf v d.fld.lo d.fld.w := by
  unfold storedField
  cases h : d.acc with
  | w1c => exact absurd h hacc
  | ro => rfl
  | wo => rfl
  | rw => simp only [ite_self]
  | rwl => simp only [ite_self]

end

/-! ### A write of a register of a lane -/

section
variable {m a b k : Nat} {v : Word} {w : WordDef} {d : FieldDef} {s t : State}

/-- The registers of the lanes, and their framing words. -/
def LaneRegister (a : Nat) : Prop := 0x2000000 ≤ a ∧ a < 0x2054000 ∨ 0x30F0000 ≤ a ∧ a < 0x30F0800

theorem LaneRegister.registerWord (h : LaneRegister a) : RegisterWord a := by
  unfold LaneRegister at h
  unfold RegisterWord
  omega

theorem LaneRegister.block (h : LaneRegister a) :
    0x200 ≤ a / 0x10000 ∧ a / 0x10000 ≤ 0x205 ∨ a / 0x10000 = 0x30F := by
  unfold LaneRegister at h
  omega

theorem LaneRegister.content (h : LaneRegister a) : wordVoid a s = false := by
  have hb := h.block
  unfold wordVoid
  split
  case h_9 => rfl
  all_goals omega

/-- The word with its fields stored, before the write has its effect. -/
def laneWritten (m a : Nat) (v : Word) (w : WordDef) (s : State) : State :=
  fieldsWritten w a v (!sealed s) (countIssue m s)

theorem writeAccess_lane (hm : m < 16) (h : LaneRegister a) (hr : Reaches m a s) (hd : regDef a = some w) :
    writeAccess m a v s = putAnswer m ⟨0, [], 1⟩ (regEffect m a (rd a s) v
      (w.fields.any fun f => f.locked (!sealed s) (countIssue m s)) (!sealed s) (laneWritten m a v w s)) := by
  have hown : a ≠ R.ILK_MST m := by unfold LaneRegister at h; unfold R.ILK_MST; omega
  have hshared : foreignEnq m a = false := by
    unfold LaneRegister at h
    rw [foreignEnq, decide_eq_false (p := a < 0x1000068) (by omega), Bool.and_false, Bool.false_and]
  have hw := (wordWrite_register h.registerWord h.content v).trans
    (congrArg (Prod.mk 0) (regWrite1_eq (s := countIssue m s) hd hshared _))
  rw [writeAccess_okay hm hr h.registerWord.below hw, sealed_countIssue hm, rd_countIssue hown, laneWritten]

theorem LaneRegister.unreported (h : LaneRegister a) : Unreported a := by
  unfold LaneRegister at h
  simp only [Unreported, bellWord, ev, R.DEP_STATUS, R.BEL_SRC, R.BEL_LOGPOS, R.BEL_LOG]
  omega

/-- What the store of a lane's register leaves: the lanes, and every other word from the Tracks' on. -/
theorem laneOf_laneWritten : laneOf k (laneWritten m a v w s) = laneOf k s :=
  (laneOf_of_only (only_fieldsWritten _) (by decide)).trans (laneOf_of_only only_countIssue (by simp))

theorem rd_laneWritten_other (hm : m < 16) (hb : 0x2000000 ≤ b) (hne : b ≠ a) :
    rd b (laneWritten m a v w s) = rd b s := by
  have hcount : b ≠ R.ILK_MST m := by unfold R.ILK_MST; omega
  refine ((only_fieldsWritten _).2.2 b ?_).trans (rd_countIssue hcount)
  simp only [bellWord, ev, R.DEP_STATUS, R.BEL_SRC, R.BEL_LOGPOS, R.BEL_LOG]
  omega

theorem pstate_laneWritten (hm : m < 16) (h : LaneRegister a) : pstate (laneWritten m a v w s) = pstate s := by
  refine (getF_congr ((only_fieldsWritten _).2.2 _ ?_)).trans (pstate_countIssue hm)
  unfold LaneRegister at h
  simp only [bellWord, ev, R.DEP_STATUS, R.BEL_SRC, R.BEL_LOGPOS, R.BEL_LOG, R.SUB_STATE, F.SUB_STATE_STATE]
  omega

theorem bitsOf_laneWritten (hm : m < 16) (h : LaneRegister a) (hd : regDef a = some w) (hf : d ∈ w.fields) :
    bitsOf (rd a (laneWritten m a v w s)) d.fld.lo d.fld.w
      = storedField d a v (!sealed s) (countIssue m s) (bitsOf (rd a s) d.fld.lo d.fld.w) := by
  have hown : a ≠ R.ILK_MST m := by unfold LaneRegister at h; unfold R.ILK_MST; omega
  rw [laneWritten, bitsOf_fieldsWritten _ h.unreported hd hf, rd_countIssue hown]

/-- A field that the writer leaves as it stands is as before. -/
theorem getF_laneWritten_kept {f : Fld} {n : Nat} (hm : m < 16) (h : LaneRegister a) (hd : regDef a = some w)
    (hf : d ∈ w.fields) (hsub : d.fld.sub = 0) (hacc : d.acc ≠ .wo ∧ d.acc ≠ .w1c) (hfit : f.lo + f.w ≤ 40)
    (hapart : Apart f d.fld) : getF a d.fld (laneWritten m a (putBits (heldWord a s) f.lo f.w n) w s) = getF a d.fld s := by
  have hv := bitsOf_held_kept (s := s) (n := n) hd hf hacc hfit hapart
  rw [getF, getF, hsub, Nat.add_zero, bitsOf_laneWritten hm h hd hf, ← hv, storedField_held hacc.2]

/-- A field takes what its range allows. -/
theorem getF_laneWritten_taken (hm : m < 16) (h : LaneRegister a) (hd : regDef a = some w) (hf : d ∈ w.fields)
    (hsub : d.fld.sub = 0) (hacc : d.acc = .rw) (hz : d.zrej = false)
    (hp : Fld.special a d.fld (countIssue m s) = false)
    (hr : d.rule.holds a (bitsOf v d.fld.lo d.fld.w) v (countIssue m s) = true) :
    getF a d.fld (laneWritten m a v w s) = bitsOf v d.fld.lo d.fld.w := by
  rw [getF, hsub, Nat.add_zero, bitsOf_laneWritten hm h hd hf, ← sealed_countIssue hm]
  exact storedField_taken (.inl hacc) hp (fun h => Bool.noConfusion (hz.symm.trans h)) hr

end

/-! ### What a lane's registers do (R39, R42, R46, R49) -/

section
variable {i off st c : Nat} {old v : Word} {p q l fr hx : Bool} {f : Fld} {m : Nat} {s t u : State}

theorem regEffect_lane (hi : i < 84) (hoff : off < 0x1000) :
    regEffect m (0x2000000 + 0x1000 * i + off) old v l fr s = trkEffect i off old v l s := by
  have hlane : (0x2000000 + 0x1000 * i + off - 0x2000000) / 0x1000 = i := by omega
  have hword : (0x2000000 + 0x1000 * i + off) % 0x1000 = off := by omega
  have hblock : 0x200 ≤ (0x2000000 + 0x1000 * i + off) / 0x10000 ∧ (0x2000000 + 0x1000 * i + off) / 0x10000 ≤ 0x205 := by
    omega
  unfold regEffect
  split
  case h_15 => rw [if_pos hblock, hlane, hword]
  all_goals omega

/-! #### Frames -/

theorem rateReach_state : rateReach i (R.TRK_STATE i) := .inr (.inl (.inl rfl))

theorem rateReach_test : rateReach i (R.TRK_TEST i) := .inr (.inl (.inr (.inr (.inr rfl))))

theorem laneOnly_trackReset (hi : i < 84) : LaneOnly i (lossParts i) (rateReach i) s (trackReset i s) :=
  (laneOnly_toDark hi).trans <|
    (laneOnly_when (laneOnly_departureLoss.widen (fun _ => id) fun _ ha => .inr (.inr ha))).trans
      (laneOnly_modLane mem_lossParts.1)

theorem laneOnly_persWrite (hi : i < 84) : LaneOnly i (lossParts i) (rateReach i) s (persWrite i p s) := by
  have hchange {u : State} : LaneOnly i (lossParts i) (rateReach i) u (laneChange i 0 14 u) :=
    (laneOnly_laneChange hi).widen (fun _ => id) fun _ => .inr
  unfold persWrite
  split
  · exact .refl
  split
  · exact laneOnly_modLane mem_lossParts.1
  split
  · exact .refl
  dsimp only
  split
  · exact (laneOnly_when hchange).trans <| (laneOnly_setF rateReach_state).trans <| (laneOnly_setF rateReach_state).trans <|
      (laneOnly_applyRate hi).trans (laneOnly_settleLane hi)
  · exact (laneOnly_modLane mem_lossParts.1).trans (laneOnly_setF rateReach_state)

/-- EN takes the lane clock's start with it. -/
def laneStarted (i : Nat) (old : Word) (s : State) : State :=
  when (laneEn i s && bitsOf old 0 1 == 0) (modLane i (fun l => { l with txSeq := 0, clkFrom := tickNow s + 250 })) s

theorem laneOnly_laneStarted {w : Nat → Prop} : LaneOnly i (lossParts i) w s (laneStarted i old s) :=
  laneOnly_when (laneOnly_modLane mem_lossParts.1)

theorem rd_laneStarted {a : Nat} : rd a (laneStarted i old s) = rd a s := rd_when (rd_modLane a)

theorem rate170_laneStarted : (laneOf i (laneStarted i old s)).rate170 = (laneOf i s).rate170 := by
  unfold laneStarted
  cases laneEn i s && bitsOf old 0 1 == 0
  · rfl
  · rw [when_true, laneOf_modLane_same]

theorem ratePend_laneStarted : ratePend i (laneStarted i old s) = ratePend i s := isSet_congr rd_laneStarted

theorem laneEn_laneStarted : laneEn i (laneStarted i old s) = laneEn i s := laneEn_congr rd_laneStarted

/-- A write of TRK_CTRL that resets the lane. -/
theorem trkCtrlEffect_reset (h : (!laneEn i s || q) = true) : trkCtrlEffect i old p q s
    = settleLane i (when (isDeparture i && (laneOf i (laneStarted i old s)).rate170 != p || ratePend i (laneStarted i old s))
        (applyRate i (p && isDeparture i)) (trackReset i (laneStarted i old s))) := by
  unfold trkCtrlEffect laneStarted
  simp only [h, if_true]

/-- A write of TRK_CTRL that does not. -/
theorem trkCtrlEffect_noReset (h : laneEn i s = true) : trkCtrlEffect i old p false s
    = settleLane i (when (bitsOf old 1 1 != b2n p || ratePend i (laneStarted i old s)) (persWrite i p)
        (laneStarted i old s)) := by
  unfold trkCtrlEffect laneStarted
  simp only [h, Bool.not_true, Bool.or_self, Bool.false_eq_true, if_false]

theorem laneOnly_trkCtrlEffect (hi : i < 84) : LaneOnly i (lossParts i) (rateReach i) s (trkCtrlEffect i old p q s) := by
  cases h : !laneEn i s || q with
  | true =>
    rw [trkCtrlEffect_reset h]
    exact laneOnly_laneStarted.trans <| (laneOnly_trackReset hi).trans <|
      (laneOnly_when (laneOnly_applyRate hi)).trans (laneOnly_settleLane hi)
  | false =>
    obtain ⟨hen, rfl⟩ := Bool.or_eq_false_iff.1 h
    rw [trkCtrlEffect_noReset (by simpa using hen)]
    exact laneOnly_laneStarted.trans ((laneOnly_when (laneOnly_persWrite hi)).trans (laneOnly_settleLane hi))

/-- TRK_CTRL itself stays as it was written. -/
theorem rd_ctrl_of_rateReach {ps : List Part} (hi : i < 84) (h : LaneOnly i ps (rateReach i) s t) :
    rd (R.TRK_CTRL i) t = rd (R.TRK_CTRL i) s := h.rd_eq (fixedWord_not_reach hi (.inl rfl))

/-! #### Settling that changes nothing -/

/-- Nothing takes the lane to a state without its partner: it is disabled, or asks for no test and depends on its
receiver. -/
def Settled (i : Nat) (s : State) : Prop := laneEn i s = false ∨ testOn i s = false ∧ deaf i s = false

theorem settleOnce_of_settled (h : Settled i s) : settleOnce i s = s := by
  unfold settleOnce
  rcases h with hen | ⟨htest, hdeaf⟩
  · rw [hen, Bool.false_and, Bool.false_and, if_neg Bool.false_ne_true]
  · rw [htest, hdeaf, Bool.false_and, if_neg Bool.false_ne_true, if_neg Bool.false_ne_true, ite_self]

theorem settleLane_of_settled (h : Settled i s) (hst : laneState i s ≠ 5) : settleLane i s = s := by
  rw [settleLane, settleOnce_of_settled h, applyAtOpen]
  exact if_neg fun hc => hst hc.1

/-- The fields of TRK_TEST beside the checker's lock. -/
theorem getF_test_laneChange (hi : i < 84) (hf : f.sub = 0) (ha : Apart f F.TRK_TEST_CHK_LOCK) :
    getF (R.TRK_TEST i) f (laneChange i st c s) = getF (R.TRK_TEST i) f s := by
  have hstate : R.TRK_TEST i ≠ R.TRK_STATE i := by unfold R.TRK_TEST R.TRK_STATE; omega
  have hstatus : R.TRK_TEST i ≠ R.TRK_STATUS i := by unfold R.TRK_TEST R.TRK_STATUS; omega
  have hpeer : R.TRK_TEST i + f.sub ≠ R.TRK_PEER i + F.TRK_PEER_ANY.sub := by
    simp only [R.TRK_TEST, R.TRK_PEER, F.TRK_PEER_ANY, hf]
    omega
  have hleave : getF (R.TRK_TEST i) f (leaveState i s) = getF (R.TRK_TEST i) f s := by
    unfold leaveState
    split
    · exact getF_modLane.trans (getF_setF_other _ _ hpeer)
    · exact getF_setF_apart _ _ (by decide) ha
    · split
      · exact laneOnly_departureLoss.getF_eq (by rw [hf]; exact test_not_far hi)
      · rfl
    · rfl
  refine (getF_congr ?_).trans hleave
  rw [hf]
  exact rd_laneChange hi hstate hstatus (test_not_far hi)

theorem getF_test_reachDark (hi : i < 84) (hf : f.sub = 0) (ha : Apart f F.TRK_TEST_CHK_LOCK) :
    getF (R.TRK_TEST i) f (reachDark i c hx s) = getF (R.TRK_TEST i) f s := by
  have hstate : R.TRK_TEST i + f.sub ≠ R.TRK_STATE i + F.TRK_STATE_HOLDOFF.sub := by
    simp only [R.TRK_TEST, R.TRK_STATE, F.TRK_STATE_HOLDOFF, hf]
    omega
  rw [reachDark, getF_setF_other _ _ hstate, getF_when (getF_test_laneChange hi hf ha)]

theorem testOn_congr (hgen : getF (R.TRK_TEST i) F.TRK_TEST_GEN t = getF (R.TRK_TEST i) F.TRK_TEST_GEN s)
    (hchk : getF (R.TRK_TEST i) F.TRK_TEST_CHK t = getF (R.TRK_TEST i) F.TRK_TEST_CHK s) : testOn i t = testOn i s := by
  rw [testOn, testOn, isSet, isSet, isSet, isSet, hgen, hchk]

end

/-! #### A per-track reset (R49) -/

section
variable {i c st : Nat} {old : Word} {p q hx : Bool} {f : Fld} {s u : State}

theorem getF_state_departureLoss (hi : i < 84) (hf : f.sub = 0) :
    getF (R.TRK_STATE i) f (departureLoss i s) = getF (R.TRK_STATE i) f s :=
  laneOnly_departureLoss.getF_eq (by rw [hf]; exact state_not_far hi)

theorem getF_state_trackReset (hi : i < 84) (hf : f.sub = 0) :
    getF (R.TRK_STATE i) f (trackReset i s) = getF (R.TRK_STATE i) f (toDark i 2 false s) := by
  rw [trackReset, getF_modLane, getF_when (getF_state_departureLoss hi hf)]

theorem holdoff_trackReset (hi : i < 84) : getF (R.TRK_STATE i) F.TRK_STATE_HOLDOFF (trackReset i s) = 0 :=
  (getF_state_trackReset hi rfl).trans (holdoff_toDark hi)

theorem fifo_trackReset : (laneOf i (trackReset i s)).fifo = [] := by rw [trackReset, laneOf_modLane_same]

theorem consigs_trackReset (h : isDeparture i = true) : laneConsigs (laneOf i (trackReset i s)) = [] := by
  rw [trackReset, laneOf_modLane_same, h, when_true]
  exact laneConsigs_departureLoss

theorem durable_settleLane (hi : i < 84) : durable (laneOf i (settleLane i s)) = durable (laneOf i s) :=
  settleLane_induct (P := fun u => durable (laneOf i u) = durable (laneOf i s)) rfl
    (fun h => (durable_of_kept kept_settleOnce).trans h) fun h => (durable_toDark hi).trans h

theorem laneConsigs_eq {l n : Lane} (hcur : n.cur = l.cur) (htxq : n.txq = l.txq) (hbeam : n.beamq = l.beamq) :
    laneConsigs n = laneConsigs l := by rw [laneConsigs, laneConsigs, hcur, htxq, hbeam]

/-- Lane `i` holds no consignment. -/
def NoConsigs (i : Nat) (s : State) : Prop := laneConsigs (laneOf i s) = []

theorem NoConsigs.modLane {g : Lane → Lane} (h : laneConsigs (g (laneOf i s)) = laneConsigs (laneOf i s))
    (hs : NoConsigs i s) : NoConsigs i (modLane i g s) := by
  rw [NoConsigs, laneOf_modLane_same, h]
  exact hs

theorem NoConsigs.congr (hs : NoConsigs i s) (h : laneOf i u = laneOf i s) : NoConsigs i u := by
  rw [NoConsigs, h]
  exact hs

theorem NoConsigs.leaveState (h : NoConsigs i s) : NoConsigs i (leaveState i s) := by
  unfold Machine.leaveState
  split
  · exact (h.congr laneOf_setF).modLane (laneConsigs_eq rfl rfl rfl)
  · exact h.congr laneOf_setF
  · split
    · exact laneConsigs_departureLoss
    · exact h.congr laneOf_unpin
  · exact h

theorem NoConsigs.enterState (h : NoConsigs i s) : NoConsigs i (enterState i st s) := by
  unfold Machine.enterState
  split
  · exact (h.modLane (laneConsigs_eq rfl rfl rfl)).congr laneOf_setF
  · exact h.modLane (laneConsigs_eq rfl rfl rfl)
  · exact h.modLane (laneConsigs_eq rfl rfl rfl)
  · exact (h.modLane (laneConsigs_eq rfl rfl rfl)).congr laneOf_setF
  · split
    · exact (h.modLane (laneConsigs_eq rfl rfl rfl)).congr laneOf_foldl_slowInvalid
    · exact h
  · exact h

theorem NoConsigs.laneChange (h : NoConsigs i s) : NoConsigs i (laneChange i st c s) := by
  refine NoConsigs.congr (NoConsigs.enterState (h.leaveState.congr ?_)) laneOf_raise
  rw [laneOf_setStatusFlag, incF, laneOf_setF, laneOf_setF, laneOf_setF]

theorem NoConsigs.applyRate (h : NoConsigs i s) : NoConsigs i (applyRate i p s) := by
  rw [NoConsigs, laneOf_applyRate]
  exact (laneConsigs_eq rfl rfl rfl).trans h

theorem NoConsigs.settleOnce (h : NoConsigs i s) : NoConsigs i (settleOnce i s) :=
  settleOnce_induct h fun _ _ => h.laneChange

theorem NoConsigs.when {b : Bool} {op : State → State} (h : NoConsigs i s) (hop : NoConsigs i (op s)) :
    NoConsigs i (when b op s) := by
  cases b
  · exact h
  · exact hop

theorem NoConsigs.reachDark (h : NoConsigs i s) : NoConsigs i (reachDark i c hx s) := by
  rw [Safety.reachDark]
  exact (h.when h.laneChange).congr laneOf_setF

theorem NoConsigs.toDark (hi : i < 84) (h : NoConsigs i s) : NoConsigs i (toDark i c hx s) := by
  cases hp : ratePend i s with
  | false =>
    rw [toDark_of_not_pend hi hp]
    exact h.reachDark
  | true =>
    rw [toDark_of_pend hi hp]
    exact h.reachDark.applyRate.settleOnce

theorem NoConsigs.settleLane (hi : i < 84) (h : NoConsigs i s) : NoConsigs i (settleLane i s) :=
  settleLane_induct h (fun hu => hu.settleOnce) fun hu => hu.toDark hi

/-- A write that resets the lane leaves it with no holdoff and nothing in its FIFOs. -/
theorem trkCtrlEffect_empties (hi : i < 84) (h : (!laneEn i s || q) = true) :
    getF (R.TRK_STATE i) F.TRK_STATE_HOLDOFF (trkCtrlEffect i old p q s) = 0
      ∧ (laneOf i (trkCtrlEffect i old p q s)).fifo = []
      ∧ (isDeparture i = true → laneConsigs (laneOf i (trkCtrlEffect i old p q s)) = []) := by
  rw [trkCtrlEffect_reset h]
  refine ⟨?_, ?_, fun hd => ?_⟩
  · exact holdoff_settleLane hi ((getF_when (getF_applyRate_apart hi rfl (by decide))).trans (holdoff_trackReset hi))
  · have hrate {b r : Bool} {u : State} : durable (laneOf i (when b (applyRate i r) u)) = durable (laneOf i u) := by
      cases b
      · rfl
      · exact durable_applyRate
    exact (fifo_of_durable ((durable_settleLane hi).trans hrate)).trans fifo_trackReset
  · have hrate {b r : Bool} {u : State} (hu : NoConsigs i u) : NoConsigs i (when b (applyRate i r) u) := by
      cases b
      · exact hu
      · exact hu.applyRate
    exact (hrate (consigs_trackReset hd)).settleLane hi

/-- STATE and CAUSE after a reset: of a lane in which no change of its rate waits, or that is disabled. -/
theorem trackReset_dark (hi : i < 84) (h : ratePend i s = false ∨ laneEn i s = false) :
    laneState i (trackReset i s) = 0
      ∧ (laneState i s ≠ 0 → getF (R.TRK_STATE i) F.TRK_STATE_CAUSE (trackReset i s) = 2) := by
  have hdark {g : Fld} (hg : g.sub = 0) (hlow : g.lo + g.w ≤ 8) :
      getF (R.TRK_STATE i) g (toDark i 2 false s) = getF (R.TRK_STATE i) g (reachDark i 2 false s) := by
    cases hp : ratePend i s with
    | false => rw [toDark_of_not_pend hi hp]
    | true =>
      have hen : laneEn i s = false := h.resolve_left (by rw [hp]; decide)
      have hoff : laneEn i (applyRate i (laneOf i s).ratePers (reachDark i 2 false s)) = false := by
        rw [laneEn_congr (rd_ctrl_of_rateReach hi (laneOnly_applyRate hi)),
          laneEn_congr (rd_ctrl_of_rateReach hi ((laneOnly_reachDark hi).widen (fun _ => id) fun _ => .inr)), hen]
      rw [toDark_of_pend hi hp, settleOnce_of_settled (.inl hoff), getF_applyRate_apart hi hg (.inl hlow)]
  refine ⟨?_, fun hst => ?_⟩
  · rw [laneState, getF_state_trackReset hi rfl, hdark rfl (by decide)]
    exact laneState_reachDark hi
  · obtain ⟨-, hcause, -, -⟩ := moved_reachDark (hx := false) hi (show 2 < 16 by decide) hst
    rw [getF_state_trackReset hi rfl, hdark rfl (by decide), hcause]

/-- Clearing EN brings the lane to DARK. -/
theorem trkCtrlEffect_disabled (hi : i < 84) (hen : laneEn i s = false) :
    laneState i (trkCtrlEffect i old p q s) = 0
      ∧ (laneState i s ≠ 0 → getF (R.TRK_STATE i) F.TRK_STATE_CAUSE (trkCtrlEffect i old p q s) = 2) := by
  have hstart : laneEn i (laneStarted i old s) = false := laneEn_laneStarted.trans hen
  have hsame : laneState i (laneStarted i old s) = laneState i s := getF_congr rd_laneStarted
  obtain ⟨hdark, hcause⟩ := trackReset_dark hi (.inr hstart)
  have hrate {b r : Bool} {u : State} {g : Fld} (hg : g.sub = 0) (hlow : g.lo + g.w ≤ 8) :
      getF (R.TRK_STATE i) g (when b (applyRate i r) u) = getF (R.TRK_STATE i) g u :=
    getF_when (getF_applyRate_apart hi hg (.inl hlow))
  have hoff {b r : Bool} : laneEn i (when b (applyRate i r) (trackReset i (laneStarted i old s))) = false :=
    (laneEn_congr (rd_ctrl_of_rateReach hi ((laneOnly_trackReset hi).trans (laneOnly_when (laneOnly_applyRate hi))))).trans
      hstart
  rw [trkCtrlEffect_reset (by rw [hen]; rfl), settleLane_of_settled (.inl hoff) (by
    rw [laneState, hrate rfl (by decide)]
    exact hdark.trans_ne (by decide)), laneState, hrate rfl (by decide), hrate rfl (by decide)]
  exact ⟨hdark, fun hst => hcause (hsame.trans_ne hst)⟩

/-- So does TRST on a lane in which nothing else waits. -/
theorem trkCtrlEffect_reset_dark (hi : i < 84) (hdeaf : deaf i s = false) (htest : testOn i s = false)
    (hpend : ratePend i s = false) (hrate : isDeparture i = true → p = (laneOf i s).rate170) :
    laneState i (trkCtrlEffect i old p true s) = 0
      ∧ (laneState i s ≠ 0 → getF (R.TRK_STATE i) F.TRK_STATE_CAUSE (trkCtrlEffect i old p true s) = 2) := by
  have hsame : laneState i (laneStarted i old s) = laneState i s := getF_congr rd_laneStarted
  have hpend' : ratePend i (laneStarted i old s) = false := ratePend_laneStarted.trans hpend
  have hskip : (isDeparture i && (laneOf i (laneStarted i old s)).rate170 != p
      || ratePend i (laneStarted i old s)) = false := by
    rw [hpend', Bool.or_false, rate170_laneStarted]
    cases hd : isDeparture i with
    | false => rfl
    | true => rw [hrate hd, bne_self_eq_false, Bool.and_false]
  obtain ⟨hdark, hcause⟩ := trackReset_dark hi (.inl hpend')
  have hkept : (laneOf i (trackReset i (laneStarted i old s))).rate170 = (laneOf i s).rate170 := by
    have hloss {b : Bool} {u : State} : (laneOf i (when b (departureLoss i) u)).rate170 = (laneOf i u).rate170 := by
      cases b
      · rfl
      · rw [when_true, laneOf_departureLoss, rate170_of_kept (kept_forgetConsigs _ _)]
    rw [trackReset, laneOf_modLane_same, hloss, toDark_of_not_pend hi hpend', rate170_of_kept kept_reachDark,
      rate170_laneStarted]
  have hquiet : Settled i (trackReset i (laneStarted i old s)) := by
    have hfield {g : Fld} (hg : g.sub = 0) (ha : Apart g F.TRK_TEST_CHK_LOCK) :
        getF (R.TRK_TEST i) g (trackReset i (laneStarted i old s)) = getF (R.TRK_TEST i) g s := by
      have hloss {u : State} : getF (R.TRK_TEST i) g (departureLoss i u) = getF (R.TRK_TEST i) g u :=
        laneOnly_departureLoss.getF_eq (by rw [hg]; exact test_not_far hi)
      rw [trackReset, getF_modLane, getF_when hloss, toDark_of_not_pend hi hpend', getF_test_reachDark hi hg ha]
      exact getF_congr rd_laneStarted
    have hfields := testOn_congr (hfield rfl (by unfold Apart; decide)) (hfield rfl (by unfold Apart; decide))
    refine .inr ⟨hfields.trans htest, ?_⟩
    exact (deaf_congr ((rd_ctrl_of_rateReach hi (laneOnly_trackReset hi)).trans rd_laneStarted) hkept).trans hdeaf
  rw [trkCtrlEffect_reset (Bool.or_true _), hskip, when_false, settleLane_of_settled hquiet (hdark.trans_ne (by decide))]
  exact ⟨hdark, fun hst => hcause (hsame.trans_ne hst)⟩

end

/-! #### A personality change (R42) -/

section
variable {i : Nat} {old : Word} {p : Bool} {f : Fld} {s u : State}

/-- The lane runs at the rate of personality `p`, and no change waits. -/
def RateIs (i : Nat) (p : Bool) (s : State) : Prop := (laneOf i s).rate170 = p ∧ ratePend i s = false

theorem rateIs_applyRate (hi : i < 84) : RateIs i p (applyRate i p s) := ⟨rate170_applyRate, ratePend_applyRate hi⟩

theorem RateIs.settleLane (hi : i < 84) (h : RateIs i p s) : RateIs i p (settleLane i s) := by
  obtain ⟨hrate, hpend⟩ := h
  rw [settleLane_of_not_pend hi hpend]
  exact ⟨(rate170_of_kept kept_settleOnce).trans hrate, (ratePend_settleOnce hi).trans hpend⟩

/-- In DARK, OPEN and TEST the personality is in force at once. -/
theorem rateIs_persWrite (hi : i < 84) (hdep : isDeparture i = true) (hpend : ratePend i s = false)
    (hrate : (laneOf i s).rate170 = !p) (hst : laneState i s = 0 ∨ laneState i s = 5 ∨ laneState i s = 6) :
    RateIs i p (persWrite i p s) := by
  have hne : (laneOf i s).rate170 ≠ p := by rw [hrate]; cases p <;> decide
  rw [persWrite, if_neg (not_not.2 hdep), hpend, if_neg Bool.false_ne_true, if_neg hne]
  dsimp only
  rw [if_pos hst]
  exact (rateIs_applyRate hi).settleLane hi

/-- A personality that waits for DARK or OPEN. -/
def persDeferred (i : Nat) (p : Bool) (s : State) : State :=
  s |> modLane i (fun l => { l with ratePers := p }) |> setF (R.TRK_STATE i) F.TRK_STATE_RATE_PEND 1

theorem persWrite_deferred (hdep : isDeparture i = true) (hpend : ratePend i s = false)
    (hrate : (laneOf i s).rate170 = !p) (hst : ¬ (laneState i s = 0 ∨ laneState i s = 5 ∨ laneState i s = 6)) :
    persWrite i p s = persDeferred i p s := by
  have hne : (laneOf i s).rate170 ≠ p := by rw [hrate]; cases p <;> decide
  rw [persWrite, if_neg (not_not.2 hdep), hpend, if_neg Bool.false_ne_true, if_neg hne]
  dsimp only
  rw [if_neg hst, persDeferred]

theorem laneOf_persDeferred : laneOf i (persDeferred i p s) = { laneOf i s with ratePers := p } := by
  rw [persDeferred, laneOf_setF, laneOf_modLane_same]

theorem rate170_persDeferred : (laneOf i (persDeferred i p s)).rate170 = (laneOf i s).rate170 := by
  rw [laneOf_persDeferred]

theorem ratePers_persDeferred : (laneOf i (persDeferred i p s)).ratePers = p := by rw [laneOf_persDeferred]

theorem rd_persDeferred {a : Nat} (h : a ≠ R.TRK_STATE i) : rd a (persDeferred i p s) = rd a s :=
  (rd_setF_other _ _ h).trans (rd_modLane a)

theorem ratePend_persDeferred : ratePend i (persDeferred i p s) = true := isSet_setF_same (by decide)

theorem laneState_persDeferred : laneState i (persDeferred i p s) = laneState i s :=
  (getF_setF_apart _ _ (by decide) (by decide)).trans laneState_modLane

/-- What asks for a state without the partner is as it was. -/
theorem settled_persDeferred (htest : testOn i s = false) (hdeaf : deaf i s = false) : Settled i (persDeferred i p s) := by
  have hctrl : R.TRK_CTRL i ≠ R.TRK_STATE i := by unfold R.TRK_CTRL R.TRK_STATE; omega
  have hword : R.TRK_TEST i ≠ R.TRK_STATE i := by unfold R.TRK_TEST R.TRK_STATE; omega
  exact .inr ⟨(testOn_congr (getF_congr (rd_persDeferred hword)) (getF_congr (rd_persDeferred hword))).trans htest,
    (deaf_congr (rd_persDeferred hctrl) rate170_persDeferred).trans hdeaf⟩

/-- A write of TRK_CTRL that changes PERS alone. -/
theorem trkCtrlEffect_pers (hen : laneEn i s = true) (hpers : bitsOf old 1 1 = b2n (!p)) : trkCtrlEffect i old p false s
    = settleLane i (persWrite i p (laneStarted i old s)) := by
  have hchange : (bitsOf old 1 1 != b2n p || ratePend i (laneStarted i old s)) = true := by
    rw [hpers]
    cases p <;> rfl
  rw [trkCtrlEffect_noReset hen, hchange, when_true]

theorem trkCtrlEffect_pers_applies (hi : i < 84) (hen : laneEn i s = true) (hdep : isDeparture i = true)
    (hpers : bitsOf old 1 1 = b2n (!p)) (hrate : (laneOf i s).rate170 = !p) (hpend : ratePend i s = false)
    (hst : laneState i s = 0 ∨ laneState i s = 5 ∨ laneState i s = 6) : RateIs i p (trkCtrlEffect i old p false s) := by
  have hsame : laneState i (laneStarted i old s) = laneState i s := getF_congr rd_laneStarted
  rw [trkCtrlEffect_pers hen hpers]
  exact (rateIs_persWrite hi hdep (ratePend_laneStarted.trans hpend) (rate170_laneStarted.trans hrate)
    (by rwa [hsame])).settleLane hi

theorem trkCtrlEffect_pers_defers (hen : laneEn i s = true) (hdep : isDeparture i = true)
    (hpers : bitsOf old 1 1 = b2n (!p)) (hrate : (laneOf i s).rate170 = !p) (hpend : ratePend i s = false)
    (h1 : 1 ≤ laneState i s) (h4 : laneState i s ≤ 4) (htest : testOn i s = false) (hdeaf : deaf i s = false) :
    trkCtrlEffect i old p false s = persDeferred i p (laneStarted i old s) := by
  have hsame : laneState i (laneStarted i old s) = laneState i s := getF_congr rd_laneStarted
  have htest' : testOn i (laneStarted i old s) = false :=
    (testOn_congr (getF_congr rd_laneStarted) (getF_congr rd_laneStarted)).trans htest
  have hdeaf' : deaf i (laneStarted i old s) = false := (deaf_congr rd_laneStarted rate170_laneStarted).trans hdeaf
  rw [trkCtrlEffect_pers hen hpers, persWrite_deferred hdep (ratePend_laneStarted.trans hpend)
    (rate170_laneStarted.trans hrate) (by rw [hsame]; omega),
    settleLane_of_settled (settled_persDeferred htest' hdeaf') (by rw [laneState_persDeferred, hsame]; omega)]

end

/-! #### Test fields (R46) -/

section
variable {i : Nat} {old : Word} {f : Fld} {s u : State}

/-- The checker starts afresh, without its lock. -/
def checkerStarted (i : Nat) (s : State) : State :=
  setF (R.TRK_TEST i) F.TRK_TEST_CHK_LOCK 0 (modLane i (fun l => { l with chk := {} }) s)

/-- The generator and the checker start afresh where their patterns change. -/
def patternsStarted (i : Nat) (old : Word) (s : State) : State :=
  s |> when (bitsOf old 0 2 != getF (R.TRK_TEST i) F.TRK_TEST_GEN s) (modLane i (fun l => { l with gen := 2 ^ 31 - 1 }))
    |> when (bitsOf old 2 2 != getF (R.TRK_TEST i) F.TRK_TEST_CHK s) (checkerStarted i)

theorem trkTestEffect_eq : trkTestEffect i old s
    = settleLane i (when (laneState i s == 6 && !testOn i s) (toDark i 13 false) (patternsStarted i old s)) := rfl

theorem laneOnly_patternsStarted : LaneOnly i (lossParts i) (fun a => a = R.TRK_TEST i) s (patternsStarted i old s) :=
  (laneOnly_when (laneOnly_modLane mem_lossParts.1)).trans
    (laneOnly_when ((laneOnly_modLane mem_lossParts.1).trans (laneOnly_setF rfl)))

theorem rate170_when {b : Bool} {op : State → State} (h : (laneOf i (op s)).rate170 = (laneOf i s).rate170) :
    (laneOf i (when b op s)).rate170 = (laneOf i s).rate170 := by
  cases b
  · rfl
  · exact h

theorem rate170_patternsStarted : (laneOf i (patternsStarted i old s)).rate170 = (laneOf i s).rate170 := by
  have hchk {u : State} : (laneOf i (checkerStarted i u)).rate170 = (laneOf i u).rate170 := by
    rw [checkerStarted, laneOf_setF, laneOf_modLane_same]
  rw [patternsStarted, rate170_when hchk, rate170_when (by rw [laneOf_modLane_same])]

theorem getF_test_patternsStarted (ha : Apart f F.TRK_TEST_CHK_LOCK) :
    getF (R.TRK_TEST i) f (patternsStarted i old s) = getF (R.TRK_TEST i) f s := by
  have hlock {u : State} : getF (R.TRK_TEST i) f (checkerStarted i u) = getF (R.TRK_TEST i) f u :=
    getF_setF_apart _ _ (by decide) ha
  rw [patternsStarted, getF_when hlock, getF_when getF_modLane]

theorem laneOnly_trkTestEffect (hi : i < 84) : LaneOnly i (lossParts i) (rateReach i) s (trkTestEffect i old s) := by
  rw [trkTestEffect_eq]
  exact (laneOnly_patternsStarted.widen (fun _ => id) fun _ ha => ha ▸ rateReach_test).trans
    ((laneOnly_when (laneOnly_toDark hi)).trans (laneOnly_settleLane hi))

/-- A lane whose test fields ask for TEST takes it. -/
theorem settleOnce_test (hen : laneEn i s = true) (hpll : pllLocked i s = true) (hp : pstate s ≤ 2)
    (htest : testOn i s = true) : settleOnce i s = if laneState i s = 6 then s else laneChange i 6 13 s := by
  have hcond : (laneEn i s && pllLocked i s && (decide (pstate s ≤ 2) || pstate s == 6)) = true := by
    rw [hen, hpll, decide_eq_true hp]
    rfl
  rw [settleOnce, if_pos hcond, if_pos htest]

theorem laneState_settleOnce_test (hi : i < 84) (hen : laneEn i s = true) (hpll : pllLocked i s = true) (hp : pstate s ≤ 2)
    (htest : testOn i s = true) : laneState i (settleOnce i s) = 6 := by
  rw [settleOnce_test hen hpll hp htest]
  split
  · assumption
  · exact laneState_laneChange hi

theorem settleLane_test (hi : i < 84) (hen : laneEn i s = true) (hpll : pllLocked i s = true) (hp : pstate s ≤ 2)
    (htest : testOn i s = true) : settleLane i s = settleOnce i s := by
  have h6 := laneState_settleOnce_test hi hen hpll hp htest
  rw [settleLane, applyAtOpen]
  exact if_neg fun hc => absurd (h6.symm.trans hc.1) (by decide)

/-- The write of a test pattern takes the lane to TEST. -/
theorem trkTestEffect_entersTest (hi : i < 84) (hen : laneEn i s = true) (hpll : pllLocked i s = true) (hp : pstate s ≤ 2)
    (htest : testOn i s = true) : laneState i (trkTestEffect i old s) = 6
      ∧ (laneState i s ≠ 6 → getF (R.TRK_STATE i) F.TRK_STATE_CAUSE (trkTestEffect i old s) = 13)
      ∧ getF (R.TRK_TEST i) F.TRK_TEST_GEN (trkTestEffect i old s) = getF (R.TRK_TEST i) F.TRK_TEST_GEN s
      ∧ getF (R.TRK_TEST i) F.TRK_TEST_CHK (trkTestEffect i old s) = getF (R.TRK_TEST i) F.TRK_TEST_CHK s := by
  have hrd {a : Nat} (ha : a ≠ R.TRK_TEST i) : rd a (patternsStarted i old s) = rd a s := laneOnly_patternsStarted.rd_eq ha
  have hgen : getF (R.TRK_TEST i) F.TRK_TEST_GEN (patternsStarted i old s) = getF (R.TRK_TEST i) F.TRK_TEST_GEN s :=
    getF_test_patternsStarted (by unfold Apart; decide)
  have hchk : getF (R.TRK_TEST i) F.TRK_TEST_CHK (patternsStarted i old s) = getF (R.TRK_TEST i) F.TRK_TEST_CHK s :=
    getF_test_patternsStarted (by unfold Apart; decide)
  have hst : laneState i (patternsStarted i old s) = laneState i s :=
    getF_congr (hrd (by simp only [R.TRK_STATE, R.TRK_TEST, F.TRK_STATE_STATE]; omega))
  have hen' : laneEn i (patternsStarted i old s) = true :=
    (laneEn_congr (hrd (by unfold R.TRK_CTRL R.TRK_TEST; omega))).trans hen
  have hpll' : pllLocked i (patternsStarted i old s) = true := by
    refine (pllLocked_congr (hrd ?_) rate170_patternsStarted).trans hpll
    have := quadOf_lt hi
    unfold R.TRK_QUAD R.TRK_TEST
    omega
  have hp' : pstate (patternsStarted i old s) ≤ 2 := by
    have hsub : R.SUB_STATE + F.SUB_STATE_STATE.sub ≠ R.TRK_TEST i := by
      simp only [R.SUB_STATE, R.TRK_TEST, F.SUB_STATE_STATE]
      omega
    rw [pstate, getF_congr (hrd hsub)]
    exact hp
  have htest' : testOn i (patternsStarted i old s) = true := (testOn_congr hgen hchk).trans htest
  have heq : trkTestEffect i old s = settleOnce i (patternsStarted i old s) := by
    rw [trkTestEffect_eq, htest, Bool.not_true, Bool.and_false, when_false, settleLane_test hi hen' hpll' hp' htest']
  rw [heq]
  refine ⟨laneState_settleOnce_test hi hen' hpll' hp' htest', fun h6 => ?_, ?_, ?_⟩
  · rw [settleOnce_test hen' hpll' hp' htest', if_neg (hst.trans_ne h6)]
    exact cause_laneChange hi
  · exact (settleOnce_induct (P := fun u => getF (R.TRK_TEST i) F.TRK_TEST_GEN u
      = getF (R.TRK_TEST i) F.TRK_TEST_GEN (patternsStarted i old s)) rfl
      fun _ _ => getF_test_laneChange hi rfl (by unfold Apart; decide)).trans hgen
  · exact (settleOnce_induct (P := fun u => getF (R.TRK_TEST i) F.TRK_TEST_CHK u
      = getF (R.TRK_TEST i) F.TRK_TEST_CHK (patternsStarted i old s)) rfl
      fun _ _ => getF_test_laneChange hi rfl (by unfold Apart; decide)).trans hchk

end

/-! ### The rows of the register tables -/

section
variable {i off m n : Nat} {v : Word} {f : Fld} {s t : State}

/-- TRK_CTRL, TRK_EQ and TRK_TEST, and PTS_FRCTL, in their tables. -/
def trkCtrlRow : WordDef := regs200[0]

def trkEqRow : WordDef := regs200[1]

def trkTestRow : WordDef := regs200[6]

def frctlRow : WordDef := regs30F[6]

theorem regDef_trkCtrl : ∀ i : LaneId, regDef (R.TRK_CTRL i) = some trkCtrlRow := by decide +kernel

theorem regDef_trkEq : ∀ i : LaneId, regDef (R.TRK_EQ i) = some trkEqRow := by decide +kernel

theorem regDef_trkTest : ∀ i : LaneId, regDef (R.TRK_TEST i) = some trkTestRow := by decide +kernel

theorem regDef_frctl : ∀ i : LaneId, regDef (R.PTS_FRCTL i) = some frctlRow := by decide +kernel

theorem laneRegister_track (hi : i < 84) (hoff : off < 0x1000) : LaneRegister (0x2000000 + 0x1000 * i + off) := by
  unfold LaneRegister
  omega

theorem laneRegister_ctrl (hi : i < 84) : LaneRegister (R.TRK_CTRL i) := laneRegister_track hi (off := 0) (by decide)

theorem laneRegister_eq (hi : i < 84) : LaneRegister (R.TRK_EQ i) := by unfold LaneRegister R.TRK_EQ; omega

theorem laneRegister_test (hi : i < 84) : LaneRegister (R.TRK_TEST i) := by unfold LaneRegister R.TRK_TEST; omega

theorem laneRegister_frctl (hi : i < 84) : LaneRegister (R.PTS_FRCTL i) := by unfold LaneRegister R.PTS_FRCTL; omega

/-- TRK_EQ takes its word whole, PERS is a departure's, and coupling lanes have no HSK_MODE. -/
theorem special_lane (hi : i < 84) (hoff : off < 0x1000) : Fld.special (0x2000000 + 0x1000 * i + off) f s
    = (off == 1 || (off == 0 && ((f.lo == 1 && !isDeparture i) || (f.lo == 2 && decide (80 ≤ i))))) := by
  have hlane : (0x2000000 + 0x1000 * i + off - 0x2000000) / 0x1000 = i := by omega
  have hword : (0x2000000 + 0x1000 * i + off) % 0x1000 = off := by omega
  have hblock : 0x200 ≤ (0x2000000 + 0x1000 * i + off) / 0x10000 ∧ (0x2000000 + 0x1000 * i + off) / 0x10000 ≤ 0x205 := by
    omega
  unfold Fld.special
  split
  case h_8 => rw [hlane, hword, decide_eq_true hblock.1, decide_eq_true hblock.2, Bool.true_and, Bool.true_and]
  all_goals omega

theorem special_ctrl (hi : i < 84) (h : f.lo = 0 ∨ f.lo = 1 ∧ isDeparture i = true) :
    Fld.special (R.TRK_CTRL i) f s = false := by
  rw [show R.TRK_CTRL i = 0x2000000 + 0x1000 * i + 0 by unfold R.TRK_CTRL; omega, special_lane hi (by decide)]
  rcases h with h | ⟨h, hd⟩
  · rw [h]
    rfl
  · rw [h, hd]
    rfl

theorem special_eq (hi : i < 84) : Fld.special (R.TRK_EQ i) f s = true := by
  rw [show R.TRK_EQ i = 0x2000000 + 0x1000 * i + 1 by unfold R.TRK_EQ; omega, special_lane hi (by decide)]
  rfl

theorem special_test (hi : i < 84) : Fld.special (R.TRK_TEST i) f s = false := by
  rw [show R.TRK_TEST i = 0x2000000 + 0x1000 * i + 6 by unfold R.TRK_TEST; omega, special_lane hi (by decide)]
  rfl

theorem regEffect_ctrl {old : Word} {l fr : Bool} (hi : i < 84) : regEffect m (R.TRK_CTRL i) old v l fr s
    = trkCtrlEffect i old (flag v F.TRK_CTRL_PERS) (flag v F.TRK_CTRL_TRST) s := by
  rw [show R.TRK_CTRL i = 0x2000000 + 0x1000 * i + 0 by unfold R.TRK_CTRL; omega, regEffect_lane hi (by decide)]
  rfl

theorem fieldWrite_eq {a : Nat} (hf : f.sub = 0) :
    fieldWrite m a f n s = writeAccess m a (putBits (heldWord a s) f.lo f.w n) s := by
  rw [fieldWrite, hf, Nat.add_zero]

theorem laneOf_putAnswer {k : Nat} {x : Answer} : laneOf k (putAnswer m x s) = laneOf k s := rfl

theorem laneEn_putAnswer {x : Answer} : laneEn i (putAnswer m x s) = laneEn i s := rfl

theorem laneState_putAnswer {x : Answer} : laneState i (putAnswer m x s) = laneState i s := rfl

theorem ratePend_putAnswer {x : Answer} : ratePend i (putAnswer m x s) = ratePend i s := rfl

theorem okay_putAnswer : Okay m (putAnswer m ⟨0, [], 1⟩ s) := by rw [Okay, answered_putAnswer]

end

/-! ### TRK_CTRL (R39, R42, R49) -/

section
variable {s : State} (m : Master) (i : LaneId)

/-- The word of TRK_CTRL stored. -/
def ctrlWritten (v : Word) (s : State) : State := laneWritten m (R.TRK_CTRL i) v trkCtrlRow s

/-- The word that a writer of field `f` of TRK_CTRL writes. -/
def ctrlWord (f : Fld) (n : Nat) (s : State) : Word := putBits (heldWord (R.TRK_CTRL i) s) f.lo f.w n

theorem fieldWrite_ctrl {f : Fld} {n : Nat} (hf : f.sub = 0) (hr : Reaches m (R.TRK_CTRL i) s) :
    fieldWrite m (R.TRK_CTRL i) f n s = putAnswer m ⟨0, [], 1⟩ (trkCtrlEffect i (rd (R.TRK_CTRL i) s)
      (flag (ctrlWord i f n s) F.TRK_CTRL_PERS) (flag (ctrlWord i f n s) F.TRK_CTRL_TRST)
      (ctrlWritten m i (ctrlWord i f n s) s)) := by
  rw [fieldWrite_eq hf, ← ctrlWord, writeAccess_lane m.isLt (laneRegister_ctrl i.isLt) hr (regDef_trkCtrl i), ← ctrlWritten,
    regEffect_ctrl i.isLt]

/-- Beside TRST, the fields of TRK_CTRL that a write leaves alone. -/
theorem getF_ctrl_kept {d : FieldDef} {f : Fld} {n : Nat} (hd : d ∈ trkCtrlRow.fields) (hf : f.lo + f.w ≤ 40)
    (hapart : Apart f d.fld) (hacc : d.acc ≠ .wo ∧ d.acc ≠ .w1c) (hsub : d.fld.sub = 0) :
    getF (R.TRK_CTRL i) d.fld (ctrlWritten m i (ctrlWord i f n s) s) = getF (R.TRK_CTRL i) d.fld s :=
  getF_laneWritten_kept m.isLt (laneRegister_ctrl i.isLt) (regDef_trkCtrl i) hd hsub hacc hf hapart

theorem getF_ctrl_taken {d : FieldDef} {n : Nat} (hd : d ∈ trkCtrlRow.fields) (hf : d.fld.lo + d.fld.w ≤ 40)
    (hacc : d.acc = .rw) (hrule : d.rule = .any) (hz : d.zrej = false) (hsub : d.fld.sub = 0)
    (hlo : d.fld.lo = 0 ∨ d.fld.lo = 1 ∧ isDeparture i = true) :
    getF (R.TRK_CTRL i) d.fld (ctrlWritten m i (ctrlWord i d.fld n s) s) = n % 2 ^ d.fld.w :=
  (getF_laneWritten_taken m.isLt (laneRegister_ctrl i.isLt) (regDef_trkCtrl i) hd hsub hacc hz (special_ctrl i.isLt hlo)
    (by rw [hrule]; rfl)).trans (bitsOf_putBits_same _ _ _ _ hf)

/-- The registers of the lane beside TRK_CTRL are as before. -/
theorem rd_ctrlWritten {a : Nat} {v : Word} (ha : 0x2000000 ≤ a) (hne : a ≠ R.TRK_CTRL i) :
    rd a (ctrlWritten m i v s) = rd a s := rd_laneWritten_other m.isLt ha hne

theorem getF_state_ctrlWritten {f : Fld} {v : Word} (hf : f.sub = 0) :
    getF (R.TRK_STATE i) f (ctrlWritten m i v s) = getF (R.TRK_STATE i) f s := by
  refine getF_congr (rd_ctrlWritten m i ?_ ?_) <;> simp only [hf, R.TRK_STATE, R.TRK_CTRL] <;> omega

theorem laneOf_ctrlWritten {k : Nat} {v : Word} : laneOf k (ctrlWritten m i v s) = laneOf k s := laneOf_laneWritten

theorem testOn_ctrlWritten {v : Word} : testOn i (ctrlWritten m i v s) = testOn i s := by
  have hrd : rd (R.TRK_TEST i) (ctrlWritten m i v s) = rd (R.TRK_TEST i) s :=
    rd_ctrlWritten m i (by unfold R.TRK_TEST; omega) (by unfold R.TRK_TEST R.TRK_CTRL; omega)
  exact testOn_congr (getF_congr hrd) (getF_congr hrd)

/-- A write that leaves HSK_MODE alone leaves the lane as deaf as it was. -/
theorem deaf_ctrlWritten {f : Fld} {n : Nat} (hf : f.lo + f.w ≤ 40) (hapart : Apart f F.TRK_CTRL_HSK_MODE) :
    deaf i (ctrlWritten m i (ctrlWord i f n s) s) = deaf i s := by
  have hmode : getF (R.TRK_CTRL i) F.TRK_CTRL_HSK_MODE (ctrlWritten m i (ctrlWord i f n s) s)
      = getF (R.TRK_CTRL i) F.TRK_CTRL_HSK_MODE s :=
    getF_ctrl_kept m i (d := ⟨F.TRK_CTRL_HSK_MODE, .rw, false, .any⟩) (by decide) hf hapart (by decide) rfl
  rw [deaf, deaf, oneWay, oneWay, isSet, isSet, hmode, laneOf_ctrlWritten]

theorem laneEn_ctrlWritten {f : Fld} {n : Nat} (hf : f.lo + f.w ≤ 40) (hapart : Apart f F.TRK_CTRL_EN) :
    laneEn i (ctrlWritten m i (ctrlWord i f n s) s) = laneEn i s := by
  have hen : getF (R.TRK_CTRL i) F.TRK_CTRL_EN (ctrlWritten m i (ctrlWord i f n s) s) = getF (R.TRK_CTRL i) F.TRK_CTRL_EN s :=
    getF_ctrl_kept m i (d := ⟨F.TRK_CTRL_EN, .rw, false, .any⟩) (by decide) hf hapart (by decide) rfl
  rw [laneEn, laneEn, isSet, isSet, hen]

/-- EN as it is written. -/
theorem laneEn_enWritten {n : Nat} : laneEn i (ctrlWritten m i (ctrlWord i F.TRK_CTRL_EN n s) s) = (n % 2 != 0) := by
  have hen : getF (R.TRK_CTRL i) F.TRK_CTRL_EN (ctrlWritten m i (ctrlWord i F.TRK_CTRL_EN n s) s) = n % 2 ^ 1 :=
    getF_ctrl_taken m i (d := ⟨F.TRK_CTRL_EN, .rw, false, .any⟩) (by decide) (by decide) rfl rfl rfl rfl (.inl rfl)
  rw [laneEn, isSet, hen, pow_one]

theorem laneEn_trkCtrlEffect {u : State} {old : Word} {p q : Bool} : laneEn i (trkCtrlEffect i old p q u) = laneEn i u :=
  laneEn_congr (rd_ctrl_of_rateReach i.isLt (laneOnly_trkCtrlEffect i.isLt))

theorem laneOf_trkCtrlEffect_other {u : State} {old : Word} {p q : Bool} {k : Nat} (hk : k ≠ i) :
    laneOf k (trkCtrlEffect i old p q u) = laneOf k u := (laneOnly_trkCtrlEffect i.isLt).2 k hk

theorem trkEnSet_enables (hr : Reaches m (R.TRK_CTRL i) s) :
    After (exec (.trkEnSet m i) s) fun t => Okay m t ∧ laneEn i t = true := by
  refine ⟨_, rfl, ?_⟩
  beta_reduce
  rw [fieldWrite_ctrl m i rfl hr, laneEn_putAnswer, laneEn_trkCtrlEffect]
  exact ⟨okay_putAnswer, laneEn_enWritten m i⟩

theorem trkEnClear_darkens (hr : Reaches m (R.TRK_CTRL i) s) : After (exec (.trkEnClear m i) s) fun t =>
    Okay m t ∧ laneEn i t = false ∧ laneState i t = 0 ∧ getF (R.TRK_STATE i) F.TRK_STATE_HOLDOFF t = 0
      ∧ (laneOf i t).fifo = [] ∧ (isDeparture i = true → laneConsigs (laneOf i t) = [])
      ∧ (laneState i s ≠ 0 → getF (R.TRK_STATE i) F.TRK_STATE_CAUSE t = 2)
      ∧ ∀ k, k ≠ i → laneOf k t = laneOf k s := by
  have hen : laneEn i (ctrlWritten m i (ctrlWord i F.TRK_CTRL_EN 0 s) s) = false := laneEn_enWritten m i
  refine ⟨_, rfl, ?_⟩
  beta_reduce
  rw [fieldWrite_ctrl m i rfl hr]
  rw [laneEn_putAnswer, laneState_putAnswer, getF_putAnswer, getF_putAnswer, laneOf_putAnswer]
  obtain ⟨hhold, hfifo, hconsigs⟩ := trkCtrlEffect_empties (old := rd (R.TRK_CTRL i) s)
    (p := flag (ctrlWord i F.TRK_CTRL_EN 0 s) F.TRK_CTRL_PERS) (q := flag (ctrlWord i F.TRK_CTRL_EN 0 s) F.TRK_CTRL_TRST)
    i.isLt (by rw [hen]; rfl)
  obtain ⟨hdark, hcause⟩ := trkCtrlEffect_disabled (old := rd (R.TRK_CTRL i) s)
    (p := flag (ctrlWord i F.TRK_CTRL_EN 0 s) F.TRK_CTRL_PERS) (q := flag (ctrlWord i F.TRK_CTRL_EN 0 s) F.TRK_CTRL_TRST)
    i.isLt hen
  refine ⟨okay_putAnswer, (laneEn_trkCtrlEffect i).trans hen, hdark, hhold, hfifo, hconsigs, fun hst => ?_, fun k hk => ?_⟩
  · exact hcause ((getF_state_ctrlWritten m i rfl).trans_ne hst)
  · rw [laneOf_putAnswer, laneOf_trkCtrlEffect_other i fun h => hk (Fin.ext h), laneOf_ctrlWritten]

end

section
variable {s : State} (m : Master) (i : LaneId)

/-- PERS in the word of a write that leaves it alone. -/
theorem bitsOf_ctrlWord_pers {f : Fld} {n : Nat} (hf : f.lo + f.w ≤ 40) (hapart : Apart f F.TRK_CTRL_PERS) :
    bitsOf (ctrlWord i f n s) 1 1 = getF (R.TRK_CTRL i) F.TRK_CTRL_PERS s :=
  bitsOf_held_kept (d := ⟨F.TRK_CTRL_PERS, .rw, false, .any⟩) (regDef_trkCtrl i) (by decide) (by decide) hf hapart

/-- TRST in the word of a write that leaves it alone. -/
theorem bitsOf_ctrlWord_trst {f : Fld} {n : Nat} (hf : f.lo + f.w ≤ 40) (hapart : Apart f F.TRK_CTRL_TRST) :
    bitsOf (ctrlWord i f n s) 9 1 = 0 :=
  bitsOf_held_zero (d := ⟨F.TRK_CTRL_TRST, .wo, false, .any⟩) (regDef_trkCtrl i) (by decide) (by decide) hf hapart

theorem flag_trstWord : flag (ctrlWord i F.TRK_CTRL_TRST 1 s) F.TRK_CTRL_TRST = true := by
  rw [flag, ctrlWord, bitsOf_putBits_same _ _ _ _ (by decide)]
  rfl

theorem trkTrst_resets (hr : Reaches m (R.TRK_CTRL i) s) : After (exec (.trkTrst m i) s) fun t =>
    Okay m t ∧ getF (R.TRK_STATE i) F.TRK_STATE_HOLDOFF t = 0 ∧ (laneOf i t).fifo = []
      ∧ (isDeparture i = true → laneConsigs (laneOf i t) = []) ∧ (∀ k, k ≠ i → laneOf k t = laneOf k s)
      ∧ (deaf i s = false → testOn i s = false → ratePend i s = false →
          (isDeparture i = true → getF (R.TRK_CTRL i) F.TRK_CTRL_PERS s = b2n (laneOf i s).rate170) →
          laneState i t = 0 ∧ (laneState i s ≠ 0 → getF (R.TRK_STATE i) F.TRK_STATE_CAUSE t = 2)) := by
  have hdeaf := deaf_ctrlWritten m i (s := s) (f := F.TRK_CTRL_TRST) (n := 1) (by decide) (by unfold Apart; decide)
  have hpers := bitsOf_ctrlWord_pers i (s := s) (f := F.TRK_CTRL_TRST) (n := 1) (by decide) (by unfold Apart; decide)
  refine ⟨_, rfl, ?_⟩
  beta_reduce
  rw [fieldWrite_ctrl m i rfl hr, flag_trstWord, laneState_putAnswer, getF_putAnswer, getF_putAnswer, laneOf_putAnswer]
  obtain ⟨hhold, hfifo, hconsigs⟩ := trkCtrlEffect_empties (s := ctrlWritten m i (ctrlWord i F.TRK_CTRL_TRST 1 s) s)
    (old := rd (R.TRK_CTRL i) s) (p := flag (ctrlWord i F.TRK_CTRL_TRST 1 s) F.TRK_CTRL_PERS) (q := true) i.isLt
    (Bool.or_true _)
  refine ⟨okay_putAnswer, hhold, hfifo, hconsigs, fun k hk => ?_, fun hnot htest hpend hrate => ?_⟩
  · rw [laneOf_putAnswer, laneOf_trkCtrlEffect_other i fun h => hk (Fin.ext h), laneOf_ctrlWritten]
  · have hflag (hd : isDeparture i = true) : flag (ctrlWord i F.TRK_CTRL_TRST 1 s) F.TRK_CTRL_PERS
        = (laneOf i (ctrlWritten m i (ctrlWord i F.TRK_CTRL_TRST 1 s) s)).rate170 := by
      have hval : bitsOf (ctrlWord i F.TRK_CTRL_TRST 1 s) F.TRK_CTRL_PERS.lo F.TRK_CTRL_PERS.w
          = b2n (laneOf i s).rate170 := hpers.trans (hrate hd)
      rw [flag, hval, laneOf_ctrlWritten]
      cases (laneOf i s).rate170 <;> rfl
    obtain ⟨hdark, hcause⟩ := trkCtrlEffect_reset_dark (old := rd (R.TRK_CTRL i) s) i.isLt (hdeaf.trans hnot)
      ((testOn_ctrlWritten m i).trans htest) ((congrArg (· != 0) (getF_state_ctrlWritten m i rfl)).trans hpend) hflag
    exact ⟨hdark, fun hst => hcause ((getF_state_ctrlWritten m i rfl).trans_ne hst)⟩

theorem laneState_laneStarted {i : Nat} {old : Word} : laneState i (laneStarted i old s) = laneState i s :=
  getF_congr rd_laneStarted

theorem getF_trkCtrlEffect {u : State} {old : Word} {p q : Bool} {f : Fld} (hf : f.sub = 0) :
    getF (R.TRK_CTRL i) f (trkCtrlEffect i old p q u) = getF (R.TRK_CTRL i) f u :=
  getF_congr (by rw [hf]; exact rd_ctrl_of_rateReach i.isLt (laneOnly_trkCtrlEffect i.isLt))

theorem trkPersWrite_appliesOrDefers (pers : Bool) (hr : Reaches m (R.TRK_CTRL i) s) (hdep : isDeparture i = true)
    (hen : laneEn i s = true) (hold : getF (R.TRK_CTRL i) F.TRK_CTRL_PERS s = b2n (!pers))
    (hrate : (laneOf i s).rate170 = !pers) (hpend : ratePend i s = false) :
    After (exec (.trkPersWrite m i pers) s) fun t => Okay m t ∧ getF (R.TRK_CTRL i) F.TRK_CTRL_PERS t = b2n pers
      ∧ (laneState i s = 0 ∨ laneState i s = 5 ∨ laneState i s = 6 →
          (laneOf i t).rate170 = pers ∧ ratePend i t = false)
      ∧ (1 ≤ laneState i s → laneState i s ≤ 4 → testOn i s = false → deaf i s = false →
          (laneOf i t).rate170 = (!pers) ∧ (laneOf i t).ratePers = pers ∧ ratePend i t = true
            ∧ laneState i t = laneState i s) := by
  have hi := i.isLt
  have hflag : flag (ctrlWord i F.TRK_CTRL_PERS (b2n pers) s) F.TRK_CTRL_PERS = pers := by
    rw [flag, ctrlWord, bitsOf_putBits_same _ _ _ _ (by decide)]
    cases pers <;> rfl
  have htrst : flag (ctrlWord i F.TRK_CTRL_PERS (b2n pers) s) F.TRK_CTRL_TRST = false := by
    have hzero := bitsOf_ctrlWord_trst i (s := s) (f := F.TRK_CTRL_PERS) (n := b2n pers) (by decide) (by unfold Apart; decide)
    exact beq_false_of_ne (hzero.trans_ne (by decide))
  have hstored : getF (R.TRK_CTRL i) F.TRK_CTRL_PERS (ctrlWritten m i (ctrlWord i F.TRK_CTRL_PERS (b2n pers) s) s)
      = b2n pers % 2 ^ 1 :=
    getF_ctrl_taken m i (d := ⟨F.TRK_CTRL_PERS, .rw, false, .any⟩) (by decide) (by decide) rfl rfl rfl rfl
      (.inr ⟨rfl, hdep⟩)
  have hen' := (laneEn_ctrlWritten m i (s := s) (f := F.TRK_CTRL_PERS) (n := b2n pers) (by decide)
    (by unfold Apart; decide)).trans hen
  have hdeaf := deaf_ctrlWritten m i (s := s) (f := F.TRK_CTRL_PERS) (n := b2n pers) (by decide) (by unfold Apart; decide)
  have hst : laneState i (ctrlWritten m i (ctrlWord i F.TRK_CTRL_PERS (b2n pers) s) s) = laneState i s :=
    getF_state_ctrlWritten m i rfl
  have hpend' : ratePend i (ctrlWritten m i (ctrlWord i F.TRK_CTRL_PERS (b2n pers) s) s) = false :=
    (congrArg (· != 0) (getF_state_ctrlWritten m i rfl)).trans hpend
  have hrate' : (laneOf i (ctrlWritten m i (ctrlWord i F.TRK_CTRL_PERS (b2n pers) s) s)).rate170 = !pers := by
    rw [laneOf_ctrlWritten, hrate]
  have hbit : bitsOf (rd (R.TRK_CTRL i) s) 1 1 = b2n (!pers) := hold
  refine ⟨_, rfl, ?_⟩
  beta_reduce
  rw [fieldWrite_ctrl m i rfl hr, hflag, htrst, laneState_putAnswer, getF_putAnswer, laneOf_putAnswer, ratePend_putAnswer]
  refine ⟨okay_putAnswer, ?_, fun h => ?_, fun h1 h4 htest hnot => ?_⟩
  · exact (getF_trkCtrlEffect i rfl).trans (hstored.trans (b2n_mod pers))
  · exact trkCtrlEffect_pers_applies hi hen' hdep hbit hrate' hpend' (by rwa [hst])
  · rw [trkCtrlEffect_pers_defers hen' hdep hbit hrate' hpend' (by omega) (by omega)
      ((testOn_ctrlWritten m i).trans htest) (hdeaf.trans hnot), rate170_persDeferred, ratePers_persDeferred,
      laneState_persDeferred, ratePend_persDeferred]
    exact ⟨rate170_laneStarted.trans hrate', rfl, rfl, laneState_laneStarted.trans hst⟩

end

/-! ### TRK_EQ, TRK_TEST and PTS_FRCTL (R32, R46, R47, R83) -/

section
variable {i m : Nat} {old v : Word} {l fr : Bool} {s t : State}

theorem regEffect_eq (hi : i < 84) : regEffect m (R.TRK_EQ i) old v l fr s
    = if l then s else if eqValid v then wr (R.TRK_EQ i) (BitVec.ofNat 40 (v.toNat % 2 ^ 25)) s else eqReject i s := by
  rw [show R.TRK_EQ i = 0x2000000 + 0x1000 * i + 1 by unfold R.TRK_EQ; omega, regEffect_lane hi (by decide),
    show 0x2000000 + 0x1000 * i + 1 = R.TRK_EQ i by unfold R.TRK_EQ; omega]
  rfl

theorem regEffect_test (hi : i < 84) : regEffect m (R.TRK_TEST i) old v l fr s
    = trkTestEffect i old (when (flag v F.TRK_TEST_CLR) (prbsClear i) s) := by
  rw [show R.TRK_TEST i = 0x2000000 + 0x1000 * i + 6 by unfold R.TRK_TEST; omega, regEffect_lane hi (by decide)]
  rfl

theorem regEffect_frctl (hi : i < 84) : regEffect m (R.PTS_FRCTL i) old v l fr s
    = when (flag v F.PTS_FRCTL_CLR) (framingClear i) s := by
  have hblock : R.PTS_FRCTL i / 0x10000 = 0x30F := by unfold R.PTS_FRCTL; omega
  have hword : R.PTS_FRCTL i % 16 = 6 := by unfold R.PTS_FRCTL; omega
  have hlane : (R.PTS_FRCTL i - 0x30F0000) / 16 = i := by unfold R.PTS_FRCTL; omega
  simp only [regEffect, hblock, hword, hlane, beq_self_eq_true, Bool.true_and]

/-- A sealed field's own rule leaves the word that the plain one would store. -/
theorem store_of_special {d : FieldDef} {a : Nat} {x : Word} (hacc : d.acc = .rwl) (h : Fld.special a d.fld s = true) :
    d.store a v fr s x = x := by
  simp only [FieldDef.store, hacc, h, Bool.true_or, if_true, ite_self]

theorem rd_eqWritten (hi : i < 84) :
    rd (R.TRK_EQ i) (laneWritten m (R.TRK_EQ i) v trkEqRow s) = rd (R.TRK_EQ i) (countIssue m s) := by
  have hacc : ∀ d ∈ trkEqRow.fields, d.acc = .rwl := by decide
  rw [laneWritten, rd_fieldsWritten _ (laneRegister_eq hi).unreported]
  exact List.foldlRecOn (motive := fun x => x = rd (R.TRK_EQ i) (countIssue m s)) _ _ rfl
    fun x hx d hd => (store_of_special (hacc d hd) (special_eq hi)).trans hx

/-- The generator's and the checker's pattern in one field of four bits. -/
theorem bitsOf_testPatterns (x : Word) {gen chk : Nat} (hg : gen < 4) (hc : chk < 4) :
    bitsOf (putBits x 0 4 (gen + 4 * chk)) 0 2 = gen ∧ bitsOf (putBits x 0 4 (gen + 4 * chk)) 2 2 = chk := by
  have h := bitsOf_putBits_same x 0 4 (gen + 4 * chk) (by decide)
  simp only [bitsOf] at h ⊢
  omega

theorem get2_prbsClear : get2 (R.TRK_PERR i) F.TRK_PERR_ERR_LO F.TRK_PERR_ERR_HI (prbsClear i s) = 0
    ∧ get2 (R.TRK_PCMP i) F.TRK_PCMP_CMP_LO F.TRK_PCMP_CMP_HI (prbsClear i s) = 0 := by
  have hapart {k n : Nat} (hk : k < 2) : R.TRK_PERR i + k ≠ R.TRK_PCMP i + n := by unfold R.TRK_PERR R.TRK_PCMP; omega
  have hkeep {k : Nat} {u : State} (hk : k < 2) :
      rd (R.TRK_PERR i + k) (set2 (R.TRK_PCMP i) F.TRK_PCMP_CMP_LO F.TRK_PCMP_CMP_HI 0 u) = rd (R.TRK_PERR i + k) u := by
    rw [set2, rd_setF_other _ _ (hapart hk), rd_setF_other _ _ (hapart hk)]
  refine ⟨(get2_congr (hkeep (by decide)) (hkeep (by decide))).trans ?_, ?_⟩
  · exact get2_set2 (by decide) (by decide) (by decide) (by decide)
  · exact get2_set2 (by decide) (by decide) (by decide) (by decide)

/-- The counters of the checker outlast what a write of TRK_TEST does beside CLR. -/
theorem get2_trkTestEffect (hi : i < 84) : get2 (R.TRK_PERR i) F.TRK_PERR_ERR_LO F.TRK_PERR_ERR_HI (trkTestEffect i old s)
      = get2 (R.TRK_PERR i) F.TRK_PERR_ERR_LO F.TRK_PERR_ERR_HI s
    ∧ get2 (R.TRK_PCMP i) F.TRK_PCMP_CMP_LO F.TRK_PCMP_CMP_HI (trkTestEffect i old s)
      = get2 (R.TRK_PCMP i) F.TRK_PCMP_CMP_LO F.TRK_PCMP_CMP_HI s := by
  have hkeep {a : Nat} (ha : R.TRK_PERR i ≤ a ∧ a < R.TRK_PERR i + 4) : rd a (trkTestEffect i old s) = rd a s :=
    (laneOnly_trkTestEffect hi).rd_eq (fixedWord_not_reach hi (.inr (.inr (.inr ha))))
  constructor
  · refine get2_congr (hkeep ?_) (hkeep ?_) <;>
      simp only [R.TRK_PERR, F.TRK_PERR_ERR_LO, F.TRK_PERR_ERR_HI] <;> omega
  · refine get2_congr (hkeep ?_) (hkeep ?_) <;>
      simp only [R.TRK_PERR, R.TRK_PCMP, F.TRK_PCMP_CMP_LO, F.TRK_PCMP_CMP_HI] <;> omega

/-- CLR clears the five framing counters. -/
theorem framingClear_counts : getF (R.PTS_FRTRN i) F.PTS_FRTRN_COUNT (framingClear i s) = 0
    ∧ getF (R.PTS_FRCSYM i) F.PTS_FRCSYM_COUNT (framingClear i s) = 0
    ∧ getF (R.PTS_FRUNC i) F.PTS_FRUNC_COUNT (framingClear i s) = 0
    ∧ getF (R.PTS_FRLATE i) F.PTS_FRLATE_COUNT (framingClear i s) = 0
    ∧ getF (R.PTS_FRLOST i) F.PTS_FRLOST_COUNT (framingClear i s) = 0 := by
  have hzero {b : Nat} {f : Fld} {u : State} (hf : f.lo + f.w ≤ 40) : getF b f (setF b f 0 u) = 0 :=
    (getF_setF_same _ _ _ _ hf).trans (Nat.zero_mod _)
  have hother {b c : Nat} {f g : Fld} {u : State} (hne : c ≠ b) (hf : f.sub = 0) (hg : g.sub = 0) :
      getF c g (setF b f 0 u) = getF c g u := getF_setF_other _ _ (by omega)
  have hcsym : R.PTS_FRTRN i ≠ R.PTS_FRCSYM i := by unfold R.PTS_FRTRN R.PTS_FRCSYM; omega
  have hunc : R.PTS_FRTRN i ≠ R.PTS_FRUNC i ∧ R.PTS_FRCSYM i ≠ R.PTS_FRUNC i := by
    unfold R.PTS_FRTRN R.PTS_FRCSYM R.PTS_FRUNC
    omega
  have hlate : R.PTS_FRTRN i ≠ R.PTS_FRLATE i ∧ R.PTS_FRCSYM i ≠ R.PTS_FRLATE i ∧ R.PTS_FRUNC i ≠ R.PTS_FRLATE i := by
    unfold R.PTS_FRTRN R.PTS_FRCSYM R.PTS_FRUNC R.PTS_FRLATE
    omega
  have hlost : R.PTS_FRTRN i ≠ R.PTS_FRLOST i ∧ R.PTS_FRCSYM i ≠ R.PTS_FRLOST i ∧ R.PTS_FRUNC i ≠ R.PTS_FRLOST i
      ∧ R.PTS_FRLATE i ≠ R.PTS_FRLOST i := by
    unfold R.PTS_FRTRN R.PTS_FRCSYM R.PTS_FRUNC R.PTS_FRLATE R.PTS_FRLOST
    omega
  obtain ⟨hunc1, hunc2⟩ := hunc
  obtain ⟨hlate1, hlate2, hlate3⟩ := hlate
  obtain ⟨hlost1, hlost2, hlost3, hlost4⟩ := hlost
  unfold framingClear
  refine ⟨?_, ?_, ?_, ?_, hzero (by decide)⟩
  · rw [hother hlost1 rfl rfl, hother hlate1 rfl rfl, hother hunc1 rfl rfl, hother hcsym rfl rfl, hzero (by decide)]
  · rw [hother hlost2 rfl rfl, hother hlate2 rfl rfl, hother hunc2 rfl rfl, hzero (by decide)]
  · rw [hother hlost3 rfl rfl, hother hlate3 rfl rfl, hzero (by decide)]
  · rw [hother hlost4 rfl rfl, hzero (by decide)]

end

section
variable {s : State} (m : Master) (i : LaneId)

theorem trkEqWrite_storesOrRejects (w : Word) (hr : Reaches m (R.TRK_EQ i) s) (hopen : sealed s = false) :
    After (exec (.trkEqWrite m i w) s) fun t => Okay m t
      ∧ (eqValid w = true → rd (R.TRK_EQ i) t = BitVec.ofNat 40 (w.toNat % 2 ^ 25))
      ∧ (eqValid w = false → rd (R.TRK_EQ i) t = rd (R.TRK_EQ i) s
          ∧ getF (R.TRK_STATUS i) F.TRK_STATUS_EQ_REJ t = 1 ∧ Raised (laneErrEvent i) t) := by
  have hi := i.isLt
  have hfree : (trkEqRow.fields.any fun f => f.locked (!sealed s) (countIssue m s)) = false := by
    rw [hopen, List.any_eq_false]
    intro f _
    rw [FieldDef.locked, Bool.not_false, Bool.not_true, Bool.and_false]
    decide
  have hsame : rd (R.TRK_EQ i) (laneWritten m (R.TRK_EQ i) w trkEqRow s) = rd (R.TRK_EQ i) s :=
    (rd_eqWritten hi).trans (rd_countIssue (by unfold R.TRK_EQ R.ILK_MST; omega))
  have hfar {a : Nat} (ha : ¬ farWord a) : ¬ bellWord (laneErrEvent i) a :=
    fun h => ha (farWord_of_bellWord (laneErrEvent_lt hi) h)
  refine ⟨_, rfl, ?_⟩
  beta_reduce
  rw [writeAccess_lane m.isLt (laneRegister_eq hi) hr (regDef_trkEq i), regEffect_eq hi, hfree, if_neg Bool.false_ne_true,
    rd_putAnswer, getF_putAnswer]
  refine ⟨okay_putAnswer, fun hv => ?_, fun hv => ?_⟩
  · rw [hv, if_pos rfl, rd_wr_same]
  · have hstatus : R.TRK_EQ i ≠ R.TRK_STATUS i := by unfold R.TRK_EQ R.TRK_STATUS; omega
    have heq : ¬ farWord (R.TRK_EQ i) := by unfold farWord R.TRK_EQ; omega
    rw [hv, if_neg Bool.false_ne_true, eqReject, rd_raise_other _ _ (hfar heq), rd_setF_other _ _ hstatus, hsame,
      getF_raise_other _ _ (hfar (status_not_far hi)), getF_setF_same _ _ _ _ (by decide)]
    exact ⟨rfl, rfl, (isSet_putAnswer _ _ _).trans (raised_raise (laneErrEvent_lt hi))⟩

/-- A write of TRK_TEST. -/
theorem fieldWrite_test {f : Fld} {n : Nat} (hf : f.sub = 0) (hr : Reaches m (R.TRK_TEST i) s) :
    fieldWrite m (R.TRK_TEST i) f n s = putAnswer m ⟨0, [], 1⟩ (trkTestEffect i (rd (R.TRK_TEST i) s)
      (when (flag (putBits (heldWord (R.TRK_TEST i) s) f.lo f.w n) F.TRK_TEST_CLR) (prbsClear i)
        (laneWritten m (R.TRK_TEST i) (putBits (heldWord (R.TRK_TEST i) s) f.lo f.w n) trkTestRow s))) := by
  rw [fieldWrite_eq hf, writeAccess_lane m.isLt (laneRegister_test i.isLt) hr (regDef_trkTest i), regEffect_test i.isLt]

theorem trkTestWrite_entersTest (gen chk : Fin 4) (hr : Reaches m (R.TRK_TEST i) s) (hg : gen.val ≤ 2) (hc : chk.val ≤ 2)
    (hsome : gen.val + chk.val ≠ 0) (hen : laneEn i s = true) (hpll : pllLocked i s = true) (hp : pstate s ≤ 2) :
    After (exec (.trkTestWrite m i gen chk) s) fun t => Okay m t
      ∧ getF (R.TRK_TEST i) F.TRK_TEST_GEN t = gen.val ∧ getF (R.TRK_TEST i) F.TRK_TEST_CHK t = chk.val
      ∧ laneState i t = 6 ∧ (laneState i s ≠ 6 → getF (R.TRK_STATE i) F.TRK_STATE_CAUSE t = 13) := by
  have hi := i.isLt
  obtain ⟨hlow, hhigh⟩ := bitsOf_testPatterns (heldWord (R.TRK_TEST i) s) gen.isLt chk.isLt
  have hclr : flag (putBits (heldWord (R.TRK_TEST i) s) 0 4 (gen.val + 4 * chk.val)) F.TRK_TEST_CLR = false := by
    have hzero := bitsOf_held_zero (s := s) (d := ⟨F.TRK_TEST_CLR, .wo, false, .any⟩) (f := ⟨0, 0, 4⟩)
      (n := gen.val + 4 * chk.val) (regDef_trkTest i) (by decide) (by decide) (by decide) (by unfold Apart; decide)
    exact beq_false_of_ne (hzero.trans_ne (by decide))
  have hgen : getF (R.TRK_TEST i) F.TRK_TEST_GEN (laneWritten m (R.TRK_TEST i)
      (putBits (heldWord (R.TRK_TEST i) s) 0 4 (gen.val + 4 * chk.val)) trkTestRow s) = gen.val :=
    (getF_laneWritten_taken (d := ⟨F.TRK_TEST_GEN, .rw, false, .le 2⟩) m.isLt (laneRegister_test hi) (regDef_trkTest i)
      (by decide) rfl rfl rfl (special_test hi) (decide_eq_true (hlow.trans_le hg))).trans hlow
  have hchk : getF (R.TRK_TEST i) F.TRK_TEST_CHK (laneWritten m (R.TRK_TEST i)
      (putBits (heldWord (R.TRK_TEST i) s) 0 4 (gen.val + 4 * chk.val)) trkTestRow s) = chk.val :=
    (getF_laneWritten_taken (d := ⟨F.TRK_TEST_CHK, .rw, false, .le 2⟩) m.isLt (laneRegister_test hi) (regDef_trkTest i)
      (by decide) rfl rfl rfl (special_test hi) (decide_eq_true (hhigh.trans_le hc))).trans hhigh
  have hrd {a : Nat} {v : Word} (ha : 0x2000000 ≤ a) (hne : a ≠ R.TRK_TEST i) :
      rd a (laneWritten m (R.TRK_TEST i) v trkTestRow s) = rd a s := rd_laneWritten_other m.isLt ha hne
  have hstate : R.TRK_STATE i ≠ R.TRK_TEST i := by unfold R.TRK_STATE R.TRK_TEST; omega
  have hst {v : Word} : laneState i (laneWritten m (R.TRK_TEST i) v trkTestRow s) = laneState i s :=
    getF_congr (hrd (by unfold R.TRK_STATE; omega) hstate)
  have hquad := quadOf_lt hi
  obtain ⟨hdone, hcause, hgen', hchk'⟩ := trkTestEffect_entersTest (old := rd (R.TRK_TEST i) s) hi
    ((laneEn_congr (hrd (by unfold R.TRK_CTRL; omega) (by unfold R.TRK_CTRL R.TRK_TEST; omega))).trans hen)
    ((pllLocked_congr (hrd (by unfold R.TRK_QUAD; omega) (by unfold R.TRK_QUAD R.TRK_TEST; omega))
      (by rw [laneOf_laneWritten])).trans hpll)
    ((pstate_laneWritten m.isLt (laneRegister_test hi)).trans_le hp)
    (show testOn i (laneWritten m (R.TRK_TEST i) (putBits (heldWord (R.TRK_TEST i) s) 0 4 (gen.val + 4 * chk.val))
      trkTestRow s) = true by rw [testOn, isSet, isSet, hgen, hchk]; simp only [Bool.or_eq_true, bne_iff_ne]; omega)
  refine ⟨_, rfl, ?_⟩
  beta_reduce
  rw [fieldWrite_test m i rfl hr, hclr, when_false, laneState_putAnswer, getF_putAnswer, getF_putAnswer, getF_putAnswer]
  exact ⟨okay_putAnswer, hgen'.trans hgen, hchk'.trans hchk, hdone, fun h6 => hcause (hst.trans_ne h6)⟩

theorem get2_putAnswer {b : Nat} {lo hi : Fld} {x : Answer} : get2 b lo hi (putAnswer m x s) = get2 b lo hi s :=
  get2_congr (rd_putAnswer _ _ _ _) (rd_putAnswer _ _ _ _)

theorem prbsClear_clears (hr : Reaches m (R.TRK_TEST i) s) : After (exec (.prbsClear m i) s) fun t => Okay m t
    ∧ get2 (R.TRK_PERR i) F.TRK_PERR_ERR_LO F.TRK_PERR_ERR_HI t = 0
    ∧ get2 (R.TRK_PCMP i) F.TRK_PCMP_CMP_LO F.TRK_PCMP_CMP_HI t = 0 := by
  have hclr : flag (putBits (heldWord (R.TRK_TEST i) s) F.TRK_TEST_CLR.lo F.TRK_TEST_CLR.w 1) F.TRK_TEST_CLR = true := by
    rw [flag, bitsOf_putBits_same _ _ _ _ (by decide)]
    rfl
  refine ⟨_, rfl, ?_⟩
  beta_reduce
  rw [fieldWrite_test m i rfl hr, hclr, when_true, get2_putAnswer, get2_putAnswer]
  obtain ⟨herr, hcmp⟩ := get2_trkTestEffect (old := rd (R.TRK_TEST i) s) (s := Machine.prbsClear i
    (laneWritten m (R.TRK_TEST i) (putBits (heldWord (R.TRK_TEST i) s) F.TRK_TEST_CLR.lo F.TRK_TEST_CLR.w 1)
      trkTestRow s)) i.isLt
  rw [herr, hcmp]
  exact ⟨okay_putAnswer, get2_prbsClear⟩

theorem framingCounterClear_clears (hr : Reaches m (R.PTS_FRCTL i) s) : After (exec (.framingCounterClear m i) s) fun t =>
    Okay m t ∧ getF (R.PTS_FRTRN i) F.PTS_FRTRN_COUNT t = 0 ∧ getF (R.PTS_FRCSYM i) F.PTS_FRCSYM_COUNT t = 0
      ∧ getF (R.PTS_FRUNC i) F.PTS_FRUNC_COUNT t = 0 ∧ getF (R.PTS_FRLATE i) F.PTS_FRLATE_COUNT t = 0
      ∧ getF (R.PTS_FRLOST i) F.PTS_FRLOST_COUNT t = 0 := by
  have hclr : flag (putBits (heldWord (R.PTS_FRCTL i) s) F.PTS_FRCTL_CLR.lo F.PTS_FRCTL_CLR.w 1) F.PTS_FRCTL_CLR = true := by
    rw [flag, bitsOf_putBits_same _ _ _ _ (by decide)]
    rfl
  refine ⟨_, rfl, ?_⟩
  beta_reduce
  rw [fieldWrite_eq rfl, writeAccess_lane m.isLt (laneRegister_frctl i.isLt) hr (regDef_frctl i), regEffect_frctl i.isLt,
    hclr, when_true, getF_putAnswer, getF_putAnswer, getF_putAnswer, getF_putAnswer, getF_putAnswer]
  exact ⟨okay_putAnswer, framingClear_counts⟩

end

theorem trackControlWrites : TrackControlWrites :=
  ⟨fun m i _ => trkEnSet_enables m i, fun m i _ => trkEnClear_darkens m i, fun m i _ => trkTrst_resets m i,
    fun m i pers _ => trkPersWrite_appliesOrDefers m i pers⟩

theorem trackEqualisationTestAndCounters : TrackEqualisationTestAndCounters :=
  ⟨fun m i w _ => trkEqWrite_storesOrRejects m i w, fun m i gen chk _ => trkTestWrite_entersTest m i gen chk,
    fun m i _ => prbsClear_clears m i, fun m i _ => framingCounterClear_clears m i⟩

/-- Settles O3: each write stores the word that its row of the register table allows, and then has its effect. -/
theorem trackRegisterWrites : Obligations.TrackRegisterWrites := ⟨trackControlWrites, trackEqualisationTestAndCounters⟩

end Sys2Proof.Safety

namespace Sys2Proof.Safety
open Sys2Proof.Machine

/-! ### What the count of a train leaves to the checks (R58, R83) -/

section
variable {i corr n : Nat} {a : ArrTrain} {t : Train} {c : Nat → Train → State → State} {e : StreamEntry} {s : State}

/-- The words that a framing condition of lane `i` writes. -/
def condWord (i a : Nat) : Prop := a = R.PTS_FRSTAT i ∨ bellWord (frameEvent i) a

theorem laneOnly_frameCond_condWord {k : Nat} : LaneOnly i frameParts (condWord i) s (frameCond i k s) :=
  (only_frameCond.laneOnly (by decide)).widen (by decide) fun _ => id

/-- After a train and its corrected symbols are counted, only conditions are reported. -/
theorem laneOnly_conditionsOfTrain :
    LaneOnly i frameParts (condWord i) (countTrain i corr s) (trainCounted i t corr s) :=
  have hseq {n : Nat} {u : State} : LaneOnly i frameParts (condWord i) u (seqCheck i n u) :=
    (laneOnly_when laneOnly_frameCond_condWord).trans (laneOnly_modLane mem_frameParts.1)
  hseq.trans <| (laneOnly_modLane mem_frameParts.1).trans <|
    laneOnly_when (fillerMiss_induct .refl laneOnly_frameCond_condWord)

theorem frameWord_not_condWord {b : Nat} (hi : i < 84) (h : R.PTS_FRSTAT i < b) (h' : b < R.PTS_FRSTAT i + 16) :
    ¬ condWord i b := by
  rintro (rfl | hb)
  · omega
  · have := frameBell_range hi hb
    unfold R.PTS_FRSTAT at h
    omega

theorem trains_trainCounted (hi : i < 84) : getF (R.PTS_FRTRN i) F.PTS_FRTRN_COUNT (trainCounted i t corr s)
    = Nat.min (getF (R.PTS_FRTRN i) F.PTS_FRTRN_COUNT s + 1) (2 ^ 40 - 1) := by
  have hword : ¬ condWord i (R.PTS_FRTRN i + F.PTS_FRTRN_COUNT.sub) := frameWord_not_condWord hi
    (by simp only [R.PTS_FRTRN, R.PTS_FRSTAT, F.PTS_FRTRN_COUNT]; omega)
    (by simp only [R.PTS_FRTRN, R.PTS_FRSTAT, F.PTS_FRTRN_COUNT]; omega)
  have hsym : R.PTS_FRTRN i + F.PTS_FRTRN_COUNT.sub ≠ R.PTS_FRCSYM i + F.PTS_FRCSYM_COUNT.sub := by
    simp only [R.PTS_FRTRN, R.PTS_FRCSYM, F.PTS_FRTRN_COUNT, F.PTS_FRCSYM_COUNT]
    omega
  calc getF (R.PTS_FRTRN i) F.PTS_FRTRN_COUNT (trainCounted i t corr s)
      = getF (R.PTS_FRTRN i) F.PTS_FRTRN_COUNT (countTrain i corr s) := laneOnly_conditionsOfTrain.getF_eq hword
    _ = getF (R.PTS_FRTRN i) F.PTS_FRTRN_COUNT (satF (R.PTS_FRTRN i) F.PTS_FRTRN_COUNT 1 s) := getF_setF_other _ _ hsym
    _ = _ := getF_satF_same (by decide)

theorem symbols_trainCounted (hi : i < 84) : getF (R.PTS_FRCSYM i) F.PTS_FRCSYM_COUNT (trainCounted i t corr s)
    = Nat.min (getF (R.PTS_FRCSYM i) F.PTS_FRCSYM_COUNT s + corr) (2 ^ 40 - 1) := by
  have hword : ¬ condWord i (R.PTS_FRCSYM i + F.PTS_FRCSYM_COUNT.sub) := frameWord_not_condWord hi
    (by simp only [R.PTS_FRCSYM, R.PTS_FRSTAT, F.PTS_FRCSYM_COUNT]; omega)
    (by simp only [R.PTS_FRCSYM, R.PTS_FRSTAT, F.PTS_FRCSYM_COUNT]; omega)
  have htrn : R.PTS_FRCSYM i + F.PTS_FRCSYM_COUNT.sub ≠ R.PTS_FRTRN i + F.PTS_FRTRN_COUNT.sub := by
    simp only [R.PTS_FRTRN, R.PTS_FRCSYM, F.PTS_FRTRN_COUNT, F.PTS_FRCSYM_COUNT]
    omega
  have hkeep : getF (R.PTS_FRCSYM i) F.PTS_FRCSYM_COUNT (satF (R.PTS_FRTRN i) F.PTS_FRTRN_COUNT 1 s)
      = getF (R.PTS_FRCSYM i) F.PTS_FRCSYM_COUNT s := getF_setF_other _ _ htrn
  calc getF (R.PTS_FRCSYM i) F.PTS_FRCSYM_COUNT (trainCounted i t corr s)
      = getF (R.PTS_FRCSYM i) F.PTS_FRCSYM_COUNT (countTrain i corr s) := laneOnly_conditionsOfTrain.getF_eq hword
    _ = _ := getF_satF_same (by decide)
    _ = _ := by rw [hkeep]; rfl

theorem arr_trainCounted : (trainCounted i t corr s).arr = s.arr := laneOnly_trainCounted.1.2.1 .arr (by decide)

theorem streamEntry_trainCounted : streamEntry n (trainCounted i t corr s) = streamEntry n s := by
  rw [streamEntry, arr_trainCounted]
  rfl

theorem rd_front_trainCounted (hi : i < 84) (hn : n < 2) :
    rd (R.PTS_FRONT + n) (trainCounted i t corr s) = rd (R.PTS_FRONT + n) s :=
  rd_trainCounted hi (.inr (by unfold R.PTS_FRONT; omega)) (.inr (by unfold R.PTS_FRONT; omega))

theorem frontNow_trainCounted (hi : i < 84) : frontNow (trainCounted i t corr s) = frontNow s :=
  get2_congr (rd_front_trainCounted hi (by decide)) (rd_front_trainCounted hi (by decide))

theorem frontValid_trainCounted (hi : i < 84) : frontValid (trainCounted i t corr s) = frontValid s :=
  isSet_congr (rd_front_trainCounted hi (by decide))

theorem fifo_trainCounted : (laneOf i (trainCounted i t corr s)).fifo = (laneOf i s).fifo := by
  rw [laneOf_trainCounted]

/-! ### The checks of a DATA train (R432) -/

theorem trainByType_data (ha : isArrival i = true) (hst : laneState i s = 5) (hp : pstate s = 1) (h : t.typ = 1#4) :
    trainByType c i t s = dataChecks i t s := by
  have haccept : typeAccepted i 1 = true := by simp [typeAccepted, typData, ha]
  unfold trainByType
  rw [h]
  simp [haccept, hst, hp, typFiller, typTest, typCoupling, typData]

theorem dataChecks_reservedFmt (h : 3 < t.fmt.toNat) : dataChecks i t s = frameCond i 4 s := if_pos h

theorem dataChecks_unknownStream (hfmt : t.fmt.toNat ≤ 3) (he : streamEntry t.stream.toNat s = none) :
    dataChecks i t s = frameCond i 3 s := by
  unfold dataChecks
  rw [he]
  exact if_neg (Nat.not_lt.2 hfmt)

/-- What a DATA train holds once it is in the arrival FIFO: its index, format, place and BAD flag (R63, R64). -/
def arrivalOf (t : Train) (e : StreamEntry) (n : Nat) : ArrTrain :=
  ⟨false, n, t.fmt.toNat, e.first, e.dev + (t.cchan.toNat - e.base), t.flags.toNat % 2 == 1, t.cars⟩

/-- The lane with one more train in its arrival FIFO (R62). -/
def laneQueued (a : ArrTrain) (l : Lane) : Lane :=
  { l with fifo := l.fifo ++ [a], hiBlock := some (Nat.max (a.n / 40) (l.hiBlock.getD 0)) }

/-- The arrival FIFO of lane `i` takes a train, and the train's block counts as written (R62, R68). -/
def trainQueued (i : Nat) (a : ArrTrain) (s : State) : State :=
  { modLane i (laneQueued a) s with arr := { s.arr with top := Nat.max s.arr.top (a.n / 40 * 40 + 40) } }

/-- The checks that are left to a train of stream-map entry `e`. -/
def entryChecks (i : Nat) (t : Train) (e : StreamEntry) (s : State) : State :=
  let n := extendIndex (frontNow s) t.tlow.toNat
  if e.lane ≠ i then frameCond i 3 s
  else if e.fmt ≠ t.fmt.toNat then frameCond i 4 s
  else if t.cchan.toNat < e.base ∨ e.base + e.ccount ≤ t.cchan.toNat then frameCond i 5 s
  else if !frontValid s then s
  else if n % (formatTimes t.fmt.toNat : Int) ≠ 0 then frameCond i 4 s
  else if n < (s.arr.base : Int) then s
  else if n < (frontNow s : Int) then countLate i (formatInputs t.fmt.toNat * formatTimes t.fmt.toNat) s
  else if 256 ≤ (laneOf i s).fifo.length then frameCond i 7 s
  else trainQueued i (arrivalOf t e n.toNat) s

theorem dataChecks_known (hfmt : t.fmt.toNat ≤ 3) (he : streamEntry t.stream.toNat s = some e) :
    dataChecks i t s = entryChecks i t e s := by
  unfold dataChecks
  rw [he]
  exact if_neg (Nat.not_lt.2 hfmt)

theorem entryChecks_otherLane (h : e.lane ≠ i) : entryChecks i t e s = frameCond i 3 s := if_pos h

theorem entryChecks_wrongFmt (hl : e.lane = i) (h : e.fmt ≠ t.fmt.toNat) : entryChecks i t e s = frameCond i 4 s :=
  (if_neg (not_not.2 hl)).trans (if_pos h)

theorem entryChecks_badChannel (hl : e.lane = i) (hf : e.fmt = t.fmt.toNat)
    (h : t.cchan.toNat < e.base ∨ e.base + e.ccount ≤ t.cchan.toNat) : entryChecks i t e s = frameCond i 5 s :=
  (if_neg (not_not.2 hl)).trans <| (if_neg (not_not.2 hf)).trans (if_pos h)

theorem entryChecks_passed (hl : e.lane = i) (hf : e.fmt = t.fmt.toNat) (hlo : e.base ≤ t.cchan.toNat)
    (hhi : t.cchan.toNat < e.base + e.ccount) (hv : frontValid s = true)
    (hmult : extendIndex (frontNow s) t.tlow.toNat % (formatTimes t.fmt.toNat : Int) = 0)
    (hbase : (s.arr.base : Int) ≤ extendIndex (frontNow s) t.tlow.toNat)
    (hfront : (frontNow s : Int) ≤ extendIndex (frontNow s) t.tlow.toNat) (hroom : (laneOf i s).fifo.length < 256) :
    entryChecks i t e s = trainQueued i (arrivalOf t e (extendIndex (frontNow s) t.tlow.toNat).toNat) s := by
  have hin : ¬ (t.cchan.toNat < e.base ∨ e.base + e.ccount ≤ t.cchan.toNat) := by omega
  unfold entryChecks
  simp only [hl, hf, hin, hv, hmult, ne_eq, not_true_eq_false, Bool.not_true, Bool.false_eq_true, if_false,
    if_neg (not_lt.2 hbase), if_neg (not_lt.2 hfront), if_neg (Nat.not_le.2 hroom)]

theorem laneOf_trainQueued : laneOf i (trainQueued i a s) = laneQueued a (laneOf i s) :=
  laneOf_modLane_same (i := i) (g := laneQueued a) (s := s)

theorem rd_trainQueued {b : Nat} : rd b (trainQueued i a s) = rd b s := rfl

theorem arr_trainQueued : (trainQueued i a s).arr = { s.arr with top := Nat.max s.arr.top (a.n / 40 * 40 + 40) } := rfl

theorem laneOnly_trainQueued {w : Nat → Prop} : LaneOnly i [.lanes, .arr, .bellq, .health] w s (trainQueued i a s) := by
  refine (laneOnly_modLane (g := laneQueued a) (by decide)).trans ⟨⟨rfl, fun p hp => ?_, fun _ _ => rfl⟩, fun _ _ => rfl⟩
  cases p
  case arr => exact absurd (by decide) hp
  all_goals rfl

end

/-! ### DATA trains received -/

section
variable {s : State} {i : LaneId} {syms : List (BitVec 2)} {t : Train} {corr : Nat} {e : StreamEntry}

/-- A lane in OPEN of a running device puts a DATA train through its checks. -/
theorem trainReceive_data {c : Nat → Train → State → State} (hst : laneState i s = 5) (hp : pstate s = 1)
    (h : Carries i syms t corr s) (ha : isArrival i = true) (htyp : t.typ = 1#4) :
    trainReceive c i syms s = dataChecks i t (trainCounted i t corr s) := by
  rw [trainReceive_eq (decodes_of_range (by omega) (by omega)) h]
  exact trainByType_data ha ((laneState_trainCounted i.isLt).trans hst) ((pstate_trainCounted i.isLt).trans hp) htyp

/-- A train that fails a check with condition `b` sets it, and does not reach the FIFO. -/
theorem dataTrainReceive_rejects {b : Nat} (hst : laneState i s = 5) (hp : pstate s = 1) (h : Carries i syms t corr s)
    (ha : isArrival i = true) (htyp : t.typ = 1#4) (hb : b < 12)
    (hcheck : dataChecks i t (trainCounted i t corr s) = frameCond i b (trainCounted i t corr s)) :
    After (exec (.dataTrainReceive i syms) s) fun u => frameBit i b u = true ∧ (laneOf i u).fifo = (laneOf i s).fifo := by
  refine ⟨_, rfl, ?_⟩
  beta_reduce
  rw [trainReceive_data hst hp h ha htyp, hcheck, laneOf_frameCond]
  exact ⟨frameBit_frameCond i.isLt hb, fifo_trainCounted⟩

/-- The words that the count of a train and the framing conditions write are framing registers and the Block Bell's. -/
theorem countWord_frameWord {a : Nat} (h : countWord i a) : frameWord i a ∨ bellWord (frameEvent i) a := by
  rcases h with rfl | rfl | rfl | hb
  · exact .inl (by unfold frameWord R.PTS_FRSTAT; omega)
  · exact .inl (by unfold frameWord R.PTS_FRSTAT R.PTS_FRTRN; omega)
  · exact .inl (by unfold frameWord R.PTS_FRSTAT R.PTS_FRCSYM; omega)
  · exact .inr hb

/-- A train that enters the FIFO changes its lane, the arrival side and what counts it. -/
theorem laneOnly_trainQueued_counted {a : ArrTrain} : LaneOnly i [.lanes, .arr, .bellq, .health]
    (fun x => frameWord i x ∨ bellWord (frameEvent i) x) s (trainQueued i a (trainCounted i t corr s)) :=
  (laneOnly_trainCounted.widen (by decide) fun _ => countWord_frameWord).trans laneOnly_trainQueued

theorem dataTrainEntersArrivalFifo : DataTrainEntersArrivalFifo := by
  intro i syms t corr e s hst hp h ha htyp hfmt he hlane hf hlo hhi hv hmult hbase hfront hroom
  have hi := i.isLt
  have hqueued : dataChecks i t (trainCounted i t corr s) = trainQueued i
      (arrivalOf t e (extendIndex (frontNow s) t.tlow.toNat).toNat) (trainCounted i t corr s) := by
    rw [dataChecks_known hfmt (streamEntry_trainCounted.trans he), entryChecks_passed hlane hf hlo hhi
      ((frontValid_trainCounted hi).trans hv), frontNow_trainCounted hi]
    · rwa [frontNow_trainCounted hi]
    · rwa [frontNow_trainCounted hi, arr_trainCounted]
    · rwa [frontNow_trainCounted hi]
    · rwa [fifo_trainCounted]
  refine ⟨_, rfl, ?_⟩
  beta_reduce
  obtain ⟨honly, hothers⟩ := laneOnly_trainQueued_counted (i := i) (t := t) (corr := corr) (s := s)
  rw [trainReceive_data hst hp h ha htyp, hqueued, laneOf_trainQueued, laneOf_trainCounted, arr_trainQueued,
    arr_trainCounted, getF_congr rd_trainQueued, getF_congr rd_trainQueued]
  exact ⟨rfl, rfl, rfl, trains_trainCounted hi, symbols_trainCounted hi, rfl, honly,
    fun k hk => hothers k (Fin.val_ne_of_ne hk)⟩

theorem dataTrainChecksInOrder : DataTrainChecksInOrder := by
  intro i syms t corr s hst hp h ha htyp
  have hrejects {b : Nat} := dataTrainReceive_rejects (b := b) hst hp h ha htyp
  have hentry {n : Nat} {x : Option StreamEntry} (he : streamEntry n s = x) :
      streamEntry n (trainCounted i t corr s) = x := streamEntry_trainCounted.trans he
  refine ⟨fun hfmt => ?_, fun hfmt he => ?_, fun e hfmt he hlane => ?_, fun e hfmt he hlane hf => ?_,
    fun e hfmt he hlane hf hchan => ?_⟩
  · exact hrejects (by decide) (dataChecks_reservedFmt hfmt)
  · exact hrejects (by decide) (dataChecks_unknownStream hfmt (hentry he))
  · exact hrejects (by decide) ((dataChecks_known hfmt (hentry he)).trans (entryChecks_otherLane hlane))
  · exact hrejects (by decide) ((dataChecks_known hfmt (hentry he)).trans (entryChecks_wrongFmt hlane hf))
  · exact hrejects (by decide) ((dataChecks_known hfmt (hentry he)).trans (entryChecks_badChannel hlane hf hchan))

end

/-- Settles O4: the train is counted, and then is what the first check that it fails, or the FIFO, makes of it. -/
theorem dataTrainsAreCheckedAndQueued : Obligations.DataTrainsAreCheckedAndQueued :=
  ⟨dataTrainEntersArrivalFifo, dataTrainChecksInOrder⟩

end Sys2Proof.Safety

namespace Sys2Proof.Safety
open Sys2Proof.Machine

/-! ### Departing trains (R39, R54-R58, R61, R78) -/

section
variable {i typ stream cchan flags tlow sent : Nat} {c : Consig} {cars : List Word} {p : Consig → Bool} {l : Lane} {s : State}

/-- The train of the given fields with the lane's next SEQ. -/
def nextTrain (typ stream cchan flags tlow : Nat) (cars : List Word) (l : Lane) : Train :=
  ⟨BitVec.ofNat 4 typ, BitVec.ofNat 12 l.txSeq, BitVec.ofNat 16 stream, BitVec.ofNat 12 cchan, 0,
    BitVec.ofNat 8 flags, BitVec.ofNat 24 tlow, cars⟩

theorem laneOnly_sendTrain : LaneOnly i [.lanes] (fun _ => False) s (sendTrain i typ stream cchan flags tlow cars s) :=
  ⟨only_setLane _ _ _, fun _ hk => laneOf_setLane_other _ _ hk⟩

theorem lastTx_sendTrain : (laneOf i (sendTrain i typ stream cchan flags tlow cars s)).lastTx
    = some (nextTrain typ stream cchan flags tlow cars (laneOf i s)) := by
  rw [sendTrain, laneOf_setLane_same]
  rfl

theorem txSeq_sendTrain :
    (laneOf i (sendTrain i typ stream cchan flags tlow cars s)).txSeq = ((laneOf i s).txSeq + 1) % 4096 := by
  rw [sendTrain, laneOf_setLane_same]

theorem sinceFill_sendTrain : (laneOf i (sendTrain i typ stream cchan flags tlow cars s)).sinceFill
    = if typ = typFiller then 0 else (laneOf i s).sinceFill + 1 := by
  rw [sendTrain, laneOf_setLane_same]

theorem cur_sendTrain : (laneOf i (sendTrain i typ stream cchan flags tlow cars s)).cur = (laneOf i s).cur := by
  rw [sendTrain, laneOf_setLane_same]

/-- A lane that transmits trains sends one. -/
theorem trainTransmit_eq (h : transmits i s = true) : trainTransmit i s = trainSend i s := by
  simp only [transmits, Bool.and_eq_true, Bool.not_eq_true', bne_iff_ne] at h
  obtain ⟨⟨hdrives, hrate⟩, hst⟩ := h
  simp only [trainTransmit, hdrives, hrate, hst, Bool.not_true, Bool.false_eq_true, if_false]

/-- With nothing to send a lane sends a filler; a Halt watch keeps it up while PARKED fillers are still to come (R50). -/
theorem trainSend_filler (hdep : isDeparture i = false) (hpark : pstate s = 3 → 1 < (laneOf i s).parks) :
    trainSend i s = sendFiller i s := by
  have hlast : (pstate s == 3 && (laneOf i s).parks == 1) = false := by
    by_cases h3 : pstate s = 3
    · rw [beq_false_of_ne (Nat.ne_of_gt (hpark h3)), Bool.and_false]
    · rw [beq_false_of_ne h3, Bool.false_and]
  simp only [trainSend, hdep, Bool.false_and, Bool.false_eq_true, if_false, hlast, when_false]

/-- A lane with no consignment that `p` names gives none up. -/
theorem forgetConsigs_of_none (h : ∀ x ∈ laneConsigs l, p x = false) : forgetConsigs p l = l := by
  simp only [laneConsigs, List.mem_append, Option.mem_toList] at h
  have hcur : ∀ x ∈ l.cur, p x.1 = false := fun x hx => h x.1 (.inl (.inl (Option.mem_map_of_mem _ hx)))
  have htxq : l.txq.filter (!p ·) = l.txq := List.filter_eq_self.2 fun x hx => by simp [h x (.inl (.inr hx))]
  have hbeam : l.beamq.filter (!p ·) = l.beamq := List.filter_eq_self.2 fun x hx => by simp [h x (.inr hx)]
  have hkeep : (l.cur.filter fun x => !p x.1) = l.cur := by
    cases hc : l.cur with
    | none => rfl
    | some x => simp [hcur x hc]
  have hany : (l.cur.any fun x => p x.1) = false := by
    cases hc : l.cur with
    | none => rfl
    | some x => exact hcur x hc
  rw [forgetConsigs, htxq, hbeam, hkeep, hany]
  rfl

/-- The twin mutes nothing that lane `i` holds (R338, R343). -/
def Unmuted (i : Nat) (s : State) : Prop := ∀ x ∈ laneConsigs (laneOf i s), twinMutes x s = false

/-- Muting discards nothing from such a lane. -/
theorem muteLane_of_unmuted (h : Unmuted i s) : muteLane i s = modLane i id s := by
  have hnone : (laneConsigs (laneOf i s)).filter (fun c => twinMutes c s) = [] :=
    List.filter_eq_nil_iff.2 fun x hx => by simp [h x hx]
  rw [muteLane, hnone]
  exact congrArg (setLane i · s) (forgetConsigs_of_none h)

theorem unmuted_modLane_id (h : Unmuted i s) : Unmuted i (modLane i id s) := by
  intro x hx
  rw [laneOf_modLane_same] at hx
  exact h x hx

/-- With a consignment in transmission the lane takes no other. -/
theorem startNext_of_cur (h : Unmuted i s) (hcur : (laneOf i s).cur = some (c, sent)) :
    startNext i s = modLane i id s := by
  rw [startNext, muteLane_of_unmuted h]
  refine if_pos ?_
  rw [laneOf_modLane_same, id, hcur]
  rfl

/-- The lane with `n` words of the consignment in transmission sent. -/
def sentUpTo (c : Consig) (n : Nat) (l : Lane) : Lane := { l with cur := some (c, n) }

/-- A consignment with more words than the train has cars left fills them all. -/
theorem fillCars_of_middle {n k : Nat} {acc : List Word} (h : Unmuted i s) (hcur : (laneOf i s).cur = some (c, sent))
    (hk : 0 < k) (hsent : 0 < sent) (hmore : sent + k < c.words.length) :
    fillCars i (n + 1) k acc none s = (acc ++ (c.words.drop sent).take k, none,
      modLane i (sentUpTo c (sent + k)) (modLane i id s)) := by
  have hlen : ((c.words.drop sent).take k).length = k := by
    rw [List.length_take, List.length_drop]
    omega
  unfold fillCars
  rw [if_neg (Nat.ne_of_gt hk), muteLane_of_unmuted h]
  simp only [laneOf_modLane_same, id, hcur, hlen, if_neg (Nat.not_le.2 hmore), Nat.ne_of_gt hsent, false_and, if_false]
  rfl

/-- The transmitter has taken 128 more words of the consignment in transmission. -/
def carsTaken (i : Nat) (c : Consig) (sent : Nat) (s : State) : State :=
  modLane i (sentUpTo c (sent + 128)) (modLane i id (modLane i id s))

theorem laneOf_carsTaken : laneOf i (carsTaken i c sent s) = sentUpTo c (sent + 128) (laneOf i s) := by
  rw [carsTaken, laneOf_modLane_same, laneOf_modLane_same, laneOf_modLane_same, id, id]

theorem laneOnly_carsTaken : LaneOnly i [.lanes] (fun _ => False) s (carsTaken i c sent s) :=
  have hmod {g : Lane → Lane} {u : State} : LaneOnly i [.lanes] (fun _ => False) u (modLane i g u) :=
    laneOnly_modLane (by decide)
  hmod.trans (hmod.trans hmod)

/-- The middle of a consignment leaves as one train, whose cars it fills. -/
theorem trainSend_middle (hdep : isDeparture i = true) (hst : laneState i s = 5) (hp : pstate s = 1)
    (hfill : (laneOf i s).sinceFill < 2047) (hcur : (laneOf i s).cur = some (c, sent)) (hsent : 0 < sent)
    (hmore : sent + 128 < c.words.length) (h : Unmuted i s) :
    trainSend i s = sendTrain i typConsignment 0 0xFFF 0 0 ((c.words.drop sent).take 128)
      (carsTaken i c sent s) := by
  have hdeparts : departs s = true := by rw [departs, hp]; rfl
  have hcur' : (laneOf i (modLane i id s)).cur = some (c, sent) := by rw [laneOf_modLane_same, id, hcur]
  have hpad : padCars ((c.words.drop sent).take 128) = (c.words.drop sent).take 128 := by
    have hlen : ((c.words.drop sent).take 128).length = 128 := by
      rw [List.length_take, List.length_drop]
      omega
    rw [padCars, hlen]
    exact List.append_nil _
  unfold trainSend
  simp only [startNext_of_cur h hcur, hcur', hdep, hst, hdeparts, hfill, Option.isSome_some, decide_true, beq_self_eq_true,
    Bool.and_self, if_true, fillCars_of_middle (unmuted_modLane_id h) hcur' (by decide : 0 < 128) hsent hmore,
    List.nil_append, hpad, Option.getD_none]
  rfl

end

theorem trainsLeaveWithNextSeq : TrainsLeaveWithNextSeq := by
  refine ⟨fun i s ht hdep hpark => ?_, fun i c sent s ht hdep hst hp hfill hcur hsent hmore hmute => ?_⟩
  · refine ⟨_, rfl, ?_⟩
    beta_reduce
    rw [trainTransmit_eq ht, trainSend_filler hdep hpark]
    obtain ⟨honly, hothers⟩ := laneOnly_sendTrain (i := i) (s := s)
    exact ⟨lastTx_sendTrain, txSeq_sendTrain, sinceFill_sendTrain, honly, fun k hk => hothers k (Fin.val_ne_of_ne hk)⟩
  · refine ⟨_, rfl, ?_⟩
    beta_reduce
    rw [trainTransmit_eq ht, trainSend_middle hdep hst hp hfill hcur hsent hmore hmute]
    obtain ⟨honly, hothers⟩ := laneOnly_carsTaken.trans (laneOnly_sendTrain (i := i) (s := carsTaken i c sent s))
    refine ⟨lastTx_sendTrain.trans ?_, cur_sendTrain.trans ?_, txSeq_sendTrain.trans ?_, honly,
      fun k hk => hothers k (Fin.val_ne_of_ne hk)⟩
    all_goals
      rw [laneOf_carsTaken]
      rfl

end Sys2Proof.Safety

namespace Sys2Proof.Safety
open Sys2Proof.Machine

/-! ### What keeps the front, once a release has moved it (R68-R71) -/

section
variable {s t u : State} {b v e k i c n : Nat} {f : Fld}

/-- The words of the front (R69). -/
@[reducible] def frontWord (a : Nat) : Prop := a = R.PTS_FRONT ∨ a = R.PTS_FRONT + 1

/-- From `s` to `t` the front, the Gauges' release limit and the Coupling's state stay. -/
def KeepsFront (s t : State) : Prop :=
  (∀ a, frontWord a → rd a t = rd a s) ∧ t.gau.limit = s.gau.limit ∧ t.cpl = s.cpl

theorem KeepsFront.refl : KeepsFront s s := ⟨fun _ _ => rfl, rfl, rfl⟩

theorem KeepsFront.trans (h : KeepsFront s t) (k : KeepsFront t u) : KeepsFront s u := by
  obtain ⟨hwords, hlimit, hcpl⟩ := h
  obtain ⟨kwords, klimit, kcpl⟩ := k
  exact ⟨fun a ha => (kwords a ha).trans (hwords a ha), klimit.trans hlimit, kcpl.trans hcpl⟩

theorem KeepsFront.frontNow_eq (h : KeepsFront s t) : frontNow t = frontNow s := by
  obtain ⟨hwords, -, -⟩ := h
  exact get2_congr (hwords _ (.inl rfl)) (hwords _ (.inr rfl))

theorem KeepsFront.limit_eq : KeepsFront s t → t.gau.limit = s.gau.limit := fun ⟨_, hlimit, _⟩ => hlimit

theorem KeepsFront.cpl_eq : KeepsFront s t → t.cpl = s.cpl := fun ⟨_, _, hcpl⟩ => hcpl

/-- What a frame says of the front. -/
theorem Only.keepsFront {ps : List Part} {w : Nat → Prop} (h : Only ps w s t) (hg : .gau ∉ ps) (hc : .cpl ∉ ps)
    (hw : ∀ a, w a → ¬ frontWord a) : KeepsFront s t := by
  obtain ⟨-, hparts, hwords⟩ := h
  have hgau : t.gau = s.gau := hparts .gau hg
  exact ⟨fun a ha => hwords a fun hwa => hw a hwa ha, congrArg Gauge.limit hgau, hparts .cpl hc⟩

theorem keepsFront_setF (hw : ¬ frontWord (b + f.sub)) (h : KeepsFront s t) : KeepsFront s (setF b f v t) :=
  h.trans <| (only_setF b f v t).keepsFront (by decide) (by decide) fun _ ha => ha ▸ hw

theorem bellWord_not_frontWord {a : Nat} (he : e < 1024) (h : bellWord e a) : ¬ frontWord a := by
  simp only [bellWord, R.BEL_SRC, R.BEL_LOGPOS, R.BEL_LOG] at h
  simp only [frontWord, R.PTS_FRONT]
  omega

theorem keepsFront_raise (he : e < 1024) (h : KeepsFront s t) : KeepsFront s (raise e t) :=
  h.trans <| (only_raise e t).keepsFront (by decide) (by decide) fun _ => bellWord_not_frontWord he

theorem keepsFront_flagEvt (hw : ¬ frontWord (b + f.sub)) (he : e < 1024) (h : KeepsFront s t) :
    KeepsFront s (flagEvt b f k e t) :=
  h.trans <| (only_flagEvt b f k e t).keepsFront (by decide) (by decide) fun a ha => by
    rcases ha with rfl | hb
    · exact hw
    · exact bellWord_not_frontWord he hb

theorem keepsFront_ite {p : Prop} [Decidable p] {x y : State} (hx : KeepsFront s x) (hy : KeepsFront s y) :
    KeepsFront s (if p then x else y) := by
  split
  · exact hx
  · exact hy

theorem keepsFront_when {p : Bool} {g : State → State} (hg : ∀ {u}, KeepsFront s u → KeepsFront s (g u))
    (h : KeepsFront s t) : KeepsFront s (when p g t) := keepsFront_ite (hg h) h

theorem keepsFront_foldl {β : Type} {l : List β} {g : State → β → State}
    (hg : ∀ {u}, ∀ y ∈ l, KeepsFront s u → KeepsFront s (g u y)) (h : KeepsFront s t) : KeepsFront s (l.foldl g t) :=
  List.foldlRecOn l g h fun _ hu y hy => hg y hy hu

/-! #### The Gauges observe the block (R108-R113) -/

theorem gauKey_not_frontWord : ¬ frontWord (gauKey i c 0 + n) := by
  simp only [frontWord, gauKey, R.PTS_FRONT]
  omega

theorem keepsFront_putAcc {p : Nat} {a : PairAcc} (h : KeepsFront s t) : KeepsFront s (putAcc p a t) := h

theorem keepsFront_statSample {frozen : Bool} {x : Byte} (h : KeepsFront s t) :
    KeepsFront s (statSample frozen i c x t) :=
  keepsFront_when (keepsFront_setF gauKey_not_frontWord) <| keepsFront_setF gauKey_not_frontWord <|
    keepsFront_setF gauKey_not_frontWord <| keepsFront_when (keepsFront_setF gauKey_not_frontWord) h

theorem gevt_not_frontWord : ¬ frontWord (R.GAU_GEVT i + n) := by
  simp only [frontWord, R.GAU_GEVT, R.PTS_FRONT]
  omega

theorem keepsFront_groupRecord {cond : Nat} (h : KeepsFront s t) : KeepsFront s (groupRecord i c cond n t) :=
  keepsFront_setF gevt_not_frontWord <| keepsFront_setF gevt_not_frontWord <| keepsFront_setF gevt_not_frontWord <|
    keepsFront_setF gevt_not_frontWord <| keepsFront_setF gevt_not_frontWord h

theorem keepsFront_groupEvent {cond : Nat} (hi : i < 2 ^ 14) (h : KeepsFront s t) :
    KeepsFront s (groupEvent i c cond n t) :=
  keepsFront_ite (keepsFront_when keepsFront_groupRecord h) <|
    keepsFront_raise (by unfold ev; omega) (keepsFront_groupRecord h)

theorem keepsFront_wakeRequest (h : KeepsFront s t) : KeepsFront s (wakeRequest n t) := by
  unfold wakeRequest
  split
  · exact h
  · exact h

theorem keepsFront_crossing {cond : Nat} {x : Option (Nat × Nat)} (hi : i < 2 ^ 14) (h : KeepsFront s t) :
    KeepsFront s (crossing i c cond n x t) := by
  unfold crossing
  split
  · exact h
  · refine keepsFront_when keepsFront_wakeRequest <| keepsFront_when (keepsFront_groupEvent hi) ?_
    cases x
    · exact h
    · exact h

theorem keepsFront_gaugePair {ic : Nat × Nat} (hi : ic.1 < 2 ^ 14) (h : KeepsFront s t) :
    KeepsFront s (gaugePair n t ic) := by
  have hstat := keepsFront_statSample (frozen := false) (i := ic.1) (c := ic.2) (x := coarseAt (pairOf ic.1 ic.2) n t)
    (keepsFront_putAcc (p := pairOf ic.1 ic.2)
      (a := addAcc (coarseAt (pairOf ic.1 ic.2) n t) (accOf (pairOf ic.1 ic.2) t)) h)
  unfold gaugePair
  refine keepsFront_ite ?_ h
  dsimp only
  split
  · exact hstat
  · exact keepsFront_ite (keepsFront_crossing hi hstat) hstat

theorem keepsFront_dropBlocks (h : KeepsFront s t) : KeepsFront s (dropBlocks n t) :=
  keepsFront_ite h <| keepsFront_ite (keepsFront_foldl (fun _ _ => keepsFront_putAcc) h) h

/-- PTS_CFG.N has 14 bits. -/
theorem input_lt_of_mem_allPairs {ic : Nat × Nat} (h : ic ∈ allPairs s) : ic.1 < 2 ^ 14 := by
  simp only [allPairs, List.mem_flatMap, List.mem_map, List.mem_range] at h
  obtain ⟨j, hj, _, -, rfl⟩ := h
  exact hj.trans (bitsOf_lt _ _ _)

theorem keepsFront_gaugeIndex (h : KeepsFront s t) : KeepsFront s (gaugeIndex t) :=
  keepsFront_ite (keepsFront_foldl (fun _ hy => keepsFront_gaugePair (input_lt_of_mem_allPairs hy)) h)
    (keepsFront_dropBlocks h)

theorem keepsFront_gaugeRun (h : KeepsFront s t) : KeepsFront s (gaugeRun n t) := by
  induction n generalizing t with
  | zero => exact h
  | succ n ih => exact keepsFront_ite (ih (keepsFront_gaugeIndex h)) h

theorem keepsFront_gaugeGo (h : KeepsFront s t) : KeepsFront s (gaugeGo t) := keepsFront_gaugeRun h

/-! #### The rest of the release (R227, R230, R231, R263, R343) -/

theorem keepsFront_putTtb {x : Timetable} (h : KeepsFront s t) : KeepsFront s { t with ttb := x } := h

theorem keepsFront_modLane {g : Lane → Lane} (h : KeepsFront s t) : KeepsFront s (modLane i g t) := h

theorem keepsFront_takeTt (h : KeepsFront s t) : KeepsFront s (takeTt n t) := by
  unfold takeTt
  exact keepsFront_putTtb <| keepsFront_foldl (fun _ _ hu => keepsFront_ite (keepsFront_modLane hu) hu) h

theorem keepsFront_updateNomRate (h : KeepsFront s t) : KeepsFront s (updateNomRate t) := by
  unfold updateNomRate
  dsimp only
  split
  · exact keepsFront_setF (by decide) <| keepsFront_setF (by decide) h
  · refine keepsFront_ite ?_ ?_
    · exact keepsFront_setF (by decide) <| keepsFront_setF (by decide) h
    · exact keepsFront_flagEvt (by decide) (by decide) <| keepsFront_setF (by decide) <| keepsFront_setF (by decide) h

theorem keepsFront_etickLatch (h : KeepsFront s t) : KeepsFront s (etickLatch t) :=
  keepsFront_ite (keepsFront_updateNomRate <| keepsFront_setF (by decide) <| keepsFront_setF (by decide) <|
    keepsFront_setF (by decide) h) h

theorem keepsFront_coreIrq {m : Nat} (hm : m < 9) (h : KeepsFront s t) : KeepsFront s (coreIrq m k t) :=
  have hw : ¬ frontWord (R.DSP_IPEND m + F.DSP_IPEND_PEND.sub) := by
    simp only [frontWord, R.DSP_IPEND, R.PTS_FRONT, F.DSP_IPEND_PEND]
    omega
  keepsFront_setF (f := ⟨F.DSP_IPEND_PEND.sub, F.DSP_IPEND_PEND.lo + k, 1⟩) hw h

theorem keepsFront_fcmpMatch (h : KeepsFront s t) : KeepsFront s (fcmpMatch n t) := by
  have hw {m : Nat} : ¬ frontWord (R.DSP_FCMP m + F.DSP_FCMP_ARM.sub) := by
    simp only [frontWord, R.DSP_FCMP, R.PTS_FRONT, F.DSP_FCMP_ARM]
    omega
  exact keepsFront_foldl (fun _ hm hu => keepsFront_ite
    (keepsFront_coreIrq (List.mem_range.1 hm) (keepsFront_setF hw hu)) hu) h

theorem keepsFront_joinReady (h : KeepsFront s t) : KeepsFront s (joinReady t) :=
  keepsFront_ite (keepsFront_setF (by decide) <| keepsFront_flagEvt (by decide) (by decide) <|
    keepsFront_setF (by decide) h) h

end

/-! ### The block at the front is released (R68-R71) -/

section
variable {s : State} {n : Nat}

/-- A pair of registers takes a value modulo its width. -/
theorem get2_set2_mod {b v : Nat} {lo hi : Fld} (hlo : lo.lo + lo.w ≤ 40) (hhi : hi.lo + hi.w ≤ 40)
    (hsub : lo.sub ≠ hi.sub) : get2 b lo hi (set2 b lo hi v s) = v % 2 ^ (lo.w + hi.w) := by
  rw [get2, set2, getF_setF_other _ _ (by omega), getF_setF_same _ _ _ _ hlo, getF_setF_same _ _ _ _ hhi,
    pow_add, Nat.mod_mul, Nat.mul_comm]

/-- The block at the front is over: its samples are stored, and its missing ones counted (R69). -/
def blockStored (s : State) : State :=
  let n := frontNow s
  let ts := blockTrains n s
  let s := s.arr.streams.foldl (countMissing n) s
  let s := dropBlock n (ts.foldl writeTrain s)
  when (decide (s.pts.blocks + 120 ≤ n)) (ptsCond 7) s

/-- The Gauges may observe samples up to `n` (R108). -/
def limitMoved (n : Nat) (s : State) : State := { s with gau := { s.gau with limit := n } }

/-- The front and the Gauges' release limit stand at `n`. -/
def frontMoved (n : Nat) (s : State) : State := limitMoved n (setFront n s)

theorem frontNow_limitMoved : frontNow (limitMoved n s) = frontNow s := rfl

theorem limit_limitMoved : (limitMoved n s).gau.limit = n := rfl

theorem cpl_limitMoved : (limitMoved n s).cpl = s.cpl := rfl

theorem frontNow_setFront : frontNow (setFront n s) = n % 2 ^ 48 := get2_set2_mod (by decide) (by decide) (by decide)

theorem cpl_setFront : (setFront n s).cpl = s.cpl := by rw [setFront, set2, setF_cpl, setF_cpl]

theorem frontNow_frontMoved : frontNow (frontMoved n s) = n % 2 ^ 48 := frontNow_limitMoved.trans frontNow_setFront

theorem limit_frontMoved : (frontMoved n s).gau.limit = n := limit_limitMoved

theorem cpl_frontMoved : (frontMoved n s).cpl = s.cpl := cpl_limitMoved.trans cpl_setFront

theorem cpl_countMissing {e : StreamEntry} : (countMissing n s e).cpl = s.cpl := by
  have hcond {k m : Nat} {u : State} : (frameCond k m u).cpl = u.cpl := only_frameCond.2.1 .cpl (by decide)
  unfold countMissing countLate
  dsimp only
  split_ifs
  · rfl
  · rw [hcond, satF_cpl]
  · exact satF_cpl _ _ _ _

theorem cpl_foldl {β : Type} {l : List β} {g : State → β → State} (hg : ∀ u y, (g u y).cpl = u.cpl) :
    (l.foldl g s).cpl = s.cpl :=
  List.foldlRecOn (motive := fun u => u.cpl = s.cpl) l g rfl fun u hu y _ => (hg u y).trans hu

theorem cpl_writeTrain {a : ArrTrain} : (writeTrain s a).cpl = s.cpl := cpl_foldl fun _ _ => rfl

theorem cpl_dropBlock : (dropBlock n s).cpl = s.cpl := by
  unfold dropBlock
  refine cpl_foldl fun u i => ?_
  split
  · exact setLane_cpl _ _ _
  · rfl

theorem cpl_ptsCond : (ptsCond n s).cpl = s.cpl := (only_flagEvt _ _ _ _ s).2.1 .cpl (by decide)

theorem cpl_blockStored : (blockStored s).cpl = s.cpl := by
  have hpts {p : Bool} {u : State} : (when p (ptsCond 7) u).cpl = u.cpl := by
    cases p
    · rw [when_false]
    · rw [when_true, cpl_ptsCond]
  exact hpts.trans <| cpl_dropBlock.trans <| (cpl_foldl fun _ _ => cpl_writeTrain).trans <|
    cpl_foldl fun _ _ => cpl_countMissing

/-- One more release has gone by (R235). -/
def turnTaken (s : State) : State := { s with ttb := { s.ttb with turn := s.ttb.turn + 1 } }

theorem releaseBlock_eq : releaseBlock s = fcmpMatch (frontNow s + 40) (etickLatch (takeTt (frontNow s + 40)
    (turnTaken (gaugeGo (frontMoved (frontNow s + 40) (blockStored s)))))) := by
  unfold releaseBlock blockStored turnTaken frontMoved limitMoved
  rfl

theorem keepsFront_releaseBlock :
    KeepsFront (frontMoved (frontNow s + 40) (blockStored s)) (releaseBlock s) := by
  rw [releaseBlock_eq]
  exact keepsFront_fcmpMatch <| keepsFront_etickLatch <| keepsFront_takeTt <| keepsFront_putTtb <| keepsFront_gaugeGo .refl

/-! ### Joins (R340) -/

theorem leadReached_idle (h : ∀ j, s.cpl.anchor = some j → frontNow s < j) : leadReached s = s := by
  unfold leadReached
  split
  · rfl
  · next j hj => exact if_pos (h j hj)

theorem bankerReached_idle (h : ∀ j, s.cpl.join = some j → frontNow s < j) : bankerReached s = s := by
  unfold bankerReached
  split
  · rfl
  · next j hj => exact if_pos (h j hj)

/-- A front that no join index meets leaves the join alone. -/
theorem joinStep_idle (h : NoJoinAt n s) (hn : frontNow s ≤ n) : joinStep s = s := by
  obtain ⟨hanchor, hjoin, hcommit⟩ := h
  have hlead := leadReached_idle fun j hj => hn.trans_lt (hanchor j hj)
  have hbanker := bankerReached_idle fun j hj => hn.trans_lt (hjoin j hj)
  simp only [joinStep, joinReached, hlead, hbanker, hcommit, ite_self]

/-- The next release moves the front and the Gauges' limit by one block. -/
theorem releaseNext_advances (h : NoJoinAt (frontNow s + 40) s) :
    frontNow (releaseNext s) = (frontNow s + 40) % 2 ^ 48 ∧ (releaseNext s).gau.limit = frontNow s + 40 := by
  have hblock := keepsFront_releaseBlock (s := s)
  have hfront : frontNow (releaseBlock s) = (frontNow s + 40) % 2 ^ 48 :=
    hblock.frontNow_eq.trans frontNow_frontMoved
  have hcpl : (releaseBlock s).cpl = s.cpl := by
    rw [hblock.cpl_eq, cpl_frontMoved, cpl_blockStored]
  have hidle : joinStep (releaseBlock s) = releaseBlock s := by
    refine joinStep_idle (n := frontNow s + 40) ?_ (hfront.trans_le (Nat.mod_le _ _))
    rwa [NoJoinAt, hcpl]
  have hkeep : KeepsFront _ (joinReady (releaseBlock s)) := hblock.trans (keepsFront_joinReady .refl)
  rw [releaseNext, hidle]
  exact ⟨hkeep.frontNow_eq.trans frontNow_frontMoved, hkeep.limit_eq.trans limit_frontMoved⟩

end

/-- Each of the three instants of R68 and R71 releases the block at the front. -/
theorem releaseAdvancesTheFront : ReleaseAdvancesTheFront := by
  refine ⟨fun s hok hjoin hready => ?_, fun s hok hjoin hready => ?_, fun s hok hjoin hnone => ?_⟩
  · have hrelease : blockRelease s = releaseNext s := if_pos (by rw [hok, hready]; rfl)
    exact ⟨_, congrArg Host.Outcome.next hrelease, releaseNext_advances hjoin⟩
  · have hrelease : arrSkewExpiry s = releaseNext s := if_pos (by rw [hok, hready]; rfl)
    exact ⟨_, congrArg Host.Outcome.next hrelease, releaseNext_advances hjoin⟩
  · have hrelease : nominalRelease s = releaseNext s := if_pos (by rw [hok, hnone]; rfl)
    exact ⟨_, congrArg Host.Outcome.next hrelease, releaseNext_advances hjoin⟩

/-- Settles O6: a train is what `sendTrain` puts on the line, and nothing after the release's move of the front writes it
again. -/
theorem trainsLeaveAndBlocksAreReleased : Obligations.TrainsLeaveAndBlocksAreReleased :=
  ⟨trainsLeaveWithNextSeq, releaseAdvancesTheFront⟩

end Sys2Proof.Safety

namespace Sys2Proof.Safety
open Sys2Proof.Machine

/-! ### The beam delay bank while a swap to it is committed (R215, R216) -/

/-- The delay bank was made ready and a swap to it is committed; TBL_DCHK has since been written with a check word that is
not the signature. -/
def delaySwapCommitted : State :=
  { regs := [(R.TBL_DTAG, 0x10000#40), (R.TBL_DCHK, 1#40)], tbl := { dswap := { at_ := [0] }, chkNew := true } }

/-- TAG written by the Depot in that state, which it reaches during the boot. -/
def delayTagWritten : State := fieldWrite 9 R.TBL_DTAG F.TBL_DTAG_TAG 0 delaySwapCommitted

theorem reaches_delaySwapCommitted : Reaches 9 R.TBL_DTAG delaySwapCommitted := by
  have hsome : (targetOf R.TBL_DTAG).isSome = true := by decide
  obtain ⟨r, hr⟩ := Option.isSome_iff_exists.1 hsome
  have hans : (targetOf R.TBL_DTAG).all (fun r => answers 9 R.TBL_DTAG r delaySwapCommitted) = true := by decide
  rw [hr] at hans
  exact ⟨r, hr, hans⟩

/-- The mark of the committed swap stands, whatever the comparison says. -/
theorem ready_delayTagWritten : isSet R.TBL_DTAG F.TBL_DTAG_READY delayTagWritten = true := by decide +kernel

theorem delayCheck_ne_signature : getF R.TBL_DCHK F.TBL_DCHK_CHK delaySwapCommitted
    ≠ getF R.TBL_DSIG F.TBL_DSIG_SIG delaySwapCommitted := by decide +kernel

/-- Refutes O14: the clause of TAG does not ask that no swap is committed. A committed swap keeps READY (R107), so a TAG
written then leaves READY set although the check word is not the signature. -/
theorem not_tableBanksTakeWrites : ¬ Obligations.TableBanksTakeWrites := by
  rintro ⟨-, -, htag, -⟩
  obtain ⟨t, ht, -, -, -, hready⟩ := htag 9 0 delaySwapCommitted reaches_delaySwapCommitted
  obtain rfl : delayTagWritten = t := Host.Outcome.next.inj ht
  exact delayCheck_ne_signature ((hready rfl).1 ready_delayTagWritten)

end Sys2Proof.Safety

namespace Sys2Proof.Safety
open Sys2Proof.Machine

/-! ### The snapshot of the counts against the Block Bell (R240) -/

section
variable {i j k n b a : Nat} {f : Fld} {s : State}

theorem cfgN_lt : cfgN s < 2 ^ 14 := bitsOf_lt _ _ _

theorem rd_satF_other (h : a ≠ b + f.sub) : rd a (satF b f k s) = rd a s := rd_setF_other _ _ h

/-- The first `n` inputs copied: nothing but their copies is written. -/
theorem rd_copies_other (h : ∀ i < n, a ≠ snapIc i k) :
    rd a ((List.range n).foldl (fun s i => wr (snapIc i k) (rd (icnt i k) s) s) s) = rd a s :=
  List.foldlRecOn (motive := fun t => rd a t = rd a s) _ _ rfl fun _ ht i hi =>
    (rd_wr_other _ _ (h i (List.mem_range.1 hi))).trans ht

/-- The copy of each of them holds its count. -/
theorem rd_copies (hn : n ≤ 2 ^ 14) (hi : i < n) :
    rd (snapIc i k) ((List.range n).foldl (fun s i => wr (snapIc i k) (rd (icnt i k) s) s) s) = rd (icnt i k) s := by
  induction n with
  | zero => omega
  | succ n ih =>
    rw [List.range_succ, List.foldl_append, List.foldl_cons, List.foldl_nil]
    rcases Nat.lt_succ_iff_lt_or_eq.1 hi with hlt | rfl
    · rw [rd_wr_other _ _ (by unfold snapIc; omega)]
      exact ih (by omega) hlt
    · rw [rd_wr_same]
      exact rd_copies_other fun j hj => by unfold icnt snapIc; omega

theorem rd_copyIcnt (hi : i < cfgN s) : rd (snapIc i k) (copyIcnt k s) = rd (icnt i k) s := rd_copies cfgN_lt.le hi

theorem countExcised_cases {ic : Nat × Nat} :
    countExcised b s ic = s ∨ ∃ n, countExcised b s ic = satF (icnt ic.1 0) wordField n s := by
  unfold countExcised
  extract_lets p n
  split
  · exact .inl rfl
  · exact .inr ⟨n, rfl⟩

/-- No excised count is a word of the Block Bell. -/
theorem rd_countExcised {ic : Nat × Nat} (ha : a < icnt 0 0) : rd a (countExcised b s ic) = rd a s := by
  rcases countExcised_cases (b := b) (s := s) (ic := ic) with h | ⟨n, h⟩
  · rw [h]
  · rw [h]
    refine rd_satF_other (Nat.ne_of_lt (ha.trans_le ?_))
    simp only [icnt]
    omega

theorem pts_countExcised {ic : Nat × Nat} : (countExcised b s ic).pts = s.pts := by
  rcases countExcised_cases (b := b) (s := s) (ic := ic) with h | ⟨n, h⟩
  · rw [h]
  · rw [h, satF, setF_pts]

/-- Block `b` with the snapshot taken and its excised samples counted. -/
def blockCounted (b : Nat) (s : State) : State := (allPairs s).foldl (countExcised b) (snapBlock b s)

theorem rd_blockCounted (ha : a < icnt 0 0) : rd a (blockCounted b s) = rd a (snapBlock b s) :=
  List.foldlRecOn (motive := fun t => rd a t = rd a (snapBlock b s)) _ _ rfl fun _ ht _ _ => (rd_countExcised ha).trans ht

theorem pts_blockCounted : (blockCounted b s).pts = (snapBlock b s).pts :=
  List.foldlRecOn (motive := fun t : State => t.pts = (snapBlock b s).pts) _ _ rfl fun _ ht _ _ => pts_countExcised.trans ht

theorem pts_copyIcnt : (copyIcnt k s).pts = s.pts :=
  List.foldlRecOn (motive := fun t : State => t.pts = s.pts) _ _ rfl fun _ ht _ _ => ht

theorem rd_snapBlock_due (h : s.ttb.snapB = some 0) : rd a (snapBlock 0 s) = rd a (copyIcnt 0 s) := by
  rw [snapBlock, h]
  rfl

theorem pts_snapBlock_due (h : s.ttb.snapB = some 0) : (snapBlock 0 s).pts = s.pts := by
  rw [snapBlock, h]
  exact pts_copyIcnt

/-- The snapshot's copy of input 9,297's count lands on the word of event 5:4 in the Block Bell. -/
theorem snapIc_eq_belSrc : snapIc 9297 0 = R.BEL_SRC (ev 5 4) := by decide

theorem rd_bell_blockCounted (hdue : s.ttb.snapB = some 0) (hn : 9297 < cfgN s) :
    rd (R.BEL_SRC (ev 5 4)) (blockCounted 0 s) = rd (icnt 9297 0) s := by
  rw [rd_blockCounted (by decide), rd_snapBlock_due hdue, ← snapIc_eq_belSrc]
  exact rd_copyIcnt hn

theorem rd_ptsCfg_blockCounted (hdue : s.ttb.snapB = some 0) : rd R.PTS_CFG (blockCounted 0 s) = rd R.PTS_CFG s := by
  rw [rd_blockCounted (by decide), rd_snapBlock_due hdue]
  have hn : cfgN s < 2 ^ 14 := cfgN_lt
  exact rd_copies_other fun i _ => by unfold snapIc R.PTS_CFG; omega

theorem pts_blockCounted_due (hdue : s.ttb.snapB = some 0) : (blockCounted 0 s).pts = s.pts :=
  pts_blockCounted.trans (pts_snapBlock_due hdue)

/-- The filter's step with the Points disabled and a full headshunt of stack 0. -/
theorem rd_pointsBlockFilter_disabled (hrun : (!frontValid s || pstate s != 1 || frontNow s < s.pts.blocks + 120
      || s.gau.acts != []) = false) (hpts : isSet R.PTS_CTRL F.PTS_CTRL_EN s = false)
    (hsdg : isSet R.SDG_CTRL F.SDG_CTRL_EN s = true) :
    rd a (pointsBlockFilter [] [0] [] s) = rd a (formBlock 41 [] [] (blockCounted s.pts.blocks (raise (ev 5 4) s))) := by
  simp only [pointsBlockFilter, hrun, hpts, Bool.false_eq_true, if_false, List.foldl_nil, List.map_nil, List.append_nil, hsdg,
    when_true, List.foldl_cons, blockCounted, Nat.mul_zero, Nat.zero_add]
  rfl

theorem formBlock_of_open {m : Nat} {bad : List (Nat × Nat × Nat)} {bus : List (Nat × Nat)}
    (h : s.pts.blocks + 40 < cfgP s * s.pts.nextJ + 8 * cfgP s) : formBlock (m + 1) bad bus s = s := if_neg (by omega)

end

/-- PTS_CFG.N names 9,298 inputs, more than a write of it takes; a snapshot waits for the block that is filtered next, and no
window ends in that block. -/
def snapshotPastInputs : State :=
  { regs := [(R.SUB_STATE, 1#40), (R.PTS_CFG, 0x1006452#40), (R.PTS_FRONT, 120#40), (R.PTS_FRONT + 1, 0x100#40),
      (R.SDG_CTRL, 0x9#40)],
    pts := { nextJ := 100 }, ttb := { snapB := some 0 } }

theorem snapshotPastInputs_runs : (!frontValid snapshotPastInputs || pstate snapshotPastInputs != 1
    || frontNow snapshotPastInputs < snapshotPastInputs.pts.blocks + 120 || snapshotPastInputs.gau.acts != []) = false := by
  decide +kernel

/-- The headshunt's event reported. -/
def headshuntReported : State := raise (ev 5 4) snapshotPastInputs

theorem headshuntReported_pts : headshuntReported.pts = { nextJ := 100 } := by decide +kernel

theorem headshuntReported_cfgN : cfgN headshuntReported = 9298 := by decide +kernel

theorem rd_icnt_headshuntReported : rd (icnt 9297 0) headshuntReported = 0 := by decide +kernel


theorem ttb_headshuntReported : headshuntReported.ttb.snapB = some 0 := by decide +kernel

theorem rd_ptsCfg_headshuntReported : rd R.PTS_CFG headshuntReported = 0x1006452 := by decide +kernel

theorem cfgP_of_rd {s : State} (h : rd R.PTS_CFG s = 0x1006452) : cfgP s = 1 := by
  rw [cfgP, getF, show R.PTS_CFG + F.PTS_CFG_PLOG.sub = R.PTS_CFG from rfl, h]
  decide

/-- No window ends in the block. -/
theorem formBlock_headshuntReported :
    formBlock 41 [] [] (blockCounted 0 headshuntReported) = blockCounted 0 headshuntReported := by
  have hcfg := cfgP_of_rd ((rd_ptsCfg_blockCounted ttb_headshuntReported).trans rd_ptsCfg_headshuntReported)
  have hpts := (pts_blockCounted_due ttb_headshuntReported).trans headshuntReported_pts
  refine formBlock_of_open ?_
  rw [hcfg, hpts]
  decide

/-- The filter's step leaves the event's word as the snapshot left it. -/
theorem rd_bell_pointsBlockFilter :
    rd (R.BEL_SRC (ev 5 4)) (pointsBlockFilter [] [0] [] snapshotPastInputs) = 0 := by
  have hn : 9297 < cfgN headshuntReported := by rw [headshuntReported_cfgN]; decide
  have hblocks : snapshotPastInputs.pts.blocks = 0 := rfl
  rw [rd_pointsBlockFilter_disabled snapshotPastInputs_runs (by decide +kernel) (by decide +kernel), hblocks,
    ← headshuntReported, formBlock_headshuntReported, rd_bell_blockCounted ttb_headshuntReported hn, rd_icnt_headshuntReported]

/-- Refutes O11: the clause of the block filter bounds no number of inputs. PTS_CFG.N holds 14 bits; with 9,298 inputs the
snapshot that the block completes copies input 9,297's count over the Bell word of the event that the same step raised. -/
theorem not_pointsAndGaugesAdvance : ¬ Obligations.PointsAndGaugesAdvance := by
  rintro ⟨hfilter, -⟩
  obtain ⟨t, ht, -, -, -, -, hraised⟩ := hfilter [] [0] [] snapshotPastInputs (by decide +kernel) (by decide +kernel)
    (by decide +kernel) rfl (by decide +kernel) (by decide +kernel)
  obtain rfl : pointsBlockFilter [] [0] [] snapshotPastInputs = t := Host.Outcome.next.inj ht
  have hlost : isSet (R.BEL_SRC (ev 5 4)) F.BEL_SRC_STS (pointsBlockFilter [] [0] [] snapshotPastInputs) = false := by
    rw [isSet, getF, show R.BEL_SRC (ev 5 4) + F.BEL_SRC_STS.sub = R.BEL_SRC (ev 5 4) from rfl, rd_bell_pointsBlockFilter]
    decide
  exact absurd (hlost.symm.trans (hraised (by decide +kernel) 0 (List.mem_singleton_self 0))) Bool.false_ne_true

end Sys2Proof.Safety

namespace Sys2Proof.Safety
open Sys2Proof.Machine

/-! ### A write of a word that reports nothing

A word of RW, RO, WO and W1C fields that take zero has its fields stored, and neither RWL_LOCKED nor CFG_ZERO follows. -/

/-- No field of the word is locked by the seal, and none rejects zero. -/
def Unguarded (d : WordDef) : Prop := ∀ f ∈ d.fields, f.acc ≠ .rwl ∧ f.zrej = false

/-- A register with content that no master's own word covers. -/
structure OwnRegister (a : Nat) : Prop where
  register : RegisterWord a
  apart : ∀ m, m < 16 → a ≠ R.ILK_MST m
  content : ∀ s, wordVoid a s = false

/-- The word with its fields stored, once the access is counted. -/
def wordStored (d : WordDef) (m a : Nat) (v : Word) (s : State) : State :=
  wr a (d.fields.foldl (fun x f => f.store a v (!sealed s) (countIssue m s) x) (rd a s)) (countIssue m s)

section
variable {s : State} {m a b n : Nat} {v : Word} {w : WordDef} {d : FieldDef} {f : Fld}

theorem not_locked_of_unguarded (h : Unguarded w) (free : Bool) : (w.fields.any fun f => f.locked free s) = false := by
  refine List.any_eq_false.2 fun f hf hl => (h f hf).1 ?_
  have hacc : (f.acc == .rwl) = true := by
    rw [FieldDef.locked, Bool.and_eq_true, Bool.and_eq_true] at hl
    exact hl.1.1
  revert hacc
  cases f.acc <;> decide

theorem not_zero_of_unguarded (h : Unguarded w) : (w.fields.any fun f => f.zero v) = false := by
  refine List.any_eq_false.2 fun f hf hz => ?_
  rw [FieldDef.zero, (h f hf).2, Bool.false_and] at hz
  exact Bool.false_ne_true hz

theorem writeAccess_unguarded (hm : m < 16) (h : OwnRegister a) (hq : foreignEnq m a = false) (hr : Reaches m a s)
    (hd : regDef a = some w) (hw : Unguarded w) :
    writeAccess m a v s
      = putAnswer m ⟨0, [], 1⟩ (regEffect m a (rd a s) v false (!sealed s) (wordStored w m a v s)) := by
  have hreg := (wordWrite_register h.register (h.content (countIssue m s)) v).trans
    (congrArg (Prod.mk 0) (regWrite1_eq hd hq _))
  rw [writeAccess_okay hm hr h.register.below hreg, fieldsWritten, not_locked_of_unguarded hw, not_zero_of_unguarded hw,
    when_false, when_false, sealed_countIssue hm, rd_countIssue (h.apart m hm), wordStored]

theorem bitsOf_wordStored (hd : regDef a = some w) (hf : d ∈ w.fields) :
    bitsOf (rd a (wordStored w m a v s)) d.fld.lo d.fld.w
      = storedField d a v (!sealed s) (countIssue m s) (bitsOf (rd a s) d.fld.lo d.fld.w) := by
  rw [wordStored, rd_wr_same]
  exact bitsOf_foldl_store (regDef_fieldsFit hd) hf

/-- A field without a range or a condition of its own takes what is written to it. -/
theorem bitsOf_wordStored_taken (hd : regDef a = some w) (hf : d ∈ w.fields) (hacc : d.acc = .rw) (hrule : d.rule = .any)
    (hz : d.zrej = false) (hs : Fld.special a d.fld (countIssue m s) = false) :
    bitsOf (rd a (wordStored w m a v s)) d.fld.lo d.fld.w = bitsOf v d.fld.lo d.fld.w := by
  have hany : d.rule.holds a (bitsOf v d.fld.lo d.fld.w) v (countIssue m s) = true := by rw [hrule]; rfl
  simp only [bitsOf_wordStored hd hf, storedField, hacc, hs, hz, hany, Bool.false_and, Bool.or_self, Bool.not_true,
    Bool.false_eq_true, if_false]

/-- A field that a write holds while its condition lasts. -/
theorem bitsOf_wordStored_special (hd : regDef a = some w) (hf : d ∈ w.fields) (hacc : d.acc = .rw)
    (hs : Fld.special a d.fld (countIssue m s) = true) :
    bitsOf (rd a (wordStored w m a v s)) d.fld.lo d.fld.w = bitsOf (rd a s) d.fld.lo d.fld.w := by
  simp only [bitsOf_wordStored hd hf, storedField, hacc, hs, Bool.true_or, if_true]

/-- The other fields keep their values when one field is written. -/
theorem bitsOf_wordStored_kept (hd : regDef a = some w) (hf : d ∈ w.fields) (hacc : d.acc ≠ .wo ∧ d.acc ≠ .w1c)
    (hfit : f.lo + f.w ≤ 40) (hapart : Apart f d.fld) :
    bitsOf (rd a (wordStored w m a (putBits (heldWord a s) f.lo f.w n) s)) d.fld.lo d.fld.w
      = bitsOf (rd a s) d.fld.lo d.fld.w := by
  have hheld := bitsOf_held_kept (s := s) (n := n) hd hf hacc hfit hapart
  rw [bitsOf_wordStored hd hf, ← hheld, storedField_held hacc.2]

theorem only_wordStored : Only [] (fun b => b = a ∨ b = R.ILK_MST m) s (wordStored w m a v s) :=
  (only_countIssue.widen (by simp) fun _ h => .inr h).trans ((only_wr _ _ _).widen (by simp) fun _ h => .inl h)

theorem rd_wordStored_other (hb : b ≠ a) (hm : b ≠ R.ILK_MST m) : rd b (wordStored w m a v s) = rd b s :=
  only_wordStored.2.2 b (not_or.2 ⟨hb, hm⟩)

end

end Sys2Proof.Safety

namespace Sys2Proof.Safety
open Sys2Proof.Machine

/-! ### The registers of the Points -/

/-- The words of the Points' registers. -/
def PointsRegister (a : Nat) : Prop := 0x3000000 ≤ a ∧ a < 0x3000010

def ptsCtrlRow : WordDef := ⟨0x3000001, 0x1, 1, [⟨F.PTS_CTRL_EN, .rw, false, .any⟩,
  ⟨F.PTS_CTRL_CBANK, .ro, false, .any⟩, ⟨F.PTS_CTRL_GBANK, .ro, false, .any⟩, ⟨F.PTS_CTRL_PBANK, .ro, false, .any⟩,
  ⟨F.PTS_CTRL_CLRCNT, .wo, false, .any⟩]⟩

def ptsBanksRow : WordDef := ⟨0x3000005, 0x1, 1, [⟨F.PTS_BANKS_CRDY, .rw, false, .any⟩,
  ⟨F.PTS_BANKS_GRDY, .rw, false, .any⟩, ⟨F.PTS_BANKS_CMISS, .ro, false, .any⟩,
  ⟨F.PTS_BANKS_GMISS, .ro, false, .any⟩]⟩

def ptsPsegRow : WordDef := ⟨0x3000006, 0x1, 1,
  [⟨F.PTS_PSEG_TAG, .rw, false, .any⟩, ⟨F.PTS_PSEG_READY, .ro, false, .any⟩]⟩

def ptsPsegChkRow : WordDef := ⟨0x3000008, 0x1, 1, [⟨F.PTS_PSEG_CHK_CHK, .rw, false, .any⟩]⟩

theorem regDef_ptsCtrl : regDef R.PTS_CTRL = some ptsCtrlRow := by decide
theorem regDef_ptsBanks : regDef R.PTS_BANKS = some ptsBanksRow := by decide
theorem regDef_ptsPseg : regDef R.PTS_PSEG = some ptsPsegRow := by decide
theorem regDef_ptsPsegChk : regDef R.PTS_PSEG_CHK = some ptsPsegChkRow := by decide

section
variable {s u : State} {m a b n : Nat} {v : Word} {w : WordDef} {d : FieldDef} {f : Fld}

theorem PointsRegister.ownRegister (h : PointsRegister a) : OwnRegister a := by
  obtain ⟨hlo, hhi⟩ := h
  refine ⟨by unfold RegisterWord; omega, fun m hm => by unfold R.ILK_MST; omega, fun s => ?_⟩
  simp only [wordVoid, show a / 0x10000 = 0x300 by omega]

theorem PointsRegister.foreignEnq (h : PointsRegister a) : foreignEnq m a = false := by
  obtain ⟨hlo, hhi⟩ := h
  rw [Machine.foreignEnq, decide_eq_false (p := a < 0x1000068) (by omega), Bool.and_false, Bool.false_and]

theorem PointsRegister.regEffect (h : PointsRegister a) {old : Word} {l fr : Bool} :
    regEffect m a old v l fr s = ptsEffect a v s := by
  obtain ⟨hlo, hhi⟩ := h
  simp only [Machine.regEffect, show a / 0x10000 = 0x300 by omega]

/-- The word that a writer of one field writes. -/
def heldField (a : Nat) (f : Fld) (n : Nat) (s : State) : Word := putBits (heldWord a s) f.lo f.w n

/-- A field of a Points register written: the word is stored, then the write has its effect. -/
theorem fieldWrite_points (hm : m < 16) (h : PointsRegister a) (hr : Reaches m a s) (hd : regDef a = some w)
    (hw : Unguarded w) (hf : f.sub = 0) :
    fieldWrite m a f n s = putAnswer m ⟨0, [], 1⟩
      (ptsEffect a (heldField a f n s) (wordStored w m a (heldField a f n s) s)) := by
  rw [fieldWrite_eq hf, writeAccess_unguarded hm h.ownRegister h.foreignEnq hr hd hw, h.regEffect, heldField]

/-- Only the marks of PTS_BANKS have a condition of their own, while a swap is committed. -/
theorem special_points (h : PointsRegister a) (hne : a ≠ R.PTS_BANKS) : Fld.special a f s = false := by
  obtain ⟨hlo, hhi⟩ := h
  simp only [Fld.special, show a / 0x10000 = 0x300 by omega, beq_eq_false_iff_ne.2 hne, Bool.false_and]

theorem getF_points_taken (hd : regDef a = some w) (hf : d ∈ w.fields) (hacc : d.acc = .rw) (hrule : d.rule = .any)
    (hz : d.zrej = false) (hs : Fld.special a d.fld (countIssue m s) = false) (hsub : d.fld.sub = 0) :
    getF a d.fld (wordStored w m a (heldField a d.fld n s) s) = n % 2 ^ d.fld.w := by
  rw [getF, hsub, Nat.add_zero, bitsOf_wordStored_taken hd hf hacc hrule hz hs, heldField,
    bitsOf_putBits_same _ _ _ _ ((regDef_fieldsFit hd).2 d hf)]

theorem getF_points_kept (hd : regDef a = some w) (hf : d ∈ w.fields) (hacc : d.acc ≠ .wo ∧ d.acc ≠ .w1c)
    (hfit : f.lo + f.w ≤ 40) (hapart : Apart f d.fld) (hsub : d.fld.sub = 0) :
    getF a d.fld (wordStored w m a (heldField a f n s) s) = getF a d.fld s := by
  rw [getF, getF, hsub, Nat.add_zero, heldField, bitsOf_wordStored_kept hd hf hacc hfit hapart]

end

/-! ### The phase segment bank (R100) -/

section
variable {s u : State} {a b n : Nat} {m : Master} {v : Word} {f : Fld}

theorem psegReadyCheck_equal (ht : u.pts.tagNew = true) (hc : u.pts.chkNew = true)
    (h : getF R.PTS_PSEG_CHK F.PTS_PSEG_CHK_CHK u = getF R.PTS_PSEG_SIG F.PTS_PSEG_SIG_SIG u) :
    psegReadyCheck u = setF R.PTS_PSEG F.PTS_PSEG_READY 1 u := by
  rw [psegReadyCheck, ht, hc, Bool.and_self, if_pos rfl, if_pos h]

theorem psegReadyCheck_unequal (ht : u.pts.tagNew = true) (hc : u.pts.chkNew = true)
    (h : getF R.PTS_PSEG_CHK F.PTS_PSEG_CHK_CHK u ≠ getF R.PTS_PSEG_SIG F.PTS_PSEG_SIG_SIG u) :
    psegReadyCheck u = ptsCond 3 (setF R.PTS_PSEG F.PTS_PSEG_READY 0 u) := by
  rw [psegReadyCheck, ht, hc, Bool.and_self, if_pos rfl, if_neg h]

theorem only_ptsCond : Only [.bellq, .health] (fun a => a = R.PTS_STATUS ∨ bellWord (ev 3 (16 + n)) a) s (ptsCond n s) :=
  only_flagEvt _ _ _ _ s

theorem not_bellWord_points {k : Nat} (hk : k < 9) (ha : 0x3000000 ≤ a) : ¬ bellWord (ev 3 (16 + k)) a := by
  simp only [bellWord, ev, R.BEL_SRC, R.BEL_LOGPOS, R.BEL_LOG]
  omega

theorem rd_ptsCond (hn : n < 9) (ha : 0x3000000 ≤ a) (hne : a ≠ R.PTS_STATUS) : rd a (ptsCond n s) = rd a s :=
  only_ptsCond.2.2 a (not_or.2 ⟨hne, not_bellWord_points hn ha⟩)

/-- A condition of the Points sets its bit. -/
theorem getBit_ptsCond (hn : n < 9) : getBit R.PTS_STATUS ⟨0, 0, 9⟩ n (ptsCond n s) = true :=
  getBit_flagEvt hn (by dsimp only; omega) (not_bellWord_points hn (by decide))

theorem only_psegReadyCheck : Only [.bellq, .health]
    (fun a => a = R.PTS_PSEG ∨ a = R.PTS_STATUS ∨ bellWord (ev 3 19) a) u (psegReadyCheck u) := by
  have hset (x : Nat) : Only [.bellq, .health] (fun a => a = R.PTS_PSEG ∨ a = R.PTS_STATUS ∨ bellWord (ev 3 19) a) u
      (setF R.PTS_PSEG F.PTS_PSEG_READY x u) := (only_setF _ _ _ _).widen (by simp) fun _ h => .inl h
  unfold psegReadyCheck
  split
  · split
    · exact hset 1
    · exact (hset 0).trans (only_ptsCond.widen (by simp) fun _ h => .inr h)
  · exact Only.refl _ _ _

theorem rd_psegReadyCheck_other (ha : 0x3000000 ≤ a) (hp : a ≠ R.PTS_PSEG) (hs : a ≠ R.PTS_STATUS) :
    rd a (psegReadyCheck u) = rd a u :=
  only_psegReadyCheck.2.2 a (not_or.2 ⟨hp, not_or.2 ⟨hs, not_bellWord_points (k := 3) (by decide) ha⟩⟩)

/-- The check moves no field of PTS_PSEG beside READY. -/
theorem getF_tag_psegReadyCheck :
    getF R.PTS_PSEG F.PTS_PSEG_TAG (psegReadyCheck u) = getF R.PTS_PSEG F.PTS_PSEG_TAG u := by
  have hset (x : Nat) : getF R.PTS_PSEG F.PTS_PSEG_TAG (setF R.PTS_PSEG F.PTS_PSEG_READY x u)
      = getF R.PTS_PSEG F.PTS_PSEG_TAG u := getF_setF_apart _ _ (by decide) (by decide)
  unfold psegReadyCheck
  split
  · split
    · exact hset 1
    · exact (getF_congr (rd_ptsCond (by decide) (by decide) (by decide))).trans (hset 0)
  · rfl

/-- What the check says of the bank (R100). -/
theorem psegReadyCheck_says (ht : u.pts.tagNew = true) (hc : u.pts.chkNew = true) :
    (getF R.PTS_PSEG_CHK F.PTS_PSEG_CHK_CHK u = getF R.PTS_PSEG_SIG F.PTS_PSEG_SIG_SIG u →
      isSet R.PTS_PSEG F.PTS_PSEG_READY (psegReadyCheck u) = true)
    ∧ (getF R.PTS_PSEG_CHK F.PTS_PSEG_CHK_CHK u ≠ getF R.PTS_PSEG_SIG F.PTS_PSEG_SIG_SIG u →
      isSet R.PTS_PSEG F.PTS_PSEG_READY (psegReadyCheck u) = false
        ∧ getBit R.PTS_STATUS ⟨0, 0, 9⟩ 3 (psegReadyCheck u) = true) := by
  have hset (x : Nat) : isSet R.PTS_PSEG F.PTS_PSEG_READY (setF R.PTS_PSEG F.PTS_PSEG_READY x u) = (x % 2 ^ 1 != 0) := by
    rw [isSet, getF_setF_same _ _ _ _ (by decide)]
    rfl
  refine ⟨fun h => ?_, fun h => ?_⟩
  · rw [psegReadyCheck_equal ht hc h, hset]
    rfl
  · rw [psegReadyCheck_unequal ht hc h]
    exact ⟨(isSet_congr (rd_ptsCond (by decide) (by decide) (by decide))).trans (hset 0), getBit_ptsCond (by decide)⟩

theorem unguarded_ptsPseg : Unguarded ptsPsegRow := by unfold Unguarded; decide

theorem unguarded_ptsPsegChk : Unguarded ptsPsegChkRow := by unfold Unguarded; decide

/-- A TAG, and a check word, since the bank became the inactive one. -/
def tagNoted (s : State) : State := { s with pts := { s.pts with tagNew := true } }
def checkNoted (s : State) : State := { s with pts := { s.pts with chkNew := true } }

theorem rd_tagNoted : rd a (tagNoted s) = rd a s := rfl
theorem rd_checkNoted : rd a (checkNoted s) = rd a s := rfl
theorem ptsEffect_pseg : ptsEffect R.PTS_PSEG v s = psegReadyCheck (tagNoted s) := rfl
theorem ptsEffect_psegChk : ptsEffect R.PTS_PSEG_CHK v s = psegReadyCheck (checkNoted s) := rfl

/-- PTS_PSEG with a TAG stored, the TAG new. -/
def tagStored (m tag : Nat) (s : State) : State :=
  tagNoted (wordStored ptsPsegRow m R.PTS_PSEG (heldField R.PTS_PSEG F.PTS_PSEG_TAG tag s) s)

/-- The check word stored and new. -/
def checkStored (m chk : Nat) (s : State) : State :=
  checkNoted (wordStored ptsPsegChkRow m R.PTS_PSEG_CHK (heldField R.PTS_PSEG_CHK F.PTS_PSEG_CHK_CHK chk s) s)

theorem fieldWrite_tag (hr : Reaches m R.PTS_PSEG s) : fieldWrite m R.PTS_PSEG F.PTS_PSEG_TAG n s
    = putAnswer m ⟨0, [], 1⟩ (psegReadyCheck (tagStored m n s)) := by
  rw [fieldWrite_points m.isLt (by unfold PointsRegister; decide) hr regDef_ptsPseg unguarded_ptsPseg rfl, ptsEffect_pseg,
    tagStored]

theorem fieldWrite_check (hr : Reaches m R.PTS_PSEG_CHK s) : fieldWrite m R.PTS_PSEG_CHK F.PTS_PSEG_CHK_CHK n s
    = putAnswer m ⟨0, [], 1⟩ (psegReadyCheck (checkStored m n s)) := by
  rw [fieldWrite_points m.isLt (by unfold PointsRegister; decide) hr regDef_ptsPsegChk unguarded_ptsPsegChk rfl,
    ptsEffect_psegChk, checkStored]

theorem pts_wordStored {k c : Nat} {w : WordDef} : (wordStored w k c v s).pts = s.pts :=
  only_wordStored.2.1 .pts (by simp)

theorem pts_psegReadyCheck : (psegReadyCheck u).pts = u.pts := only_psegReadyCheck.2.1 .pts (by decide)

theorem PointsRegister.apart (h : PointsRegister a) : a ≠ R.ILK_MST m := h.ownRegister.apart m m.isLt

/-- Beside the word written, the registers of the Points are as before. -/
theorem rd_tagStored_other (h : PointsRegister a) (hne : a ≠ R.PTS_PSEG) : rd a (tagStored m n s) = rd a s := by
  rw [tagStored, rd_tagNoted, rd_wordStored_other hne h.apart]

theorem rd_checkStored_other (h : PointsRegister a) (hne : a ≠ R.PTS_PSEG_CHK) : rd a (checkStored m n s) = rd a s := by
  rw [checkStored, rd_checkNoted, rd_wordStored_other hne h.apart]

theorem pointsRegister_pseg : PointsRegister R.PTS_PSEG := by unfold PointsRegister; decide
theorem pointsRegister_psegSig : PointsRegister R.PTS_PSEG_SIG := by unfold PointsRegister; decide
theorem pointsRegister_psegChk : PointsRegister R.PTS_PSEG_CHK := by unfold PointsRegister; decide

theorem getF_tag_tagStored : getF R.PTS_PSEG F.PTS_PSEG_TAG (tagStored m n s) = n % 2 ^ 16 := by
  rw [tagStored, getF_congr rd_tagNoted]
  exact getF_points_taken (d := ⟨F.PTS_PSEG_TAG, .rw, false, .any⟩) regDef_ptsPseg (by decide) rfl rfl rfl
    (special_points pointsRegister_pseg (by decide)) rfl

theorem getF_chk_checkStored : getF R.PTS_PSEG_CHK F.PTS_PSEG_CHK_CHK (checkStored m n s) = n % 2 ^ 32 := by
  rw [checkStored, getF_congr rd_checkNoted]
  exact getF_points_taken (d := ⟨F.PTS_PSEG_CHK_CHK, .rw, false, .any⟩) regDef_ptsPsegChk (by decide) rfl rfl rfl
    (special_points pointsRegister_psegChk (by decide)) rfl

theorem chk_tagStored : getF R.PTS_PSEG_CHK F.PTS_PSEG_CHK_CHK (tagStored m n s) = getF R.PTS_PSEG_CHK F.PTS_PSEG_CHK_CHK s :=
  getF_congr (rd_tagStored_other pointsRegister_psegChk (by decide))

theorem sig_tagStored : getF R.PTS_PSEG_SIG F.PTS_PSEG_SIG_SIG (tagStored m n s) = getF R.PTS_PSEG_SIG F.PTS_PSEG_SIG_SIG s :=
  getF_congr (rd_tagStored_other pointsRegister_psegSig (by decide))

theorem sig_checkStored :
    getF R.PTS_PSEG_SIG F.PTS_PSEG_SIG_SIG (checkStored m n s) = getF R.PTS_PSEG_SIG F.PTS_PSEG_SIG_SIG s :=
  getF_congr (rd_checkStored_other pointsRegister_psegSig (by decide))

theorem chk_psegReadyCheck :
    getF R.PTS_PSEG_CHK F.PTS_PSEG_CHK_CHK (psegReadyCheck u) = getF R.PTS_PSEG_CHK F.PTS_PSEG_CHK_CHK u :=
  getF_congr (rd_psegReadyCheck_other (by decide) (by decide) (by decide))

theorem pts_tagStored : (tagStored m n s).pts = { s.pts with tagNew := true } :=
  congrArg (fun p : Points => { p with tagNew := true }) pts_wordStored

theorem pts_checkStored : (checkStored m n s).pts = { s.pts with chkNew := true } :=
  congrArg (fun p : Points => { p with chkNew := true }) pts_wordStored

theorem psegTagWrite_checks (tag : BitVec 16) (hr : Reaches m R.PTS_PSEG s) :
    After (exec (.psegTagWrite m tag) s) fun t => Okay m t ∧ getF R.PTS_PSEG F.PTS_PSEG_TAG t = tag.toNat
      ∧ t.pts.tagNew = true
      ∧ (s.pts.chkNew = true → getF R.PTS_PSEG_CHK F.PTS_PSEG_CHK_CHK s = getF R.PTS_PSEG_SIG F.PTS_PSEG_SIG_SIG s →
          isSet R.PTS_PSEG F.PTS_PSEG_READY t = true)
      ∧ (s.pts.chkNew = true → getF R.PTS_PSEG_CHK F.PTS_PSEG_CHK_CHK s ≠ getF R.PTS_PSEG_SIG F.PTS_PSEG_SIG_SIG s →
          isSet R.PTS_PSEG F.PTS_PSEG_READY t = false ∧ getBit R.PTS_STATUS ⟨0, 0, 9⟩ 3 t = true) := by
  have hsays (h : s.pts.chkNew = true) := psegReadyCheck_says (u := tagStored m tag.toNat s)
    (congrArg Points.tagNew pts_tagStored) ((congrArg Points.chkNew pts_tagStored).trans h)
  rw [chk_tagStored, sig_tagStored] at hsays
  refine ⟨_, congrArg Host.Outcome.next (fieldWrite_tag hr), okay_putAnswer, ?_, ?_, fun h => ?_, fun h => ?_⟩
  · rw [getF_putAnswer, getF_tag_psegReadyCheck, getF_tag_tagStored, Nat.mod_eq_of_lt tag.isLt]
  · exact congrArg Points.tagNew (pts_psegReadyCheck.trans pts_tagStored)
  · rw [isSet_putAnswer]
    exact (hsays h).1
  · rw [isSet_putAnswer, getBit_putAnswer]
    exact (hsays h).2

theorem psegChkWrite_checks (chk : BitVec 32) (hr : Reaches m R.PTS_PSEG_CHK s) :
    After (exec (.psegChkWrite m chk) s) fun t => Okay m t
      ∧ getF R.PTS_PSEG_CHK F.PTS_PSEG_CHK_CHK t = chk.toNat ∧ t.pts.chkNew = true
      ∧ (s.pts.tagNew = true → chk.toNat = getF R.PTS_PSEG_SIG F.PTS_PSEG_SIG_SIG s →
          isSet R.PTS_PSEG F.PTS_PSEG_READY t = true)
      ∧ (s.pts.tagNew = true → chk.toNat ≠ getF R.PTS_PSEG_SIG F.PTS_PSEG_SIG_SIG s →
          isSet R.PTS_PSEG F.PTS_PSEG_READY t = false ∧ getBit R.PTS_STATUS ⟨0, 0, 9⟩ 3 t = true) := by
  have hval : getF R.PTS_PSEG_CHK F.PTS_PSEG_CHK_CHK (checkStored m chk.toNat s) = chk.toNat :=
    getF_chk_checkStored.trans (Nat.mod_eq_of_lt chk.isLt)
  have hsays (h : s.pts.tagNew = true) := psegReadyCheck_says (u := checkStored m chk.toNat s)
    ((congrArg Points.tagNew pts_checkStored).trans h) (congrArg Points.chkNew pts_checkStored)
  rw [hval, sig_checkStored] at hsays
  refine ⟨_, congrArg Host.Outcome.next (fieldWrite_check hr), okay_putAnswer, ?_, ?_, fun h => ?_, fun h => ?_⟩
  · rw [getF_putAnswer, chk_psegReadyCheck, hval]
  · exact congrArg Points.chkNew (pts_psegReadyCheck.trans pts_checkStored)
  · rw [isSet_putAnswer]
    exact (hsays h).1
  · rw [isSet_putAnswer, getBit_putAnswer]
    exact (hsays h).2

/-- The Points' own state replaced. -/
def putPts (p : Points) (s : State) : State := { s with pts := p }

theorem only_putPts {p : Points} : Only [.pts] (fun _ => False) s (putPts p s) := by
  refine ⟨rfl, fun q hq => ?_, fun _ _ => rfl⟩
  cases q
  case pts => exact absurd (List.mem_singleton_self _) hq
  all_goals rfl

/-- A word of the inactive phase segment bank, and what it comes to hold. -/
def segWord (bank k : Nat) : Nat := 0x3010000 + 0x8000 * bank + k
def segKept (k : Nat) (v : Word) : Word := if k % 4 = 2 then putBits v 1 7 0 else v

section
variable {bank k : Nat}

theorem keepBits_seg (hb : bank < 2) (hk : k < 0x8000) : keepBits (segWord bank k) k (2 ^ 40) v = segKept k v := by
  have hlo : 0x3010000 ≤ segWord bank k := by unfold segWord; omega
  have hhi : segWord bank k < 0x3020000 := by unfold segWord; omega
  simp only [keepBits, segKept, hlo, hhi, true_and, Nat.mod_eq_of_lt v.isLt, BitVec.ofNat_toNat, BitVec.setWidth_eq]

theorem windowAt_seg (hb : bank < 2) (hk : k < 0x8000) :
    windowAt (segWord bank k) s = some (segTable s, bank, k) := by
  have hbank : (segWord bank k - 0x3010000) / 0x8000 = bank := by unfold segWord; omega
  have hword : (segWord bank k - 0x3010000) % 0x8000 = k := by unfold segWord; omega
  have hlo : 0x3010000 ≤ segWord bank k := by unfold segWord; omega
  have hhi : segWord bank k < 0x3020000 := by unfold segWord; omega
  rw [windowAt, if_neg (by omega), if_pos ⟨hlo, hhi⟩, hbank, hword]

/-- A word of the inactive bank with content is stored and signed. -/
theorem windowWrite_seg (hb : bank < 2) (hk : k < 0x8000) (hc : k < 4 * cfgN s)
    (ha : bank ≠ getF R.PTS_CTRL F.PTS_CTRL_PBANK s) :
    windowWrite n (segWord bank k) v false (segTable s) bank k s = psegSigWord v (wr (segWord bank k) (segKept k v) s) := by
  have hlo : 0x3010000 ≤ segWord bank k := by unfold segWord; omega
  have hhi : segWord bank k < 0x3020000 := by unfold segWord; omega
  have hcontent : (segTable s).content k = true := decide_eq_true hc
  have hinactive : (bank == (segTable s).active || (segTable s).commit) = false := by
    rw [Bool.or_eq_false_iff]
    exact ⟨beq_eq_false_iff_ne.2 ha, rfl⟩
  have himage : (segTable s).image = false := rfl
  have hbits : (segTable s).bits = 2 ^ 40 := rfl
  have hbase : (segTable s).base bank + k = segWord bank k := rfl
  simp only [windowWrite, hcontent, hinactive, himage, hbits, hbase, keepBits_seg hb hk, windowSign, hlo, hhi,
    Bool.not_true, Bool.and_false, Bool.false_and, Bool.false_eq_true, if_false, and_self, if_true]

theorem wordWrite_seg (hb : bank < 2) (hk : k < 0x8000) (hc : k < 4 * cfgN s)
    (ha : bank ≠ getF R.PTS_CTRL F.PTS_CTRL_PBANK s) :
    wordWrite n (segWord bank k) v false s = (0, psegSigWord v (wr (segWord bank k) (segKept k v) s)) := by
  have hlo : 0x3010000 ≤ segWord bank k := by unfold segWord; omega
  have hhi : segWord bank k < 0x3020000 := by unfold segWord; omega
  have hvoid : wordVoid (segWord bank k) s = false := by
    simp only [wordVoid, show segWord bank k / 0x10000 = 0x301 by omega]
  rw [wordWrite, coreMemory_eq_none (by omega)]
  dsimp only
  rw [if_neg (by omega), if_neg (by omega), if_neg (by omega), if_neg (by omega), hvoid, if_neg Bool.false_ne_true,
    if_neg (by omega), windowAt_seg hb hk]
  exact congrArg (Prod.mk 0) (windowWrite_seg hb hk hc ha)

end

theorem psegSigWord_eq : psegSigWord v u = setF R.PTS_PSEG_SIG F.PTS_PSEG_SIG_SIG (crc32 (u.pts.segBytes ++ wordBytes v))
    (putPts { u.pts with segBytes := u.pts.segBytes ++ wordBytes v } u) := rfl

theorem psegSigWord_signs : (psegSigWord v u).pts.segBytes = u.pts.segBytes ++ wordBytes v
    ∧ getF R.PTS_PSEG_SIG F.PTS_PSEG_SIG_SIG (psegSigWord v u) = crc32 (u.pts.segBytes ++ wordBytes v) % 2 ^ 32
    ∧ Only [.pts] (fun a => a = R.PTS_PSEG_SIG) u (psegSigWord v u) := by
  rw [psegSigWord_eq]
  exact ⟨rfl, getF_setF_same _ _ _ _ (by decide), (only_putPts.widen (by simp) fun _ h => h.elim).trans
    ((only_setF _ _ _ _).widen (by simp) fun _ h => h)⟩

theorem psegBankWrite_signs (addr : WAddr) {k : Nat} (hr : Reaches m addr.toNat s)
    (haddr : addr.toNat = 0x3010000 + 0x8000 * (1 - getF R.PTS_CTRL F.PTS_CTRL_PBANK s) + k) (hc : k < 4 * cfgN s)
    (hk : k < 0x8000) :
    After (exec (.psegBankWrite m addr v) s) fun t => Okay m t
      ∧ rd addr.toNat t = (if k % 4 = 2 then putBits v 1 7 0 else v)
      ∧ t.pts.segBytes = s.pts.segBytes ++ wordBytes v
      ∧ getF R.PTS_PSEG_SIG F.PTS_PSEG_SIG_SIG t = crc32 (s.pts.segBytes ++ wordBytes v) % 2 ^ 32
      ∧ Only [.pts, .ans] (fun a => a = addr.toNat ∨ a = R.PTS_PSEG_SIG ∨ a = R.ILK_MST m) s t := by
  obtain ⟨bank, hbank⟩ : ∃ b, b = 1 - getF R.PTS_CTRL F.PTS_CTRL_PBANK s := ⟨_, rfl⟩
  have hactive : getF R.PTS_CTRL F.PTS_CTRL_PBANK s < 2 := bitsOf_lt _ _ _
  have hcount {b : Nat} (hb : 0x3000000 ≤ b) : rd b (countIssue m s) = rd b s := by
    have := m.isLt
    exact rd_countIssue (by unfold R.ILK_MST; omega)
  have hn : cfgN (countIssue m s) = cfgN s := getF_congr (hcount (by decide))
  have hp : getF R.PTS_CTRL F.PTS_CTRL_PBANK (countIssue m s) = getF R.PTS_CTRL F.PTS_CTRL_PBANK s :=
    getF_congr (hcount (by decide))
  rw [← hbank] at haddr
  have hseg : addr.toNat = segWord bank k := haddr
  have hlt : segWord bank k < 0x3020000 := by unfold segWord; omega
  have hne : segWord bank k ≠ R.PTS_PSEG_SIG := by unfold segWord R.PTS_PSEG_SIG; omega
  have hinactive : bank ≠ getF R.PTS_CTRL F.PTS_CTRL_PBANK (countIssue m s) := by rw [hp]; omega
  have hw := wordWrite_seg (n := m) (v := v) (show bank < 2 by omega) hk (hc.trans_eq (congrArg (4 * ·) hn.symm)) hinactive
  rw [hseg] at hr ⊢
  have hacc : writeAccess m addr.toNat v s = putAnswer m ⟨0, [], 1⟩
      (psegSigWord v (wr (segWord bank k) (segKept k v) (countIssue m s))) := by
    rw [hseg]
    exact writeAccess_okay m.isLt hr (by omega) hw
  have hpts : (wr (segWord bank k) (segKept k v) (countIssue m s)).pts = s.pts := by
    rw [wr_pts]
    exact only_countIssue.2.1 .pts (by simp)
  obtain ⟨hbytes, hsig, honly⟩ := psegSigWord_signs (v := v) (u := wr (segWord bank k) (segKept k v) (countIssue m s))
  rw [hpts] at hbytes hsig
  refine ⟨_, congrArg Host.Outcome.next hacc, okay_putAnswer, ?_, hbytes, ?_, ?_⟩
  · rw [rd_putAnswer, honly.2.2 _ hne, rd_wr_same, segKept]
  · rw [getF_putAnswer]
    exact hsig
  · refine (only_countIssue.widen (by simp) fun _ h => .inr (.inr h)).trans
      (((only_wr _ _ _).widen (by simp) fun _ h => .inl h).trans
        ((honly.widen (by simp) fun _ h => .inr (.inl h)).trans ((only_putAnswer _).widen (by simp) fun _ h => h.elim)))

end

/-! ### The ready marks and CLRCNT (R96, R106, R107) -/

section
variable {s : State} {m : Master} {a : Nat}

theorem unguarded_ptsBanks : Unguarded ptsBanksRow := by unfold Unguarded; decide

theorem unguarded_ptsCtrl : Unguarded ptsCtrlRow := by unfold Unguarded; decide

theorem pointsRegister_banks : PointsRegister R.PTS_BANKS := by unfold PointsRegister; decide

theorem pointsRegister_ctrl : PointsRegister R.PTS_CTRL := by unfold PointsRegister; decide

/-- PTS_BANKS with one field written. -/
def banksStored (m : Nat) (f : Fld) (s : State) : State :=
  wordStored ptsBanksRow m R.PTS_BANKS (heldField R.PTS_BANKS f 1 s) s

theorem fieldWrite_banks {f : Fld} (hf : f.sub = 0) (hr : Reaches m R.PTS_BANKS s) :
    fieldWrite m R.PTS_BANKS f 1 s = putAnswer m ⟨0, [], 1⟩ (banksStored m f s) := by
  have heffect {v : Word} {u : State} : ptsEffect R.PTS_BANKS v u = u := rfl
  rw [fieldWrite_points m.isLt pointsRegister_banks hr regDef_ptsBanks unguarded_ptsBanks hf, heffect, banksStored]

/-- A committed swap holds its bank's mark (R107). -/
theorem special_crdy : Fld.special R.PTS_BANKS F.PTS_BANKS_CRDY s = !s.pts.cswap.at_.isEmpty := Bool.or_false _

theorem special_grdy : Fld.special R.PTS_BANKS F.PTS_BANKS_GRDY s = !s.pts.gswap.at_.isEmpty := rfl

/-- A mark is set by a write, or kept at 1 while a committed swap holds it. -/
theorem getF_mark_banksStored {d : FieldDef} (hd : d ∈ ptsBanksRow.fields) (hacc : d.acc = .rw) (hrule : d.rule = .any)
    (hz : d.zrej = false) (hsub : d.fld.sub = 0) (hw : d.fld.w = 1)
    (hs : Fld.special R.PTS_BANKS d.fld (countIssue m s) = false ∨ getF R.PTS_BANKS d.fld s = 1) :
    getF R.PTS_BANKS d.fld (banksStored m d.fld s) = 1 := by
  by_cases hspecial : Fld.special R.PTS_BANKS d.fld (countIssue m s) = true
  · have hone := hs.resolve_left (by rw [hspecial]; exact Bool.true_eq_false_eq_False.elim)
    rw [getF, hsub] at hone ⊢
    exact (bitsOf_wordStored_special regDef_ptsBanks hd hacc hspecial).trans hone
  · rw [banksStored, getF_points_taken regDef_ptsBanks hd hacc hrule hz (Bool.eq_false_iff.2 hspecial) hsub, hw]
    rfl

theorem only_banksStored {f : Fld} : Only [.ans] (fun a => a = R.PTS_BANKS ∨ a = R.ILK_MST m) s
    (putAnswer m ⟨0, [], 1⟩ (banksStored m f s)) :=
  (only_wordStored.widen (by simp) fun _ h => h).trans ((only_putAnswer _).widen (by simp) fun _ h => h.elim)

theorem pts_countIssue : (countIssue m s).pts = s.pts := only_countIssue.2.1 .pts (by simp)

theorem coefReadyMark_sets (hr : Reaches m R.PTS_BANKS s)
    (h : s.pts.cswap.at_ = [] ∨ getF R.PTS_BANKS F.PTS_BANKS_CRDY s = 1) :
    After (exec (.coefReadyMark m) s) fun t => Okay m t ∧ getF R.PTS_BANKS F.PTS_BANKS_CRDY t = 1
      ∧ getF R.PTS_BANKS F.PTS_BANKS_GRDY t = getF R.PTS_BANKS F.PTS_BANKS_GRDY s
      ∧ Only [.ans] (fun a => a = R.PTS_BANKS ∨ a = R.ILK_MST m) s t := by
  refine ⟨_, congrArg Host.Outcome.next (fieldWrite_banks rfl hr), okay_putAnswer, ?_, ?_, only_banksStored⟩
  · rw [getF_putAnswer]
    refine getF_mark_banksStored (d := ⟨F.PTS_BANKS_CRDY, .rw, false, .any⟩) (by decide) rfl rfl rfl rfl rfl
      (h.imp_left fun hat => ?_)
    rw [special_crdy, pts_countIssue, hat]
    rfl
  · rw [getF_putAnswer]
    exact getF_points_kept (d := ⟨F.PTS_BANKS_GRDY, .rw, false, .any⟩) regDef_ptsBanks (by decide) (by decide) (by decide)
      (by unfold Apart; decide) rfl

theorem gainReadyMark_sets (hr : Reaches m R.PTS_BANKS s)
    (h : s.pts.gswap.at_ = [] ∨ getF R.PTS_BANKS F.PTS_BANKS_GRDY s = 1) :
    After (exec (.gainReadyMark m) s) fun t => Okay m t ∧ getF R.PTS_BANKS F.PTS_BANKS_GRDY t = 1
      ∧ getF R.PTS_BANKS F.PTS_BANKS_CRDY t = getF R.PTS_BANKS F.PTS_BANKS_CRDY s
      ∧ Only [.ans] (fun a => a = R.PTS_BANKS ∨ a = R.ILK_MST m) s t := by
  refine ⟨_, congrArg Host.Outcome.next (fieldWrite_banks rfl hr), okay_putAnswer, ?_, ?_, only_banksStored⟩
  · rw [getF_putAnswer]
    refine getF_mark_banksStored (d := ⟨F.PTS_BANKS_GRDY, .rw, false, .any⟩) (by decide) rfl rfl rfl rfl rfl
      (h.imp_left fun hat => ?_)
    rw [special_grdy, pts_countIssue, hat]
    rfl
  · rw [getF_putAnswer]
    exact getF_points_kept (d := ⟨F.PTS_BANKS_CRDY, .rw, false, .any⟩) regDef_ptsBanks (by decide) (by decide) (by decide)
      (by unfold Apart; decide) rfl

/-- A word in the range cleared holds its Reset value. -/
theorem rd_clearWords_within {x y : Nat} (h : x ≤ a ∧ a < y) : rd a (clearWords x y s) = resetWord a := by
  unfold rd clearWords
  rw [Store.get_keep, decide_eq_true h]
  rfl

/-- No row of the reset values lies among the counts. -/
theorem resetRows_apart_icnt : ∀ r ∈ resetRows0 ++ resetRows1 ++ resetRows2,
    0x3028000 ≤ r.1 ∨ r.1 + r.2.2.1 * r.2.1 ≤ 0x3020000 ∧ 0 < r.2.1 := by decide +kernel

theorem resetWord_counts (h : 0x3020000 ≤ a ∧ a < 0x3028000) : resetWord a = 0#40 := by
  have hnone : (resetRows0 ++ resetRows1 ++ resetRows2).find? (fun r =>
      r.1 ≤ a && (a - r.1) % r.2.1 == 0 && (a - r.1) / r.2.1 < r.2.2.1) = none := by
    refine List.find?_eq_none.2 fun r hr hmatch => ?_
    obtain ⟨⟨hle, -⟩, hlt⟩ :
        (r.1 ≤ a ∧ (a - r.1) % r.2.1 = 0) ∧ (a - r.1) / r.2.1 < r.2.2.1 := by simpa using hmatch
    rcases resetRows_apart_icnt r hr with habove | ⟨hbelow, hpos⟩
    · omega
    · have := (Nat.div_lt_iff_lt_mul hpos).1 hlt
      omega
  rw [resetWord, hnone]

theorem only_clearWords {x y : Nat} : Only [] (fun a => x ≤ a ∧ a < y) s (clearWords x y s) :=
  ⟨rfl, fun p _ => by cases p <;> rfl, fun _ h => rd_clearWords h⟩

theorem ptsIcntClear_clears (hr : Reaches m R.PTS_CTRL s) :
    After (exec (.ptsIcntClear m) s) fun t => Okay m t ∧ (∀ i k, i < 8192 → k < 4 → rd (icnt i k) t = 0#40)
      ∧ Only [.ans] (fun a => within 0x3020000 0x3028000 a ∨ a = R.PTS_CTRL ∨ a = R.ILK_MST m) s t := by
  have hflag : flag (heldField R.PTS_CTRL F.PTS_CTRL_CLRCNT 1 s) F.PTS_CTRL_CLRCNT = true := by
    rw [flag, heldField, bitsOf_putBits_same _ _ _ _ (by decide)]
    rfl
  have heffect {v : Word} {u : State} :
      ptsEffect R.PTS_CTRL v u = when (flag v F.PTS_CTRL_CLRCNT) (clearWords 0x3020000 0x3028000) u := rfl
  have hwrite := fieldWrite_points (f := F.PTS_CTRL_CLRCNT) (n := 1) m.isLt pointsRegister_ctrl hr regDef_ptsCtrl
    unguarded_ptsCtrl rfl
  rw [heffect, hflag, when_true] at hwrite
  refine ⟨_, congrArg Host.Outcome.next hwrite, okay_putAnswer, fun i k hi hk => ?_, ?_⟩
  · have hcount : 0x3020000 ≤ icnt i k ∧ icnt i k < 0x3028000 := by unfold icnt; omega
    rw [rd_putAnswer, rd_clearWords_within hcount, resetWord_counts hcount]
  · exact (only_wordStored.widen (by simp) fun _ h => .inr h).trans
      ((only_clearWords.widen (by simp) fun _ h => .inl h).trans ((only_putAnswer _).widen (by simp) fun _ h => h.elim))

end

/-! ### Corrected bus codewords (R316) -/

/-- The codewords corrected since the last report, noted or reported. -/
def putChecks (c : Check) (s : State) : State := { s with chk := c }

theorem only_putChecks {c : Check} {s : State} : Only [.chk] (fun _ => False) s (putChecks c s) := by
  refine ⟨rfl, fun q hq => ?_, fun _ _ => rfl⟩
  cases q
  case chk => exact absurd (List.mem_singleton_self _) hq
  all_goals rfl

theorem insStatus_not_bellWord : ¬ bellWord (ev 8 9) R.INS_STATUS := by
  simp only [bellWord, ev, R.INS_STATUS, R.BEL_SRC, R.BEL_LOGPOS, R.BEL_LOG]
  decide

theorem busCorrectionsAreReported : BusCorrectionsAreReported := by
  intro s
  refine ⟨fun h => ?_, fun h => ?_⟩
  · have hreport : busCorrReport s
        = flagAll R.INS_STATUS F.INS_STATUS_EVT 9 (ev 8 9) (putChecks { s.chk with busCorr := false } s) := by
      rw [busCorrReport, h, if_pos rfl, insEvent, if_pos (by decide), putChecks]
    have honly := only_flagAll R.INS_STATUS F.INS_STATUS_EVT 9 (ev 8 9) (putChecks { s.chk with busCorr := false } s)
    refine ⟨_, congrArg Host.Outcome.next hreport, getBit_flagAll (by decide) (by decide) insStatus_not_bellWord,
      raised_raise (by decide), ?_, ?_⟩
    · exact congrArg Check.busCorr (honly.2.1 .chk (by decide))
    · exact (only_putChecks.widen (by simp) fun _ h => h.elim).trans (honly.widen (by simp) fun _ h => h)
  · exact congrArg Host.Outcome.next (if_neg (by rw [h]; exact Bool.false_ne_true))

theorem segmentBankIsSigned : SegmentBankIsSigned :=
  ⟨fun _ addr _ _ _ hr haddr hc hk => psegBankWrite_signs addr hr haddr hc hk, fun _ tag _ hr => psegTagWrite_checks tag hr,
    fun _ chk _ hr => psegChkWrite_checks chk hr⟩

theorem pointsMarksAndCounters : PointsMarksAndCounters :=
  ⟨fun _ _ => coefReadyMark_sets, fun _ _ => gainReadyMark_sets, fun _ _ => ptsIcntClear_clears⟩

/-- Settles O12: each write is its word stored and then its effect; the check of the segment bank's signature runs with
the word just stored, and nothing else of the Points is touched. -/
theorem pointsBanksMarksAndReports : Obligations.PointsBanksMarksAndReports :=
  ⟨busCorrectionsAreReported, segmentBankIsSigned, pointsMarksAndCounters⟩

end Sys2Proof.Safety

namespace Sys2Proof.Safety
open Sys2Proof.Machine

/-! ### A record that is applied (R230, R231)

What follows a record's own effect changes no word from the Points' registers on. -/

/-- The words below the Points' registers. -/
def BelowPoints (a : Nat) : Prop := a < 0x3000000

section
variable {s u : State} {a b e : Nat} {r : TRec} {rest : List TRec} {p : TRec → Bool} {f : State → State}

theorem bellWord_belowPoints (he : e < 1024) (h : bellWord e a) : BelowPoints a := by
  simp only [bellWord, R.BEL_SRC, R.BEL_LOGPOS, R.BEL_LOG] at h
  unfold BelowPoints
  omega

theorem only_putCpl {x : Coupling} : Only [.cpl] (fun _ => False) s (putCpl x s) := by
  refine ⟨rfl, fun q hq => ?_, fun _ _ => rfl⟩
  cases q
  case cpl => exact absurd (List.mem_singleton_self _) hq
  all_goals rfl

theorem only_joinFail : Only [.cpl, .bellq, .health] BelowPoints s (joinFail s) := by
  have hset (b : Nat) (f : Fld) (v : Nat) (t : State) (h : BelowPoints (b + f.sub)) :
      Only [.cpl, .bellq, .health] BelowPoints t (setF b f v t) :=
    (only_setF b f v t).widen (by simp) fun _ ha => ha ▸ h
  have hcond (t : State) : Only [.cpl, .bellq, .health] BelowPoints t (cplCond 7 t) :=
    (only_flagEvt R.CPL_STATUS F.CPL_STATUS_EVT 7 (ev 15 47) t).widen (by decide) fun _ ha =>
      ha.elim (fun h => h ▸ by unfold BelowPoints; decide) (bellWord_belowPoints (by decide))
  unfold joinFail
  exact (only_putCpl.widen (by decide) fun _ h => h.elim).trans <|
    (hset R.CPL_STATE F.CPL_STATE_JSTATE 1 _ (by unfold BelowPoints; decide)).trans <|
    (hcond _).trans (hset R.CPL_CNT F.CPL_CNT_FAILS _ _ (by unfold BelowPoints; decide))

theorem only_logItem {x : LogItem} : Only [.cpl, .bellq, .health] BelowPoints s (logItem x s) := by
  unfold logItem
  split
  · exact Only.refl _ _ _
  · split
    · exact only_joinFail
    · exact only_putCpl.widen (by decide) fun _ h => h.elim

/-- The records that wait replaced. -/
def putRecs (l : List TRec) (s : State) : State := { s with ttb := { s.ttb with recs := l } }

theorem only_putRecs {l : List TRec} : Only [.ttb] (fun _ => False) s (putRecs l s) := by
  refine ⟨rfl, fun q hq => ?_, fun _ _ => rfl⟩
  cases q
  case ttb => exact absurd (List.mem_singleton_self _) hq
  all_goals rfl

theorem popRec_eq (h : s.ttb.recs = r :: rest) : popRec s = logItem (.record r) (putRecs rest s) := by
  rw [popRec, h]
  rfl

theorem recs_popRec (h : s.ttb.recs = r :: rest) : (popRec s).ttb.recs = rest := by
  rw [popRec_eq h, only_logItem.2.1 .ttb (by decide), putRecs]

theorem only_popRec (h : s.ttb.recs = r :: rest) :
    Only [.ttb, .cpl, .bellq, .health] BelowPoints s (popRec s) := by
  rw [popRec_eq h]
  exact (only_putRecs.widen (by decide) fun _ h => h.elim).trans (only_logItem.widen (by decide) fun _ h => h)

theorem applyRec_noHead (h : NoHead p s) : applyRec p f s = s := by
  unfold applyRec
  split
  · next r rest hr => rw [h r rest hr, Bool.false_and, if_neg Bool.false_ne_true]
  · rfl

/-- The head record applied leaves the rest; beside its own effect, no word from the Points' on changes. -/
theorem applyRec_heads (h : Heads p rest s) (hf : (f s).ttb = s.ttb) : (applyRec p f s).ttb.recs = rest
    ∧ Only [.ttb, .cpl, .bellq, .health] BelowPoints (f s) (applyRec p f s) := by
  obtain ⟨⟨r, hr, hp⟩, hjoin⟩ := h
  have happly : applyRec p f s = popRec (f s) := by
    unfold applyRec
    rw [hr]
    dsimp only
    rw [hp, hjoin, Bool.not_false, Bool.and_self, if_pos rfl]
  have hrecs : (f s).ttb.recs = r :: rest := by rw [hf, hr]
  rw [happly]
  exact ⟨recs_popRec hrecs, only_popRec hrecs⟩

end

/-! ### The slots of the delay sets -/

/-- Slot `k` holds the set. -/
def slotHolds (set k : Nat) (s : State) : Bool :=
  isSet (R.PTS_DSET k) F.PTS_DSET_VALID s && getF (R.PTS_DSET k) F.PTS_DSET_SET s == set

section
variable {s u : State} {set k j n count t0 span input : Nat} {coefs : List Word} {l : List Nat}

theorem dsetOf_eq : dsetOf s set
    = if slotHolds set 0 s = true then some 0 else if slotHolds set 1 s = true then some 1 else none := by
  have h (c : Nat) : (isSet (R.PTS_DSET c) F.PTS_DSET_VALID s && getF (R.PTS_DSET c) F.PTS_DSET_SET s == set)
      = slotHolds set c s := rfl
  rw [dsetOf, List.find?_cons, List.find?_cons, List.find?_nil, h, h]
  cases slotHolds set 0 s <;> cases slotHolds set 1 s <;> rfl

theorem slotHolds_congr (h : rd (R.PTS_DSET k) u = rd (R.PTS_DSET k) s) : slotHolds set k u = slotHolds set k s := by
  rw [slotHolds, slotHolds, isSet_congr (b := R.PTS_DSET k) (f := F.PTS_DSET_VALID) h,
    getF_congr (b := R.PTS_DSET k) (f := F.PTS_DSET_SET) h]

theorem dsetOf_congr (h : ∀ k < 2, rd (R.PTS_DSET k) u = rd (R.PTS_DSET k) s) : dsetOf u set = dsetOf s set := by
  rw [dsetOf_eq, dsetOf_eq, slotHolds_congr (h 0 (by decide)), slotHolds_congr (h 1 (by decide))]

theorem dsetOf_lt (h : dsetOf s set = some k) : k < 2 := by
  have := List.mem_of_find?_eq_some h
  simp only [List.mem_cons, List.not_mem_nil, or_false] at this
  omega

/-- A slot that holds the set is the set's when the slot before it does not. -/
theorem dsetOf_of_slotHolds (hk : k < 2) (h : slotHolds set k s = true) (h0 : k = 1 → slotHolds set 0 s = false) :
    dsetOf s set = some k := by
  rw [dsetOf_eq]
  obtain rfl | rfl : k = 0 ∨ k = 1 := by omega
  · rw [if_pos h]
  · rw [if_neg (by rw [h0 rfl]; exact Bool.false_ne_true), if_pos h]

/-- The slot before a set's does not hold it. -/
theorem slotHolds_zero_of_dsetOf (h : dsetOf s set ≠ some 0) : slotHolds set 0 s = false := by
  rw [Bool.eq_false_iff]
  intro h0
  rw [dsetOf_eq, if_pos h0] at h
  exact h rfl

theorem victimSlot_lt : victimSlot s < 2 := by
  unfold victimSlot
  dsimp only
  split
  · decide
  · split
    · decide
    · split
      · decide
      · split
        · decide
        · exact Nat.mod_lt _ (by decide)

/-- The marks of the records present in slot `k` cleared. -/
def forgetRecords (k : Nat) (s : State) : State :=
  { s with regs := s.regs.keep fun a => !(decide (dsetMem k 0 0 ≤ a ∧ a < dsetMem k 8192 0) && a % 8 == 6) }

/-- T0 and SPAN of slot `k`. -/
def putSpan (k t0 span : Nat) (s : State) : State :=
  putPts { s.pts with setT0 := s.pts.setT0.set (fun _ => 0) k t0, setSpan := s.pts.setSpan.set (fun _ => 0) k span } s

/-- The header's fields in PTS_DSET. -/
def putHeader (k set count : Nat) (s : State) : State :=
  s |> setF (R.PTS_DSET k) F.PTS_DSET_SET set
    |> setF (R.PTS_DSET k) F.PTS_DSET_RCVD 0
    |> setF (R.PTS_DSET k) F.PTS_DSET_COUNT count
    |> setF (R.PTS_DSET k) F.PTS_DSET_VALID 1
    |> setF (R.PTS_DSET k) F.PTS_DSET_COMPLETE 0

theorem openSlot_eq : openSlot k set count t0 span s = putHeader k set count (putSpan k t0 span (forgetRecords k s)) := rfl

theorem rd_forgetRecords (h : n < dsetMem k 0 0) : rd n (forgetRecords k s) = rd n s := by
  unfold rd forgetRecords
  rw [Store.get_keep, decide_eq_false (by omega)]
  rfl

theorem rd_putSpan : rd n (putSpan k t0 span s) = rd n s := only_putPts.2.2 _ not_false

theorem rd_putHeader_other (h : n ≠ R.PTS_DSET k) : rd n (putHeader k set count s) = rd n s := by
  have hset (f : Fld) (v : Nat) (t : State) (hf : f.sub = 0) : rd n (setF (R.PTS_DSET k) f v t) = rd n t :=
    rd_setF_other v t (by rw [hf]; exact h)
  unfold putHeader
  rw [hset _ _ _ rfl, hset _ _ _ rfl, hset _ _ _ rfl, hset _ _ _ rfl, hset _ _ _ rfl]

/-- The fields that a header gives its slot. -/
theorem putHeader_fields : getF (R.PTS_DSET k) F.PTS_DSET_SET (putHeader k set count s) = set % 2 ^ 8
    ∧ getF (R.PTS_DSET k) F.PTS_DSET_RCVD (putHeader k set count s) = 0
    ∧ getF (R.PTS_DSET k) F.PTS_DSET_COUNT (putHeader k set count s) = count % 2 ^ 14
    ∧ getF (R.PTS_DSET k) F.PTS_DSET_VALID (putHeader k set count s) = 1
    ∧ getF (R.PTS_DSET k) F.PTS_DSET_COMPLETE (putHeader k set count s) = 0 := by
  have hcomplete (f : Fld) (v : Nat) (t : State) (h : f.lo + f.w ≤ 37) :
      getF (R.PTS_DSET k) f (setF (R.PTS_DSET k) F.PTS_DSET_COMPLETE v t) = getF (R.PTS_DSET k) f t :=
    getF_setF_apart v t (by decide) (.inl h)
  have hvalid (f : Fld) (v : Nat) (t : State) (h : f.lo + f.w ≤ 36) :
      getF (R.PTS_DSET k) f (setF (R.PTS_DSET k) F.PTS_DSET_VALID v t) = getF (R.PTS_DSET k) f t :=
    getF_setF_apart v t (by decide) (.inl h)
  have hcount (f : Fld) (v : Nat) (t : State) (h : f.lo + f.w ≤ 22) :
      getF (R.PTS_DSET k) f (setF (R.PTS_DSET k) F.PTS_DSET_COUNT v t) = getF (R.PTS_DSET k) f t :=
    getF_setF_apart v t (by decide) (.inl h)
  have hrcvd (f : Fld) (v : Nat) (t : State) (h : f.lo + f.w ≤ 8) :
      getF (R.PTS_DSET k) f (setF (R.PTS_DSET k) F.PTS_DSET_RCVD v t) = getF (R.PTS_DSET k) f t :=
    getF_setF_apart v t (by decide) (.inl h)
  refine ⟨?_, ?_, ?_, ?_, getF_setF_same _ _ _ _ (by decide)⟩ <;> unfold putHeader
  · rw [hcomplete _ _ _ (by decide), hvalid _ _ _ (by decide), hcount _ _ _ (by decide), hrcvd _ _ _ (by decide),
      getF_setF_same _ _ _ _ (by decide)]
    rfl
  · rw [hcomplete _ _ _ (by decide), hvalid _ _ _ (by decide), hcount _ _ _ (by decide), getF_setF_same _ _ _ _ (by decide)]
    rfl
  · rw [hcomplete _ _ _ (by decide), hvalid _ _ _ (by decide), getF_setF_same _ _ _ _ (by decide)]
    rfl
  · rw [hcomplete _ _ _ (by decide), getF_setF_same _ _ _ _ (by decide)]
    rfl

/-! ### SETHDR (R97) -/

/-- Slot `k` taken from its set: its records are gone, and the other set is now the older one. -/
def slotTaken (k : Nat) (s : State) : State :=
  clearWords (dsetMem k 0 0) (dsetMem k 8192 0)
    (putPts { s.pts with slotAge := if isSet (R.PTS_DSET (1 - k)) F.PTS_DSET_VALID s then 1 - k else k } s)

theorem rd_slotTaken : rd (R.PTS_DSET 0) (slotTaken k s) = rd (R.PTS_DSET 0) s := by
  unfold slotTaken
  rw [rd_clearWords (by unfold dsetMem R.PTS_DSET; omega)]
  exact only_putPts.2.2 _ not_false

/-- A header that is taken opens a slot; the slot before it does not hold the set. -/
theorem sethdr_opens (lane : Nat) (hc : count ≠ 0) (hs : span ≠ 0) : ∃ k u, k < 2 ∧ u.ttb = s.ttb
    ∧ (k = 1 → slotHolds set 0 u = false) ∧ sethdr lane set count t0 span s = openSlot k set count t0 span u := by
  have hne : ¬ (count = 0 ∨ span = 0) := not_or.2 ⟨hc, hs⟩
  cases hd : dsetOf s set with
  | some k =>
    refine ⟨k, s, dsetOf_lt hd, rfl, fun h1 => slotHolds_zero_of_dsetOf (by rw [hd, h1]; exact nofun), ?_⟩
    rw [sethdr, if_neg hne, hd]
  | none =>
    refine ⟨victimSlot s, slotTaken (victimSlot s) s, victimSlot_lt, rfl, fun _ => ?_, ?_⟩
    · exact (slotHolds_congr rd_slotTaken).trans (slotHolds_zero_of_dsetOf (by rw [hd]; exact nofun))
    · rw [sethdr, if_neg hne, hd]
      rfl

/-- An opened slot is the set's, with what the header says and no record. -/
theorem openSlot_opened (hk : k < 2) (h0 : k = 1 → slotHolds set 0 s = false) (hset : set < 2 ^ 8) (hcount : count < 2 ^ 14) :
    dsetOf (openSlot k set count t0 span s) set = some k
    ∧ getF (R.PTS_DSET k) F.PTS_DSET_COUNT (openSlot k set count t0 span s) = count
    ∧ getF (R.PTS_DSET k) F.PTS_DSET_RCVD (openSlot k set count t0 span s) = 0
    ∧ isSet (R.PTS_DSET k) F.PTS_DSET_COMPLETE (openSlot k set count t0 span s) = false := by
  rw [openSlot_eq]
  obtain ⟨hsets, hrcvd, hcounts, hvalid, hcomplete⟩ :=
    putHeader_fields (k := k) (set := set) (count := count) (s := putSpan k t0 span (forgetRecords k s))
  refine ⟨dsetOf_of_slotHolds hk ?_ fun h1 => ?_, hcounts.trans (Nat.mod_eq_of_lt hcount), hrcvd, ?_⟩
  · rw [slotHolds, isSet, hvalid, hsets, Nat.mod_eq_of_lt hset]
    exact beq_self_eq_true set
  · have hrd : rd (R.PTS_DSET 0) (putHeader k set count (putSpan k t0 span (forgetRecords k s))) = rd (R.PTS_DSET 0) s := by
      rw [rd_putHeader_other (by rw [h1]; decide), rd_putSpan, rd_forgetRecords (by unfold dsetMem R.PTS_DSET; omega)]
    exact (slotHolds_congr hrd).trans (h0 h1)
  · rw [isSet, hcomplete]
    rfl

theorem openSlot_pts : (openSlot k set count t0 span s).pts.setT0.get (fun _ => 0) k = t0
    ∧ (openSlot k set count t0 span s).pts.setSpan.get (fun _ => 0) k = span :=
  ⟨Store.get_set_same _ _ _ _, Store.get_set_same _ _ _ _⟩

theorem ttb_forgetRecords : (forgetRecords k s).ttb = s.ttb := rfl

theorem ttb_putSpan : (putSpan k t0 span s).ttb = s.ttb := only_putPts.2.1 .ttb (by decide)

theorem ttb_openSlot : (openSlot k set count t0 span s).ttb = s.ttb := by
  rw [openSlot_eq, putHeader, setF_ttb, setF_ttb, setF_ttb, setF_ttb, setF_ttb, ttb_putSpan, ttb_forgetRecords]

end

section
variable {s : State} {rest : List TRec}

/-- A header with COUNT or SPAN 0 is TT_FORMAT on its lane and changes no set. -/
theorem sethdr_rejected (i : LaneId) {set count t0 span : Nat} {p : TRec → Bool} (h : Heads p rest s)
    (hz : count = 0 ∨ span = 0) (t : State) (ht : t = applyRec p (sethdr i set count t0 span) s) :
    t.ttb.recs = rest ∧ getBit (R.PTS_FRSTAT i) ⟨0, 0, 12⟩ 10 t = true ∧ dsetOf t set = dsetOf s set := by
  have hcond : sethdr i set count t0 span s = frameCond i 10 s := by rw [sethdr, if_pos hz]
  have honly : Only _ _ s (frameCond i 10 s) := only_frameCond
  obtain ⟨hrecs, hkeep⟩ := applyRec_heads (f := sethdr i set count t0 span) h
    (by rw [hcond]; exact honly.2.1 .ttb (by decide))
  rw [hcond, ← ht] at hkeep
  rw [← ht] at hrecs
  refine ⟨hrecs, ?_, dsetOf_congr fun k hk => ?_⟩
  · exact (getBit_congr (hkeep.2.2 (R.PTS_FRSTAT i + 0) (by unfold BelowPoints R.PTS_FRSTAT; omega))).trans
      (frameBit_frameCond i.isLt (by decide))
  · rw [hkeep.2.2 (R.PTS_DSET k) (by unfold BelowPoints R.PTS_DSET; omega), honly.2.2 (R.PTS_DSET k)]
    rintro (hw | hw)
    · unfold R.PTS_DSET R.PTS_FRSTAT at hw
      omega
    · have := bellWord_belowPoints (by unfold frameEvent ev; split <;> omega) hw
      unfold BelowPoints R.PTS_DSET at this
      omega

theorem sethdr_taken (i : LaneId) {set count t0 span : Nat} {p : TRec → Bool} (h : Heads p rest s) (hc : count ≠ 0)
    (hs : span ≠ 0) (hset : set < 2 ^ 8) (hcount : count < 2 ^ 14) (t : State)
    (ht : t = applyRec p (sethdr i set count t0 span) s) :
    t.ttb.recs = rest ∧ ∃ k, k < 2 ∧ dsetOf t set = some k ∧ getF (R.PTS_DSET k) F.PTS_DSET_COUNT t = count
      ∧ getF (R.PTS_DSET k) F.PTS_DSET_RCVD t = 0 ∧ isSet (R.PTS_DSET k) F.PTS_DSET_COMPLETE t = false
      ∧ t.pts.setT0.get (fun _ => 0) k = t0 ∧ t.pts.setSpan.get (fun _ => 0) k = span := by
  obtain ⟨k, u, hk, hu, h0, hopen⟩ := sethdr_opens (s := s) (set := set) (t0 := t0) i hc hs
  obtain ⟨hd, hcnt, hrcvd, hcomplete⟩ := openSlot_opened (t0 := t0) (span := span) hk h0 hset hcount
  obtain ⟨ht0, hspan⟩ := openSlot_pts (k := k) (set := set) (count := count) (t0 := t0) (span := span) (s := u)
  obtain ⟨hrecs, hkeep⟩ := applyRec_heads (f := sethdr i set count t0 span) h (by rw [hopen, ttb_openSlot, hu])
  rw [hopen, ← ht] at hkeep
  rw [← ht] at hrecs
  have hrd (c : Nat) : rd (R.PTS_DSET c) t = rd (R.PTS_DSET c) (openSlot k set count t0 span u) :=
    hkeep.2.2 _ (by unfold BelowPoints R.PTS_DSET; omega)
  have hpts : t.pts = (openSlot k set count t0 span u).pts := hkeep.2.1 .pts (by decide)
  have hget (f : Fld) (hf : f.sub = 0) : getF (R.PTS_DSET k) f t = getF (R.PTS_DSET k) f (openSlot k set count t0 span u) :=
    getF_congr (by rw [hf]; exact hrd k)
  refine ⟨hrecs, k, hk, (dsetOf_congr fun c _ => hrd c).trans hd, (hget _ rfl).trans hcnt, (hget _ rfl).trans hrcvd, ?_,
    (congrArg (fun p : Points => p.setT0.get (fun _ => 0) k) hpts).trans ht0,
    (congrArg (fun p : Points => p.setSpan.get (fun _ => 0) k) hpts).trans hspan⟩
  rw [isSet, hget _ rfl]
  exact hcomplete

/-! ### DELAY records (R97) -/

/-- Coefficients written to an input's words from the `n`th on. -/
def coefsFrom (k input n : Nat) (l : List Word) (s : State) : State :=
  (l.zipIdx n).foldl (fun s (w, x) => wr (dsetMem k input x) w s) s

theorem coefsFrom_cons {k input n : Nat} {w : Word} {l : List Word} :
    coefsFrom k input n (w :: l) s = coefsFrom k input (n + 1) l (wr (dsetMem k input n) w s) := rfl

theorem rd_coefsFrom_other {k input n a : Nat} {l : List Word}
    (h : ∀ x, n ≤ x → x < n + l.length → a ≠ dsetMem k input x) :
    rd a (coefsFrom k input n l s) = rd a s := by
  induction l generalizing n s with
  | nil => rfl
  | cons w t ih =>
    rw [coefsFrom_cons, ih fun x hx hl => h x (by omega) (by rw [List.length_cons]; omega)]
    exact rd_wr_other _ _ (h n le_rfl (by rw [List.length_cons]; omega))

theorem rd_coefsFrom {k input n w : Nat} {l : List Word} (hw : w < l.length) :
    rd (dsetMem k input (n + w)) (coefsFrom k input n l s) = l.getD w 0#40 := by
  induction l generalizing n s w with
  | nil => cases hw
  | cons v t ih =>
    rw [coefsFrom_cons]
    cases w with
    | zero =>
      rw [rd_coefsFrom_other fun x hx _ => by unfold dsetMem; omega]
      exact rd_wr_same _ _ _
    | succ w =>
      rw [Nat.add_succ, ← Nat.succ_add, ih (Nat.lt_of_succ_lt_succ hw)]
      rfl

/-- A new record counted in its slot: RCVD holds `r`, COMPLETE when that is COUNT. -/
def recordCounted (k r count : Nat) (s : State) : State :=
  s |> setF (R.PTS_DSET k) F.PTS_DSET_RCVD r |> setF (R.PTS_DSET k) F.PTS_DSET_COMPLETE (if r = count then 1 else 0)

/-- What a DELAY record that is stored leaves. -/
def recordStored (k input : Nat) (coefs : List Word) (s : State) : State :=
  recordCounted k (getF (R.PTS_DSET k) F.PTS_DSET_RCVD s + 1) (getF (R.PTS_DSET k) F.PTS_DSET_COUNT s)
    (wr (dsetMem k input 6) 1#40 (coefsFrom k input 0 coefs s))

theorem ttb_coefsFrom {k input : Nat} {coefs : List Word} : (coefsFrom k input 0 coefs s).ttb = s.ttb :=
  List.foldlRecOn (motive := fun t : State => t.ttb = s.ttb) _ _ rfl fun _ ht _ _ => ht

theorem ttb_recordStored {k input : Nat} {coefs : List Word} : (recordStored k input coefs s).ttb = s.ttb := by
  rw [recordStored, recordCounted, setF_ttb, setF_ttb, wr_ttb, ttb_coefsFrom]

theorem rd_recordCounted_other {k r count a : Nat} (h : a ≠ R.PTS_DSET k) : rd a (recordCounted k r count s) = rd a s :=
  (rd_setF_other _ _ h).trans (rd_setF_other _ _ h)

theorem recordCounted_fields {k r count : Nat} (hr : r < 2 ^ 14) :
    getF (R.PTS_DSET k) F.PTS_DSET_RCVD (recordCounted k r count s) = r
    ∧ getF (R.PTS_DSET k) F.PTS_DSET_COMPLETE (recordCounted k r count s) = if r = count then 1 else 0 := by
  unfold recordCounted
  constructor
  · rw [getF_setF_apart _ _ (by decide) (by decide), getF_setF_same _ _ _ _ (by decide)]
    exact Nat.mod_eq_of_lt hr
  · rw [getF_setF_same _ _ _ _ (by decide)]
    split <;> rfl

section
variable {set input k : Nat} {coefs : List Word}

theorem delayRecord_noSlot (h : dsetOf s set = none) : delayRecord set input coefs s = ptsCond 5 s := by
  rw [delayRecord, h]

theorem delayRecord_beyond (h : dsetOf s set = some k) (hb : cfgN s ≤ input ∨ (bitsOf (rd (dsetMem k input 6) s) 0 1 = 0
    ∧ getF (R.PTS_DSET k) F.PTS_DSET_RCVD s = getF (R.PTS_DSET k) F.PTS_DSET_COUNT s)) :
    delayRecord set input coefs s = ptsCond 5 s := by
  rw [delayRecord, h]
  refine if_pos ?_
  rcases hb with hb | ⟨hnew, hfull⟩
  · rw [decide_eq_true hb, Bool.true_or]
  · rw [hnew, hfull, beq_self_eq_true, Bool.and_true]
    exact Bool.or_true _

theorem delayRecord_new (h : dsetOf s set = some k) (hi : input < cfgN s) (hnew : bitsOf (rd (dsetMem k input 6) s) 0 1 = 0)
    (hroom : getF (R.PTS_DSET k) F.PTS_DSET_RCVD s < getF (R.PTS_DSET k) F.PTS_DSET_COUNT s) :
    delayRecord set input coefs s = recordStored k input coefs s := by
  have hbeyond : (decide (cfgN s ≤ input) || (!(bitsOf (rd (dsetMem k input 6) s) 0 1 == 1)
      && getF (R.PTS_DSET k) F.PTS_DSET_RCVD s == getF (R.PTS_DSET k) F.PTS_DSET_COUNT s)) = false := by
    rw [decide_eq_false (by omega), beq_eq_false_iff_ne.2 hroom.ne, Bool.and_false, Bool.or_false]
  rw [delayRecord, h]
  dsimp only
  rw [hbeyond, if_neg Bool.false_ne_true, hnew]
  rfl

/-- A DELAY record that DSET_ERR rejects. -/
theorem delay_rejected {p : TRec → Bool} (h : Heads p rest s) (hcond : delayRecord set input coefs s = ptsCond 5 s) (t : State)
    (ht : t = applyRec p (delayRecord set input coefs) s) :
    t.ttb.recs = rest ∧ getBit R.PTS_STATUS ⟨0, 0, 9⟩ 5 t = true ∧ SetsKept s t := by
  have honly : Only _ _ s (ptsCond 5 s) := only_ptsCond
  obtain ⟨hrecs, hkeep⟩ := applyRec_heads (f := delayRecord set input coefs) h
    (by rw [hcond]; exact honly.2.1 .ttb (by decide))
  rw [hcond, ← ht] at hkeep
  rw [← ht] at hrecs
  have hrd (a : Nat) (ha : 0x3000000 ≤ a) (hne : a ≠ R.PTS_STATUS) : rd a t = rd a s :=
    (hkeep.2.2 a (by unfold BelowPoints; omega)).trans (rd_ptsCond (by decide) ha hne)
  refine ⟨hrecs, ?_, fun k hk => hrd _ ?_ ?_, fun a ha => hrd a ?_ ?_⟩
  · exact (getBit_congr (hkeep.2.2 (R.PTS_STATUS + 0) (by unfold BelowPoints; decide))).trans (getBit_ptsCond (by decide))
  · unfold R.PTS_DSET; omega
  · unfold R.PTS_DSET R.PTS_STATUS; omega
  · unfold within at ha; omega
  · unfold within at ha; unfold R.PTS_STATUS; omega

theorem delay_stored {p : TRec → Bool} (h : Heads p rest s) (hd : dsetOf s set = some k) (hi : input < cfgN s)
    (hlen : coefs.length = 6) (hnew : bitsOf (rd (dsetMem k input 6) s) 0 1 = 0)
    (hroom : getF (R.PTS_DSET k) F.PTS_DSET_RCVD s < getF (R.PTS_DSET k) F.PTS_DSET_COUNT s) (t : State)
    (ht : t = applyRec p (delayRecord set input coefs) s) :
    (∀ w, w < 6 → rd (dsetMem k input w) t = coefs.getD w 0#40) ∧ bitsOf (rd (dsetMem k input 6) t) 0 1 = 1
      ∧ getF (R.PTS_DSET k) F.PTS_DSET_RCVD t = getF (R.PTS_DSET k) F.PTS_DSET_RCVD s + 1
      ∧ getF (R.PTS_DSET k) F.PTS_DSET_COMPLETE t
          = (if getF (R.PTS_DSET k) F.PTS_DSET_RCVD s + 1 = getF (R.PTS_DSET k) F.PTS_DSET_COUNT s then 1 else 0) := by
  have hcount : getF (R.PTS_DSET k) F.PTS_DSET_COUNT s < 2 ^ 14 := bitsOf_lt _ _ _
  have hstored := delayRecord_new (coefs := coefs) hd hi hnew hroom
  obtain ⟨hrcvd, hcomplete⟩ := recordCounted_fields (k := k) (count := getF (R.PTS_DSET k) F.PTS_DSET_COUNT s)
    (s := wr (dsetMem k input 6) 1#40 (coefsFrom k input 0 coefs s)) (Nat.lt_of_le_of_lt hroom hcount)
  obtain ⟨-, hkeep⟩ := applyRec_heads (f := delayRecord set input coefs) h (by rw [hstored, ttb_recordStored])
  rw [hstored, ← ht] at hkeep
  have hrd (a : Nat) (ha : 0x3000000 ≤ a) : rd a t = rd a (recordStored k input coefs s) :=
    hkeep.2.2 a (by unfold BelowPoints; omega)
  have hmem (w : Nat) : rd (dsetMem k input w) t
      = rd (dsetMem k input w) (wr (dsetMem k input 6) 1#40 (coefsFrom k input 0 coefs s)) :=
    (hrd _ (by unfold dsetMem; omega)).trans
      (rd_recordCounted_other (by unfold dsetMem R.PTS_DSET; have := dsetOf_lt hd; omega))
  have hget (f : Fld) (hf : f.sub = 0) : getF (R.PTS_DSET k) f t = getF (R.PTS_DSET k) f (recordStored k input coefs s) :=
    getF_congr (by rw [hf]; exact hrd _ (by unfold R.PTS_DSET; omega))
  refine ⟨fun w hw => ?_, ?_, (hget _ rfl).trans hrcvd, (hget _ rfl).trans hcomplete⟩
  · rw [hmem, rd_wr_other _ _ (by unfold dsetMem; omega)]
    have hcoef := rd_coefsFrom (k := k) (input := input) (n := 0) (s := s) (hlen ▸ hw : w < coefs.length)
    rwa [Nat.zero_add] at hcoef
  · rw [hmem, rd_wr_same]
    decide

end

theorem delaySetRecords : DelaySetRecords := by
  refine ⟨fun i set count t0 span rest s => ⟨fun h => congrArg Host.Outcome.next (applyRec_noHead h), fun h =>
    ⟨fun hz => ⟨_, rfl, ?_⟩, fun hc hs => ⟨_, rfl, ?_⟩⟩⟩, fun set input coefs rest s =>
    ⟨fun h => congrArg Host.Outcome.next (applyRec_noHead h), fun h =>
    ⟨fun hd => ⟨_, rfl, ?_⟩, fun k hd hb => ⟨_, rfl, ?_⟩,
      fun k hd hi hlen hnew hroom => ⟨_, rfl, ?_⟩⟩⟩⟩
  · exact sethdr_rejected i h (hz.imp (by rintro rfl; rfl) (by rintro rfl; rfl)) _ rfl
  · refine sethdr_taken i h (fun hz => hc ?_) (fun hz => hs ?_) set.isLt count.isLt _ rfl
    · exact BitVec.eq_of_toNat_eq hz
    · exact BitVec.eq_of_toNat_eq hz
  · exact delay_rejected h (delayRecord_noSlot hd) _ rfl
  · exact delay_rejected h (delayRecord_beyond hd hb) _ rfl
  · exact delay_stored h hd hi hlen hnew hroom _ rfl

end
end Sys2Proof.Safety

namespace Sys2Proof.Safety
open Sys2Proof.Machine

/-! ### A submission through an enqueue set (R234) -/

section
variable {s u : State} {key code arg set : Nat}

/-- What a submission meets turns on the Points', the Sidings' and the front's words and on the queue. -/
theorem localCheck_congr (hrd : ∀ a, 0x3000000 ≤ a → rd a u = rd a s) (hq : u.ttb.queue = s.ttb.queue) :
    localCheck key code arg u = localCheck key code arg s := by
  have hcfg : cfgP u = cfgP s := congrArg (2 ^ ·) (getF_congr (hrd _ (by decide)))
  have horigin : originNow u = originNow s := get2_congr (hrd _ (by decide)) (hrd _ (by decide))
  have hlen : platLen u = platLen s := getF_congr (hrd _ (by decide))
  have hfront : frontNow u = frontNow s := get2_congr (hrd _ (by decide)) (hrd _ (by decide))
  have hvalid : frontValid u = frontValid s := isSet_congr (hrd _ (by decide))
  have hfree : freeSlot true u = freeSlot true s := by rw [freeSlot, freeSlot, hq]
  rw [localCheck, localCheck, dpKeyOk, dpKeyOk, hcfg, horigin, hlen, hfront, hvalid, hfree]

/-- An entry that is held has a free place. -/
theorem freeSlot_of_held (h : localCheck key code arg s = .accepted ∨ localCheck key code arg s = .provisional) :
    ∃ k, freeSlot true s = some k := by
  refine Option.isSome_iff_exists.1 (Option.isSome_iff_ne_none.2 fun hnone => ?_)
  rw [localCheck, hnone, Option.isNone_none] at h
  revert h
  split
  · decide
  · split
    · decide
    · split
      · decide
      · split
        · decide
        · rw [if_pos rfl]
          decide

/-- The entry held, or the rejection reported. -/
def submitted (set key code arg : Nat) (s : State) : State :=
  if localCheck key code arg s == .accepted || localCheck key code arg s == .provisional then
    putEntry ⟨(freeSlot true s).getD 48, key, code, arg, setSource set, 0, localCheck key code arg s == .provisional,
      s.ttb.turn, 0⟩ s
  else match (localCheck key code arg s).cond with | some b => ttbCond b s | none => s

/-- The set's last entry noted. -/
def noteLast (set : Nat) (last : Option Nat) (s : State) : State :=
  { s with ttb := { s.ttb with lastSub := s.ttb.lastSub.set (fun _ => none) set last } }

theorem localEntry_eq : ∃ last, (localEntry set key code arg s).1
    = setF (R.TTB_ENQ set) F.TTB_ENQ_RESULT (localCheck key code arg s).code (noteLast set last (submitted set key code arg s)) :=
  ⟨_, rfl⟩

theorem code_lt (r : QueueResult) : r.code < 8 := by cases r <;> decide

theorem result_localEntry :
    getF (R.TTB_ENQ set) F.TTB_ENQ_RESULT (localEntry set key code arg s).1 = (localCheck key code arg s).code := by
  obtain ⟨last, h⟩ := localEntry_eq (set := set) (key := key) (code := code) (arg := arg) (s := s)
  rw [h, getF_setF_same _ _ _ _ (by decide)]
  exact Nat.mod_eq_of_lt (code_lt _)

theorem queue_noteLast {last : Option Nat} : (noteLast set last s).ttb.queue = s.ttb.queue := rfl

theorem queue_localEntry : (localEntry set key code arg s).1.ttb.queue = (submitted set key code arg s).ttb.queue := by
  obtain ⟨last, h⟩ := localEntry_eq (set := set) (key := key) (code := code) (arg := arg) (s := s)
  rw [h, setF_ttb, queue_noteLast]

theorem queue_putEntry (e : Entry) : (putEntry e s).ttb.queue = s.ttb.queue ++ [e] := by
  rw [putEntry, countQueue, setF_ttb, setF_ttb, showEntry, wr_ttb, wr_ttb, wr_ttb, wr_ttb]

theorem queue_submitted_held {k : Nat}
    (h : localCheck key code arg s = .accepted ∨ localCheck key code arg s = .provisional) (hk : freeSlot true s = some k) :
    (submitted set key code arg s).ttb.queue = s.ttb.queue ++ [⟨k, key, code, arg, 2 + set, 0,
      localCheck key code arg s == .provisional, s.ttb.turn, 0⟩] := by
  have hok : (localCheck key code arg s == .accepted || localCheck key code arg s == .provisional) = true := by
    rcases h with h | h <;> rw [h] <;> rfl
  rw [submitted, hok, if_pos rfl, queue_putEntry, hk, Option.getD_some, setSource]

theorem queue_submitted_refused (ha : localCheck key code arg s ≠ .accepted) (hp : localCheck key code arg s ≠ .provisional) :
    (submitted set key code arg s).ttb.queue = s.ttb.queue := by
  have hok : (localCheck key code arg s == .accepted || localCheck key code arg s == .provisional) = false := by
    rw [beq_eq_false_iff_ne.2 ha, beq_eq_false_iff_ne.2 hp, Bool.or_false]
  rw [submitted, hok, if_neg Bool.false_ne_true]
  split
  · exact congrArg Timetable.queue ((only_flagEvt _ _ _ _ _).2.1 .ttb (by decide))
  · rfl

end

def ttbEnqRow : WordDef := ⟨0x1000043, 0x4, 10, [⟨F.TTB_ENQ_CODE, .rw, false, .any⟩, ⟨F.TTB_ENQ_GO, .wo, false, .any⟩,
  ⟨F.TTB_ENQ_RESULT, .ro, false, .any⟩]⟩

theorem regDef_ttbEnq : ∀ set : Fin 10, regDef (R.TTB_ENQ set + 3) = some ttbEnqRow := by decide +kernel

theorem unguarded_ttbEnq : Unguarded ttbEnqRow := by unfold Unguarded; decide

section
variable {s : State} {m : Master} {set : Fin 10}

theorem ownRegister_enq : OwnRegister (R.TTB_ENQ set + 3) := by
  have hset := set.isLt
  refine ⟨by unfold RegisterWord R.TTB_ENQ; omega, fun m hm => by unfold R.TTB_ENQ R.ILK_MST; omega, fun s => ?_⟩
  simp only [wordVoid, show (R.TTB_ENQ set + 3) / 0x10000 = 0x100 by unfold R.TTB_ENQ; omega,
    decide_eq_false (show ¬ 0x1008000 ≤ R.TTB_ENQ set + 3 by unfold R.TTB_ENQ; omega), Bool.false_and]

theorem foreignEnq_owner (h : m.val = enqOwner set) : foreignEnq m (R.TTB_ENQ set + 3) = false := by
  have hset : (R.TTB_ENQ set + 3 - 0x1000040) / 4 = set := by unfold R.TTB_ENQ; omega
  rw [foreignEnq, hset, ← h, bne_self_eq_false, Bool.and_false]

theorem regEffect_enq {v old : Word} {l fr : Bool} (hgo : flag v F.TTB_ENQ_GO = true) :
    regEffect m (R.TTB_ENQ set + 3) old v l fr s = enqueueGo set s := by
  have hindex : (R.TTB_ENQ set + 3 - 0x1000040) / 4 = set := by unfold R.TTB_ENQ; omega
  have hset := set.isLt
  simp only [regEffect, show (R.TTB_ENQ set + 3) / 0x10000 = 0x100 by unfold R.TTB_ENQ; omega, hindex]
  exact if_pos ⟨by unfold R.TTB_ENQ; omega, by unfold R.TTB_ENQ; omega, hgo⟩

/-- The set's last word stored with GO. -/
def enqStored (m : Nat) (set : Nat) (s : State) : State :=
  wordStored ttbEnqRow m (R.TTB_ENQ set + 3) (heldField (R.TTB_ENQ set + 3) F.TTB_ENQ_GO 1 s) s

theorem fieldWrite_enqGo (hm : m.val = enqOwner set) (hr : Reaches m (R.TTB_ENQ set + 3) s) :
    fieldWrite m (R.TTB_ENQ set) F.TTB_ENQ_GO 1 s = putAnswer m ⟨0, [], 1⟩ (enqueueGo set (enqStored m set s)) := by
  have hgo : flag (heldField (R.TTB_ENQ set + 3) F.TTB_ENQ_GO 1 s) F.TTB_ENQ_GO = true := by
    rw [flag, heldField, bitsOf_putBits_same _ _ _ _ (by decide)]
    rfl
  have hwrite : fieldWrite m (R.TTB_ENQ set) F.TTB_ENQ_GO 1 s
      = writeAccess m (R.TTB_ENQ set + 3) (heldField (R.TTB_ENQ set + 3) F.TTB_ENQ_GO 1 s) s := rfl
  rw [hwrite, writeAccess_unguarded m.isLt ownRegister_enq (foreignEnq_owner hm) hr (regDef_ttbEnq set) unguarded_ttbEnq,
    regEffect_enq hgo, enqStored]

theorem rd_enqStored_other {a : Nat} (hne : a ≠ R.TTB_ENQ set + 3) (hm : a ≠ R.ILK_MST m) :
    rd a (enqStored m set s) = rd a s := rd_wordStored_other hne hm

/-- The entry that the set holds is as before the write of GO. -/
theorem entry_enqStored : get2 (R.TTB_ENQ set) F.TTB_ENQ_KEY_LO F.TTB_ENQ_KEY_HI (enqStored m set s)
      = get2 (R.TTB_ENQ set) F.TTB_ENQ_KEY_LO F.TTB_ENQ_KEY_HI s
    ∧ getF (R.TTB_ENQ set) F.TTB_ENQ_CODE (enqStored m set s) = getF (R.TTB_ENQ set) F.TTB_ENQ_CODE s
    ∧ getF (R.TTB_ENQ set) F.TTB_ENQ_ARG (enqStored m set s) = getF (R.TTB_ENQ set) F.TTB_ENQ_ARG s := by
  have hm := m.isLt
  have hset := set.isLt
  have hrd (k : Nat) (hk : k < 3) : rd (R.TTB_ENQ set + k) (enqStored m set s) = rd (R.TTB_ENQ set + k) s :=
    rd_enqStored_other (by omega) (by unfold R.TTB_ENQ R.ILK_MST; omega)
  refine ⟨get2_congr (hrd 0 (by decide)) (hrd 1 (by decide)), ?_, getF_congr (hrd 2 (by decide))⟩
  exact bitsOf_wordStored_kept (d := ⟨F.TTB_ENQ_CODE, .rw, false, .any⟩) (f := F.TTB_ENQ_GO) (regDef_ttbEnq set) (by decide)
    (by decide) (by decide) (by unfold Apart; decide)

theorem ttb_enqStored : (enqStored m set s).ttb = s.ttb := only_wordStored.2.1 .ttb (by simp)

theorem localCheck_enqStored {key code arg : Nat} :
    localCheck key code arg (enqStored m set s) = localCheck key code arg s := by
  have hm := m.isLt
  have hset := set.isLt
  exact localCheck_congr (fun a ha => rd_enqStored_other (by unfold R.TTB_ENQ; omega) (by unfold R.ILK_MST; omega))
    (congrArg Timetable.queue ttb_enqStored)

theorem freeSlot_enqStored : freeSlot true (enqStored m set s) = freeSlot true s := by
  rw [freeSlot, freeSlot, ttb_enqStored]

end

theorem enqueueSetSubmits : EnqueueSetSubmits := by
  intro m set s hm hr
  dsimp only
  obtain ⟨hkey, hcode, harg⟩ := entry_enqStored (m := m) (set := set) (s := s)
  have hgo : enqueueGo set (enqStored m set s) = (localEntry set (get2 (R.TTB_ENQ set) F.TTB_ENQ_KEY_LO F.TTB_ENQ_KEY_HI s)
      (getF (R.TTB_ENQ set) F.TTB_ENQ_CODE s) (getF (R.TTB_ENQ set) F.TTB_ENQ_ARG s) (enqStored m set s)).1 := by
    rw [enqueueGo, hkey, hcode, harg]
  have hqueue : (putAnswer m ⟨0, [], 1⟩ (enqueueGo set (enqStored m set s))).ttb.queue
      = (submitted set (get2 (R.TTB_ENQ set) F.TTB_ENQ_KEY_LO F.TTB_ENQ_KEY_HI s) (getF (R.TTB_ENQ set) F.TTB_ENQ_CODE s)
        (getF (R.TTB_ENQ set) F.TTB_ENQ_ARG s) (enqStored m set s)).ttb.queue := by
    rw [(only_putAnswer _).2.1 .ttb (by decide), hgo, queue_localEntry]
  refine ⟨_, congrArg Host.Outcome.next (fieldWrite_enqGo hm hr), okay_putAnswer, ?_, fun h => ?_, fun ha hp => ?_⟩
  · rw [getF_putAnswer, hgo, result_localEntry, localCheck_enqStored]
  · obtain ⟨k, hk⟩ := freeSlot_of_held h
    refine ⟨k, hk, ?_⟩
    rw [hqueue, queue_submitted_held (by rw [localCheck_enqStored]; exact h) (freeSlot_enqStored.trans hk), localCheck_enqStored,
      ttb_enqStored]
  · rw [hqueue, queue_submitted_refused (by rw [localCheck_enqStored]; exact ha) (by rw [localCheck_enqStored]; exact hp),
      ttb_enqStored]

/-- Settles O9: the head record has its own effect and leaves the queue of records; a write of GO stores its word, which
leaves the submission's check as it was, and submits. -/
theorem delaySetsAndEnqueueSets : Obligations.DelaySetsAndEnqueueSets := ⟨delaySetRecords, enqueueSetSubmits⟩

end Sys2Proof.Safety

namespace Sys2Proof.Safety
open Sys2Proof.Machine

/-! ### The Bell's words beside the Sidings' events (R289, R292) -/

/-- The words that the raises write: the host log and the events' sources. -/
def BellSpace (a : Nat) : Prop := within 0x1010001 0x1012400 a

section
variable {s t : State} {a b e x k j i : Nat} {f : Fld} {ps : List Part} {w : Nat → Prop}

theorem bellWord_bellSpace (he : e < 1024) (h : bellWord e a) : BellSpace a := by
  simp only [bellWord, R.BEL_SRC, R.BEL_LOGPOS, R.BEL_LOG] at h
  unfold BellSpace within
  omega

theorem only_raise_bellSpace (he : e < 1024) : Only [.bellq, .health] BellSpace s (raise e s) :=
  (only_raise e s).widen (by simp) fun _ => bellWord_bellSpace he

theorem rd_raise_apart (he : e < 1024) (ha : ¬ BellSpace a) : rd a (raise e s) = rd a s :=
  (only_raise_bellSpace he).2.2 a ha

theorem getF_raise_apart (he : e < 1024) (ha : ¬ BellSpace (b + f.sub)) : getF b f (raise e s) = getF b f s :=
  getF_congr (rd_raise_apart he ha)

/-- A raised event stays raised while its source's word stands. -/
theorem Raised.keep (h : Raised e s) (hr : rd (R.BEL_SRC e) t = rd (R.BEL_SRC e) s) : Raised e t :=
  (isSet_congr (f := F.BEL_SRC_STS) hr).trans h

theorem Raised.setF (h : Raised e s) (he : e < 1024) (hb : 0x4000000 ≤ b) : Raised e (setF b f x s) :=
  h.keep (rd_setF_other _ _ (by unfold R.BEL_SRC; omega))

/-- No raise takes back an event. -/
theorem Raised.raise (h : Raised e s) (he : e < 1024) (x : Nat) : Raised e (raise x s) := by
  by_cases hx : x = e
  · subst hx
    exact raised_raise he
  · refine h.keep (rd_raise_other x s ?_)
    simp only [bellWord, R.BEL_SRC, R.BEL_LOGPOS, R.BEL_LOG]
    omega

/-- A word that stands keeps its fields. -/
theorem getF_of_rd (hsub : f.sub = 0) (h : rd b t = rd b s) : getF b f t = getF b f s :=
  getF_congr (by rw [hsub]; exact h)

theorem isSet_of_rd (hsub : f.sub = 0) (h : rd b t = rd b s) : isSet b f t = isSet b f s :=
  isSet_congr (by rw [hsub]; exact h)

theorem getBit_of_rd (hsub : f.sub = 0) (h : rd b t = rd b s) : getBit b f k t = getBit b f k s :=
  getBit_congr (by rw [hsub]; exact h)

theorem stackEvent_lt (hk : k < 8) (hi : i < 8) : ev 5 (8 * k + i) < 1024 := by unfold ev; omega

/-! ### The Sidings' conditions (Table 5.10) -/

theorem only_sdgCond (hi : i < 9) :
    Only [.bellq, .health] (fun a => a = R.SDG_STATUS ∨ BellSpace a) s (sdgCond i s) :=
  (only_flagEvt _ _ _ _ s).widen (by simp) fun _ h => h.imp_right (bellWord_bellSpace (by unfold ev; omega))

theorem sdgStatus_not_bellWord (hi : i < 9) : ¬ bellWord (ev 6 (32 + i)) R.SDG_STATUS := by
  simp only [bellWord, ev, R.SDG_STATUS, R.BEL_SRC, R.BEL_LOGPOS, R.BEL_LOG]
  omega

theorem getBit_sdgCond (hi : i < 9) : getBit R.SDG_STATUS ⟨0, 0, 9⟩ i (sdgCond i s) = true :=
  getBit_flagEvt hi (by dsimp only; omega) (sdgStatus_not_bellWord hi)

/-- The word lies with the Sidings or beyond, so no raise writes it. -/
theorem not_bellSpace (ha : 0x4000000 ≤ a) : ¬ BellSpace a := by
  unfold BellSpace within
  omega

/-- A condition moves no word of the Sidings but SDG_STATUS. -/
theorem rd_sdgCond (hi : i < 9) (ha : 0x4000000 ≤ a) (hne : a ≠ R.SDG_STATUS) : rd a (sdgCond i s) = rd a s :=
  (only_sdgCond hi).2.2 a (not_or.2 ⟨hne, not_bellSpace ha⟩)

theorem Raised.sdgCond (h : Raised e s) (he : e < 1024) : Raised e (sdgCond i s) := by
  unfold Machine.sdgCond flagEvt
  split
  · exact h
  · exact Raised.raise (h.setF he (by decide)) he _

/-! ### A stack's register (R135, R136) -/

theorem sdgStk_apart (h : j ≠ k) : R.SDG_STK j ≠ R.SDG_STK k := by
  unfold R.SDG_STK
  omega

theorem sdgStk_ge : 0x4000000 ≤ R.SDG_STK k := by
  unfold R.SDG_STK
  omega

theorem stackState_congr (h : rd (R.SDG_STK k) t = rd (R.SDG_STK k) s) : stackState k t = stackState k s :=
  getF_of_rd rfl h

/-- A change of state (R135). -/
theorem setStack_change (h : stackState k s ≠ x) :
    setStack k x s = raise (ev 5 (8 * k + 7)) (setF (R.SDG_STK k) F.SDG_STK_STATE x s) := if_neg h

theorem setStack_same (h : stackState k s = x) : setStack k x s = s := if_pos h

theorem only_setStack (x : Nat) (s : State) : Only [.bellq, .health]
    (fun a => a = R.SDG_STK k ∨ bellWord (ev 5 (8 * k + 7)) a) s (setStack k x s) := by
  unfold setStack
  split
  · exact Only.refl _ _ _
  · exact ((only_setF _ _ _ s).widen (by simp) fun _ => .inl).trans ((only_raise _ _).widen (by simp) fun _ => .inr)

/-- The stack's register and its event's words hold no other word of the Sidings. -/
theorem not_stackWord (hk : k < 8) (ha : 0x4000000 ≤ a) (hne : a ≠ R.SDG_STK k) :
    ¬ (a = R.SDG_STK k ∨ bellWord (ev 5 (8 * k + 7)) a) :=
  not_or.2 ⟨hne, fun h => not_bellSpace ha (bellWord_bellSpace (stackEvent_lt hk (by decide)) h)⟩

theorem rd_setStack_other (hk : k < 8) (ha : 0x4000000 ≤ a) (hne : a ≠ R.SDG_STK k) :
    rd a (setStack k x s) = rd a s :=
  (only_setStack x s).2.2 a (not_stackWord hk ha hne)

theorem stackState_setStack (hk : k < 8) (hx : x < 8) : stackState k (setStack k x s) = x := by
  by_cases h : stackState k s = x
  · rw [setStack_same h, h]
  · rw [setStack_change h, stackState, getF_raise_apart (stackEvent_lt hk (by decide)) (not_bellSpace sdgStk_ge),
      getF_setF_same _ _ _ _ (by decide)]
    exact Nat.mod_eq_of_lt hx

theorem stackState_setStack_other (hk : k < 8) (h : j ≠ k) : stackState j (setStack k x s) = stackState j s :=
  stackState_congr (rd_setStack_other hk sdgStk_ge (sdgStk_apart h))

/-- A change of state leaves the other fields of the stack's register. -/
theorem getF_setStack (hk : k < 8) (hf : F.SDG_STK_STATE.lo + F.SDG_STK_STATE.w ≤ f.lo) (hsub : f.sub = 0) :
    getF (R.SDG_STK k) f (setStack k x s) = getF (R.SDG_STK k) f s := by
  by_cases h : stackState k s = x
  · rw [setStack_same h]
  · rw [setStack_change h, getF_raise_apart (stackEvent_lt hk (by decide))
      (not_bellSpace (by rw [hsub]; exact sdgStk_ge)), getF_setF_apart _ _ (by decide) (.inr hf)]

theorem raised_setStack (hk : k < 8) (h : stackState k s ≠ x) : Raised (ev 5 (8 * k + 7)) (setStack k x s) := by
  rw [setStack_change h]
  exact raised_raise (stackEvent_lt hk (by decide))

theorem Raised.setStack (h : Raised e s) (he : e < 1024) : Raised e (setStack k x s) := by
  unfold Machine.setStack
  split
  · exact h
  · exact (h.setF he sdgStk_ge).raise he _

/-! ### Training begins (R136) -/

theorem stackState_beginTraining (hk : k < 8) : stackState k (beginTraining k s) = 1 :=
  stackState_setStack hk (by decide)

theorem step_beginTraining (hk : k < 8) : getF (R.SDG_STK k) F.SDG_STK_STEP (beginTraining k s) = 1 :=
  (getF_setStack hk (by decide) rfl).trans (getF_setF_same _ _ _ _ (by decide))

theorem attempts_beginTraining (hk : k < 8) : getF (R.SDG_STK k) F.SDG_STK_ATTEMPTS (beginTraining k s) = 0 :=
  (getF_setStack hk (by decide) rfl).trans <|
    (getF_setF_apart _ _ (by decide) (by decide)).trans (getF_setF_same _ _ _ _ (by decide))

theorem only_beginTraining : Only [.bellq, .health]
    (fun a => a = R.SDG_STK k ∨ bellWord (ev 5 (8 * k + 7)) a) s (beginTraining k s) :=
  ((only_setF _ _ _ s).widen (by simp) fun _ => .inl).trans <|
    ((only_setF _ _ _ _).widen (by simp) fun _ => .inl).trans (only_setStack _ _)

theorem rd_beginTraining_other (hk : k < 8) (ha : 0x4000000 ≤ a) (hne : a ≠ R.SDG_STK k) :
    rd a (beginTraining k s) = rd a s :=
  only_beginTraining.2.2 a (not_stackWord hk ha hne)

theorem raised_beginTraining (hk : k < 8) (h : stackState k s ≠ 1) : Raised (ev 5 (8 * k + 7)) (beginTraining k s) := by
  refine raised_setStack hk ?_
  rwa [stackState, getF_setF_apart _ _ (by decide) (by decide), getF_setF_apart _ _ (by decide) (by decide)]

theorem Raised.beginTraining (h : Raised e s) (he : e < 1024) : Raised e (beginTraining k s) :=
  ((h.setF he sdgStk_ge).setF he sdgStk_ge).setStack he

end

/-! ### Load steps (R353) -/

section
variable {s t : State} {a e k j : Nat} {f : Fld} {x y : LoadStep}

/-- The Substation's own state replaced. -/
theorem only_putPow {p : Power} : Only [.pow] (fun _ => False) s (putPow p s) := by
  refine ⟨rfl, fun q hq => ?_, fun _ _ => rfl⟩
  cases q
  case pow => exact absurd (List.mem_singleton_self _) hq
  all_goals rfl

/-- A load step that waits for the headway. -/
def stepQueued (x : LoadStep) (s : State) : State :=
  incF R.SUB_HEADWAY F.SUB_HEADWAY_WAITS 1 (showQlen (putPow { s.pow with queue := s.pow.queue ++ [x] } s))

theorem requestStep_waits (h : s.pow.busy = true ∨ s.pow.queue ≠ []) : requestStep x s = stepQueued x s := by
  refine if_pos ?_
  rw [Bool.or_eq_true, Bool.not_eq_true', List.isEmpty_eq_false_iff]
  exact h

theorem requestStep_starts (hb : s.pow.busy = false) (hq : s.pow.queue = []) :
    requestStep x s = doStep x (putPow { s.pow with busy := true } s) := by
  refine if_neg ?_
  rw [hb, hq]
  exact Bool.false_ne_true

/-- A step that is requested waits, or takes place at once. -/
theorem requestStep_cases : requestStep x s = stepQueued x s
    ∨ requestStep x s = doStep x (putPow { s.pow with busy := true } s) := by
  unfold requestStep
  split
  · exact .inl rfl
  · exact .inr rfl

theorem pow_stepQueued : (stepQueued x s).pow = { s.pow with queue := s.pow.queue ++ [x] } := rfl

theorem only_stepQueued : Only [.pow] (fun a => a = R.SUB_HEADWAY) s (stepQueued x s) :=
  (only_putPow.widen (by simp) fun _ h => h.elim).trans <|
    ((only_setF R.SUB_HEADWAY F.SUB_HEADWAY_QLEN _ _).widen (by simp) fun _ h => h).trans <|
    (only_setF R.SUB_HEADWAY F.SUB_HEADWAY_WAITS _ _).widen (by simp) fun _ h => h

theorem rd_stepQueued (ha : 0x4000000 ≤ a) : rd a (stepQueued x s) = rd a s :=
  only_stepQueued.2.2 a (by unfold R.SUB_HEADWAY; omega)

theorem doStep_exit_eq : doStep (.exit k) s = if stackState k s = 3 then setStack k 2 s else s := rfl

theorem doStep_retrain_eq :
    doStep (.retrain k) s = if stackState k s = 2 ∨ stackState k s = 3 then beginTraining k s else s := rfl

theorem doStep_exit (h : stackState k s = 3) : doStep (.exit k) s = setStack k 2 s := if_pos h

theorem doStep_retrain (h : stackState k s = 2 ∨ stackState k s = 3) : doStep (.retrain k) s = beginTraining k s :=
  if_pos h

end

end Sys2Proof.Safety

namespace Sys2Proof.Safety
open Sys2Proof.Machine

/-! ### The commands of one stack (R135-R137, R140, R150) -/

section
variable {s t : State} {a d e k j n step temp : Nat} {f : Fld} {x : LoadStep}

/-- The Sidings' own state replaced. -/
def putSdg (x : Siding) (s : State) : State := { s with sdg := x }

theorem only_putSdg {x : Siding} : Only [.sdg] (fun _ => False) s (putSdg x s) := by
  refine ⟨rfl, fun q hq => ?_, fun _ _ => rfl⟩
  cases q
  case sdg => exact absurd (List.mem_singleton_self _) hq
  all_goals rfl

@[simp] theorem rd_putSdg (x : Siding) : rd a (putSdg x s) = rd a s := rfl

@[simp] theorem stackState_putSdg (x : Siding) : stackState k (putSdg x s) = stackState k s := rfl

@[simp] theorem stackState_putPow (x : Power) : stackState k (putPow x s) = stackState k s := rfl

theorem only_loseStack : Only [.hbm, .hbmErr] (fun _ => False) s (loseStack k s) := by
  refine ⟨rfl, fun q hq => ?_, fun _ _ => rfl⟩
  cases q
  case hbm => exact absurd (by decide) hq
  case hbmErr => exact absurd (by decide) hq
  all_goals rfl

/-- The words of a lost stack read as 0. -/
theorem hbm_loseStack (h : a / (32 * pcWords) = k) : (loseStack k s).hbm.get (fun _ => 0#40) a = 0#40 := by
  rw [loseStack, Store.get_keep, h, bne_self_eq_false, if_neg Bool.false_ne_true]

/-- With no setting that waits and a stack in training, the end of one training starts nothing. -/
theorem trainingOver_of_training (hlate : s.sdg.late = []) (h : anyTraining s = true) : trainingOver s = s := by
  have hset : settingsGoOn s = s := by rw [settingsGoOn, hlate, applyWords, ← hlate]
  have hrate : rateOver s = false := by rw [rateOver, h, Bool.not_true, Bool.and_false, Bool.false_and]
  simp only [trainingOver, hset, hrate, Bool.false_eq_true, if_false, rateDue, h, Bool.not_true, Bool.and_false,
    Bool.false_and, when_false]

/-- With no change of rate in progress or deferred and no setting that waits, the end of a training starts nothing. -/
theorem trainingOver_of_noRate (hlate : s.sdg.late = []) (hrun : s.sdg.rateRun = false)
    (hpend : isSet R.SDG_STACKS F.SDG_STACKS_RATE_PEND s = false) : trainingOver s = s := by
  have hset : settingsGoOn s = s := by rw [settingsGoOn, hlate, applyWords, ← hlate]
  have hrate : rateOver s = false := by rw [rateOver, hrun, Bool.false_and, Bool.false_and]
  simp only [trainingOver, hset, hrate, Bool.false_eq_true, if_false, rateDue, hpend, Bool.false_and, when_false]

theorem commitsGoOn_of_none (h : s.cpl.waitq = []) : commitsGoOn s = s := by
  refine if_neg ?_
  rw [h, List.isEmpty_nil, Bool.not_true, Bool.and_false]
  exact Bool.false_ne_true

theorem anyTraining_of_state (hk : k < 8) (h : stackState k s = 1) : anyTraining s = true :=
  List.any_eq_true.2 ⟨k, List.mem_range.2 hk, beq_iff_eq.2 h⟩

theorem stackTrainingStart_begins (k : StackId) (h : stackState k s = 0) (hd : 2 ≤ domState (stackDomain k) s) :
    After (exec (.stackTrainingStart k) s) fun t =>
      stackState k t = 1 ∧ getF (R.SDG_STK k) F.SDG_STK_ATTEMPTS t = 0 ∧ Raised (ev 5 (8 * k + 7)) t
      ∧ getF (R.SDG_STK k) F.SDG_STK_STEP t = 1
      ∧ Only [.bellq, .health] (fun a => a = R.SDG_STK k ∨ bellWord (ev 5 (8 * k + 7)) a) s t :=
  ⟨beginTraining k s, congrArg Host.Outcome.next (if_pos ⟨h, hd⟩), stackState_beginTraining k.isLt,
    attempts_beginTraining k.isLt, raised_beginTraining k.isLt (by rw [h]; decide), step_beginTraining k.isLt,
    only_beginTraining⟩

/-! ### A training attempt fails (R136) -/

theorem attemptEvent_lt (hk : k < 8) : ev 5 (8 * k) < 1024 := stackEvent_lt (i := 0) hk (by decide)

/-- A failed attempt as it is counted and reported. -/
def attemptFailed (k step : Nat) (s : State) : State :=
  setF (R.SDG_STK k) F.SDG_STK_STEP step
    (raise (ev 5 (8 * k)) (setF (R.SDG_STK k) F.SDG_STK_ATTEMPTS (getF (R.SDG_STK k) F.SDG_STK_ATTEMPTS s + 1) s))

theorem trainingFail_eq : trainingFail k step s
    = when (decide (3 ≤ getF (R.SDG_STK k) F.SDG_STK_ATTEMPTS s + 1)) (failStack k) (attemptFailed k step s) := rfl

theorem only_attemptFailed (hk : k < 8) :
    Only [.bellq, .health] (fun a => a = R.SDG_STK k ∨ BellSpace a) s (attemptFailed k step s) :=
  ((only_setF _ _ _ s).widen (by simp) fun _ => .inl).trans <|
    ((only_raise_bellSpace (attemptEvent_lt hk)).widen (by simp) fun _ => .inr).trans <|
    (only_setF _ _ _ _).widen (by simp) fun _ => .inl

theorem step_attemptFailed (hstep : step < 8) : getF (R.SDG_STK k) F.SDG_STK_STEP (attemptFailed k step s) = step :=
  (getF_setF_same _ _ _ _ (by decide)).trans (Nat.mod_eq_of_lt hstep)

theorem attempts_attemptFailed (hk : k < 8) (h : getF (R.SDG_STK k) F.SDG_STK_ATTEMPTS s < 3) :
    getF (R.SDG_STK k) F.SDG_STK_ATTEMPTS (attemptFailed k step s) = getF (R.SDG_STK k) F.SDG_STK_ATTEMPTS s + 1 := by
  rw [attemptFailed, getF_setF_apart _ _ (by decide) (by decide),
    getF_raise_apart (attemptEvent_lt hk) (not_bellSpace sdgStk_ge), getF_setF_same _ _ _ _ (by decide)]
  exact Nat.mod_eq_of_lt (Nat.succ_lt_succ h)

theorem stackState_attemptFailed (hk : k < 8) : stackState k (attemptFailed k step s) = stackState k s := by
  rw [stackState, attemptFailed, getF_setF_apart _ _ (by decide) (by decide),
    getF_raise_apart (attemptEvent_lt hk) (not_bellSpace sdgStk_ge),
    getF_setF_apart _ _ (by decide) (by decide), stackState]

theorem raised_attemptFailed (hk : k < 8) : Raised (ev 5 (8 * k)) (attemptFailed k step s) :=
  (raised_raise (attemptEvent_lt hk)).setF (attemptEvent_lt hk) sdgStk_ge

theorem trainingStepTimeout_retries (k : StackId) (step : Fin 5) (h : stackState k s = 1)
    (ha : getF (R.SDG_STK k) F.SDG_STK_ATTEMPTS s < 2) (hw : NoneWaits s) :
    After (exec (.trainingStepTimeout k step) s) fun t => getF (R.SDG_STK k) F.SDG_STK_STEP t = step.val + 1 ∧
      stackState k t = 1 ∧ getF (R.SDG_STK k) F.SDG_STK_ATTEMPTS t = getF (R.SDG_STK k) F.SDG_STK_ATTEMPTS s + 1
      ∧ Raised (ev 5 (8 * k)) t ∧ t.hbm = s.hbm := by
  obtain ⟨hlate, hwait⟩ := hw
  have hk := k.isLt
  have hstep := step.isLt
  have honly := only_attemptFailed (s := s) (step := step.val + 1) hk
  have hstate := (stackState_attemptFailed (step := step.val + 1) hk).trans h
  have hfail : trainingFail k (step.val + 1) s = attemptFailed k (step.val + 1) s := by
    rw [trainingFail_eq, decide_eq_false (by omega), when_false]
  have hrun : commitsGoOn (trainingStepTimeout k step.val s) = attemptFailed k (step.val + 1) s := by
    rw [trainingStepTimeout, if_pos h, hfail,
      trainingOver_of_training (by rw [honly.2.1 .sdg (by decide), hlate]) (anyTraining_of_state hk hstate),
      commitsGoOn_of_none (by rw [honly.2.1 .cpl (by decide), hwait])]
  exact ⟨_, congrArg Host.Outcome.next hrun, step_attemptFailed (by omega), hstate, attempts_attemptFailed hk (by omega),
    raised_attemptFailed hk, honly.2.1 .hbm (by decide)⟩

/-! ### A stack fails (R136) -/

/-- The Sidings' record of a failed stack. -/
def failureNoted (k : Nat) (s : State) : Siding :=
  { s.sdg with lost := s.sdg.lost &&& (255 ^^^ 2 ^ k),
               restart := s.sdg.restart || decide (workMask s / 2 ^ k % 2 = 1) }

/-- A stack that has failed, before its domain is switched off. -/
def stackFailed (k : Nat) (s : State) : State :=
  loseStack k (raise (ev 5 (8 * k + 1)) (setBit R.SDG_STACKS F.SDG_STACKS_FAILED k true (setStack k 4
    (putSdg (failureNoted k s) s))))

theorem failStack_eq : failStack k s = requestStep (.down (stackDomain k)) (stackFailed k s) := rfl

theorem only_setBit {b : Nat} (v : Bool) : Only [] (fun a => a = b + f.sub) s (setBit b f k v s) :=
  only_setF _ _ _ _

/-- What follows the Sidings' own record of a failed stack. -/
theorem only_stackFailed_putSdg (hk : k < 8) {x : Siding} : Only [.bellq, .health, .hbm, .hbmErr]
    (fun a => a = R.SDG_STK k ∨ a = R.SDG_STACKS ∨ BellSpace a) (putSdg x s)
    (loseStack k (raise (ev 5 (8 * k + 1)) (setBit R.SDG_STACKS F.SDG_STACKS_FAILED k true (setStack k 4 (putSdg x s))))) :=
  ((only_setStack 4 _).widen (by decide) fun _ h =>
    h.imp_right fun h => .inr (bellWord_bellSpace (stackEvent_lt hk (by decide)) h)).trans <|
  ((only_setBit true).widen (by simp) fun _ h => .inr (.inl h)).trans <|
  ((only_raise_bellSpace (stackEvent_lt hk (by decide))).widen (by decide) fun _ h => .inr (.inr h)).trans <|
  only_loseStack.widen (by decide) fun _ h => h.elim

theorem sdg_stackFailed (hk : k < 8) : (stackFailed k s).sdg = failureNoted k s :=
  (only_stackFailed_putSdg hk).2.1 .sdg (by decide)

theorem only_stackFailed (hk : k < 8) : Only [.sdg, .bellq, .health, .hbm, .hbmErr]
    (fun a => a = R.SDG_STK k ∨ a = R.SDG_STACKS ∨ BellSpace a) s (stackFailed k s) :=
  (only_putSdg.widen (by decide) fun _ h => h.elim).trans ((only_stackFailed_putSdg hk).widen (by decide) fun _ h => h)

theorem rd_loseStack : rd a (loseStack k s) = rd a s := rfl

theorem sdgStacks_ne_stk : R.SDG_STACKS ≠ R.SDG_STK k := by
  simp only [R.SDG_STACKS, R.SDG_STK]
  omega

theorem rd_sdgStk_stackFailed (hk : k < 8) :
    rd (R.SDG_STK j) (stackFailed k s) = rd (R.SDG_STK j) (setStack k 4 (putSdg (failureNoted k s) s)) := by
  rw [stackFailed, rd_loseStack, rd_raise_apart (stackEvent_lt hk (by decide)) (not_bellSpace sdgStk_ge),
    setBit, rd_setF_other _ _ sdgStacks_ne_stk.symm]

theorem stackState_stackFailed (hk : k < 8) : stackState k (stackFailed k s) = 4 :=
  (stackState_congr (rd_sdgStk_stackFailed hk)).trans (stackState_setStack hk (by decide))

theorem step_stackFailed (hk : k < 8) :
    getF (R.SDG_STK k) F.SDG_STK_STEP (stackFailed k s) = getF (R.SDG_STK k) F.SDG_STK_STEP s :=
  (getF_of_rd rfl (rd_sdgStk_stackFailed hk)).trans (getF_setStack hk (by decide) rfl)

theorem rd_sdgStacks_stackFailed (hk : k < 8) :
    rd R.SDG_STACKS (stackFailed k s) = rd R.SDG_STACKS (setBit R.SDG_STACKS F.SDG_STACKS_FAILED k true s) := by
  have hset : rd R.SDG_STACKS (setStack k 4 (putSdg (failureNoted k s) s)) = rd R.SDG_STACKS s :=
    rd_setStack_other hk (by decide) sdgStacks_ne_stk
  rw [stackFailed, rd_loseStack, rd_raise_apart (stackEvent_lt hk (by decide)) (not_bellSpace (by decide))]
  simp only [setBit, rd_setF, F.SDG_STACKS_FAILED, Nat.add_zero, if_true, hset]

theorem failed_stackFailed (hk : k < 8) : getBit R.SDG_STACKS F.SDG_STACKS_FAILED k (stackFailed k s) = true :=
  (getBit_of_rd rfl (rd_sdgStacks_stackFailed hk)).trans (getBit_setBit_same _ _ _ _ _ hk (by decide))

theorem ratePend_stackFailed (hk : k < 8) :
    isSet R.SDG_STACKS F.SDG_STACKS_RATE_PEND (stackFailed k s) = isSet R.SDG_STACKS F.SDG_STACKS_RATE_PEND s := by
  rw [isSet_of_rd rfl (rd_sdgStacks_stackFailed hk), isSet, setBit,
    getF_setF_apart _ _ (by simp only [F.SDG_STACKS_FAILED]; omega)
      (by simp only [F.SDG_STACKS_FAILED, F.SDG_STACKS_RATE_PEND]; omega), isSet]

theorem raised_stackFailed (hk : k < 8) : Raised (ev 5 (8 * k + 1)) (stackFailed k s) :=
  (raised_raise (stackEvent_lt hk (by decide))).keep rd_loseStack

theorem hbm_stackFailed (h : a / (32 * pcWords) = k) : (stackFailed k s).hbm.get (fun _ => 0#40) a = 0#40 :=
  hbm_loseStack h

/-- A domain that holds no district is switched off. -/
theorem doStep_down (hd : d < 19) : doStep (.down d) s = setDom d 0 s := by
  rw [doStep, decide_eq_false (by omega), when_false]

theorem only_requestDown (hd : d < 19) :
    Only [.pow] (fun a => a = R.SUB_HEADWAY ∨ a = R.SUB_DOM d) s (requestStep (.down d) s) := by
  rcases requestStep_cases (x := .down d) (s := s) with h | h
  · rw [h]
    exact only_stepQueued.widen (by simp) fun _ => .inl
  · rw [h, doStep_down hd]
    exact (only_putPow.widen (by simp) fun _ h => h.elim).trans
      ((only_setF (R.SUB_DOM d) F.SUB_DOM_STATE _ _).widen (by simp) fun _ => .inr)

theorem rd_requestDown (hd : d < 19) (ha : 0x4000000 ≤ a) : rd a (requestStep (.down d) s) = rd a s :=
  (only_requestDown hd).2.2 a (by simp only [R.SUB_HEADWAY, R.SUB_DOM]; omega)

theorem stackDomain_lt (hk : k < 8) : stackDomain k < 19 := by unfold stackDomain; omega

theorem trainingStepTimeout_fails (k : StackId) (step : Fin 5) (h : stackState k s = 1)
    (ha : getF (R.SDG_STK k) F.SDG_STK_ATTEMPTS s = 2) (hpend : isSet R.SDG_STACKS F.SDG_STACKS_RATE_PEND s = false)
    (hrun : s.sdg.rateRun = false) (hw : NoneWaits s) :
    After (exec (.trainingStepTimeout k step) s) fun t => getF (R.SDG_STK k) F.SDG_STK_STEP t = step.val + 1 ∧
      stackState k t = 4 ∧ getBit R.SDG_STACKS F.SDG_STACKS_FAILED k t = true ∧ Raised (ev 5 (8 * k + 1)) t
      ∧ (s.pow.busy = false → s.pow.queue = [] → domState (stackDomain k) t = 0)
      ∧ (s.pow.busy = true ∨ s.pow.queue ≠ [] → t.pow.queue = s.pow.queue ++ [.down (stackDomain k)])
      ∧ ∀ a, a / (32 * pcWords) = k → t.hbm.get (fun _ => 0#40) a = 0#40 := by
  obtain ⟨hlate, hwait⟩ := hw
  have hk := k.isLt
  have hstep := step.isLt
  obtain ⟨u, hu⟩ : ∃ u, u = attemptFailed k (step.val + 1) s := ⟨_, rfl⟩
  have honly : Only [.bellq, .health] (fun a => a = R.SDG_STK k ∨ BellSpace a) s u := hu ▸ only_attemptFailed hk
  have hdown := only_requestDown (s := stackFailed k u) (stackDomain_lt hk)
  have hfailed := only_stackFailed (s := u) hk
  have hrd {a : Nat} (ha : 0x4000000 ≤ a) : rd a (failStack k u) = rd a (stackFailed k u) :=
    rd_requestDown (stackDomain_lt hk) ha
  have hsdg : (failStack k u).sdg = (stackFailed k u).sdg := hdown.2.1 .sdg (by decide)
  have hpow : (stackFailed k u).pow = s.pow := (hfailed.2.1 .pow (by decide)).trans (honly.2.1 .pow (by decide))
  have hfail : trainingFail k (step.val + 1) s = failStack k u := by
    rw [trainingFail_eq, decide_eq_true (by omega), when_true, hu]
  have hgo : commitsGoOn (trainingStepTimeout k step.val s) = failStack k u := by
    rw [trainingStepTimeout, if_pos h, hfail, trainingOver_of_noRate, commitsGoOn_of_none]
    · rw [failStack_eq, hdown.2.1 .cpl (by decide), hfailed.2.1 .cpl (by decide), honly.2.1 .cpl (by decide), hwait]
    · rw [hsdg, sdg_stackFailed hk]
      exact (congrArg Siding.late (honly.2.1 .sdg (by decide))).trans hlate
    · rw [hsdg, sdg_stackFailed hk]
      exact (congrArg Siding.rateRun (honly.2.1 .sdg (by decide))).trans hrun
    · rw [isSet_of_rd rfl (hrd (by decide)), ratePend_stackFailed hk, isSet_of_rd rfl (honly.2.2 _ (not_or.2
        ⟨sdgStacks_ne_stk, not_bellSpace (by decide)⟩)), hpend]
  refine ⟨_, congrArg Host.Outcome.next hgo, ?_, ?_, ?_, ?_, fun hb hq => ?_, fun hb => ?_, fun a ha => ?_⟩
  · rw [getF_of_rd rfl (hrd sdgStk_ge), step_stackFailed hk, hu, step_attemptFailed (by omega)]
  · rw [stackState_congr (hrd sdgStk_ge), stackState_stackFailed hk]
  · rw [getBit_of_rd rfl (hrd (by decide)), failed_stackFailed hk]
  · exact (raised_stackFailed hk).keep (hdown.2.2 _ (by simp only [R.BEL_SRC, ev, R.SUB_HEADWAY, R.SUB_DOM]; omega))
  · rw [failStack_eq, requestStep_starts (by rw [hpow, hb]) (by rw [hpow, hq]), doStep_down (stackDomain_lt hk), domState, setDom,
      getF_setF_same _ _ _ _ (by decide)]
    rfl
  · rw [failStack_eq, requestStep_waits (by rw [hpow]; exact hb), pow_stepQueued, hpow]
  · rw [failStack_eq, hdown.2.1 .hbm (by decide), hbm_stackFailed ha]

/-! ### A stack is trained, or trains in place (R137, R138) -/

/-- The Sidings' record of a stack that is trained: one that was not in the working set changes it. -/
def trainingNoted (k : Nat) (s : State) : Siding :=
  { s.sdg with lost := s.sdg.lost &&& (255 ^^^ 2 ^ k), restart := s.sdg.restart || workMask s / 2 ^ k % 2 == 0 }

/-- A stack that is trained. -/
def stackTrained (k : Nat) (s : State) : State :=
  setF (R.SDG_STK k) F.SDG_STK_STEP 5 (putSdg (trainingNoted k s) (setStack k 2 s))

theorem trainingComplete_eq (h : stackState k s = 1) : trainingComplete k s = trainingOver (stackTrained k s) :=
  if_neg (not_not.2 h)

theorem stackState_stackTrained (hk : k < 8) : stackState k (stackTrained k s) = 2 :=
  (getF_setF_apart _ _ (by decide) (by decide)).trans (stackState_setStack hk (by decide))

theorem step_stackTrained : getF (R.SDG_STK k) F.SDG_STK_STEP (stackTrained k s) = 5 :=
  getF_setF_same _ _ _ _ (by decide)

theorem ratePend_stackTrained (hk : k < 8) :
    isSet R.SDG_STACKS F.SDG_STACKS_RATE_PEND (stackTrained k s) = isSet R.SDG_STACKS F.SDG_STACKS_RATE_PEND s :=
  isSet_of_rd rfl ((rd_setF_other _ _ sdgStacks_ne_stk).trans (rd_setStack_other hk (by decide) sdgStacks_ne_stk))

theorem sdg_stackTrained : (stackTrained k s).sdg = trainingNoted k s := rfl

theorem trainingComplete_readies (k : StackId) (h : stackState k s = 1)
    (hpend : isSet R.SDG_STACKS F.SDG_STACKS_RATE_PEND s = false) (hrun : s.sdg.rateRun = false) (hw : NoneWaits s) :
    After (exec (.trainingComplete k) s) fun t => stackState k t = 2 ∧ getF (R.SDG_STK k) F.SDG_STK_STEP t = 5
        ∧ t.hbm = s.hbm ∧ (workMask s / 2 ^ k.val % 2 = 0 → t.sdg.restart = true) := by
  obtain ⟨hlate, hwait⟩ := hw
  have hk := k.isLt
  have honly := only_setStack (k := k.val) 2 s
  have hgo : commitsGoOn (trainingComplete k s) = stackTrained k s := by
    have hover : trainingOver (stackTrained k s) = stackTrained k s :=
      trainingOver_of_noRate (by rw [sdg_stackTrained, trainingNoted, hlate]) (by rw [sdg_stackTrained, trainingNoted, hrun])
        ((ratePend_stackTrained hk).trans hpend)
    have hcpl : (stackTrained k s).cpl = s.cpl := honly.2.1 .cpl (by decide)
    rw [trainingComplete_eq h, hover, commitsGoOn_of_none (by rw [hcpl, hwait])]
  refine ⟨_, congrArg Host.Outcome.next hgo, stackState_stackTrained hk, step_stackTrained, honly.2.1 .hbm (by decide),
    fun hnew => ?_⟩
  rw [sdg_stackTrained, trainingNoted, hnew]
  exact Bool.or_true _

/-- The Sidings' record of a stack that loses the line. -/
def lossNoted (k : Nat) (s : State) : Siding := { s.sdg with lost := s.sdg.lost ||| 2 ^ k }

/-- A READY stack that trains in place. -/
def retraining (k : Nat) (s : State) : State :=
  beginTraining k (incF (R.SDG_STK k) F.SDG_STK_RETRAIN 1 (putSdg (lossNoted k s) s))

theorem retrainInPlace_ready (h : stackState k s = 2) : retrainInPlace k s = retraining k s := if_pos h

theorem only_retraining : Only [.sdg, .bellq, .health]
    (fun a => a = R.SDG_STK k ∨ bellWord (ev 5 (8 * k + 7)) a) s (retraining k s) :=
  (only_putSdg.widen (by decide) fun _ h => h.elim).trans <|
    ((only_setF _ _ _ _).widen (by simp) fun _ => .inl).trans (only_beginTraining.widen (by decide) fun _ h => h)

theorem rd_retraining (hk : k < 8) (ha : 0x4000000 ≤ a) (hne : a ≠ R.SDG_STK k) : rd a (retraining k s) = rd a s :=
  only_retraining.2.2 a (not_stackWord hk ha hne)

theorem sdg_retraining : (retraining k s).sdg = lossNoted k s := only_beginTraining.2.1 .sdg (by decide)

theorem hbm_retraining : (retraining k s).hbm = s.hbm := only_retraining.2.1 .hbm (by decide)

theorem workMask_retraining (hk : k < 8) : workMask (retraining k s) = workMask s :=
  getF_of_rd rfl (rd_retraining hk (by decide) sdgStacks_ne_stk)

theorem retraining_trains (k : StackId) : stackState k (retraining k s) = 1
    ∧ (retraining k s).sdg.lost = s.sdg.lost ||| 2 ^ k.val ∧ (retraining k s).hbm = s.hbm
    ∧ workMask (retraining k s) = workMask s := by
  refine ⟨stackState_beginTraining k.isLt, ?_, hbm_retraining, workMask_retraining k.isLt⟩
  rw [sdg_retraining]
  exact rfl

theorem phyLockLossOrParityLimit_retrains (k : StackId) (h : stackState k s = 2) :
    ∀ c ∈ [Instr.phyLockLoss k, Instr.caParityLimit k], After (exec c s) fun t =>
      stackState k t = 1 ∧ t.sdg.lost = s.sdg.lost ||| 2 ^ k.val ∧ t.hbm = s.hbm ∧ workMask t = workMask s := by
  have hexec : Host.Outcome.next (retrainInPlace k s) = (Host.Outcome.next (retraining k s) : Out) :=
    congrArg Host.Outcome.next (retrainInPlace_ready h)
  intro c hc
  rcases List.mem_pair.1 hc with rfl | rfl
  · exact ⟨_, hexec, retraining_trains k⟩
  · exact ⟨_, hexec, retraining_trains k⟩

/-! ### Reports and a failed exit (R140, R150) -/

theorem caParityError_reported (k : StackId) (h : stackState k s = 2) :
    After (exec (.caParityError k) s) fun t => stackState k t = 2 ∧ Raised (ev 5 (8 * k + 3)) t
      ∧ Only [.bellq, .health] (bellWord (ev 5 (8 * k + 3))) s t := by
  have hlt : ev 5 (8 * k.val + 3) < 1024 := stackEvent_lt k.isLt (by decide)
  exact ⟨_, congrArg Host.Outcome.next (if_pos h),
    (stackState_congr (rd_raise_apart hlt (not_bellSpace sdgStk_ge))).trans h, raised_raise hlt, only_raise _ _⟩

/-- A queued exit that becomes an exit to training. -/
def exitToRetrain (k : Nat) (q : List LoadStep) : List LoadStep := q.map fun x => if x = .exit k then .retrain k else x

theorem retrain_mem_exitToRetrain {q : List LoadStep} (h : LoadStep.exit k ∈ q) : LoadStep.retrain k ∈ exitToRetrain k q :=
  List.mem_map.2 ⟨_, h, if_pos rfl⟩

theorem exit_not_mem_exitToRetrain {q : List LoadStep} : LoadStep.exit k ∉ exitToRetrain k q := by
  intro h
  obtain ⟨x, -, hx⟩ := List.mem_map.1 h
  split at hx
  · cases hx
  · contradiction

theorem srExitTimeout_retrains (k : StackId) (h : stackState k s = 3) :
    After (exec (.srExitTimeout k) s) fun t => Raised (ev 5 (8 * k + 5)) t
      ∧ (s.pow.busy = false → s.pow.queue = [] → stackState k t = 1 ∧ getF (R.SDG_STK k) F.SDG_STK_STEP t = 1)
      ∧ (s.pow.busy = true ∨ s.pow.queue ≠ [] → stackState k t = 3 ∧ LoadStep.retrain k ∈ t.pow.queue
          ∧ LoadStep.exit k ∉ t.pow.queue) := by
  have hk := k.isLt
  have hlt : ev 5 (8 * k.val + 5) < 1024 := stackEvent_lt hk (by decide)
  obtain ⟨u, hu⟩ : ∃ u, u = raise (ev 5 (8 * k.val + 5)) s := ⟨_, rfl⟩
  have hraised : Raised (ev 5 (8 * k + 5)) u := hu ▸ raised_raise hlt
  have hpow : u.pow = s.pow := hu ▸ (only_raise _ _).2.1 .pow (by decide)
  have hstate : stackState k u = 3 := hu ▸ (stackState_congr (rd_raise_apart hlt (not_bellSpace sdgStk_ge))).trans h
  have hexec : srExitTimeout k s = if u.pow.queue.contains (.exit k.val) then
      putPow { u.pow with queue := exitToRetrain k u.pow.queue } u else requestStep (.retrain k) u := by
    rw [srExitTimeout, if_pos h, hu]
    rfl
  by_cases hq : LoadStep.exit k.val ∈ s.pow.queue
  · rw [if_pos (by rw [hpow]; exact List.contains_iff_mem.2 hq)] at hexec
    refine ⟨_, congrArg Host.Outcome.next hexec, hraised, fun _ hnil => absurd hq (by rw [hnil]; exact List.not_mem_nil),
      fun _ => ⟨hstate, retrain_mem_exitToRetrain (hpow ▸ hq), exit_not_mem_exitToRetrain⟩⟩
  · rw [if_neg (by rw [hpow, List.contains_iff_mem]; exact hq)] at hexec
    by_cases hidle : s.pow.busy = true ∨ s.pow.queue ≠ []
    · rw [requestStep_waits (by rwa [hpow])] at hexec
      refine ⟨_, congrArg Host.Outcome.next hexec,
        hraised.keep (only_stepQueued.2.2 _ (by simp only [R.BEL_SRC, ev, R.SUB_HEADWAY]; omega)),
        fun hb hnil => absurd hidle (by rw [hb, hnil]; decide), fun _ => ?_⟩
      rw [stackState_congr (rd_stepQueued sdgStk_ge), pow_stepQueued, hpow]
      exact ⟨hstate, List.mem_append_right _ (List.mem_singleton_self _),
        fun hm => (List.mem_append.1 hm).elim hq fun hm => by cases List.mem_singleton.1 hm⟩
    · obtain ⟨hb, hnil⟩ := not_or.1 hidle
      rw [requestStep_starts (by rw [hpow, Bool.eq_false_iff.2 hb]) (by rw [hpow, not_not.1 hnil])] at hexec
      exact ⟨_, congrArg Host.Outcome.next (hexec.trans (doStep_retrain (.inr hstate))),
        (hraised.keep (rd_putPow _ _ _)).beginTraining hlt,
        fun _ _ => ⟨stackState_beginTraining hk, step_beginTraining hk⟩, fun hbusy => absurd hbusy hidle⟩

theorem stackTempRead_reports (k : StackId) (temp : BitVec 8) (h0 : stackState k s ≠ 0) (h4 : stackState k s ≠ 4) :
    After (exec (.stackTempRead k temp) s) fun t => getF (R.SDG_STK k) F.SDG_STK_TEMP t = temp.toNat
      ∧ (getF R.SDG_TEMP F.SDG_TEMP_LIMIT s < temp.toNat → Raised (ev 5 (8 * k + 2)) t)
      ∧ Only [.bellq, .health] (fun a => a = R.SDG_STK k ∨ bellWord (ev 5 (8 * k + 2)) a) s t := by
  have hlt : ev 5 (8 * k.val + 2) < 1024 := stackEvent_lt k.isLt (by decide)
  have htemp : getF (R.SDG_STK k) F.SDG_STK_TEMP (setF (R.SDG_STK k) F.SDG_STK_TEMP temp.toNat s) = temp.toNat :=
    (getF_setF_same _ _ _ _ (by decide)).trans (Nat.mod_eq_of_lt temp.isLt)
  refine ⟨_, congrArg Host.Outcome.next (if_neg (not_or.2 ⟨h0, h4⟩)), ?_, fun hlim => ?_, ?_⟩
  · exact (getF_when (getF_raise_apart hlt (not_bellSpace sdgStk_ge))).trans htemp
  · rw [decide_eq_true hlim, when_true]
    exact raised_raise hlt
  · exact only_when _ _ ((only_setF _ _ _ s).widen (by simp) fun _ => .inl) ((only_raise _ _).widen (by simp) fun _ => .inr)

theorem stackTrainingAndConditions : StackTrainingAndConditions := fun k s =>
  ⟨stackTrainingStart_begins k, trainingStepTimeout_retries k, trainingStepTimeout_fails k, trainingComplete_readies k,
    phyLockLossOrParityLimit_retrains k, caParityError_reported k, srExitTimeout_retrains k, stackTempRead_reports k,
    s, congrArg Host.Outcome.next (ite_self _), rfl⟩

end

end Sys2Proof.Safety

namespace Sys2Proof.Safety
open Sys2Proof.Machine

/-! ### Load steps of stacks: exits from self-refresh (R353) -/

section
variable {s t : State} {a e i j k rate : Nat} {f : Fld} {x y : LoadStep} {l : List Nat}

/-- The words that an exit of stack `k` may write. -/
def exitWord (k a : Nat) : Prop := a = R.SDG_STK k ∨ a = R.SUB_HEADWAY ∨ BellSpace a

/-- A stack's exit, to READY or to training. -/
def IsExit (k : Nat) (x : LoadStep) : Prop := x = .exit k ∨ x = .retrain k

theorem only_doStep_exit (hk : k < 8) (hx : IsExit k x) : Only [.bellq, .health] (exitWord k) s (doStep x s) := by
  have hword {a : Nat} (h : a = R.SDG_STK k ∨ bellWord (ev 5 (8 * k + 7)) a) : exitWord k a :=
    h.imp_right fun h => .inr (bellWord_bellSpace (stackEvent_lt hk (by decide)) h)
  rcases hx with rfl | rfl
  · rw [doStep_exit_eq]
    split
    · exact (only_setStack 2 s).widen (by simp) fun _ => hword
    · exact Only.refl _ _ _
  · rw [doStep_retrain_eq]
    split
    · exact only_beginTraining.widen (by simp) fun _ => hword
    · exact Only.refl _ _ _

theorem only_requestExit (hk : k < 8) (hx : IsExit k x) :
    Only [.pow, .bellq, .health] (exitWord k) s (requestStep x s) := by
  rcases requestStep_cases (x := x) (s := s) with h | h
  · rw [h]
    exact only_stepQueued.widen (by simp) fun _ h => .inr (.inl h)
  · rw [h]
    exact (only_putPow.widen (by simp) fun _ h => h.elim).trans
      ((only_doStep_exit hk hx).widen (by simp) fun _ h => h)

theorem rd_requestExit (hk : k < 8) (hx : IsExit k x) (ha : 0x4000000 ≤ a) (hne : a ≠ R.SDG_STK k) :
    rd a (requestStep x s) = rd a s :=
  (only_requestExit hk hx).2.2 a (not_or.2 ⟨hne, not_or.2 ⟨by unfold R.SUB_HEADWAY; omega, not_bellSpace ha⟩⟩)

theorem stackState_requestExit_other (hj : j < 8) (hx : IsExit j x) (h : k ≠ j) :
    stackState k (requestStep x s) = stackState k s :=
  stackState_congr (rd_requestExit hj hx sdgStk_ge (sdgStk_apart h))

/-- A step that waits goes on waiting when another is requested. -/
theorem mem_queue_requestExit (hk : k < 8) (hx : IsExit k x) (h : y ∈ s.pow.queue) :
    y ∈ (requestStep x s).pow.queue := by
  rcases requestStep_cases (x := x) (s := s) with hr | hr
  · rw [hr, pow_stepQueued]
    exact List.mem_append_left _ h
  · rw [hr, (only_doStep_exit hk hx).2.1 .pow (by decide)]
    exact h

theorem Raised.requestExit (h : Raised e s) (he : e < 1024) (hx : IsExit k x) : Raised e (requestStep x s) := by
  rcases requestStep_cases (x := x) (s := s) with hr | hr
  · rw [hr]
    exact h.keep (only_stepQueued.2.2 _ (by simp only [R.BEL_SRC, R.SUB_HEADWAY]; omega))
  · have hp : Raised e (putPow { s.pow with busy := true } s) := h.keep (rd_putPow _ _ _)
    rw [hr]
    rcases hx with rfl | rfl
    · rw [doStep_exit_eq]
      split
      · exact hp.setStack he
      · exact hp
    · rw [doStep_retrain_eq]
      split
      · exact hp.beginTraining he
      · exact hp

/-- The stack trains, or its exit to training waits for its turn. -/
def Retrained (k : Nat) (t : State) : Prop :=
  stackState k t = 1 ∨ (stackState k t = 3 ∧ LoadStep.retrain k ∈ t.pow.queue)

/-- The exit to training of a stack in self-refresh. -/
theorem retrained_requestStep (hk : k < 8) (h : stackState k s = 3) : Retrained k (requestStep (.retrain k) s) := by
  rcases requestStep_cases (x := .retrain k) (s := s) with hr | hr
  · right
    rw [hr, stackState_congr (rd_stepQueued sdgStk_ge), pow_stepQueued]
    exact ⟨h, List.mem_append_right _ (List.mem_singleton_self _)⟩
  · left
    rw [hr, doStep_retrain (.inr ((stackState_putPow _).trans h)), stackState_beginTraining hk]

/-- A stack that trains is left alone by its exit to training. -/
theorem stackState_requestRetrain_training (h : stackState k s = 1) : stackState k (requestStep (.retrain k) s) = 1 := by
  rcases requestStep_cases (x := .retrain k) (s := s) with hr | hr
  · rw [hr, stackState_congr (rd_stepQueued sdgStk_ge), h]
  · rw [hr, doStep_retrain_eq, if_neg (by rw [stackState_putPow, h]; decide), stackState_putPow, h]

theorem training_requestStep (hj : j < 8) (h : stackState k s = 1) : stackState k (requestStep (.retrain j) s) = 1 := by
  by_cases hjk : k = j
  · rw [← hjk]
    exact stackState_requestRetrain_training h
  · rwa [stackState_requestExit_other hj (.inr rfl) hjk]

theorem Retrained.requestStep (hj : j < 8) (h : Retrained k s) : Retrained k (requestStep (.retrain j) s) := by
  rcases h with h | ⟨h, hq⟩
  · exact .inl (training_requestStep hj h)
  · by_cases hjk : k = j
    · subst hjk
      exact retrained_requestStep hj h
    · exact .inr ⟨(stackState_requestExit_other hj (.inr rfl) hjk).trans h, mem_queue_requestExit hj (.inr rfl) hq⟩

/-- Every stack in self-refresh that is asked to train trains, or waits for its turn. -/
theorem retrained_requestSteps (hl : ∀ j ∈ l, j < 8) (hk : k ∈ l) (h : stackState k s = 3) :
    Retrained k (requestSteps (l.map .retrain) s) := by
  induction l generalizing s with
  | nil => cases hk
  | cons j l ih =>
    obtain ⟨hj, hl⟩ := List.forall_mem_cons.1 hl
    rw [List.map_cons, requestSteps, List.foldl_cons]
    by_cases hjk : k = j
    · rw [List.foldl_map, ← hjk]
      exact List.foldlRecOn l _ (retrained_requestStep (hjk ▸ hj) h) fun _ ht i hi => ht.requestStep (hl i hi)
    · exact ih hl ((List.mem_cons.1 hk).resolve_left hjk) ((stackState_requestExit_other hj (.inr rfl) hjk).trans h)

theorem training_requestSteps (hl : ∀ j ∈ l, j < 8) (h : stackState k s = 1) :
    stackState k (requestSteps (l.map .retrain) s) = 1 := by
  rw [requestSteps, List.foldl_map]
  exact List.foldlRecOn (motive := fun t => stackState k t = 1) l _ h fun _ ht j hj => training_requestStep (hl j hj) ht

theorem rd_requestSteps (hl : ∀ j ∈ l, j < 8) (ha : 0x4000000 ≤ a) (hne : ∀ j, a ≠ R.SDG_STK j) :
    rd a (requestSteps (l.map .retrain) s) = rd a s := by
  rw [requestSteps, List.foldl_map]
  exact List.foldlRecOn (motive := fun t => rd a t = rd a s) l _ rfl fun _ ht j hj =>
    (rd_requestExit (hl j hj) (.inr rfl) ha (hne j)).trans ht

theorem Raised.requestSteps (h : Raised e s) (he : e < 1024) : Raised e (requestSteps (l.map .retrain) s) := by
  rw [Machine.requestSteps, List.foldl_map]
  exact List.foldlRecOn (motive := Raised e) l _ h fun _ ht _ _ => ht.requestExit he (.inr rfl)

/-! ### A change of rate (R139) -/

theorem stackState_foldl_setStack (hl : ∀ j ∈ l, j < 8) :
    stackState k (l.foldl (fun s k => setStack k 3 s) s) = if k ∈ l then 3 else stackState k s := by
  induction l generalizing s with
  | nil => exact (if_neg List.not_mem_nil).symm
  | cons j l ih =>
    obtain ⟨hj, hl⟩ := List.forall_mem_cons.1 hl
    rw [List.foldl_cons, ih hl]
    by_cases hkl : k ∈ l
    · rw [if_pos hkl, if_pos (List.mem_cons_of_mem _ hkl)]
    · by_cases hkj : k = j
      · subst hkj
        rw [if_neg hkl, if_pos List.mem_cons_self, stackState_setStack hj (by decide)]
      · rw [if_neg hkl, if_neg (by simp only [List.mem_cons, hkj, hkl, or_self, not_false_eq_true]),
          stackState_setStack_other hj hkj]

/-- The working stacks that have contents. -/
def rateStacks (s : State) : List Nat := (workStacks s).filter fun k => stackState k s == 2 || stackState k s == 3

theorem workStacks_lt (h : k ∈ workStacks s) : k < 8 := List.mem_range.1 (List.mem_filter.1 h).1

theorem rateStacks_lt (h : k ∈ rateStacks s) : k < 8 := workStacks_lt (List.mem_filter.1 h).1

theorem mem_rateStacks : k ∈ rateStacks s ↔ k ∈ workStacks s ∧ (stackState k s = 2 ∨ stackState k s = 3) := by
  rw [rateStacks, List.mem_filter, Bool.or_eq_true, beq_iff_eq, beq_iff_eq]

/-- The stacks in self-refresh, and the new rate in force. -/
def rateSet (rate : Nat) (s : State) : State :=
  setF R.SDG_STACKS F.SDG_STACKS_RATE_PEND 0 (setF R.SDG_CTRL F.SDG_CTRL_RATE rate
    ((rateStacks s).foldl (fun s k => setStack k 3 s) s))

/-- The Sidings' record of a change of rate that runs. -/
def rateRuns (s : State) : Siding := { s.sdg with rateRun := true }

theorem applyRateChange_eq : applyRateChange rate s =
    if (rateStacks s).isEmpty && !anyTraining (rateSet rate s) then sdgCond 8 (rateSet rate s)
    else requestSteps ((rateStacks s).map .retrain) (putSdg (rateRuns (rateSet rate s)) (rateSet rate s)) := rfl

theorem rd_rateSet_stk :
    rd (R.SDG_STK k) (rateSet rate s) = rd (R.SDG_STK k) ((rateStacks s).foldl (fun s k => setStack k 3 s) s) := by
  have hctrl : R.SDG_STK k ≠ R.SDG_CTRL := by simp only [R.SDG_STK, R.SDG_CTRL]; omega
  rw [rateSet, rd_setF_other _ _ sdgStacks_ne_stk.symm, rd_setF_other _ _ hctrl]

theorem stackState_rateSet : stackState k (rateSet rate s) = if k ∈ rateStacks s then 3 else stackState k s :=
  (stackState_congr rd_rateSet_stk).trans (stackState_foldl_setStack fun _ => rateStacks_lt)

theorem ratePend_rateSet : isSet R.SDG_STACKS F.SDG_STACKS_RATE_PEND (rateSet rate s) = false :=
  (isSet_setF_same (by decide)).trans rfl

theorem rate_rateSet : getF R.SDG_CTRL F.SDG_CTRL_RATE (rateSet rate s) = rate % 4 :=
  (getF_setF_other _ _ (by decide)).trans (getF_setF_same _ _ _ _ (by decide))

/-- The words of the rate stand while the stacks are asked to train. -/
theorem rd_applyRateChange (ha : 0x4000000 ≤ a) (hne : ∀ j, a ≠ R.SDG_STK j) (hs : a ≠ R.SDG_STATUS) :
    rd a (applyRateChange rate s) = rd a (rateSet rate s) := by
  rw [applyRateChange_eq]
  split
  · exact rd_sdgCond (by decide) ha hs
  · exact (rd_requestSteps (fun _ => rateStacks_lt) ha hne).trans (rd_putSdg _)

theorem ratePend_applyRateChange : isSet R.SDG_STACKS F.SDG_STACKS_RATE_PEND (applyRateChange rate s) = false :=
  (isSet_of_rd rfl (rd_applyRateChange (by decide) (fun _ => sdgStacks_ne_stk) (by decide))).trans ratePend_rateSet

theorem rate_applyRateChange : getF R.SDG_CTRL F.SDG_CTRL_RATE (applyRateChange rate s) = rate % 4 :=
  (getF_of_rd rfl (rd_applyRateChange (by decide) (fun j => by simp only [R.SDG_STK, R.SDG_CTRL]; omega)
    (by decide))).trans rate_rateSet

/-- Every working stack that has contents trains, at once or when its turn comes. -/
theorem retrained_applyRateChange (hk : k ∈ workStacks s) (h : stackState k s = 2 ∨ stackState k s = 3) :
    Retrained k (applyRateChange rate s) := by
  have hmem : k ∈ rateStacks s := mem_rateStacks.2 ⟨hk, h⟩
  rw [applyRateChange_eq, List.isEmpty_eq_false_iff.2 (List.ne_nil_of_mem hmem), Bool.false_and, if_neg Bool.false_ne_true]
  exact retrained_requestSteps (fun _ => rateStacks_lt) hmem
    ((stackState_putSdg _).trans (stackState_rateSet.trans (if_pos hmem)))

/-- A stack that trains goes on training. -/
theorem training_applyRateChange (h : stackState k s = 1) : stackState k (applyRateChange rate s) = 1 := by
  have hmem : k ∉ rateStacks s := fun hm => by
    have := (mem_rateStacks.1 hm).2
    omega
  have hset : stackState k (rateSet rate s) = 1 := (stackState_rateSet.trans (if_neg hmem)).trans h
  rw [applyRateChange_eq]
  split
  · exact (stackState_congr (rd_sdgCond (by decide) sdgStk_ge (by simp only [R.SDG_STK, R.SDG_STATUS]; omega))).trans hset
  · exact training_requestSteps (fun _ => rateStacks_lt) ((stackState_putSdg _).trans hset)

theorem Raised.applyRateChange (h : Raised e s) (he : e < 1024) : Raised e (applyRateChange rate s) := by
  have hfold : Raised e ((rateStacks s).foldl (fun s k => Machine.setStack k 3 s) s) :=
    List.foldlRecOn (motive := Raised e) _ _ h fun _ ht _ _ => ht.setStack he
  have hset : Raised e (rateSet rate s) := (hfold.setF he (by decide)).setF he (by decide)
  rw [applyRateChange_eq]
  split
  · exact hset.sdgCond he
  · exact Raised.requestSteps (hset.keep (rd_putSdg _)) he

/-! ### The abort of a deferred change (R139) -/

/-- A training that is aborted begins again. -/
def abortTraining (s : State) (k : Nat) : State :=
  setF (R.SDG_STK k) F.SDG_STK_STEP 1 (raise (ev 5 (8 * k + 6)) s)

theorem only_abortTraining (hk : k < 8) :
    Only [.bellq, .health] (fun a => a = R.SDG_STK k ∨ BellSpace a) s (abortTraining s k) :=
  ((only_raise_bellSpace (stackEvent_lt hk (by decide))).widen (by simp) fun _ => .inr).trans
    ((only_setF _ _ _ _).widen (by simp) fun _ => .inl)

theorem stackState_abortTraining (hj : j < 8) : stackState k (abortTraining s j) = stackState k s :=
  (getF_setF_apart _ _ (by decide) (by decide)).trans
    (getF_raise_apart (stackEvent_lt hj (by decide)) (not_bellSpace sdgStk_ge))

theorem raised_abortTraining (hk : k < 8) : Raised (ev 5 (8 * k + 6)) (abortTraining s k) :=
  (raised_raise (stackEvent_lt hk (by decide))).setF (stackEvent_lt hk (by decide)) sdgStk_ge

theorem Raised.abortTraining (h : Raised e s) (he : e < 1024) : Raised e (abortTraining s k) :=
  (h.raise he _).setF he sdgStk_ge

/-- The stacks that train begin again. -/
def abortTrainings (s : State) : State :=
  ((List.range 8).filter fun k => stackState k s == 1).foldl abortTraining s

theorem rateAbortSdg_eq (hpend : isSet R.SDG_STACKS F.SDG_STACKS_RATE_PEND s = true) (h : pstate s = 2) :
    rateAbortSdg s = applyRateChange (abortTrainings s).sdg.rateTo (abortTrainings s) := by
  refine if_pos ?_
  rw [hpend, h]
  rfl

theorem mem_training : k ∈ (List.range 8).filter (fun k => stackState k s == 1) ↔ k < 8 ∧ stackState k s = 1 := by
  rw [List.mem_filter, List.mem_range, beq_iff_eq]

theorem sdg_abortTrainings : (abortTrainings s).sdg = s.sdg :=
  List.foldlRecOn (motive := fun t : State => t.sdg = s.sdg) _ _ rfl fun _ ht _ hj =>
    ((only_abortTraining (mem_training.1 hj).1).2.1 .sdg (by decide)).trans ht

theorem stackState_abortTrainings : stackState k (abortTrainings s) = stackState k s :=
  List.foldlRecOn (motive := fun t => stackState k t = stackState k s) _ _ rfl fun _ ht _ hj =>
    (stackState_abortTraining (mem_training.1 hj).1).trans ht

theorem workStacks_congr (h : rd R.SDG_STACKS t = rd R.SDG_STACKS s) : workStacks t = workStacks s := by
  have hmask : workMask t = workMask s := getF_of_rd rfl h
  rw [workStacks, hmask, workStacks]

theorem workStacks_abortTrainings : workStacks (abortTrainings s) = workStacks s :=
  workStacks_congr <| List.foldlRecOn (motive := fun t => rd R.SDG_STACKS t = rd R.SDG_STACKS s) _ _ rfl fun _ ht _ hj =>
    ((only_abortTraining (mem_training.1 hj).1).2.2 _ (not_or.2 ⟨sdgStacks_ne_stk, not_bellSpace (by decide)⟩)).trans ht

theorem raised_foldl_abortTraining (hl : ∀ j ∈ l, j < 8) (hk : k ∈ l) :
    Raised (ev 5 (8 * k + 6)) (l.foldl abortTraining s) := by
  induction l generalizing s with
  | nil => cases hk
  | cons j l ih =>
    obtain ⟨hj, hl⟩ := List.forall_mem_cons.1 hl
    rw [List.foldl_cons]
    rcases List.mem_cons.1 hk with rfl | hk
    · exact List.foldlRecOn (motive := Raised _) l _ (raised_abortTraining hj) fun _ ht _ _ =>
        ht.abortTraining (stackEvent_lt hj (by decide))
    · exact ih hl hk

theorem deferredRateAborts : DeferredRateAborts := by
  refine ⟨fun s h => congrArg Host.Outcome.next (if_neg ?_), fun s hpend h =>
    ⟨_, congrArg Host.Outcome.next (rateAbortSdg_eq hpend h), ratePend_applyRateChange, ?_, fun k hk hs => ⟨?_, ?_⟩,
      fun k hk hs => ?_⟩⟩
  · rw [Bool.and_eq_true, beq_iff_eq]
    exact fun hc => h hc.2
  · rw [rate_applyRateChange, sdg_abortTrainings]
  · exact training_applyRateChange (stackState_abortTrainings.trans hs)
  · exact (raised_foldl_abortTraining (fun _ h => (mem_training.1 h).1) (mem_training.2 ⟨hk, hs⟩)).applyRateChange
      (stackEvent_lt hk (by decide))
  · exact retrained_applyRateChange (by rwa [workStacks_abortTrainings]) (by rwa [stackState_abortTrainings])

/-- Settles O19: each command of a stack is its register's change, its events and at most one load step; a change of rate
asks every stack in self-refresh to train, and a request that waits goes on waiting. -/
theorem stacksTrainAndReport : Obligations.StacksTrainAndReport :=
  ⟨stackTrainingAndConditions, deferredRateAborts⟩

end

end Sys2Proof.Safety

namespace Sys2Proof.Safety
open Sys2Proof.Machine

/-! ### Stored blocks and what their readers receive (R118, R122, R148) -/

section
variable {s t : State} {pl : Nat × Nat} {a b k n : Nat} {f : Fld} {ws : List Word} {mask : Nat}

theorem length_blockWords : (blockWords pl s).length = 5 := by
  rw [blockWords, List.length_map, List.length_range]

/-- Up to three wrong symbols are corrected. -/
theorem blockRead_of_le (h : errsAt pl s ≤ 3) : blockRead pl s = some (blockWords pl s) := by
  rw [blockRead, codeRead, length_blockWords]
  exact if_pos h

/-- Four wrong symbols are found. -/
theorem blockRead_of_four (h : errsAt pl s = 4) : blockRead pl s = none := by
  have h3 : ¬ errsAt pl s ≤ 3 := by omega
  have h4 : errsAt pl s ≤ 4 := by omega
  rw [blockRead, codeRead, length_blockWords]
  exact (if_neg h3).trans (if_pos h4)

theorem uncorrBlock_of_le (h : errsAt pl s ≤ 3) : uncorrBlock pl s = false := by
  rw [uncorrBlock, blockRead_of_le h]; rfl

theorem uncorrBlock_of_four (h : errsAt pl s = 4) : uncorrBlock pl s = true := by
  rw [uncorrBlock, blockRead_of_four h]; rfl

theorem wrongSymbols_zero : wrongSymbols 32 0 = 0 := by decide

theorem errsAt_of_mask (h : maskAt pl s = 0) : errsAt pl s = 0 := by rw [errsAt, h, wrongSymbols_zero]

theorem maskAt_ne_zero_of_four (h : errsAt pl s = 4) : maskAt pl s ≠ 0 := fun hm => by
  rw [errsAt_of_mask hm] at h
  contradiction

theorem maskAt_congr (h : t.hbmErr = s.hbmErr) : maskAt pl t = maskAt pl s := by rw [maskAt, h, maskAt]

theorem errsAt_congr (h : t.hbmErr = s.hbmErr) : errsAt pl t = errsAt pl s := by
  rw [errsAt, maskAt_congr h, errsAt]

theorem blockWords_congr (h : t.hbm = s.hbm) : blockWords pl t = blockWords pl s := by
  rw [blockWords, h, blockWords]

theorem blockRead_congr (h : t.hbm = s.hbm) (he : t.hbmErr = s.hbmErr) : blockRead pl t = blockRead pl s := by
  rw [blockRead, blockWords_congr h, maskAt_congr he, blockRead]

@[simp] theorem maskAt_putMask : maskAt pl (putMask pl mask s) = mask := Store.get_set_same _ _ _ _

theorem only_putMask : Only [.hbmErr] (fun _ => False) s (putMask pl mask s) := by
  refine ⟨rfl, fun q hq => ?_, fun _ _ => rfl⟩
  cases q
  case hbmErr => exact absurd (List.mem_singleton_self _) hq
  all_goals rfl

/-- The words of a block written, the first `n` of them. -/
def wordsWritten (pl : Nat × Nat) (ws : List Word) (n : Nat) (s : State) : State :=
  (List.range n).foldl (fun s k =>
    { s with hbm := s.hbm.set (fun _ => 0#40) (hbmKey pl + k) (ws.getD k 0#40) }) s

theorem wordsWritten_succ : wordsWritten pl ws (n + 1) s = { wordsWritten pl ws n s with
    hbm := (wordsWritten pl ws n s).hbm.set (fun _ => 0#40) (hbmKey pl + n) (ws.getD n 0#40) } := by
  rw [wordsWritten, List.range_succ, List.foldl_append]
  rfl

theorem hbm_wordsWritten : (wordsWritten pl ws n s).hbm.get (fun _ => 0#40) a
    = if hbmKey pl ≤ a ∧ a < hbmKey pl + n then ws.getD (a - hbmKey pl) 0#40 else s.hbm.get (fun _ => 0#40) a := by
  induction n with
  | zero => exact (if_neg (by omega)).symm
  | succ n ih =>
    rw [wordsWritten_succ, Store.get_set, ih]
    by_cases ha : a = hbmKey pl + n
    · rw [if_pos ha, if_pos (by omega), ha, Nat.add_sub_cancel_left]
    · rw [if_neg ha]
      by_cases hin : hbmKey pl ≤ a ∧ a < hbmKey pl + n
      · rw [if_pos hin, if_pos (by omega)]
      · rw [if_neg hin, if_neg (by omega)]

theorem only_wordsWritten : Only [.hbm] (fun _ => False) s (wordsWritten pl ws n s) := by
  refine foldl_keeps (P := Only [.hbm] (fun _ => False) s) (fun {t k} ht => ht.trans ?_) (Only.refl _ _ _)
  refine ⟨rfl, fun q hq => ?_, fun _ _ => rfl⟩
  cases q
  case hbm => exact absurd (List.mem_singleton_self _) hq
  all_goals rfl

/-- The words of a written block are its writer's; every other word stands. -/
theorem hbm_writeBlock : (writeBlock pl ws mask s).hbm.get (fun _ => 0#40) a
    = if hbmKey pl ≤ a ∧ a < hbmKey pl + 5 then ws.getD (a - hbmKey pl) 0#40 else s.hbm.get (fun _ => 0#40) a :=
  hbm_wordsWritten

theorem maskAt_writeBlock : maskAt pl (writeBlock pl ws mask s) = mask := maskAt_putMask

theorem errsAt_writeBlock_clean : errsAt pl (writeBlock pl ws 0 s) = 0 := errsAt_of_mask maskAt_writeBlock

theorem only_writeBlock : Only [.hbm, .hbmErr] (fun _ => False) s (writeBlock pl ws mask s) :=
  (only_wordsWritten.widen (by simp) fun _ h => h).trans (only_putMask.widen (by simp) fun _ h => h)

theorem getD_blockWords (hk : k < 5) : (blockWords pl s).getD k 0#40 = s.hbm.get (fun _ => 0#40) (hbmKey pl + k) := by
  rw [blockWords, List.getD_eq_getElem _ _ (by rwa [List.length_map, List.length_range]), List.getElem_map,
    List.getElem_range]

/-- A block written back as it was read changes no word. -/
theorem hbm_writeBlock_back : (writeBlock pl (blockWords pl s) mask s).hbm.get (fun _ => 0#40) a
    = s.hbm.get (fun _ => 0#40) a := by
  rw [hbm_writeBlock]
  split
  · next h => rw [getD_blockWords (by omega), Nat.add_sub_cancel' h.1]
  · rfl

/-! ### The counts of a decoded block (R150) -/

/-- The words that the decode of a block of pseudo-channel `pc` may write. -/
def eccWord (pc a : Nat) : Prop := a = eccCorr pc ∨ a = eccUncorr pc ∨ BellSpace a

/-- The correction passes the group's limit for the first time in the period. -/
def correctionsPast (pl : Nat × Nat) (s : State) : Bool :=
  getF R.SDG_ECCTH F.SDG_ECCTH_CORR_LIM s != 0
    && decide (getF R.SDG_ECCTH F.SDG_ECCTH_CORR_LIM s < s.sdg.corr.get (fun _ => 0) (pcGroup pl.1) + 1)
    && !s.sdg.corrEvt.contains (pcGroup pl.1)

/-- The Sidings' record of a corrected block. -/
def correctionNoted (pl : Nat × Nat) (s : State) : Siding :=
  { s.sdg with
    corr := s.sdg.corr.set (fun _ => 0) (pcGroup pl.1) (s.sdg.corr.get (fun _ => 0) (pcGroup pl.1) + 1)
    corrEvt := if correctionsPast pl s then pcGroup pl.1 :: s.sdg.corrEvt else s.sdg.corrEvt }

theorem countDecode_clean (h : maskAt pl s = 0) : countDecode pl s = s := if_pos h

theorem countDecode_uncorrectable (h : maskAt pl s ≠ 0) (hu : uncorrBlock pl s = true) :
    countDecode pl s = raise (ev 6 (pcGroup pl.1)) (satF (eccUncorr pl.1) wordField 1 s) :=
  (if_neg h).trans (if_pos hu)

theorem countDecode_corrected (h : maskAt pl s ≠ 0) (hu : uncorrBlock pl s = false) :
    countDecode pl s = when (correctionsPast pl s) (raise (ev 6 (pcGroup pl.1)))
      (satF (eccCorr pl.1) wordField 1 (putSdg (correctionNoted pl s) s)) :=
  (if_neg h).trans (if_neg (by rw [hu]; exact Bool.false_ne_true))

theorem blockEvent_lt (hpc : pl.1 < 256) : ev 6 (pcGroup pl.1) < 1024 := by
  unfold ev pcGroup
  omega

theorem only_countDecode (hpc : pl.1 < 256) :
    Only [.sdg, .bellq, .health] (eccWord pl.1) s (countDecode pl s) := by
  have hraise (u : State) : Only [.sdg, .bellq, .health] (eccWord pl.1) u (raise (ev 6 (pcGroup pl.1)) u) :=
    (only_raise_bellSpace (blockEvent_lt hpc)).widen (by simp) fun _ h => .inr (.inr h)
  by_cases hm : maskAt pl s = 0
  · rw [countDecode_clean hm]
    exact Only.refl _ _ _
  · by_cases hu : uncorrBlock pl s = true
    · rw [countDecode_uncorrectable hm hu]
      exact ((only_setF (eccUncorr pl.1) wordField _ s).widen (by simp) fun _ h => .inr (.inl h)).trans (hraise _)
    · rw [countDecode_corrected hm (Bool.eq_false_iff.2 hu)]
      exact only_when _ _ ((only_putSdg.widen (by simp) fun _ h => h.elim).trans
        ((only_setF (eccCorr pl.1) wordField _ _).widen (by simp) fun _ h => .inl h)) (hraise _)

/-- The counts lie above every other word that the Sidings read. -/
theorem not_eccWord (ha : 0x4000000 ≤ a) (hb : a < 0x4010000) : ¬ eccWord k a := by
  simp only [eccWord, eccCorr, eccUncorr, BellSpace, within]
  omega

theorem rd_countDecode (hpc : pl.1 < 256) (ha : 0x4000000 ≤ a) (hb : a < 0x4010000) :
    rd a (countDecode pl s) = rd a s :=
  (only_countDecode hpc).2.2 a (not_eccWord ha hb)

theorem sdg_countDecode (hpc : pl.1 < 256) :
    (countDecode pl s).sdg = s.sdg ∨ (countDecode pl s).sdg = correctionNoted pl s := by
  by_cases hm : maskAt pl s = 0
  · rw [countDecode_clean hm]
    exact .inl rfl
  · by_cases hu : uncorrBlock pl s = true
    · rw [countDecode_uncorrectable hm hu, (only_raise_bellSpace (blockEvent_lt hpc)).2.1 .sdg (by decide), satF_sdg]
      exact .inl rfl
    · have hwhen := only_when (correctionsPast pl s) (raise (ev 6 (pcGroup pl.1)))
        (Only.refl [.bellq, .health] BellSpace (satF (eccCorr pl.1) wordField 1 (putSdg (correctionNoted pl s) s)))
        (only_raise_bellSpace (blockEvent_lt hpc))
      rw [countDecode_corrected hm (Bool.eq_false_iff.2 hu), hwhen.2.1 .sdg (by decide), satF_sdg]
      exact .inr rfl

/-- The counts leave the captures. -/
theorem caps_countDecode (hpc : pl.1 < 256) : (countDecode pl s).sdg.caps = s.sdg.caps := by
  rcases sdg_countDecode (s := s) hpc with h | h
  · rw [h]
  · rw [h, correctionNoted]

theorem getF_wordField : getF b wordField s = (rd b s).toNat := by
  unfold getF bitsOf
  exact (congrArg (· % 2 ^ 40) (Nat.div_one _)).trans (Nat.mod_eq_of_lt (rd b s).isLt)

theorem toNat_satF_wordField : (rd b (satF b wordField 1 s)).toNat = Nat.min ((rd b s).toNat + 1) (2 ^ 40 - 1) := by
  rw [← getF_wordField, getF_satF_same (by decide), getF_wordField]
  rfl

theorem ecc_not_bellSpace : ¬ BellSpace (eccCorr k) ∧ ¬ BellSpace (eccUncorr k) := by
  simp only [eccCorr, eccUncorr, BellSpace, within]
  omega

/-- A corrected block is counted. -/
theorem eccCorr_countDecode (hpc : pl.1 < 256) (h : maskAt pl s ≠ 0) (he : errsAt pl s ≤ 3) :
    (rd (eccCorr pl.1) (countDecode pl s)).toNat = Nat.min ((rd (eccCorr pl.1) s).toNat + 1) (2 ^ 40 - 1) := by
  rw [countDecode_corrected h (uncorrBlock_of_le he), rd_when (rd_raise_apart (blockEvent_lt hpc) ecc_not_bellSpace.1),
    toNat_satF_wordField, rd_putSdg]

/-- An uncorrectable block is counted and reported. -/
theorem eccUncorr_countDecode (hpc : pl.1 < 256) (he : errsAt pl s = 4) :
    Raised (ev 6 (pcGroup pl.1)) (countDecode pl s)
      ∧ (rd (eccUncorr pl.1) (countDecode pl s)).toNat = Nat.min ((rd (eccUncorr pl.1) s).toNat + 1) (2 ^ 40 - 1) := by
  rw [countDecode_uncorrectable (maskAt_ne_zero_of_four he) (uncorrBlock_of_four he),
    rd_raise_apart (blockEvent_lt hpc) ecc_not_bellSpace.2, toNat_satF_wordField]
  exact ⟨raised_raise (blockEvent_lt hpc), rfl⟩

end

end Sys2Proof.Safety

namespace Sys2Proof.Safety
open Sys2Proof.Machine

/-! ### HBM coordinates (R122) -/

section
variable {a : Nat}

theorem hbmLocal_hbmCoords : hbmLocal (hbmCoords a) = a := by
  simp only [hbmLocal, hbmCoords, Fin.val_ofNat]
  omega

theorem row_hbmCoords_lt (h : a < pcBlocks) : (hbmCoords a).row < 15260 := by
  unfold pcBlocks at h
  simp only [hbmCoords]
  omega

theorem hbmLocal_injective {x y : HbmAt} (h : hbmLocal x = hbmLocal y) : x = y := by
  obtain ⟨xr, xs, xg, xb, xc⟩ := x
  obtain ⟨yr, ys, yg, yb, yc⟩ := y
  simp only [hbmLocal] at h
  have := xs.isLt; have := xg.isLt; have := xb.isLt; have := xc.isLt
  have := ys.isLt; have := yg.isLt; have := yb.isLt; have := yc.isLt
  simp only [HbmAt.mk.injEq, Fin.ext_iff]
  omega

end

/-! ### A burst handed to its port (R132, R143, R148, R150) -/

section
variable {s t u : State} {pl : Nat × Nat} {a b e i k n port pc : Nat} {f : Fld} {ws : List Word}
  {flips : List (Fin 32 × Fin 8)} {unc empty : Bool}

theorem only_handTo : Only [.sdg] (fun _ => False) s (handTo port ws s) := only_putSdg

theorem handed_handTo : (handTo port ws s).sdg.handed.get (fun _ => []) port = ws := Store.get_set_same _ _ _ _

/-- The bits that have flipped in the burst are held in the block. -/
def burstSeen (pl : Nat × Nat) (flips : List (Fin 32 × Fin 8)) (s : State) : State :=
  when (flips != []) (putMask pl (maskAt pl s ^^^ dqMask flips)) s

theorem maskAt_burstSeen : maskAt pl (burstSeen pl flips s)
    = if flips = [] then maskAt pl s else maskAt pl s ^^^ dqMask flips := by
  cases flips with
  | nil => rfl
  | cons x l => exact maskAt_putMask

theorem only_burstSeen : Only [.hbmErr] (fun _ => False) s (burstSeen pl flips s) :=
  only_when _ _ (Only.refl _ _ _) only_putMask

/-- What a port receives of a block. -/
def portWords (port : Nat) (pl : Nat × Nat) (s : State) : List Word :=
  if port = 1 ∨ port = 2 then p1Block pl s else storedWords pl s

/-- What the read reports: an uncorrectable block at port 3, an empty headshunt at port 1. -/
def readReports (port pc : Nat) (unc empty : Bool) (s : State) : State :=
  s |> when (port == 3 && unc) (sdgCond 5) |> when (empty && port == 1) (raise (ev 5 (8 * (pc / 32) + 4)))

theorem hbmReadComplete_eq {a : HbmAt} (hen : ¬ (port = 1 ∧ isSet R.SDG_CTRL F.SDG_CTRL_EN s = false))
    (h : stackState (pc / 32) s = 2 ∧ hbmLocal a < pcBlocks) :
    hbmReadComplete port pc a flips empty s
      = readReports port pc (uncorrBlock (pc, hbmLocal a) (burstSeen (pc, hbmLocal a) flips s)) empty
          (handTo port (portWords port (pc, hbmLocal a) (burstSeen (pc, hbmLocal a) flips s))
            (countDecode (pc, hbmLocal a) (burstSeen (pc, hbmLocal a) flips s))) :=
  (if_neg hen).trans (if_pos h)

theorem only_readReports (hpc : pc < 256) :
    Only [.bellq, .health] (fun a => a = R.SDG_STATUS ∨ BellSpace a) s (readReports port pc unc empty s) :=
  only_when _ _ (only_when _ _ (Only.refl _ _ _) (only_sdgCond (by decide)))
    ((only_raise_bellSpace (stackEvent_lt (by omega) (by decide))).widen (by simp) fun _ => .inr)

theorem getBit_readReports : getBit R.SDG_STATUS ⟨0, 0, 9⟩ 5 (readReports 3 pc true empty s) = true := by
  have hcond : getBit R.SDG_STATUS ⟨0, 0, 9⟩ 5 (sdgCond 5 s) = true := getBit_sdgCond (by decide)
  unfold readReports
  rw [show (empty && 3 == 1) = false from Bool.and_false _, when_false]
  exact hcond

theorem raised_readReports (hpc : pc < 256) : Raised (ev 5 (8 * (pc / 32) + 4)) (readReports 1 pc unc true s) := by
  unfold readReports
  rw [show (true && 1 == 1) = true from rfl, when_true]
  exact raised_raise (stackEvent_lt (by omega) (by decide))

theorem Raised.when (h : Raised e s) {c : Bool} {g : State → State} (hg : ∀ t, Raised e t → Raised e (g t)) :
    Raised e (when c g s) := by
  cases c
  · exact h
  · exact hg s h

theorem Raised.readReports (h : Raised e s) (he : e < 1024) : Raised e (readReports port pc unc empty s) :=
  (h.when fun _ ht => ht.sdgCond he).when fun _ ht => ht.raise he _

theorem invalidBlock_eq : invalidBlock = List.replicate 5 0x8888888888#40 := by decide

/-- A block with at most three wrong symbols reaches every port as it was written. -/
theorem portWords_of_le (hstate : stackState (pl.1 / 32) s = 2) (h : errsAt pl s ≤ 3) :
    portWords port pl s = blockWords pl s := by
  unfold portWords p1Block storedWords
  rw [if_pos hstate, blockRead_of_le h]
  exact ite_self _

/-- Ports 1 and 2 receive -8 for an uncorrectable block. -/
theorem portWords_of_four (hstate : stackState (pl.1 / 32) s = 2) (h : errsAt pl s = 4) (hp : port = 1 ∨ port = 2) :
    portWords port pl s = List.replicate 5 0x8888888888#40 := by
  unfold portWords p1Block
  rw [if_pos hp, if_pos hstate, blockRead_of_four h]
  exact invalidBlock_eq

/-- The state after a burst has been counted, handed over and reported. -/
def burstDelivered (port pc : Nat) (pl : Nat × Nat) (empty : Bool) (u : State) : State :=
  readReports port pc (uncorrBlock pl u) empty (handTo port (portWords port pl u) (countDecode pl u))

theorem handed_burstDelivered (hpc : pc < 256) :
    (burstDelivered port pc pl empty u).sdg.handed.get (fun _ => []) port = portWords port pl u := by
  rw [burstDelivered, (only_readReports hpc).2.1 .sdg (by decide), handed_handTo]

theorem rd_burstDelivered (hpc : pc < 256) (ha : 0x4000000 ≤ a) (hne : a ≠ R.SDG_STATUS) :
    rd a (burstDelivered port pc pl empty u) = rd a (countDecode pl u) := by
  rw [burstDelivered, (only_readReports hpc).2.2 a (not_or.2 ⟨hne, not_bellSpace ha⟩), only_handTo.2.2 a not_false]

theorem rd_ecc_burstDelivered (hpc : pc < 256) :
    rd (eccCorr k) (burstDelivered port pc pl empty u) = rd (eccCorr k) (countDecode pl u)
      ∧ rd (eccUncorr k) (burstDelivered port pc pl empty u) = rd (eccUncorr k) (countDecode pl u) :=
  ⟨rd_burstDelivered hpc (by unfold eccCorr; omega) (by unfold eccCorr R.SDG_STATUS; omega),
    rd_burstDelivered hpc (by unfold eccUncorr; omega) (by unfold eccUncorr R.SDG_STATUS; omega)⟩

theorem only_burstDelivered (hpc : pl.1 < 256) :
    Only [.sdg, .bellq, .health] (fun _ => True) u (burstDelivered port pl.1 pl empty u) :=
  ((only_countDecode hpc).widen (by simp) fun _ _ => trivial).trans <|
    (only_handTo.widen (by simp) fun _ _ => trivial).trans <|
    (only_readReports hpc).widen (by simp) fun _ _ => trivial

theorem Raised.burstDelivered (h : Raised e (countDecode pl u)) (he : e < 1024) :
    Raised e (burstDelivered port pc pl empty u) :=
  Raised.readReports (h.keep (only_handTo.2.2 _ not_false)) he

/-- A burst with `errsAt pl u` wrong symbols, as it is delivered and counted. -/
theorem burstDelivered_reports (hpc : pl.1 < 256) (hstate : stackState (pl.1 / 32) u = 2) :
    let t := burstDelivered port pl.1 pl empty u
    (errsAt pl u ≤ 3 → t.sdg.handed.get (fun _ => []) port = blockWords pl u)
      ∧ (errsAt pl u = 4 → port = 1 ∨ port = 2 → t.sdg.handed.get (fun _ => []) port = List.replicate 5 0x8888888888#40)
      ∧ (errsAt pl u = 4 → port = 3 → getBit R.SDG_STATUS ⟨0, 0, 9⟩ 5 t = true)
      ∧ (maskAt pl u = 0 → rd (eccCorr pl.1) t = rd (eccCorr pl.1) u ∧ rd (eccUncorr pl.1) t = rd (eccUncorr pl.1) u)
      ∧ (maskAt pl u ≠ 0 → errsAt pl u ≤ 3 →
          (rd (eccCorr pl.1) t).toNat = Nat.min ((rd (eccCorr pl.1) u).toNat + 1) (2 ^ 40 - 1))
      ∧ (errsAt pl u = 4 → Raised (ev 6 (pcGroup pl.1)) t
          ∧ (rd (eccUncorr pl.1) t).toNat = Nat.min ((rd (eccUncorr pl.1) u).toNat + 1) (2 ^ 40 - 1))
      ∧ (empty = true → port = 1 → Raised (ev 5 (8 * (pl.1 / 32) + 4)) t)
      ∧ t.hbm = u.hbm ∧ maskAt pl t = maskAt pl u := by
  intro t
  obtain ⟨hcorr, huncorr⟩ : rd (eccCorr pl.1) t = rd (eccCorr pl.1) (countDecode pl u)
      ∧ rd (eccUncorr pl.1) t = rd (eccUncorr pl.1) (countDecode pl u) := rd_ecc_burstDelivered hpc
  have hparts : Only [.sdg, .bellq, .health] (fun _ => True) u t := only_burstDelivered hpc
  refine ⟨fun he => ?_, fun he hp => ?_, fun he hp => ?_, fun hm => ?_, fun hm he => ?_, fun he => ?_, fun he hp => ?_,
    hparts.2.1 .hbm (by decide), maskAt_congr (hparts.2.1 .hbmErr (by decide))⟩
  · exact (handed_burstDelivered hpc).trans (portWords_of_le hstate he)
  · exact (handed_burstDelivered hpc).trans (portWords_of_four hstate he hp)
  · subst hp
    simp only [t, burstDelivered, uncorrBlock_of_four he]
    exact getBit_readReports
  · rw [hcorr, huncorr, countDecode_clean hm]
    exact ⟨rfl, rfl⟩
  · rw [hcorr, eccCorr_countDecode hpc hm he]
  · obtain ⟨hraised, hcount⟩ := eccUncorr_countDecode hpc he
    exact ⟨hraised.burstDelivered (blockEvent_lt hpc), huncorr ▸ hcount⟩
  · subst he hp
    exact raised_readReports hpc

theorem hbmReadComplete_delivers (port : Fin 5) (pc : Fin 256) (a : HbmAt) (flips : List (Fin 32 × Fin 8)) (empty : Bool)
    (s : State) (hstate : stackState (pc.val / 32) s = 2) (ha : hbmLocal a < pcBlocks)
    (hen : port = 1 → isSet R.SDG_CTRL F.SDG_CTRL_EN s = true) :
    exec (.hbmReadComplete port pc a flips empty) s = .next
      (burstDelivered port pc (pc.val, hbmLocal a) empty (burstSeen (pc.val, hbmLocal a) flips s)) := by
  refine congrArg Host.Outcome.next (hbmReadComplete_eq (fun hc => ?_) ⟨hstate, ha⟩)
  obtain ⟨hp, hc⟩ := hc
  rw [hen (Fin.ext hp)] at hc
  exact Bool.false_ne_true hc.symm

theorem hbmReadsAreDecoded : HbmReadsAreDecoded := by
  refine ⟨fun a ha => ⟨hbmLocal_hbmCoords, row_hbmCoords_lt ha⟩, fun x y => hbmLocal_injective,
    ?_, fun pc a flips empty s hen => ?_⟩
  · intro port pc a flips empty s pl m e hstate ha hen
    have hseen := only_burstSeen (pl := pl) (flips := flips) (s := s)
    have hm : maskAt pl (burstSeen pl flips s) = m := maskAt_burstSeen
    have he : errsAt pl (burstSeen pl flips s) = e := congrArg (wrongSymbols 32) hm
    have hrd (b : Nat) : rd b (burstSeen pl flips s) = rd b s := hseen.2.2 b not_false
    have h := burstDelivered_reports (pl := pl) (port := port) (empty := empty) pc.isLt
      ((stackState_congr (hrd _)).trans hstate)
    rw [hm, he, blockWords_congr (hseen.2.1 .hbm (by decide)), hseen.2.1 .hbm (by decide), hrd, hrd] at h
    obtain ⟨hwords, hinvalid, haperture, hclean, hcorr, huncorr, hempty, hparts⟩ := h
    exact ⟨_, hbmReadComplete_delivers port pc a flips empty s hstate ha hen, hwords,
      fun h4 hp => hinvalid h4 (hp.imp (congrArg Fin.val) (congrArg Fin.val)),
      fun h4 hp => haperture h4 (congrArg Fin.val hp), hclean, hcorr, huncorr,
      fun he hp => hempty he (congrArg Fin.val hp), hparts⟩
  · exact ⟨_, congrArg Host.Outcome.next (if_pos ⟨rfl, hen⟩), handed_handTo.trans invalidBlock_eq, only_handTo⟩

end

end Sys2Proof.Safety

namespace Sys2Proof.Safety
open Sys2Proof.Machine

/-! ### Where blocks lie (R119, R142) -/

section
variable {s t : State} {k n r w : Nat}

theorem getD_workStacks_lt : (workStacks s).getD n 0 < 8 := by
  rw [List.getD_eq_getElem?_getD]
  cases h : (workStacks s)[n]? with
  | none => decide
  | some k => exact List.mem_range.1 (List.mem_filter.1 (List.mem_of_getElem? h)).1

theorem physPc_lt : physPc w s < 256 := by
  have hk := getD_workStacks_lt (s := s) (n := w / 32)
  unfold physPc
  omega

theorem reservedPlace_lt : (reservedPlace r s).1 < 256 := by
  have hk := getD_workStacks_lt (s := s) (n := r / cdiv 160000000 (workStacks s).length)
  simp only [reservedPlace]
  omega

end

/-! ### The patrol (R140, R149) -/

section
variable {s t u : State} {pl : Nat × Nat} {a b k n r : Nat}

/-- The reserved block that the patrol reads is decoded, and written back when it is corrected. -/
def reservedScrubbed (pl : Nat × Nat) (s : State) : State :=
  if stackState (pl.1 / 32) s = 2 then
    match blockRead pl s with
    | some ws => when (maskAt pl s != 0) (writeBlock pl ws 0) (countDecode pl s)
    | none => countDecode pl s
  else s

/-- The blocks of the platform and tail areas that the patrol may check. -/
def patrolArea (s : State) : Nat := cfgNch s * slotsPerPc s * (2 * bodyBlocks s + 246)

/-- The next block of the platform and tail areas is decoded in working pseudo-channel `w`. -/
def platDecoded (x : Nat) (s : State) (w : Nat) : State :=
  if stackState (physPc w s / 32) s = 2 then countDecode (physPc w s, x) s else s

/-- With PLAT_CHECK the patrol reads the platform and tail areas too. -/
def platChecked (s : State) : State :=
  if isSet R.SDG_CTRL F.SDG_CTRL_PLAT_CHECK s && patrolArea s != 0 then
    let t := (List.range (kPc s)).foldl (platDecoded (s.sdg.scrubTop % patrolArea s)) s
    putSdg { t.sdg with scrubTop := (s.sdg.scrubTop % patrolArea s + 1) % patrolArea s } t
  else s

/-- The patrol goes on from reserved block `r`. -/
def patrolAdvanced (r : Nat) (s : State) : State :=
  if r + 1 = 160000000 then
    incF R.SDG_SCRUBPOS F.SDG_SCRUBPOS_PASSES 1 (setF R.SDG_SCRUBPOS F.SDG_SCRUBPOS_BLOCK 0 s)
  else setF R.SDG_SCRUBPOS F.SDG_SCRUBPOS_BLOCK (r + 1) s

theorem scrubRead_eq (hen : isSet R.SDG_CTRL F.SDG_CTRL_SCRUB_EN s = true) (hw : workStacks s ≠ []) (hd : domState 4 s = 3) :
    scrubRead s = patrolAdvanced (getF R.SDG_SCRUBPOS F.SDG_SCRUBPOS_BLOCK s)
      (platChecked (reservedScrubbed (reservedPlace (getF R.SDG_SCRUBPOS F.SDG_SCRUBPOS_BLOCK s) s) s)) := by
  have hguard : (!isSet R.SDG_CTRL F.SDG_CTRL_SCRUB_EN s || (workStacks s).isEmpty || decide (domState 4 s ≠ 3)) = false := by
    rw [hen, List.isEmpty_eq_false_iff.2 hw, decide_eq_false (not_not.2 hd)]
    rfl
  exact if_neg (by rw [hguard]; exact Bool.false_ne_true)

/-- What the patrol's decoding may touch: counts, events and the record of the Sidings. -/
def Patrols (s t : State) : Prop := Only [.sdg, .bellq, .health] (fun a => 0x4010000 ≤ a ∨ BellSpace a) s t

theorem eccWord_patrols {pc : Nat} (h : eccWord pc a) : 0x4010000 ≤ a ∨ BellSpace a := by
  refine (or_assoc.2 h).imp_left fun h => ?_
  unfold eccCorr eccUncorr at h
  omega

theorem patrols_countDecode (hpc : pl.1 < 256) : Patrols s (countDecode pl s) :=
  (only_countDecode hpc).widen (by simp) fun _ => eccWord_patrols

theorem patrols_platChecked : Patrols s (platChecked s) := by
  have hfold : Patrols s ((List.range (kPc s)).foldl (platDecoded (s.sdg.scrubTop % patrolArea s)) s) := by
    refine foldl_keeps (P := Patrols s) (fun {t w} ht => ?_) (Only.refl _ _ _)
    unfold platDecoded
    split
    · exact ht.trans (patrols_countDecode physPc_lt)
    · exact ht
  unfold platChecked
  split
  · exact hfold.trans (only_putSdg.widen (by simp) fun _ h => h.elim)
  · exact Only.refl _ _ _

/-- A block that has at most three wrong symbols is corrected in its place. -/
theorem reservedScrubbed_corrects (hpc : pl.1 < 256) (hstate : stackState (pl.1 / 32) s = 2) (he : errsAt pl s ≤ 3) :
    errsAt pl (reservedScrubbed pl s) = 0
      ∧ ∀ a, (reservedScrubbed pl s).hbm.get (fun _ => 0#40) a = s.hbm.get (fun _ => 0#40) a := by
  have hdecoded := only_countDecode (s := s) hpc
  have hscrub : reservedScrubbed pl s
      = when (maskAt pl s != 0) (writeBlock pl (blockWords pl s) 0) (countDecode pl s) := by
    rw [reservedScrubbed, if_pos hstate, blockRead_of_le he]
  rw [hscrub]
  by_cases hm : maskAt pl s = 0
  · rw [countDecode_clean hm, hm, bne_self_eq_false, when_false]
    exact ⟨errsAt_of_mask hm, fun _ => rfl⟩
  · have hhbm : (countDecode pl s).hbm = s.hbm := hdecoded.2.1 .hbm (by decide)
    rw [bne_iff_ne.2 hm, when_true, ← blockWords_congr hhbm]
    exact ⟨errsAt_writeBlock_clean, fun a => hbm_writeBlock_back.trans (by rw [hhbm])⟩

/-- A block that is not corrected stands as it is. -/
theorem reservedScrubbed_stands (hpc : pl.1 < 256) (h : stackState (pl.1 / 32) s ≠ 2 ∨ errsAt pl s = 4) :
    (reservedScrubbed pl s).hbm = s.hbm ∧ (reservedScrubbed pl s).hbmErr = s.hbmErr := by
  have hdecoded := only_countDecode (s := s) hpc
  unfold reservedScrubbed
  split
  · next hstate =>
    rw [blockRead_of_four (h.resolve_left (not_not.2 hstate))]
    exact ⟨hdecoded.2.1 .hbm (by decide), hdecoded.2.1 .hbmErr (by decide)⟩
  · exact ⟨rfl, rfl⟩

theorem rd_reservedScrubbed (hpc : pl.1 < 256) (ha : 0x4000000 ≤ a) (hb : a < 0x4010000) :
    rd a (reservedScrubbed pl s) = rd a s := by
  unfold reservedScrubbed
  split
  · split
    · exact (rd_when (only_writeBlock.2.2 a not_false)).trans (rd_countDecode hpc ha hb)
    · exact rd_countDecode hpc ha hb
  · rfl

/-- The patrol reads on within the region, and counts a pass at its end. -/
theorem patrolAdvanced_position :
    (r + 1 < 160000000 → getF R.SDG_SCRUBPOS F.SDG_SCRUBPOS_BLOCK (patrolAdvanced r s) = r + 1
      ∧ getF R.SDG_SCRUBPOS F.SDG_SCRUBPOS_PASSES (patrolAdvanced r s) = getF R.SDG_SCRUBPOS F.SDG_SCRUBPOS_PASSES s)
    ∧ (r + 1 = 160000000 → getF R.SDG_SCRUBPOS F.SDG_SCRUBPOS_BLOCK (patrolAdvanced r s) = 0
      ∧ getF R.SDG_SCRUBPOS F.SDG_SCRUBPOS_PASSES (patrolAdvanced r s)
          = (getF R.SDG_SCRUBPOS F.SDG_SCRUBPOS_PASSES s + 1) % 2 ^ F.SDG_SCRUBPOS_PASSES.w) := by
  have hpasses (x : Nat) : getF R.SDG_SCRUBPOS F.SDG_SCRUBPOS_PASSES (setF R.SDG_SCRUBPOS F.SDG_SCRUBPOS_BLOCK x s)
      = getF R.SDG_SCRUBPOS F.SDG_SCRUBPOS_PASSES s := getF_setF_apart _ _ (by decide) (by decide)
  refine ⟨fun h => ?_, fun h => ?_⟩
  · rw [patrolAdvanced, if_neg (by omega), hpasses, getF_setF_same _ _ _ _ (by decide)]
    exact ⟨Nat.mod_eq_of_lt (h.trans (by decide)), rfl⟩
  · rw [patrolAdvanced, if_pos h, incF, getF_setF_apart _ _ (by decide) (by decide), getF_setF_same _ _ _ _ (by decide),
      getF_setF_same _ _ _ _ (by decide), hpasses]
    exact ⟨rfl, rfl⟩

theorem only_patrolAdvanced : Only [] (fun a => a = R.SDG_SCRUBPOS) s (patrolAdvanced r s) := by
  unfold patrolAdvanced
  split
  · exact ((only_setF R.SDG_SCRUBPOS F.SDG_SCRUBPOS_BLOCK _ _).widen (by simp) fun _ h => h).trans
      ((only_setF R.SDG_SCRUBPOS F.SDG_SCRUBPOS_PASSES _ _).widen (by simp) fun _ h => h)
  · exact (only_setF R.SDG_SCRUBPOS F.SDG_SCRUBPOS_BLOCK _ _).widen (by simp) fun _ h => h

theorem patrolWalksTheReservedRegion : PatrolWalksTheReservedRegion := by
  refine ⟨fun s hd => congrArg Host.Outcome.next (if_pos ?_), fun s hen hw hd =>
    ⟨_, congrArg Host.Outcome.next (scrubRead_eq hen hw hd), ?_⟩⟩
  · rw [decide_eq_true hd, Bool.or_true]
  obtain ⟨r, hr⟩ : ∃ r, getF R.SDG_SCRUBPOS F.SDG_SCRUBPOS_BLOCK s = r := ⟨_, rfl⟩
  rw [hr]
  obtain ⟨pl, hpl⟩ : ∃ pl, pl = reservedPlace r s := ⟨_, rfl⟩
  have hpc : pl.1 < 256 := hpl ▸ reservedPlace_lt
  rw [← hpl]
  have hchecked : Patrols (reservedScrubbed pl s) (platChecked (reservedScrubbed pl s)) := patrols_platChecked
  have hadvanced := only_patrolAdvanced (r := r) (s := platChecked (reservedScrubbed pl s))
  have hpasses : getF R.SDG_SCRUBPOS F.SDG_SCRUBPOS_PASSES (platChecked (reservedScrubbed pl s))
      = getF R.SDG_SCRUBPOS F.SDG_SCRUBPOS_PASSES s :=
    getF_of_rd rfl ((hchecked.2.2 _ (not_or.2 ⟨by decide, not_bellSpace (by decide)⟩)).trans
      (rd_reservedScrubbed hpc (by decide) (by decide)))
  have hhbm := (hadvanced.2.1 .hbm (by decide)).trans (hchecked.2.1 .hbm (by decide))
  have herr := (hadvanced.2.1 .hbmErr (by decide)).trans (hchecked.2.1 .hbmErr (by decide))
  obtain ⟨hnext, hlast⟩ := patrolAdvanced_position (r := r) (s := platChecked (reservedScrubbed pl s))
  rw [hpasses] at hnext hlast
  refine ⟨hnext, hlast, fun hstate he => ?_, fun h => ?_⟩
  · rw [errsAt_congr herr, hhbm]
    exact reservedScrubbed_corrects hpc hstate he
  · rw [hhbm, herr]
    exact reservedScrubbed_stands hpc h

/-- Settles O18: a burst is decoded by the number of its wrong symbols, and its port's words, its counts and its reports
follow from that; the patrol's other decoding leaves the block and the position alone. -/
theorem hbmReadsAndPatrol : Obligations.HbmReadsAndPatrol := ⟨hbmReadsAreDecoded, patrolWalksTheReservedRegion⟩

end

end Sys2Proof.Safety

namespace Sys2Proof.Safety
open Sys2Proof.Machine

/-! ### What a capture's window is computed from (R145)

The delivery of the entry and the decoding of the descriptor leave all of it alone. -/

/-- The registers from the Points on, without the counts of decoded blocks. -/
def CaptureWord (a : Nat) : Prop := 0x3000000 ≤ a ∧ (a < 0x4010000 ∨ 0x6000000 ≤ a)

/-- Both states hold the same registers, stored blocks and captures. -/
structure CaptureView (s t : State) : Prop where
  word : ∀ a, CaptureWord a → rd a t = rd a s
  hbm : t.hbm = s.hbm
  hbmErr : t.hbmErr = s.hbmErr
  jpOld : t.sdg.jpOld = s.sdg.jpOld
  caps : t.sdg.caps = s.sdg.caps

section
variable {s t u : State} {a b c d e i j k n x key len num : Nat} {f : Fld} {pl : Nat × Nat} {w : Nat → Prop}

theorem CaptureView.refl : CaptureView s s := ⟨fun _ _ => rfl, rfl, rfl, rfl, rfl⟩

theorem CaptureView.trans (h : CaptureView s t) (k : CaptureView t u) : CaptureView s u :=
  ⟨fun a ha => (k.word a ha).trans (h.word a ha), k.hbm.trans h.hbm, k.hbmErr.trans h.hbmErr, k.jpOld.trans h.jpOld,
    k.caps.trans h.caps⟩

/-- A step that touches neither the stacks nor the Sidings' own state keeps the view. -/
theorem captureView_of_only {ps : List Part} (h : Only ps w s t) (hhbm : .hbm ∉ ps) (herr : .hbmErr ∉ ps) (hsdg : .sdg ∉ ps)
    (hw : ∀ a, CaptureWord a → ¬ w a) : CaptureView s t :=
  ⟨fun a ha => h.2.2 a (hw a ha), h.2.1 .hbm hhbm, h.2.1 .hbmErr herr, congrArg Siding.jpOld (h.2.1 .sdg hsdg),
    congrArg Siding.caps (h.2.1 .sdg hsdg)⟩

theorem jpOld_countDecode (hpc : pl.1 < 256) : (countDecode pl s).sdg.jpOld = s.sdg.jpOld := by
  rcases sdg_countDecode (s := s) hpc with h | h
  · rw [h]
  · rw [h, correctionNoted]

theorem captureView_countDecode (hpc : pl.1 < 256) : CaptureView s (countDecode pl s) := by
  have honly := only_countDecode (s := s) hpc
  refine ⟨fun a ha => honly.2.2 a ?_, honly.2.1 .hbm (by decide), honly.2.1 .hbmErr (by decide), jpOld_countDecode hpc,
    caps_countDecode hpc⟩
  unfold CaptureWord at ha
  simp only [eccWord, eccCorr, eccUncorr, BellSpace, within]
  omega

theorem captureView_logItem {x : LogItem} : CaptureView s (logItem x s) :=
  captureView_of_only only_logItem (by decide) (by decide) (by decide) fun a ha h => by
    unfold CaptureWord at ha
    unfold BelowPoints at h
    omega

theorem captureView_wr (v : Word) (hb : ¬ CaptureWord b) : CaptureView s (wr b v s) :=
  captureView_of_only (only_wr b v s) (by decide) (by decide) (by decide) fun _ ha h => hb (h ▸ ha)

theorem captureView_setF (v : Nat) (hb : ¬ CaptureWord (b + f.sub)) : CaptureView s (setF b f v s) :=
  captureView_wr _ hb

/-- The Timetable's own state replaced. -/
def putTtb (x : Timetable) (s : State) : State := { s with ttb := x }

theorem captureView_putTtb (x : Timetable) : CaptureView s (putTtb x s) := ⟨fun _ _ => rfl, rfl, rfl, rfl, rfl⟩

theorem captureView_hideEntry : CaptureView s (hideEntry n s) :=
  List.foldlRecOn (motive := CaptureView s) (List.range 4) _ CaptureView.refl fun _ ht k hk => ht.trans <|
    captureView_wr _ (by
      have := List.mem_range.1 hk
      unfold CaptureWord queueAddr
      omega)

theorem captureView_removeEntry {e : Entry} : CaptureView s (removeEntry e s) := by
  have hstate : ¬ CaptureWord R.TTB_STATE := by unfold CaptureWord; decide
  exact ((captureView_putTtb _).trans captureView_hideEntry).trans <|
    (captureView_setF (b := R.TTB_STATE) (f := F.TTB_STATE_QIN) _ hstate).trans
      (captureView_setF (b := R.TTB_STATE) (f := F.TTB_STATE_QLOC) _ hstate)

theorem captureView_capDescRead : CaptureView s (capDescRead d s) :=
  List.foldlRecOn (motive := CaptureView s) _ _ CaptureView.refl fun _ ht _ _ =>
    ht.trans (captureView_countDecode reservedPlace_lt)

namespace CaptureView
variable (h : CaptureView s t)
include h

theorem getF (hb : CaptureWord (b + f.sub)) : Machine.getF b f t = Machine.getF b f s :=
  getF_congr (h.word _ hb)

theorem capState (hc : c < 4) : Machine.capState c t = Machine.capState c s :=
  h.getF (by unfold CaptureWord R.SDG_CAP; simp only [F.SDG_CAP_STATE]; omega)

theorem idleCapture : Machine.idleCapture t = Machine.idleCapture s := by
  unfold Machine.idleCapture
  refine List.find?_congr fun c hc => ?_
  rw [h.capState (List.mem_range.1 hc)]

theorem cfgP : Machine.cfgP t = Machine.cfgP s := by
  rw [Machine.cfgP, h.getF (by unfold CaptureWord; decide), Machine.cfgP]

theorem cfgN : Machine.cfgN t = Machine.cfgN s := h.getF (by unfold CaptureWord; decide)

theorem cfgNch : Machine.cfgNch t = Machine.cfgNch s := by
  rw [Machine.cfgNch, Machine.cfgC, h.getF (by unfold CaptureWord; decide), h.cfgP, Machine.cfgNch, Machine.cfgC]

theorem platLen : Machine.platLen t = Machine.platLen s := h.getF (by unfold CaptureWord; decide)

theorem originOf : Machine.originOf n t = Machine.originOf n s := by
  have hnow : originNow t = originNow s := by
    rw [originNow, get2, h.getF (by unfold CaptureWord; decide), h.getF (by unfold CaptureWord; decide), originNow, get2]
  rw [Machine.originOf, hnow, h.jpOld, Machine.originOf]

theorem reservedPlace : Machine.reservedPlace n t = Machine.reservedPlace n s := by
  unfold Machine.reservedPlace
  rw [workStacks_congr (h.word _ (by unfold CaptureWord; decide))]

theorem capWord : Machine.capWord d n t = Machine.capWord d n s := by
  unfold Machine.capWord readReserved storedWords
  rw [h.reservedPlace, blockRead_congr h.hbm h.hbmErr, blockWords_congr h.hbm, maskAt_congr h.hbmErr]

theorem capWindow : Machine.capWindow d key len num t = Machine.capWindow d key len num s := by
  simp only [Machine.capWindow, h.cfgP, h.originOf, h.platLen, h.capWord]

theorem capDescOk : Machine.capDescOk d t = Machine.capDescOk d s := by simp only [Machine.capDescOk, h.capWord]

theorem capTooFast {c : Capture} : Machine.capTooFast d c t = Machine.capTooFast d c s := by
  unfold Machine.capTooFast
  rw [h.capWord, h.cfgP, h.getF (by unfold CaptureWord; decide)]

end CaptureView

/-! ### A capture's slot (R145) -/

theorem only_putCapture {x : Capture} : Only [.sdg] (fun _ => False) s (putCapture k x s) := only_putSdg

@[simp] theorem captureOf_putCapture {x : Capture} : captureOf k (putCapture k x s) = x :=
  Store.get_set_same _ _ _ _

theorem captureOf_congr (h : t.sdg = s.sdg) : captureOf k t = captureOf k s := by rw [captureOf, h, captureOf]

theorem captureOf_setF : captureOf k (setF b f x s) = captureOf k s := captureOf_congr (setF_sdg s b f x)

theorem idleCapture_lt (h : idleCapture s = some k) : k < 4 := List.mem_range.1 (List.mem_of_find?_eq_some h)

/-- The registers of slot `k`. -/
def slotWord (k a : Nat) : Prop := R.SDG_CAP k ≤ a ∧ a < R.SDG_CAP k + 4

theorem only_setF_slot (v : Nat) (hsub : f.sub < 4) : Only [] (slotWord k) s (setF (R.SDG_CAP k) f v s) :=
  (only_setF _ _ _ _).widen (by simp) fun a h => by
    unfold slotWord
    omega

theorem not_slotWord (hk : k < 4) (ha : a = R.SDG_STATUS ∨ 0x6000000 ≤ a) : ¬ slotWord k a := by
  simp only [slotWord, R.SDG_CAP]
  unfold R.SDG_STATUS at ha
  omega

theorem sdgCap_ge : 0x4000000 ≤ R.SDG_CAP k := by
  unfold R.SDG_CAP
  omega

theorem sdgCap_ne_status : R.SDG_CAP k ≠ R.SDG_STATUS := by
  unfold R.SDG_CAP R.SDG_STATUS
  omega

theorem capState_congr (h : rd (R.SDG_CAP k) t = rd (R.SDG_CAP k) s) : capState k t = capState k s :=
  getF_of_rd rfl h

/-- The registers of a slot that a capture takes. -/
def slotShown (d k : Nat) (c : Capture) (s : State) : State :=
  s |> setF (R.SDG_CAP k) F.SDG_CAP_DESC d
    |> setF (R.SDG_CAP k) F.SDG_CAP_STATE 1
    |> setF (R.SDG_CAP k) F.SDG_CAP_WSTART c.wstart
    |> setF (R.SDG_CAP k) F.SDG_CAP_RELEASE c.rel
    |> setF (R.SDG_CAP k) F.SDG_CAP_SENT 0

/-- A capture that takes slot `k`. -/
def captureTaken (d k : Nat) (x : Capture × Bool) (s : State) : State :=
  when x.2 (sdgCond 2) (slotShown d k x.1 (putCapture k x.1 s))

theorem captureExecute_full (h : idleCapture s = none) : captureExecute d key len num s = none := by
  rw [captureExecute, h]

theorem captureExecute_takes {x : Capture × Bool} (hx : capWindow d key len num s = x) (hidle : idleCapture s = some k)
    (hok : capDescOk d s = true) (hch : x.1.f0 + x.1.fn ≤ cfgNch s) (hin : x.1.i0 + x.1.inN ≤ cfgN s)
    (hrate : capTooFast d x.1 s = false) : captureExecute d key len num s = some (k, captureTaken d k x s) := by
  obtain ⟨c, clipped⟩ := x
  have hguard : (capDescOk d s && decide (c.f0 + c.fn ≤ cfgNch s) && decide (c.i0 + c.inN ≤ cfgN s)
      && !capTooFast d c s) = true := by
    rw [hok, decide_eq_true hch, decide_eq_true hin, hrate]
    rfl
  rw [captureExecute, hx]
  dsimp only
  rw [hidle]
  exact if_pos hguard

theorem only_slotShown {x : Capture} : Only [] (slotWord k) s (slotShown d k x s) :=
  (only_setF_slot _ (by decide)).trans <| (only_setF_slot _ (by decide)).trans <| (only_setF_slot _ (by decide)).trans <|
    (only_setF_slot _ (by decide)).trans (only_setF_slot _ (by decide))

theorem capState_slotShown {x : Capture} : capState k (slotShown d k x s) = 1 := by
  have hsub {m n : Nat} (h : m ≠ n) : R.SDG_CAP k + m ≠ R.SDG_CAP k + n := by omega
  rw [capState, slotShown, getF_setF_other _ _ (hsub (by decide)), getF_setF_other _ _ (hsub (by decide)),
    getF_setF_other _ _ (hsub (by decide)), getF_setF_same _ _ _ _ (by decide)]
  rfl

theorem only_clipped {x : Capture × Bool} : Only [.bellq, .health] (fun a => a = R.SDG_STATUS ∨ BellSpace a)
    (slotShown d k x.1 (putCapture k x.1 s)) (captureTaken d k x s) :=
  only_when _ _ (Only.refl _ _ _) (only_sdgCond (by decide))

theorem captureTaken_holds {x : Capture × Bool} :
    capState k (captureTaken d k x s) = 1 ∧ captureOf k (captureTaken d k x s) = x.1 := by
  refine ⟨?_, ?_⟩
  · rw [capState_congr (only_clipped.2.2 _ (not_or.2 ⟨sdgCap_ne_status, not_bellSpace sdgCap_ge⟩)), capState_slotShown]
  · rw [captureOf_congr (only_clipped.2.1 .sdg (by decide)), captureOf_congr (only_slotShown.2.1 .sdg (by decide)),
      captureOf_putCapture]

theorem rd_captureTaken {x : Capture × Bool} (hk : k < 4) (ha : 0x6000000 ≤ a) : rd a (captureTaken d k x s) = rd a s := by
  rw [only_clipped.2.2 _ (not_or.2 ⟨by unfold R.SDG_STATUS; omega, not_bellSpace (by omega)⟩),
    only_slotShown.2.2 _ (not_slotWord hk (.inr ha)), only_putCapture.2.2 _ not_false]

/-! ### A capture becomes due (R145, R197) -/

theorem deliverDue_due {code : Nat} {ok : Nat → Bool} {g : Entry → State → State} {e : Entry} (h : dueNext s = some e)
    (hcode : e.code = code) (hkey : e.key = key) (harg : ok e.arg = true) :
    deliverDue code key ok g s = g e (logItem (.due e.code e.key e.arg) (removeEntry e s)) := by
  rw [deliverDue, h]
  exact if_pos ⟨hcode, hkey, harg⟩

/-- The capture is executed in a state that holds the same window. -/
theorem capture_delivered {e : Entry} {desc : BitVec 8} {len : BitVec 32} {key : BitVec 48} (h : dueNext s = some e)
    (hkey : e.key = key.toNat) (hcode : e.code = 0x10) (harg : e.arg = desc.toNat * 2 ^ 32 + len.toNat) :
    ∃ u, CaptureView s u ∧ exec (.capture desc len key) s = .next (captureDue desc.toNat len.toNat key.toNat u) := by
  have hlen := len.isLt
  have hdesc : e.arg / 2 ^ 32 = desc.toNat := by omega
  have hlength : e.arg % 2 ^ 32 = len.toNat := by omega
  have hdue := deliverDue_due (ok := fun a => a == desc.toNat * 2 ^ 32 + len.toNat)
    (g := fun e => captureDue (e.arg / 2 ^ 32) (e.arg % 2 ^ 32) e.key) h hcode hkey (beq_iff_eq.2 harg)
  rw [hdesc, hlength, hkey] at hdue
  exact ⟨_, captureView_removeEntry.trans captureView_logItem, congrArg Host.Outcome.next hdue⟩

/-- The next capture number. -/
def nextCapture (s : State) : Nat := getF R.TMN_CAPNUM F.TMN_CAPNUM_NEXT s

theorem captureDue_refused (hu : u = capDescRead d s) (h : captureExecute d key len (nextCapture u) u = none) :
    captureDue d len key s = sdgCond 0 u := by
  subst hu
  unfold nextCapture at h
  simp only [captureDue, h]

theorem captureDue_taken (hu : u = capDescRead d s) (h : captureExecute d key len (nextCapture u) u = some (k, t)) :
    captureDue d len key s = incF R.TMN_CAPNUM F.TMN_CAPNUM_NEXT 1 t := by
  subst hu
  unfold nextCapture at h
  simp only [captureDue, h]

theorem capture_refused {e : Entry} (desc : BitVec 8) (len : BitVec 32) (key : BitVec 48) (h : dueNext s = some e)
    (hkey : e.key = key.toNat) (hcode : e.code = 0x10) (harg : e.arg = desc.toNat * 2 ^ 32 + len.toNat)
    (hidle : idleCapture s = none) :
    After (exec (.capture desc len key) s) fun t => getBit R.SDG_STATUS ⟨0, 0, 9⟩ 0 t = true ∧ t.sdg.caps = s.sdg.caps := by
  obtain ⟨u, hview, hexec⟩ := capture_delivered h hkey hcode harg
  have hread := hview.trans (captureView_capDescRead (d := desc.toNat))
  rw [captureDue_refused rfl (captureExecute_full (hread.idleCapture.trans hidle))] at hexec
  refine ⟨_, hexec, getBit_sdgCond (by decide), ?_⟩
  rw [(only_sdgCond (by decide)).2.1 .sdg (by decide), hread.caps]

theorem capture_taken {e : Entry} (desc : BitVec 8) (len : BitVec 32) (key : BitVec 48) (h : dueNext s = some e)
    (hkey : e.key = key.toNat) (hcode : e.code = 0x10) (harg : e.arg = desc.toNat * 2 ^ 32 + len.toNat)
    (hidle : idleCapture s = some k) (hok : capDescOk desc.toNat s = true) {c : Capture}
    (hc : (capWindow desc.toNat key.toNat len.toNat (nextCapture s) s).1 = c) (hch : c.f0 + c.fn ≤ cfgNch s)
    (hin : c.i0 + c.inN ≤ cfgN s) (hrate : capTooFast desc.toNat c s = false) :
    After (exec (.capture desc len key) s) fun t => capState k t = 1 ∧ captureOf k t = c
      ∧ nextCapture t = (nextCapture s + 1) % 2 ^ F.TMN_CAPNUM_NEXT.w := by
  obtain ⟨u, hview, hexec⟩ := capture_delivered h hkey hcode harg
  obtain ⟨v, hv⟩ : ∃ v, v = capDescRead desc.toNat u := ⟨_, rfl⟩
  have hread : CaptureView s v := hv ▸ hview.trans captureView_capDescRead
  have hk := idleCapture_lt hidle
  have hnum : nextCapture v = nextCapture s := hread.getF (by unfold CaptureWord; decide)
  have hwindow : (capWindow desc.toNat key.toNat len.toNat (nextCapture v) v).1 = c := by rw [hread.capWindow, hnum, hc]
  obtain ⟨x, hx⟩ : ∃ x, capWindow desc.toNat key.toNat len.toNat (nextCapture v) v = x := ⟨_, rfl⟩
  rw [hx] at hwindow
  have htakes := captureExecute_takes hx (hread.idleCapture.trans hidle) (hread.capDescOk.trans hok)
    (by rwa [hwindow, hread.cfgNch]) (by rwa [hwindow, hread.cfgN]) (by rwa [hwindow, hread.capTooFast])
  rw [captureDue_taken hv htakes] at hexec
  obtain ⟨hstate, hholds⟩ := captureTaken_holds (d := desc.toNat) (k := k) (s := v) (x := x)
  have hslot : R.SDG_CAP k ≠ R.TMN_CAPNUM := by simp only [R.SDG_CAP, R.TMN_CAPNUM]; omega
  refine ⟨_, hexec, ?_, ?_, ?_⟩
  · rw [incF, capState_congr (rd_setF_other _ _ hslot), hstate]
  · rw [incF, captureOf_setF, hholds, hwindow]
  · rw [nextCapture, incF, getF_setF_same _ _ _ _ (by decide), getF_of_rd rfl (rd_captureTaken hk (by decide)),
      ← nextCapture, hnum]

end

/-! ### A capture's stream (R146, R147) -/

section
variable {s t u : State} {a i k n r : Nat} {c q : Consig} {f : Fld} {x : Capture} {trunc : Bool}

theorem captureStreamStart_streams (c : Fin 4) (h : capState c s = 1)
    (hw : (captureOf c s).wstart + 25 * (captureOf c s).tn ≤ s.pts.nextJ) :
    After (exec (.captureStreamStart c) s) fun t => capState c t = 2
        ∧ captureOf c t = { captureOf c s with from_ := tickNow s } ∧ Only [.sdg] (fun a => a = R.SDG_CAP c) s t := by
  refine ⟨_, congrArg Host.Outcome.next (if_pos ⟨h, hw⟩), ?_, captureOf_setF.trans captureOf_putCapture, ?_⟩
  · rw [capState, getF_setF_same _ _ _ _ (by decide)]
    rfl
  · exact (only_putCapture.widen (by simp) fun _ h => h.elim).trans ((only_setF _ _ _ _).widen (by simp) fun _ h => h)

/-- The words that the Terminus writes when it queues a consignment. -/
def TerminusWord (a : Nat) : Prop := 0x6000000 ≤ a ∨ BellSpace a

/-- The components of a consignment that is queued or discarded. -/
def queueParts : List Part := [.lanes, .tmnHeld, .bellq, .health]

theorem only_setF_terminus {b v : Nat} (hb : 0x6000000 ≤ b) : Only queueParts TerminusWord s (setF b f v s) :=
  (only_setF b f v s).widen (by simp) fun a h => .inl (by omega)

theorem only_flagEvt_terminus {b e : Nat} (he : e < 1024) (hb : 0x6000000 ≤ b) :
    Only queueParts TerminusWord s (flagEvt b f k e s) :=
  (only_flagEvt b f k e s).widen (by decide) fun _ h => h.imp (fun h => by omega) (bellWord_bellSpace he)

theorem only_tmnCond (hn : n < 5) : Only queueParts TerminusWord s (tmnCond n s) :=
  only_flagEvt_terminus (by unfold ev; omega) (by decide)

theorem only_countDrop : Only queueParts TerminusWord s (countDrop r s) := by
  have hroute : 0x6000000 ≤ R.TMN_ROUTE (r % 16) := by unfold R.TMN_ROUTE; omega
  exact (only_setF_terminus hroute).trans <| (only_setF_terminus (by decide)).trans <|
    only_flagEvt_terminus (by unfold ev; omega) hroute

/-- The occupancy of the departure buffer. -/
theorem only_putTmnHeld_terminus : Only queueParts TerminusWord s (putTmnHeld n s) := by
  have hheld : Only queueParts TerminusWord s { s with tmnHeld := n } := by
    refine ⟨rfl, fun p hp => ?_, fun _ _ => rfl⟩
    cases p
    case tmnHeld => exact absurd (by decide) hp
    all_goals rfl
  exact only_when _ _ (hheld.trans (only_setF_terminus (by decide))) (only_setF_terminus (by decide))

theorem only_queueConsig (h : c.beam = false) : Only queueParts TerminusWord s (queueConsig c n s) := by
  unfold queueConsig
  split
  · exact Only.refl _ _ _
  split
  · exact only_countDrop
  split
  · exact only_countDrop
  next i skip _ =>
    rw [h, if_neg Bool.false_ne_true]
    exact (only_when skip (tmnCond 1) (Only.refl _ _ _) (only_tmnCond (by decide))).trans <|
      ((only_setLane _ _ _).widen (by decide) fun _ h => h.elim).trans only_putTmnHeld_terminus

/-- The end of a stream closes its slot's stream and leaves the capture as it is held. -/
theorem only_captureEnd : Only queueParts (fun a => slotWord k a ∨ TerminusWord a) s (captureEnd k trunc s) :=
  ((only_queueConsig rfl).widen (by simp) fun _ => .inr).trans <|
    ((only_tmnCond (by decide)).widen (by simp) fun _ => .inr).trans <|
    (only_setF_slot _ (by decide)).widen (by simp) fun _ => .inl

theorem capState_captureEnd : capState k (captureEnd k trunc s) = 3 := getF_setF_same _ _ _ _ (by decide)

theorem captureOf_captureEnd : captureOf k (captureEnd k trunc s) = captureOf k s :=
  captureOf_congr (only_captureEnd.2.1 .sdg (by decide))

/-- The blocks of a piece are decoded. -/
def piecesDecoded (x : Capture) (n : Nat) (s : State) : State :=
  (List.range n).foldl (fun s k => countDecode (capPlace x (x.pos + k) s) s) s

theorem capPlace_lt : (capPlace x n s).1 < 256 := physPc_lt

theorem rd_piecesDecoded (ha : 0x4000000 ≤ a) (hb : a < 0x4010000) : rd a (piecesDecoded x n s) = rd a s :=
  List.foldlRecOn (motive := fun t => rd a t = rd a s) _ _ rfl fun _ ht _ _ => (rd_countDecode capPlace_lt ha hb).trans ht

/-- The capture once `n` more blocks of its stream are sent. -/
def pieceSent (x : Capture) (n bad : Nat) : Capture :=
  { x with pos := x.pos + n, pieces := x.pieces + 1, sent := x.sent + n, bad := x.bad + bad }

/-- A piece that is sent, and the end of the stream after the last one. -/
def pieceShown (k n bad : Nat) (x : Capture) (s : State) : State :=
  let t := setF (R.SDG_CAP k) F.SDG_CAP_SENT (pieceSent x n bad).sent (putCapture k (pieceSent x n bad) s)
  if capBlocks x ≤ (pieceSent x n bad).pos then captureEnd k false t else t

theorem capturePieceRead_eq (hstate : capState k s = 2) (hrun : pstate s = 1)
    (hpos : (captureOf k s).pos < capBlocks (captureOf k s))
    (hready : ∀ x, x < pieceLen (captureOf k s) s →
      stackState ((capPlace (captureOf k s) ((captureOf k s).pos + x) s).1 / 32) s = 2)
    (hroom : bufferRoom (8 + 5 * pieceLen (captureOf k s) s) s = true)
    (hpace : capturePaced (captureOf k s) (pieceLen (captureOf k s) s) s = true) :
    ∃ q u bad, q.beam = false ∧ capturePieceRead k s = pieceShown k (pieceLen (captureOf k s) s) bad (captureOf k s)
      (queueConsig q u (piecesDecoded (captureOf k s) (pieceLen (captureOf k s) s) s)) := by
  have hwaits : ((List.range (pieceLen (captureOf k s) s)).any fun x =>
      stackState ((capPlace (captureOf k s) ((captureOf k s).pos + x) s).1 / 32) s != 2) = false :=
    List.any_eq_false.2 fun x hx => by
      rw [hready x (List.mem_range.1 hx)]
      decide
  have hin : ¬ (capState k s != 2 || pstate s != 1) = true := by
    rw [hstate, hrun]
    decide
  have hgo : ¬ ((List.range (pieceLen (captureOf k s) s)).any (fun x =>
      stackState ((capPlace (captureOf k s) ((captureOf k s).pos + x) s).1 / 32) s != 2)
      || !bufferRoom (8 + 5 * pieceLen (captureOf k s) s) s
      || !capturePaced (captureOf k s) (pieceLen (captureOf k s) s) s) = true := by
    rw [hwaits, hroom, hpace]
    decide
  rw [capturePieceRead, if_neg hin, if_neg (Nat.not_le.2 hpos), if_neg hgo]
  exact ⟨_, _, _, rfl, rfl⟩

theorem pieceShown_advances {bad : Nat} (h : capState k s = 2) :
    captureOf k (pieceShown k n bad x s) = pieceSent x n bad
      ∧ (capBlocks x ≤ (pieceSent x n bad).pos → capState k (pieceShown k n bad x s) = 3)
      ∧ ((pieceSent x n bad).pos < capBlocks x → capState k (pieceShown k n bad x s) = 2) := by
  have hsent : R.SDG_CAP k ≠ R.SDG_CAP k + F.SDG_CAP_SENT.sub := by
    simp only [F.SDG_CAP_SENT]
    omega
  unfold pieceShown
  by_cases hend : capBlocks x ≤ (pieceSent x n bad).pos
  · simp only [if_pos hend]
    exact ⟨captureOf_captureEnd.trans (captureOf_setF.trans captureOf_putCapture),
      fun _ => capState_captureEnd, fun hlt => absurd hend (by omega)⟩
  · simp only [if_neg hend]
    exact ⟨captureOf_setF.trans captureOf_putCapture,
      fun hle => absurd hle hend, fun _ => (capState_congr (rd_setF_other _ _ hsent)).trans h⟩

theorem capturePieceRead_advances (c : Fin 4) (hstate : capState c s = 2) (hrun : pstate s = 1)
    (hpos : (captureOf c s).pos < capBlocks (captureOf c s))
    (hready : ∀ x, x < pieceLen (captureOf c s) s →
      stackState ((capPlace (captureOf c s) ((captureOf c s).pos + x) s).1 / 32) s = 2)
    (hroom : bufferRoom (8 + 5 * pieceLen (captureOf c s) s) s = true)
    (hpace : capturePaced (captureOf c s) (pieceLen (captureOf c s) s) s = true) :
    After (exec (.capturePieceRead c) s) fun t =>
      (captureOf c t).pos = (captureOf c s).pos + pieceLen (captureOf c s) s
      ∧ (captureOf c t).pieces = (captureOf c s).pieces + 1
      ∧ (captureOf c t).sent = (captureOf c s).sent + pieceLen (captureOf c s) s
      ∧ (capBlocks (captureOf c s) ≤ (captureOf c t).pos → capState c t = 3)
      ∧ ((captureOf c t).pos < capBlocks (captureOf c s) → capState c t = 2) := by
  obtain ⟨q, u, bad, hq, hread⟩ := capturePieceRead_eq hstate hrun hpos hready hroom hpace
  have hcap : R.SDG_CAP c < 0x4010000 := by
    have := c.isLt
    unfold R.SDG_CAP
    omega
  have hslot : ¬ TerminusWord (R.SDG_CAP c) := not_or.2 ⟨by omega, not_bellSpace sdgCap_ge⟩
  obtain ⟨hholds, hlast, hmore⟩ := pieceShown_advances (k := c) (n := pieceLen (captureOf c s) s) (bad := bad)
    (x := captureOf c s) (s := queueConsig q u (piecesDecoded (captureOf c s) (pieceLen (captureOf c s) s) s)) <| by
      rw [capState_congr ((only_queueConsig hq).2.2 _ hslot), capState_congr (rd_piecesDecoded sdgCap_ge hcap), hstate]
  refine ⟨_, congrArg Host.Outcome.next hread, ?_⟩
  beta_reduce
  rw [hholds]
  exact ⟨rfl, rfl, rfl, hlast, hmore⟩

/-! ### The release (R147) -/

/-- A capture whose stream is not finished is truncated at its release. -/
def truncatedAtRelease (k : Nat) (s : State) : State :=
  if capState k s != 3 then captureEnd k true (sdgCond 1 (putCapture k { captureOf k s with trunc := true } s)) else s

theorem captureRelease_eq (hst : capState k s ≠ 0) (hf : frontValid s = true) (hrel : (captureOf k s).rel * cfgP s ≤ frontNow s) :
    captureRelease k s = putCapture k {} (setF (R.SDG_CAP k) F.SDG_CAP_STATE 0 (truncatedAtRelease k s)) := by
  refine if_pos ?_
  rw [bne_iff_ne.2 hst, hf, decide_eq_true hrel]
  rfl

theorem getBit_truncatedAtRelease (hk : k < 4) (h : capState k s ≠ 3) :
    getBit R.SDG_STATUS ⟨0, 0, 9⟩ 1 (truncatedAtRelease k s) = true := by
  rw [truncatedAtRelease, if_pos (bne_iff_ne.2 h)]
  exact (getBit_of_rd rfl (only_captureEnd.2.2 _ (not_or.2 ⟨not_slotWord hk (.inl rfl),
    not_or.2 ⟨by decide, not_bellSpace (by decide)⟩⟩))).trans (getBit_sdgCond (by decide))

theorem captureRelease_idles (c : Fin 4) (hst : capState c s ≠ 0) (hf : frontValid s = true)
    (hrel : (captureOf c s).rel * cfgP s ≤ frontNow s) :
    After (exec (.captureRelease c) s) fun t => capState c t = 0 ∧ captureOf c t = {}
        ∧ (capState c s ≠ 3 → getBit R.SDG_STATUS ⟨0, 0, 9⟩ 1 t = true) := by
  refine ⟨_, congrArg Host.Outcome.next (captureRelease_eq hst hf hrel), ?_, captureOf_putCapture, fun h3 => ?_⟩
  · rw [capState_congr (only_putCapture.2.2 _ not_false), capState, getF_setF_same _ _ _ _ (by decide)]
    rfl
  · rw [getBit_of_rd rfl (only_putCapture.2.2 _ not_false), getBit_of_rd rfl (rd_setF_other _ _ sdgCap_ne_status.symm)]
    exact getBit_truncatedAtRelease c.isLt h3

/-- Settles O20: delivery and the reading of the descriptor leave what the window is computed from, so the slot takes the
window of the state in which the capture becomes due; the Terminus' queueing leaves the slot's register and its capture. -/
theorem capturesRunTheirCourse : Obligations.CapturesRunTheirCourse :=
  ⟨fun _ desc len key _ hdue hkey hcode harg => ⟨capture_refused desc len key hdue hkey hcode harg,
      fun _ hidle hok => capture_taken desc len key hdue hkey hcode harg hidle hok rfl⟩,
    fun c _ => captureStreamStart_streams c, fun c _ => capturePieceRead_advances c, fun c _ => captureRelease_idles c⟩

end

end Sys2Proof.Safety

namespace Sys2Proof.Safety
open Sys2Proof.Machine

/-! ### An access that its target answers (R278-R281) -/

section
variable {s t u : State} {a c e k m n x : Nat} {v : Word} {f : Fld} {pl : Nat × Nat} {isWrite : Bool} {w : Option Word}

theorem only_noteBurst {b : Burst} : ∃ ws, Only [.bellq, .health] ws s (b.note m a c isWrite s) := by
  unfold Burst.note noteError
  split
  · exact ⟨fun _ => False, Only.refl _ _ _⟩
  · exact ⟨_, only_when _ _ (Only.refl _ _ _) (only_ilkError isWrite)⟩

theorem noteBurst_okay {b : Burst} : b.note m a 0 isWrite s = s := if_pos (.inl rfl)

/-- A word written, answered with the response of its target. -/
theorem writeAccess_answers (hp : p3Waits m a s = false) (ht : targetWrite m a v (countIssue m s) = (c, t)) :
    ∃ x, x.code = c ∧ writeAccess m a v s = putAnswer m x (Burst.note {} m a c true t) := by
  unfold writeAccess
  rw [hp, if_neg Bool.false_ne_true, burstWrite, ht]
  exact ⟨_, Nat.zero_max c, rfl⟩

/-- A word read, answered with the response of its target. -/
theorem readAccess_answers (hp : p3Waits m a s = false) (ht : targetRead m a (countIssue m s) = (c, v, t)) :
    ∃ x, x.code = c ∧ (c = 0 → x.data = [v]) ∧ readAccess m a s = putAnswer m x (Burst.note {} m a c false t) := by
  have hfirst : ¬ (({} : Burst).last.isSome ∧ ({} : Burst).last.map (·.2) = some (targetOf a)) :=
    fun h => Bool.false_ne_true h.1
  unfold readAccess
  rw [hp, if_neg Bool.false_ne_true, burstRead, if_neg hfirst, ht]
  refine ⟨_, Nat.zero_max c, fun hc => ?_, rfl⟩
  subst hc
  rfl

/-! ### The paged aperture (R143) -/

theorem rd_countIssue_high (hm : m < 16) (ha : 0x4000000 ≤ a) : rd a (countIssue m s) = rd a s :=
  rd_countIssue (by unfold R.ILK_MST; omega)

theorem stackState_countIssue (hm : m < 16) : stackState k (countIssue m s) = stackState k s :=
  stackState_congr (rd_countIssue_high hm sdgStk_ge)

theorem hbm_countIssue : (countIssue m s).hbm = s.hbm := only_countIssue.2.1 .hbm (by decide)

theorem hbmErr_countIssue : (countIssue m s).hbmErr = s.hbmErr := only_countIssue.2.1 .hbmErr (by decide)

theorem reservedPlace_congr (h : rd R.SDG_STACKS t = rd R.SDG_STACKS s) : reservedPlace n t = reservedPlace n s := by
  unfold reservedPlace
  rw [workStacks_congr h]

theorem aperturePlace_countIssue (hm : m < 16) : aperturePlace x (countIssue m s) = aperturePlace x s := by
  have hrd {b : Nat} (hb : 0x4000000 ≤ b) : rd b (countIssue m s) = rd b s := rd_countIssue_high hm hb
  have hpage : getF R.SDG_APAGE F.SDG_APAGE_PAGE (countIssue m s) = getF R.SDG_APAGE F.SDG_APAGE_PAGE s :=
    getF_of_rd rfl (hrd (by decide))
  have hspace : isSet R.SDG_APAGE F.SDG_APAGE_SPACE (countIssue m s) = isSet R.SDG_APAGE F.SDG_APAGE_SPACE s :=
    isSet_of_rd rfl (hrd (by decide))
  have hdbg : isSet R.SDG_CTRL F.SDG_CTRL_DBG (countIssue m s) = isSet R.SDG_CTRL F.SDG_CTRL_DBG s :=
    isSet_of_rd rfl (hrd (by decide))
  unfold aperturePlace
  simp only [hpage, hspace, hdbg, reservedPlace_congr (hrd (show 0x4000000 ≤ R.SDG_STACKS by decide))]

theorem aperturePlace_lt (h : aperturePlace x s = some (pl, k)) : pl.1 < 256 := by
  have hpage : getF R.SDG_APAGE F.SDG_APAGE_PAGE s < 256 := bitsOf_lt _ _ _
  unfold aperturePlace at h
  dsimp only at h
  split at h
  · split at h
    · obtain ⟨rfl, -⟩ := Prod.mk.inj (Option.some.inj h)
      exact hpage
    · cases h
  · split at h
    · obtain ⟨rfl, -⟩ := Prod.mk.inj (Option.some.inj h)
      exact reservedPlace_lt
    · cases h

theorem wordVoid_aperture (ha : 0x8000000 ≤ a) : wordVoid a s = false := by
  unfold wordVoid
  split
  case h_9 => rfl
  all_goals omega

/-! An aperture access answers 1 (DECERR) where no word lies, and 2 (ASLEEP) where the stack does not answer. -/
theorem wordWrite_aperture_void (ha : 0x8000000 ≤ a) (h : aperturePlace (a - 0x8000000) s = none) :
    wordWrite m a v false s = (1, s) := by
  rw [wordWrite, coreMemory_eq_none (by omega)]
  dsimp only
  rw [if_neg (by omega), if_neg (by omega), if_neg (by omega), if_neg (by omega), wordVoid_aperture ha,
    if_neg Bool.false_ne_true, if_pos ha, h]

theorem wordWrite_aperture_place (ha : 0x8000000 ≤ a) (h : aperturePlace (a - 0x8000000) s = some (pl, k)) :
    wordWrite m a v false s = if stackAnswers pl s then (0, p3Write pl k v s) else (2, s) := by
  rw [wordWrite, coreMemory_eq_none (by omega)]
  dsimp only
  rw [if_neg (by omega), if_neg (by omega), if_neg (by omega), if_neg (by omega), wordVoid_aperture ha,
    if_neg Bool.false_ne_true, if_pos ha, h]

theorem not_jctView_aperture (ha : 0x8000000 ≤ a) :
    ¬ (0x5000000 ≤ a ∧ a < 0x5001000 ∧ (!latched a) = true ∧ (latches a).isEmpty = true) := by
  rintro ⟨-, h, -⟩
  omega

theorem wordRead_aperture_void (ha : 0x8000000 ≤ a) (h : aperturePlace (a - 0x8000000) s = none) :
    wordRead m a s = (1, 0#40, s) := by
  rw [wordRead, coreMemory_eq_none (by omega)]
  dsimp only
  rw [if_neg (by omega), if_neg (by omega), wordVoid_aperture ha, if_neg Bool.false_ne_true, if_neg (by omega),
    if_neg (by omega), if_neg (by omega), if_neg (by omega), if_neg (by omega), if_neg (not_jctView_aperture ha),
    if_neg (by omega), if_pos ha, h]

theorem wordRead_aperture_place (ha : 0x8000000 ≤ a) (h : aperturePlace (a - 0x8000000) s = some (pl, k)) :
    wordRead m a s = if stackAnswers pl s then (0, p3Read pl k s) else (2, 0#40, s) := by
  rw [wordRead, coreMemory_eq_none (by omega)]
  dsimp only
  rw [if_neg (by omega), if_neg (by omega), wordVoid_aperture ha, if_neg Bool.false_ne_true, if_neg (by omega),
    if_neg (by omega), if_neg (by omega), if_neg (by omega), if_neg (by omega), if_neg (not_jctView_aperture ha),
    if_neg (by omega), if_pos ha, h]

/-- The access waits while its place lies in a stack that trains. -/
theorem p3Waits_aperture (hr : Reaches m a s) (ha : 0x8000000 ≤ a) :
    p3Waits m a s = (aperturePlace (a - 0x8000000) s).any fun x => stackWaits x.1 s := by
  obtain ⟨r, ht, hans⟩ := hr
  rw [p3Waits, decide_eq_true ha, ht, Option.any_some, hans, Bool.true_and, Bool.true_and]

theorem stackAnswers_countIssue (hm : m < 16) : stackAnswers pl (countIssue m s) = stackAnswers pl s := by
  rw [stackAnswers, stackState_countIssue hm, stackAnswers]

theorem not_stackWaits_of_answers (h : stackAnswers pl s = true) : stackWaits pl s = false := by
  rw [stackAnswers, beq_iff_eq] at h
  rw [stackWaits, h]
  rfl

theorem exec_aperture_write {m : Master} {addr : WAddr} :
    exec (.apertureAccess m addr (some v)) s = .next (writeAccess m addr.toNat v s) := rfl

theorem exec_aperture_read {m : Master} {addr : WAddr} :
    exec (.apertureAccess m addr none) s = .next (readAccess m addr.toNat s) := rfl

/-- An access of the aperture that its target refuses with response `c`, and that touches no stored word. -/
theorem aperture_refused {m : Master} {addr : WAddr} (hp : p3Waits m addr.toNat s = false)
    (hw : ∀ v, targetWrite m addr.toNat v (countIssue m s) = (c, countIssue m s))
    (hr : targetRead m addr.toNat (countIssue m s) = (c, 0#40, countIssue m s)) :
    After (exec (.apertureAccess m addr w) s) fun t => (answered m t).code = c ∧ t.hbm = s.hbm := by
  have hkeeps (x : Answer) (isWrite : Bool) :
      (putAnswer m x (Burst.note {} m addr.toNat c isWrite (countIssue m s))).hbm = s.hbm := by
    obtain ⟨_, honly⟩ := only_noteBurst (b := {}) (m := m) (a := addr.toNat) (c := c) (isWrite := isWrite) (s := countIssue m s)
    exact ((only_putAnswer x).2.1 .hbm (by decide)).trans ((honly.2.1 .hbm (by decide)).trans hbm_countIssue)
  cases w with
  | none =>
    obtain ⟨x, hx, -, hacc⟩ := readAccess_answers hp hr
    exact ⟨_, exec_aperture_read.trans (congrArg Host.Outcome.next hacc),
        (congrArg Answer.code (answered_putAnswer x)).trans hx,
      hkeeps x false⟩
  | some v =>
    obtain ⟨x, hx, hacc⟩ := writeAccess_answers hp (hw v)
    exact ⟨_, exec_aperture_write.trans (congrArg Host.Outcome.next hacc),
        (congrArg Answer.code (answered_putAnswer x)).trans hx,
      hkeeps x true⟩

theorem aperture_void {m : Master} {addr : WAddr} (hr : Reaches m addr.toNat s) (ha : 0x8000000 ≤ addr.toNat)
    (h : aperturePlace (addr.toNat - 0x8000000) s = none) :
    After (exec (.apertureAccess m addr w) s) fun t => (answered m t).code = 1 ∧ t.hbm = s.hbm := by
  have hreach := reaches_countIssue m.isLt hr
  have hplace := (aperturePlace_countIssue (s := s) m.isLt).trans h
  refine aperture_refused ?_ (fun v => ?_) ?_
  · rw [p3Waits_aperture hr ha, h, Option.any_none]
  · rw [targetWrite_of_reaches hreach, wordWrite_aperture_void ha hplace]
  · rw [targetRead_of_reaches hreach, wordRead_aperture_void ha hplace]

theorem aperture_asleep {m : Master} {addr : WAddr} (hr : Reaches m addr.toNat s) (ha : 0x8000000 ≤ addr.toNat)
    (h : aperturePlace (addr.toNat - 0x8000000) s = some (pl, k)) (hans : stackAnswers pl s = false)
    (hwait : stackWaits pl s = false) :
    After (exec (.apertureAccess m addr w) s) fun t => (answered m t).code = 2 ∧ t.hbm = s.hbm := by
  have hreach := reaches_countIssue m.isLt hr
  have hplace := (aperturePlace_countIssue (s := s) m.isLt).trans h
  have hstack := (stackAnswers_countIssue (s := s) m.isLt).trans hans
  refine aperture_refused ?_ (fun v => ?_) ?_
  · rw [p3Waits_aperture hr ha, h, Option.any_some, hwait]
  · rw [targetWrite_of_reaches hreach, wordWrite_aperture_place ha hplace, hstack, if_neg Bool.false_ne_true]
  · rw [targetRead_of_reaches hreach, wordRead_aperture_place ha hplace, hstack, if_neg Bool.false_ne_true]

/-- The Interlocking's own state replaced. -/
theorem only_putIlk {x : Ilk} : Only [.ilk] (fun _ => False) s { s with ilk := x } := by
  refine ⟨rfl, fun q hq => ?_, fun _ _ => rfl⟩
  cases q
  case ilk => exact absurd (List.mem_singleton_self _) hq
  all_goals rfl

theorem holdAccess_held {m : Master} {addr : WAddr} (h9 : 9 ≤ m.val) (h11 : m.val ≤ 11)
    (hout : getF (R.ILK_MST m) F.ILK_MST_OUT s < 8) :
    (holdAccess m addr.toNat w s).ilk
        = { s.ilk with out := s.ilk.out ++ [⟨m, 0, BitVec.ofNat 28 addr.toNat, 1, w.map fun v => [v]⟩] }
      ∧ Only [.ilk] (fun a => a = R.ILK_MST m) s (holdAccess m addr.toNat w s) := by
  rw [holdAccess, if_pos ⟨h9, h11, hout⟩, incF_ilk, Fin.ofNat_val_eq_self]
  exact ⟨rfl, ((only_countIssue.widen (by simp) fun _ h => h).trans (only_putIlk.widen (by simp) fun _ h => h.elim)).trans
    ((only_setF _ _ _ _).widen (by simp) fun _ h => h)⟩

theorem aperture_outstanding {m : Master} {addr : WAddr} (hr : Reaches m addr.toNat s) (ha : 0x8000000 ≤ addr.toNat)
    (h : aperturePlace (addr.toNat - 0x8000000) s = some (pl, k)) (hwait : stackWaits pl s = true) (h9 : 9 ≤ m.val)
    (h11 : m.val ≤ 11) (hout : getF (R.ILK_MST m) F.ILK_MST_OUT s < 8) :
    After (exec (.apertureAccess m addr w) s) fun t =>
      t.ilk = { s.ilk with out := s.ilk.out ++ [⟨m, 0, BitVec.ofNat 28 addr.toNat, 1, w.map fun v => [v]⟩] }
        ∧ Only [.ilk] (fun a => a = R.ILK_MST m) s t := by
  have hp : p3Waits m addr.toNat s = true := by rw [p3Waits_aperture hr ha, h, Option.any_some, hwait]
  refine ⟨holdAccess m addr.toNat w s, ?_, holdAccess_held h9 h11 hout⟩
  cases w with
  | none => exact exec_aperture_read.trans (congrArg Host.Outcome.next (if_pos hp))
  | some v => exact exec_aperture_write.trans (congrArg Host.Outcome.next (if_pos hp))

theorem p3Waits_of_answers (hr : Reaches m a s) (ha : 0x8000000 ≤ a)
    (h : aperturePlace (a - 0x8000000) s = some (pl, k)) (hans : stackAnswers pl s = true) : p3Waits m a s = false := by
  rw [p3Waits_aperture hr ha, h, Option.any_some, not_stackWaits_of_answers hans]

theorem storedWords_congr (h : t.hbm = s.hbm) (he : t.hbmErr = s.hbmErr) : storedWords pl t = storedWords pl s := by
  rw [storedWords, blockRead_congr h he, blockWords_congr h, maskAt_congr he, storedWords]

theorem p3Read_keeps (hpc : pl.1 < 256) :
    (p3Read pl k s).2.hbm = s.hbm ∧ (p3Read pl k s).2.hbmErr = s.hbmErr := by
  have honly : Only [.sdg, .bellq, .health] (fun _ => True) s (p3Read pl k s).2 :=
    only_when _ _ ((only_countDecode hpc).widen (by simp) fun _ _ => trivial)
      ((only_sdgCond (by decide)).widen (by simp) fun _ _ => trivial)
  exact ⟨honly.2.1 .hbm (by decide), honly.2.1 .hbmErr (by decide)⟩

theorem aperture_reads {m : Master} {addr : WAddr} (hr : Reaches m addr.toNat s) (ha : 0x8000000 ≤ addr.toNat)
    (h : aperturePlace (addr.toNat - 0x8000000) s = some (pl, k)) (hans : stackAnswers pl s = true) :
    After (exec (.apertureAccess m addr none) s) fun t => Okay m t
      ∧ (answered m t).data = [(storedWords pl s).getD k 0#40] ∧ t.hbm = s.hbm ∧ t.hbmErr = s.hbmErr := by
  have hread : targetRead m addr.toNat (countIssue m s) = (0, p3Read pl k (countIssue m s)) := by
    rw [targetRead_of_reaches (reaches_countIssue m.isLt hr), wordRead_aperture_place ha
      ((aperturePlace_countIssue m.isLt).trans h), (stackAnswers_countIssue m.isLt).trans hans, if_pos rfl]
  obtain ⟨hhbm, herr⟩ := p3Read_keeps (k := k) (s := countIssue m s) (aperturePlace_lt h)
  obtain ⟨x, hcode, hdata, hacc⟩ := readAccess_answers (p3Waits_of_answers hr ha h hans) hread
  rw [noteBurst_okay] at hacc
  refine ⟨_, exec_aperture_read.trans (congrArg Host.Outcome.next hacc), ?_, ?_, ?_, ?_⟩
  · rw [Okay, answered_putAnswer, hcode]
  · rw [answered_putAnswer, hdata rfl]
    exact congrArg (fun ws => [ws.getD k 0#40]) (storedWords_congr hbm_countIssue hbmErr_countIssue)
  · exact ((only_putAnswer x).2.1 .hbm (by decide)).trans (hhbm.trans hbm_countIssue)
  · exact ((only_putAnswer x).2.1 .hbmErr (by decide)).trans (herr.trans hbmErr_countIssue)

/-- A write through P3 of a block that is corrected, with no injection in force, replaces its word. -/
theorem p3Write_corrects (hpc : pl.1 < 256) (he : errsAt pl s ≤ 3) (hforce : s.chk.force = []) (hbusy : s.chk.busy = none) :
    p3Write pl k v s = writeBlock pl ((blockWords pl s).set k v) 0 (countDecode pl s) := by
  have hchk : (countDecode pl s).chk = s.chk := (only_countDecode hpc).2.1 .chk (by decide)
  have hinj (p : Inj → Bool) : injErrors 32 p (countDecode pl s) = (0, countDecode pl s) := by
    rw [injErrors, findInj, injs, hchk, hforce, hbusy]
    rfl
  rw [p3Write, blockRead_of_le he]
  dsimp only
  rw [hinj]

theorem getD_set_blockWords (hk : k < 5) (hx : x < 5) :
    ((blockWords pl s).set k v).getD x 0#40 = if x = k then v else s.hbm.get (fun _ => 0#40) (hbmKey pl + x) := by
  rw [← getD_blockWords hx, List.getD_eq_getElem?_getD, List.getD_eq_getElem?_getD]
  by_cases hxk : x = k
  · subst hxk
    rw [if_pos rfl, List.getElem?_set_self (by rwa [length_blockWords]), Option.getD_some]
  · rw [if_neg hxk, List.getElem?_set_ne (Ne.symm hxk)]

theorem aperture_writes {m : Master} {addr : WAddr} (hr : Reaches m addr.toNat s) (ha : 0x8000000 ≤ addr.toNat)
    (h : aperturePlace (addr.toNat - 0x8000000) s = some (pl, k)) (hans : stackAnswers pl s = true) (he : errsAt pl s ≤ 3)
    (hforce : s.chk.force = []) (hbusy : s.chk.busy = none) (hk : k < 5) :
    After (exec (.apertureAccess m addr (some v)) s) fun t => Okay m t
      ∧ (∀ x, x < 5 → t.hbm.get (fun _ => 0#40) (hbmKey pl + x)
          = if x = k then v else s.hbm.get (fun _ => 0#40) (hbmKey pl + x))
      ∧ errsAt pl t = 0
      ∧ ∀ a, a < hbmKey pl ∨ hbmKey pl + 5 ≤ a → t.hbm.get (fun _ => 0#40) a = s.hbm.get (fun _ => 0#40) a := by
  obtain ⟨u, hu⟩ : ∃ u, u = countIssue m s := ⟨_, rfl⟩
  have hpc := aperturePlace_lt h
  have hhbm : u.hbm = s.hbm := hu ▸ hbm_countIssue
  have hchk : u.chk = s.chk := hu ▸ only_countIssue.2.1 .chk (by decide)
  have herr : errsAt pl u ≤ 3 := by rwa [errsAt_congr (hu ▸ hbmErr_countIssue)]
  have hdecoded : (countDecode pl u).hbm = s.hbm := ((only_countDecode hpc).2.1 .hbm (by decide)).trans hhbm
  have hwrite : targetWrite m addr.toNat v (countIssue m s)
      = (0, writeBlock pl ((blockWords pl s).set k v) 0 (countDecode pl u)) := by
    rw [targetWrite_of_reaches (reaches_countIssue m.isLt hr), wordWrite_aperture_place ha
      ((aperturePlace_countIssue m.isLt).trans h), (stackAnswers_countIssue m.isLt).trans hans, if_pos rfl, ← hu,
      p3Write_corrects hpc herr (by rw [hchk, hforce]) (by rw [hchk, hbusy]), blockWords_congr hhbm]
  obtain ⟨x, hcode, hacc⟩ := writeAccess_answers (p3Waits_of_answers hr ha h hans) hwrite
  rw [noteBurst_okay] at hacc
  have hparts := only_putAnswer (m := m) x (s := writeBlock pl ((blockWords pl s).set k v) 0 (countDecode pl u))
  refine ⟨_, exec_aperture_write.trans (congrArg Host.Outcome.next hacc), ?_, fun x hx => ?_, ?_, fun a hout => ?_⟩
  · rw [Okay, answered_putAnswer, hcode]
  · rw [hparts.2.1 .hbm (by decide), hbm_writeBlock, if_pos (by omega), Nat.add_sub_cancel_left, getD_set_blockWords hk hx]
  · rw [errsAt_congr (hparts.2.1 .hbmErr (by decide)), errsAt_writeBlock_clean]
  · rw [hparts.2.1 .hbm (by decide), hbm_writeBlock, if_neg (by omega), hdecoded]

/-! ### The Yard's debug window (R184) -/

theorem visAt_congr {road r q : Nat} (h : t.jct = s.jct) : visAt road r q t = visAt road r q s := by
  rw [visAt, h, visAt]

theorem yardMask_congr {road r q : Nat} (h : t.jct = s.jct) : yardMask road r q t = yardMask road r q s := by
  rw [yardMask, h, yardMask]

theorem poisoned_congr {road r q : Nat} (h : t.jct = s.jct) : poisoned road r q t = poisoned road r q s := by
  rw [poisoned, h, poisoned]

theorem yardDecode_congr {road r q : Nat} (h : t.jct = s.jct) : yardDecode road r q t = yardDecode road r q s := by
  rw [yardDecode, yardWords, visAt_congr h, visAt_congr h, yardMask_congr h, yardDecode, yardWords]

/-- A visibility is read from the Junction's own state alone. -/
theorem visRead_congr {road r q : Nat} (h : t.jct = s.jct) : visRead road r q t = visRead road r q s := by
  unfold visRead
  rw [poisoned_congr h, yardMask_congr h, visAt_congr h, yardDecode_congr h]

theorem yardDebugWord_congr (h : t.jct = s.jct) : yardDebugWord x t = yardDebugWord x s := by
  simp only [yardDebugWord, visRead_congr h]

theorem wordRead_yard (ha : within 0x5100000 0x5500000 a) : wordRead m a s =
    if isSet R.YRD_CFG F.YRD_CFG_DBG s then (0, yardDebugWord (a - 0x5100000) s, s) else (1, 0#40, s) := by
  obtain ⟨hlo, hhi⟩ := ha
  have hvoid : wordVoid a s = false := by
    unfold wordVoid
    split
    case h_9 => rfl
    all_goals omega
  have hjct : ¬ (0x5000000 ≤ a ∧ a < 0x5001000 ∧ (!latched a) = true ∧ (latches a).isEmpty = true) := by
    rintro ⟨-, h, -⟩
    omega
  rw [wordRead, coreMemory_eq_none (by omega)]
  dsimp only
  rw [if_neg (by omega), if_neg (by omega), hvoid, if_neg Bool.false_ne_true, if_neg (by omega), if_neg (by omega),
    if_neg (by omega), if_neg (by omega), if_neg (by omega), if_neg hjct, if_pos ⟨hlo, hhi⟩]

theorem dbg_countIssue (hm : m < 16) : isSet R.YRD_CFG F.YRD_CFG_DBG (countIssue m s) = isSet R.YRD_CFG F.YRD_CFG_DBG s :=
  isSet_of_rd rfl (rd_countIssue_high hm (by decide))

theorem yardDebugRead_answers (m : Master) (addr : WAddr) (hr : Reaches m addr.toNat s)
    (ha : within 0x5100000 0x5500000 addr.toNat) :
    (isSet R.YRD_CFG F.YRD_CFG_DBG s = true → After (exec (.yardDebugRead m addr) s) fun t => Okay m t
        ∧ (answered m t).data = [yardDebugWord (addr.toNat - 0x5100000) s] ∧ Only [.ans] (fun a => a = R.ILK_MST m) s t)
      ∧ (isSet R.YRD_CFG F.YRD_CFG_DBG s = false →
        After (exec (.yardDebugRead m addr) s) fun t => (answered m t).code = 1) := by
  have hbelow : addr.toNat < 0x8000000 := ha.2.trans (by decide)
  refine ⟨fun hdbg => ?_, fun hdbg => ?_⟩
  · have hread : wordRead m addr.toNat (countIssue m s)
        = (0, yardDebugWord (addr.toNat - 0x5100000) s, countIssue m s) := by
      rw [wordRead_yard ha, dbg_countIssue m.isLt, if_pos hdbg,
        yardDebugWord_congr (only_countIssue.2.1 .jct (by decide))]
    refine ⟨_, congrArg Host.Outcome.next (readAccess_okay m.isLt hr hbelow hread), ?_, ?_, ?_⟩
    · rw [Okay, answered_putAnswer]
    · rw [answered_putAnswer]
    · exact (only_countIssue.widen (by simp) fun _ h => h).trans ((only_putAnswer _).widen (by simp) fun _ h => h.elim)
  · have hread : targetRead m addr.toNat (countIssue m s) = (1, 0#40, countIssue m s) := by
      rw [targetRead_of_reaches (reaches_countIssue m.isLt hr), wordRead_yard ha, dbg_countIssue m.isLt, hdbg,
        if_neg Bool.false_ne_true]
    obtain ⟨x, hcode, -, hacc⟩ := readAccess_answers (p3Waits_below hbelow) hread
    exact ⟨_, congrArg Host.Outcome.next hacc, (congrArg Answer.code (answered_putAnswer x)).trans hcode⟩

theorem apertureAndDebugWindows : ApertureAndDebugWindows :=
  ⟨fun _ _ _ _ hr ha => ⟨aperture_void hr ha, fun _ _ h => ⟨aperture_asleep hr ha h, aperture_outstanding hr ha h,
      fun hans hw => hw ▸ aperture_reads hr ha h hans,
      fun _ hans hw he hforce hbusy hk => hw ▸ aperture_writes hr ha h hans he hforce hbusy hk⟩⟩,
    fun m addr _ => yardDebugRead_answers m addr⟩

end

end Sys2Proof.Safety

namespace Sys2Proof.Safety
open Sys2Proof.Machine

/-! ### A write of one field of a register that reports nothing -/

section
variable {s t u : State} {m a k j n rate : Nat} {f : Fld} {w : WordDef} {d : FieldDef} {v : Word}

theorem fieldWrite_unguarded (hm : m < 16) (h : OwnRegister a) (hq : foreignEnq m a = false) (hr : Reaches m a s)
    (hd : regDef a = some w) (hw : Unguarded w) (hf : f.sub = 0) :
    fieldWrite m a f n s = putAnswer m ⟨0, [], 1⟩
      (regEffect m a (rd a s) (heldField a f n s) false (!sealed s) (wordStored w m a (heldField a f n s) s)) := by
  rw [fieldWrite_eq hf, writeAccess_unguarded hm h hq hr hd hw, heldField]

/-- A flag that is held reads as it stands. -/
theorem flag_held (hd : regDef a = some w) (hf : d ∈ w.fields) (hacc : d.acc ≠ .wo ∧ d.acc ≠ .w1c) (hfit : f.lo + f.w ≤ 40)
    (hapart : Apart f d.fld) (hw : d.fld.w = 1) (hsub : d.fld.sub = 0) :
    flag (heldField a f n s) d.fld = isSet a d.fld s := by
  have hlt : bitsOf (rd a s) d.fld.lo d.fld.w < 2 := (bitsOf_lt _ _ _).trans_eq (by rw [hw, pow_one])
  rw [flag, heldField, bitsOf_held_kept hd hf hacc hfit hapart, isSet, getF, hsub, Nat.add_zero]
  generalize bitsOf (rd a s) d.fld.lo d.fld.w = x at hlt
  interval_cases x <;> rfl

theorem flag_written (hfit : f.lo + f.w ≤ 40) : flag (heldField a f n s) f = (n % 2 ^ f.w == 1) := by
  rw [flag, heldField, bitsOf_putBits_same _ _ _ _ hfit]

/-! ### SDG_CTRL -/

def sdgCtrlRow : WordDef := ⟨0x4000000, 0x1, 1, [⟨F.SDG_CTRL_EN, .rw, false, .any⟩, ⟨F.SDG_CTRL_RATE, .rw, false, .le 2⟩,
  ⟨F.SDG_CTRL_SCRUB_EN, .rw, false, .any⟩, ⟨F.SDG_CTRL_PLAT_CHECK, .rw, false, .any⟩,
  ⟨F.SDG_CTRL_PASR_REQ, .rw, false, .any⟩, ⟨F.SDG_CTRL_DBG, .ro, false, .any⟩]⟩

theorem regDef_sdgCtrl : regDef R.SDG_CTRL = some sdgCtrlRow := by decide

theorem unguarded_sdgCtrl : Unguarded sdgCtrlRow := by unfold Unguarded; decide

theorem ownRegister_sdgCtrl : OwnRegister R.SDG_CTRL :=
  ⟨by unfold RegisterWord; decide, fun m hm => by unfold R.SDG_CTRL R.ILK_MST; omega, fun _ => rfl⟩

/-- SDG_CTRL with one field written: its fields are stored, but RATE and PASR_REQ, which have rules of their own. -/
def sdgCtrlStored (m : Nat) (f : Fld) (n : Nat) (s : State) : State :=
  wordStored sdgCtrlRow m R.SDG_CTRL (heldField R.SDG_CTRL f n s) s

theorem regEffect_sdgCtrl {old : Word} {l fr : Bool} : regEffect m R.SDG_CTRL old v l fr s = sdgCtrlEffect v s :=
  rfl

theorem fieldWrite_sdgCtrl (hm : m < 16) (hr : Reaches m R.SDG_CTRL s) (hf : f.sub = 0) :
    fieldWrite m R.SDG_CTRL f n s
      = putAnswer m ⟨0, [], 1⟩ (sdgCtrlEffect (heldField R.SDG_CTRL f n s) (sdgCtrlStored m f n s)) := by
  rw [fieldWrite_unguarded hm ownRegister_sdgCtrl rfl hr regDef_sdgCtrl unguarded_sdgCtrl hf, regEffect_sdgCtrl, sdgCtrlStored]

theorem rd_sdgCtrlStored (hm : m < 16) (ha : 0x4000000 < a) : rd a (sdgCtrlStored m f n s) = rd a s :=
  rd_wordStored_other (by unfold R.SDG_CTRL; omega) (by unfold R.ILK_MST; omega)

theorem pstate_sdgCtrlStored (hm : m < 16) : pstate (sdgCtrlStored m f n s) = pstate s :=
  getF_of_rd rfl (rd_wordStored_other (by decide) (by unfold R.SUB_STATE R.ILK_MST; omega))

theorem stackState_sdgCtrlStored (hm : m < 16) : stackState k (sdgCtrlStored m f n s) = stackState k s :=
  stackState_congr (rd_sdgCtrlStored hm (by unfold R.SDG_STK; omega))

theorem anyTraining_sdgCtrlStored (hm : m < 16) : anyTraining (sdgCtrlStored m f n s) = anyTraining s := by
  simp only [anyTraining, stackState_sdgCtrlStored hm]

theorem workStacks_sdgCtrlStored (hm : m < 16) : workStacks (sdgCtrlStored m f n s) = workStacks s :=
  workStacks_congr (rd_sdgCtrlStored hm (by decide))

theorem ratePend_sdgCtrlStored (hm : m < 16) : isSet R.SDG_STACKS F.SDG_STACKS_RATE_PEND (sdgCtrlStored m f n s)
    = isSet R.SDG_STACKS F.SDG_STACKS_RATE_PEND s :=
  isSet_of_rd rfl (rd_sdgCtrlStored hm (by decide))

/-- A field that has a rule of its own keeps its value. -/
theorem getF_sdgCtrlStored_special (hf : d ∈ sdgCtrlRow.fields) (hacc : d.acc = .rw)
    (hs : Fld.special R.SDG_CTRL d.fld (countIssue m s) = true) (hsub : d.fld.sub = 0) :
    getF R.SDG_CTRL d.fld (sdgCtrlStored m f n s) = getF R.SDG_CTRL d.fld s := by
  rw [getF, getF, hsub]
  exact bitsOf_wordStored_special regDef_sdgCtrl hf hacc hs

theorem rate_sdgCtrlStored :
    getF R.SDG_CTRL F.SDG_CTRL_RATE (sdgCtrlStored m f n s) = getF R.SDG_CTRL F.SDG_CTRL_RATE s :=
  getF_sdgCtrlStored_special (d := ⟨F.SDG_CTRL_RATE, .rw, false, .le 2⟩) (by decide) rfl rfl rfl

theorem pasrReq_sdgCtrlStored :
    isSet R.SDG_CTRL F.SDG_CTRL_PASR_REQ (sdgCtrlStored m f n s) = isSet R.SDG_CTRL F.SDG_CTRL_PASR_REQ s :=
  congrArg (· != 0) (getF_sdgCtrlStored_special (d := ⟨F.SDG_CTRL_PASR_REQ, .rw, false, .any⟩) (by decide) rfl rfl rfl)

theorem en_sdgCtrlStored : isSet R.SDG_CTRL F.SDG_CTRL_EN (sdgCtrlStored m F.SDG_CTRL_PASR_REQ n s)
    = isSet R.SDG_CTRL F.SDG_CTRL_EN s :=
  congrArg (· != 0) (getF_points_kept (d := ⟨F.SDG_CTRL_EN, .rw, false, .any⟩) regDef_sdgCtrl (by decide) (by decide)
    (by decide) (by unfold Apart; decide) rfl)

/-! ### RATE written (R139) -/

/-- A write of RATE reaches the rule of RATE alone: PASR_REQ is written as it stands. -/
theorem sdgCtrlEffect_rate (hrate : rate < 4) :
    sdgCtrlEffect (heldField R.SDG_CTRL F.SDG_CTRL_RATE rate s) (sdgCtrlStored m F.SDG_CTRL_RATE rate s)
      = rateWrite rate (sdgCtrlStored m F.SDG_CTRL_RATE rate s) := by
  have hwritten : bitsOf (heldField R.SDG_CTRL F.SDG_CTRL_RATE rate s) F.SDG_CTRL_RATE.lo F.SDG_CTRL_RATE.w = rate :=
    (bitsOf_putBits_same _ _ _ _ (by decide)).trans (Nat.mod_eq_of_lt hrate)
  have hreq : flag (heldField R.SDG_CTRL F.SDG_CTRL_RATE rate s) F.SDG_CTRL_PASR_REQ
      = isSet R.SDG_CTRL F.SDG_CTRL_PASR_REQ s :=
    flag_held (d := ⟨F.SDG_CTRL_PASR_REQ, .rw, false, .any⟩) regDef_sdgCtrl (by decide) (by decide) (by decide)
      (by unfold Apart; decide) rfl rfl
  rw [sdgCtrlEffect, hwritten, hreq, pasrReq_sdgCtrlStored, Bool.and_not_self, Bool.not_and_self, when_false, when_false]

theorem exec_sdgRateWrite {m : Master} {rate : Fin 4} (hr : Reaches m R.SDG_CTRL s) :
    exec (.sdgRateWrite m rate) s
      = .next (putAnswer m ⟨0, [], 1⟩ (rateWrite rate (sdgCtrlStored m F.SDG_CTRL_RATE rate s))) :=
  congrArg Host.Outcome.next ((fieldWrite_sdgCtrl m.isLt hr rfl).trans
    (congrArg (putAnswer _ _) (sdgCtrlEffect_rate rate.isLt)))

/-- A rate that is another than the one in force is a change of rate. -/
theorem rateWrite_changes (hrate : rate ≤ 2) (hne : getF R.SDG_CTRL F.SDG_CTRL_RATE u ≠ rate) : rateWrite rate u =
    if pstate u ≠ 2 then sdgCond 7 u
    else if anyTraining u then setF R.SDG_STACKS F.SDG_STACKS_RATE_PEND 1 (putSdg { u.sdg with rateTo := rate } u)
    else applyRateChange rate u :=
  if_neg (not_or.2 ⟨by omega, fun h => hne h.1.symm⟩)

theorem Retrained.putAnswer {x : Answer} (h : Retrained k t) : Retrained k (putAnswer m x t) := h

theorem sdgRateWrite_follows (m : Master) (rate : Fin 4) (hr : Reaches m R.SDG_CTRL s) (hrate : rate.val ≤ 2)
    (hne : getF R.SDG_CTRL F.SDG_CTRL_RATE s ≠ rate) :
    (pstate s ≠ 2 → After (exec (.sdgRateWrite m rate) s) fun t => Okay m t
      ∧ getF R.SDG_CTRL F.SDG_CTRL_RATE t = getF R.SDG_CTRL F.SDG_CTRL_RATE s
      ∧ getBit R.SDG_STATUS ⟨0, 0, 9⟩ 7 t = true)
    ∧ (pstate s = 2 → anyTraining s = true → After (exec (.sdgRateWrite m rate) s) fun t => Okay m t
      ∧ getF R.SDG_CTRL F.SDG_CTRL_RATE t = getF R.SDG_CTRL F.SDG_CTRL_RATE s
      ∧ isSet R.SDG_STACKS F.SDG_STACKS_RATE_PEND t = true ∧ t.sdg.rateTo = rate)
    ∧ (pstate s = 2 → anyTraining s = false → After (exec (.sdgRateWrite m rate) s) fun t => Okay m t
      ∧ getF R.SDG_CTRL F.SDG_CTRL_RATE t = rate ∧ isSet R.SDG_STACKS F.SDG_STACKS_RATE_PEND t = false
      ∧ ∀ k ∈ workStacks s, stackState k s = 2 ∨ stackState k s = 3 →
          stackState k t = 1 ∨ (stackState k t = 3 ∧ LoadStep.retrain k ∈ t.pow.queue)) := by
  have hm := m.isLt
  have hexec := exec_sdgRateWrite (rate := rate) hr
  rw [rateWrite_changes hrate (by rwa [rate_sdgCtrlStored]), pstate_sdgCtrlStored hm, anyTraining_sdgCtrlStored hm] at hexec
  refine ⟨fun h => ?_, fun h ht => ?_, fun h ht => ?_⟩
  · rw [if_pos h] at hexec
    refine ⟨_, hexec, okay_putAnswer, ?_, ?_⟩
    · rw [getF_putAnswer, getF_of_rd rfl (rd_sdgCond (by decide) (by decide) (by decide)), rate_sdgCtrlStored]
    · rw [getBit_putAnswer, getBit_sdgCond (by decide)]
  · rw [if_neg (not_not.2 h), ht, if_pos rfl] at hexec
    refine ⟨_, hexec, okay_putAnswer, ?_, ?_, rfl⟩
    · rw [getF_putAnswer, getF_setF_other _ _ (by decide), getF_of_rd rfl (rd_putSdg _), rate_sdgCtrlStored]
    · rw [isSet_putAnswer, isSet_setF_same (by decide)]
      rfl
  · rw [if_neg (not_not.2 h), ht, if_neg Bool.false_ne_true] at hexec
    refine ⟨_, hexec, okay_putAnswer, ?_, ?_, fun k hk hs => Retrained.putAnswer ?_⟩
    · rw [getF_putAnswer, rate_applyRateChange, Nat.mod_eq_of_lt rate.isLt]
    · rw [isSet_putAnswer, ratePend_applyRateChange]
    · exact retrained_applyRateChange (by rwa [workStacks_sdgCtrlStored hm]) (by rwa [stackState_sdgCtrlStored hm])

/-! ### Each stack in its turn -/

/-- In a pass over the stacks, stack `k` comes from `P` to `Q` in its turn, and the others' turns leave both. -/
theorem foldl_turn {P Q : State → Prop} {g : State → Nat → State} {l : List Nat} (hl : l.Nodup) (hk : k ∈ l)
    (hP : ∀ t j, j ∈ l → j ≠ k → P t → P (g t j)) (hQ : ∀ t j, j ∈ l → j ≠ k → Q t → Q (g t j))
    (hown : ∀ t, P t → Q (g t k)) (h : P s) : Q (l.foldl g s) := by
  induction l generalizing s with
  | nil => cases hk
  | cons i l ih =>
    obtain ⟨hi, hl⟩ := List.nodup_cons.1 hl
    rw [List.foldl_cons]
    by_cases hik : i = k
    · subst hik
      refine List.foldlRecOn (motive := Q) l g (hown s h) fun t ht j hj => hQ t j (List.mem_cons_of_mem _ hj) ?_ ht
      rintro rfl
      exact hi hj
    · exact ih hl ((List.mem_cons.1 hk).resolve_left (Ne.symm hik)) (fun t j hj => hP t j (List.mem_cons_of_mem _ hj))
        (fun t j hj => hQ t j (List.mem_cons_of_mem _ hj)) (hP s i List.mem_cons_self hik h)

/-! ### Partial-array self-refresh requested (R141) -/

/-- The home stack and those of KEEP are kept. -/
def pasrKeeps (s : State) (k : Nat) : Bool :=
  k == getF R.SDG_STACKS F.SDG_STACKS_HOME s || getF R.SDG_PASR F.SDG_PASR_KEEP s / 2 ^ k % 2 == 1

/-- One stack as the request leaves it. -/
def pasrStack (keep : Nat → Bool) (s : State) (k : Nat) : State :=
  if keep k then
    if stackState k s = 2 then s |> setStack k 3 |> setBit R.SDG_PASR F.SDG_PASR_KEPT k true else s
  else if stackState k s = 4 then s
  else s |> setStack k 0 |> loseStack k

/-- The request is in force. -/
def pasrEntered (s : State) : State := setF R.SDG_PASR F.SDG_PASR_ACTIVE 1 (setF R.SDG_CTRL F.SDG_CTRL_PASR_REQ 1 s)

theorem pasrRequest_enters (h : ¬ ((pstate s = 1 ∨ pstate s = 6) ∨ isSet R.SDG_CTRL F.SDG_CTRL_EN s = true)) :
    pasrRequest s = (List.range 8).foldl (pasrStack (pasrKeeps s)) (pasrEntered s) := if_neg h

theorem sdgPasr_ne_stk : R.SDG_PASR ≠ R.SDG_STK k := by
  simp only [R.SDG_PASR, R.SDG_STK]
  omega

theorem sdgCtrl_ne_stk : R.SDG_CTRL ≠ R.SDG_STK k := by
  simp only [R.SDG_CTRL, R.SDG_STK]
  omega

variable {keep : Nat → Bool}

theorem rd_pasrStack (hk : k < 8) (ha : 0x4000000 ≤ a) (hne : a ≠ R.SDG_STK k) (hpasr : a ≠ R.SDG_PASR) :
    rd a (pasrStack keep s k) = rd a s := by
  unfold pasrStack
  split
  · split
    · exact (rd_setF_other _ _ hpasr).trans (rd_setStack_other hk ha hne)
    · rfl
  · split
    · rfl
    · exact rd_loseStack.trans (rd_setStack_other hk ha hne)

theorem active_pasrStack (hk : k < 8) : isSet R.SDG_PASR F.SDG_PASR_ACTIVE (pasrStack keep s k)
    = isSet R.SDG_PASR F.SDG_PASR_ACTIVE s := by
  have hset (x : Nat) : isSet R.SDG_PASR F.SDG_PASR_ACTIVE (setStack k x s) = isSet R.SDG_PASR F.SDG_PASR_ACTIVE s :=
    isSet_of_rd rfl (rd_setStack_other hk (by decide) sdgPasr_ne_stk)
  unfold pasrStack
  split
  · split
    · refine Eq.trans (congrArg (· != 0) (getF_setF_apart _ _ ?_ ?_)) (hset 3)
      · simp only [F.SDG_PASR_KEPT]
        omega
      · simp only [F.SDG_PASR_KEPT, F.SDG_PASR_ACTIVE]
        omega
    · rfl
  · split
    · rfl
    · exact (isSet_of_rd rfl rd_loseStack).trans (hset 0)

theorem stackState_pasrStack_other (hj : j < 8) (h : k ≠ j) : stackState k (pasrStack keep s j) = stackState k s :=
  stackState_congr (rd_pasrStack hj sdgStk_ge (sdgStk_apart h) sdgPasr_ne_stk.symm)

theorem stackState_pasrStack_kept (hk : k < 8) (hkeep : keep k = true) (h : stackState k s = 2) :
    stackState k (pasrStack keep s k) = 3 := by
  rw [pasrStack, hkeep, if_pos rfl, if_pos h]
  exact (stackState_congr (rd_setF_other _ _ sdgPasr_ne_stk.symm)).trans (stackState_setStack hk (by decide))

theorem stackState_pasrStack_off (hk : k < 8) (hkeep : keep k = false) (h : stackState k s ≠ 4) :
    stackState k (pasrStack keep s k) = 0 := by
  rw [pasrStack, hkeep, if_neg Bool.false_ne_true, if_neg h]
  exact (stackState_congr rd_loseStack).trans (stackState_setStack hk (by decide))

/-- The stacks as the request leaves them. -/
def pasrStacks (keep : Nat → Bool) (s : State) : State := (List.range 8).foldl (pasrStack keep) s

theorem pasrStacks_kept (hk : k < 8) (hkeep : keep k = true) (h : stackState k s = 2) :
    stackState k (pasrStacks keep s) = 3 :=
  foldl_turn (P := fun t => stackState k t = 2) (Q := fun t => stackState k t = 3) List.nodup_range (List.mem_range.2 hk)
    (fun _ _ hj hne ht => (stackState_pasrStack_other (List.mem_range.1 hj) hne.symm).trans ht)
    (fun _ _ hj hne ht => (stackState_pasrStack_other (List.mem_range.1 hj) hne.symm).trans ht)
    (fun _ => stackState_pasrStack_kept hk hkeep) h

theorem pasrStacks_off (hk : k < 8) (hkeep : keep k = false) (h : stackState k s ≠ 4) :
    stackState k (pasrStacks keep s) = 0 :=
  foldl_turn (P := fun t => stackState k t ≠ 4) (Q := fun t => stackState k t = 0) List.nodup_range (List.mem_range.2 hk)
    (fun _ _ hj hne ht => by rwa [stackState_pasrStack_other (List.mem_range.1 hj) hne.symm])
    (fun _ _ hj hne ht => (stackState_pasrStack_other (List.mem_range.1 hj) hne.symm).trans ht)
    (fun _ => stackState_pasrStack_off hk hkeep) h

theorem pasrReq_pasrStacks : isSet R.SDG_CTRL F.SDG_CTRL_PASR_REQ (pasrStacks keep s)
    = isSet R.SDG_CTRL F.SDG_CTRL_PASR_REQ s :=
  isSet_of_rd rfl <| List.foldlRecOn (motive := fun t => rd R.SDG_CTRL t = rd R.SDG_CTRL s) _ _ rfl fun _ ht _ hj =>
    (rd_pasrStack (List.mem_range.1 hj) (by decide) sdgCtrl_ne_stk (by decide)).trans ht

theorem active_pasrStacks : isSet R.SDG_PASR F.SDG_PASR_ACTIVE (pasrStacks keep s)
    = isSet R.SDG_PASR F.SDG_PASR_ACTIVE s :=
  List.foldlRecOn (motive := fun t => isSet R.SDG_PASR F.SDG_PASR_ACTIVE t = isSet R.SDG_PASR F.SDG_PASR_ACTIVE s) _ _ rfl
    fun _ ht _ hj => (active_pasrStack (List.mem_range.1 hj)).trans ht

theorem stackState_pasrEntered : stackState k (pasrEntered s) = stackState k s :=
  stackState_congr ((rd_setF_other _ _ sdgPasr_ne_stk.symm).trans (rd_setF_other _ _ sdgCtrl_ne_stk.symm))

theorem pasrReq_pasrEntered : isSet R.SDG_CTRL F.SDG_CTRL_PASR_REQ (pasrEntered s) = true :=
  (isSet_setF_other _ _ (by decide)).trans (isSet_setF_same (by decide))

theorem active_pasrEntered : isSet R.SDG_PASR F.SDG_PASR_ACTIVE (pasrEntered s) = true :=
  isSet_setF_same (by decide)

/-- A write of PASR_REQ leaves the rate: RATE is written as it stands, and no change is deferred. -/
theorem rateWrite_held (hpend : isSet R.SDG_STACKS F.SDG_STACKS_RATE_PEND s = false) (hm : m < 16) :
    rateWrite (bitsOf (heldField R.SDG_CTRL F.SDG_CTRL_PASR_REQ n s) F.SDG_CTRL_RATE.lo F.SDG_CTRL_RATE.w)
      (sdgCtrlStored m F.SDG_CTRL_PASR_REQ n s) = sdgCtrlStored m F.SDG_CTRL_PASR_REQ n s := by
  have hheld : bitsOf (heldField R.SDG_CTRL F.SDG_CTRL_PASR_REQ n s) F.SDG_CTRL_RATE.lo F.SDG_CTRL_RATE.w
      = getF R.SDG_CTRL F.SDG_CTRL_RATE s :=
    bitsOf_held_kept (d := ⟨F.SDG_CTRL_RATE, .rw, false, .le 2⟩) regDef_sdgCtrl (by decide) (by decide) (by decide)
      (by unfold Apart; decide)
  refine if_pos (.inr ⟨hheld.trans rate_sdgCtrlStored.symm, ?_⟩)
  rw [ratePend_sdgCtrlStored hm, hpend]
  exact Bool.false_ne_true

theorem exec_pasrRequest {m : Master} (hr : Reaches m R.SDG_CTRL s)
    (hreq : isSet R.SDG_CTRL F.SDG_CTRL_PASR_REQ s = false)
    (hpend : isSet R.SDG_STACKS F.SDG_STACKS_RATE_PEND s = false) :
    exec (.pasrRequest m) s
      = .next (putAnswer m ⟨0, [], 1⟩ (pasrRequest (sdgCtrlStored m F.SDG_CTRL_PASR_REQ 1 s))) := by
  have hflag : flag (heldField R.SDG_CTRL F.SDG_CTRL_PASR_REQ 1 s) F.SDG_CTRL_PASR_REQ = true := flag_written (by decide)
  have heffect : sdgCtrlEffect (heldField R.SDG_CTRL F.SDG_CTRL_PASR_REQ 1 s) (sdgCtrlStored m F.SDG_CTRL_PASR_REQ 1 s)
      = pasrRequest (sdgCtrlStored m F.SDG_CTRL_PASR_REQ 1 s) := by
    rw [sdgCtrlEffect, hflag, rateWrite_held hpend m.isLt, pasrReq_sdgCtrlStored, hreq, Bool.not_false, Bool.true_and,
      when_true, Bool.and_false, when_false]
  exact congrArg Host.Outcome.next ((fieldWrite_sdgCtrl m.isLt hr rfl).trans (congrArg (putAnswer _ _) heffect))

theorem exec_pasrRelease {m : Master} (hr : Reaches m R.SDG_CTRL s)
    (hreq : isSet R.SDG_CTRL F.SDG_CTRL_PASR_REQ s = true)
    (hpend : isSet R.SDG_STACKS F.SDG_STACKS_RATE_PEND s = false) :
    exec (.pasrRelease m) s
      = .next (putAnswer m ⟨0, [], 1⟩ (pasrRelease (sdgCtrlStored m F.SDG_CTRL_PASR_REQ 0 s))) := by
  have hflag : flag (heldField R.SDG_CTRL F.SDG_CTRL_PASR_REQ 0 s) F.SDG_CTRL_PASR_REQ = false := flag_written (by decide)
  have heffect : sdgCtrlEffect (heldField R.SDG_CTRL F.SDG_CTRL_PASR_REQ 0 s) (sdgCtrlStored m F.SDG_CTRL_PASR_REQ 0 s)
      = pasrRelease (sdgCtrlStored m F.SDG_CTRL_PASR_REQ 0 s) := by
    rw [sdgCtrlEffect, hflag, rateWrite_held hpend m.isLt, pasrReq_sdgCtrlStored, hreq, Bool.false_and, when_false,
      Bool.not_false, Bool.true_and, when_true]
  exact congrArg Host.Outcome.next ((fieldWrite_sdgCtrl m.isLt hr rfl).trans (congrArg (putAnswer _ _) heffect))

theorem pasrKeeps_sdgCtrlStored (hm : m < 16) : pasrKeeps (sdgCtrlStored m f n s) k = pasrKeeps s k := by
  rw [pasrKeeps, getF_of_rd rfl (rd_sdgCtrlStored hm (by decide)), getF_of_rd rfl (rd_sdgCtrlStored hm (by decide)), pasrKeeps]

theorem pasrRequest_follows (m : Master) (hr : Reaches m R.SDG_CTRL s)
    (hreq : isSet R.SDG_CTRL F.SDG_CTRL_PASR_REQ s = false)
    (hpend : isSet R.SDG_STACKS F.SDG_STACKS_RATE_PEND s = false) :
    (pstate s = 1 ∨ isSet R.SDG_CTRL F.SDG_CTRL_EN s = true → After (exec (.pasrRequest m) s) fun t => Okay m t
      ∧ isSet R.SDG_CTRL F.SDG_CTRL_PASR_REQ t = false ∧ Raised (ev 5 7) t)
    ∧ (pstate s ≠ 1 → pstate s ≠ 6 → isSet R.SDG_CTRL F.SDG_CTRL_EN s = false →
      After (exec (.pasrRequest m) s) fun t => Okay m t ∧ isSet R.SDG_CTRL F.SDG_CTRL_PASR_REQ t = true
        ∧ isSet R.SDG_PASR F.SDG_PASR_ACTIVE t = true
        ∧ ∀ k, k < 8 →
          (k = getF R.SDG_STACKS F.SDG_STACKS_HOME s ∨ getF R.SDG_PASR F.SDG_PASR_KEEP s / 2 ^ k % 2 = 1 →
            stackState k s = 2 → stackState k t = 3)
          ∧ (k ≠ getF R.SDG_STACKS F.SDG_STACKS_HOME s → getF R.SDG_PASR F.SDG_PASR_KEEP s / 2 ^ k % 2 = 0 →
            stackState k s ≠ 4 → stackState k t = 0)) := by
  have hm := m.isLt
  have hexec := exec_pasrRequest hr hreq hpend
  refine ⟨fun h => ?_, fun h1 h6 hen => ?_⟩
  · have hrefused : pasrRequest (sdgCtrlStored m F.SDG_CTRL_PASR_REQ 1 s)
        = raise (ev 5 7) (sdgCtrlStored m F.SDG_CTRL_PASR_REQ 1 s) := by
      refine if_pos ?_
      rw [pstate_sdgCtrlStored hm, en_sdgCtrlStored]
      exact h.imp_left .inl
    rw [hrefused] at hexec
    refine ⟨_, hexec, okay_putAnswer, ?_, (raised_raise (by decide)).keep (rd_putAnswer _ _ _ _)⟩
    rw [isSet_putAnswer, isSet_of_rd rfl (rd_raise_apart (by decide) (not_bellSpace (by decide))), pasrReq_sdgCtrlStored, hreq]
  · have henters : ¬ ((pstate (sdgCtrlStored m F.SDG_CTRL_PASR_REQ 1 s) = 1 ∨ pstate (sdgCtrlStored m F.SDG_CTRL_PASR_REQ 1 s) = 6)
        ∨ isSet R.SDG_CTRL F.SDG_CTRL_EN (sdgCtrlStored m F.SDG_CTRL_PASR_REQ 1 s) = true) := by
      rw [pstate_sdgCtrlStored hm, en_sdgCtrlStored, hen]
      exact not_or.2 ⟨not_or.2 ⟨h1, h6⟩, Bool.false_ne_true⟩
    rw [pasrRequest_enters henters, ← pasrStacks] at hexec
    have hstate (k : Nat) : stackState k (pasrEntered (sdgCtrlStored m F.SDG_CTRL_PASR_REQ 1 s)) = stackState k s :=
      stackState_pasrEntered.trans (stackState_sdgCtrlStored hm)
    refine ⟨_, hexec, okay_putAnswer, ?_, ?_, fun k hk => ⟨fun hkeep hs => ?_, fun hhome hkeep hs => ?_⟩⟩
    · rw [isSet_putAnswer, pasrReq_pasrStacks, pasrReq_pasrEntered]
    · rw [isSet_putAnswer, active_pasrStacks, active_pasrEntered]
    · refine (getF_putAnswer _ _ _).trans (pasrStacks_kept hk ?_ ((hstate k).trans hs))
      rw [pasrKeeps_sdgCtrlStored hm, pasrKeeps, Bool.or_eq_true, beq_iff_eq, beq_iff_eq]
      exact hkeep
    · refine (getF_putAnswer _ _ _).trans (pasrStacks_off hk ?_ (by rwa [hstate]))
      rw [pasrKeeps_sdgCtrlStored hm, pasrKeeps, hkeep, beq_eq_false_iff_ne.2 hhome]
      rfl

/-! ### Partial-array self-refresh released (R141, R353) -/

/-- One stack at the release: it leaves self-refresh, or it trains. -/
def releaseStack (s : State) (k : Nat) : State :=
  if stackState k s = 3 then requestStep (.exit k) s else if stackState k s = 0 then stackTrainingStart k s else s

/-- The request is taken back. -/
def pasrLeft (s : State) : State := setF R.SDG_PASR F.SDG_PASR_ACTIVE 0 (setF R.SDG_CTRL F.SDG_CTRL_PASR_REQ 0 s)

/-- The stacks as the release leaves them. -/
def releaseStacks (s : State) : State := (List.range 8).foldl releaseStack s

theorem pasrRelease_leaves (h : isSet R.SDG_PASR F.SDG_PASR_ACTIVE s = true) :
    pasrRelease s = setF R.SDG_PASR F.SDG_PASR_KEPT 0 (releaseStacks (pasrLeft s)) := if_pos h

theorem only_stackTrainingStart : Only [.bellq, .health]
    (fun a => a = R.SDG_STK k ∨ bellWord (ev 5 (8 * k + 7)) a) s (stackTrainingStart k s) := by
  unfold stackTrainingStart
  split
  · exact only_beginTraining
  · exact Only.refl _ _ _

theorem rd_releaseStack (hk : k < 8) (ha : 0x4000000 ≤ a) (hne : a ≠ R.SDG_STK k) : rd a (releaseStack s k) = rd a s := by
  unfold releaseStack
  split
  · exact rd_requestExit hk (.inl rfl) ha hne
  · split
    · exact only_stackTrainingStart.2.2 a (not_stackWord hk ha hne)
    · rfl

theorem mem_queue_releaseStack {y : LoadStep} (hk : k < 8) (h : y ∈ s.pow.queue) : y ∈ (releaseStack s k).pow.queue := by
  unfold releaseStack
  split
  · exact mem_queue_requestExit hk (.inl rfl) h
  · split
    · rwa [only_stackTrainingStart.2.1 .pow (by decide)]
    · exact h

/-- The stack is READY, or its exit waits for its turn. -/
def Woken (k : Nat) (t : State) : Prop := stackState k t = 2 ∨ LoadStep.exit k ∈ t.pow.queue

theorem Woken.congr (h : Woken k s) (hr : rd (R.SDG_STK k) t = rd (R.SDG_STK k) s) (hp : t.pow = s.pow) : Woken k t :=
  h.imp (stackState_congr hr).trans fun hq => by rwa [hp]

theorem woken_releaseStack (hk : k < 8) (h : stackState k s = 3) : Woken k (releaseStack s k) := by
  rw [releaseStack, if_pos h]
  rcases requestStep_cases (x := .exit k) (s := s) with hr | hr
  · right
    rw [hr, pow_stepQueued]
    exact List.mem_append_right _ (List.mem_singleton_self _)
  · left
    rw [hr, doStep_exit ((stackState_putPow _).trans h), stackState_setStack hk (by decide)]

theorem stackState_releaseStack_other (hj : j < 8) (h : k ≠ j) : stackState k (releaseStack s j) = stackState k s :=
  stackState_congr (rd_releaseStack hj sdgStk_ge (sdgStk_apart h))

theorem woken_releaseStacks (hk : k < 8) (h : stackState k s = 3) : Woken k (releaseStacks s) :=
  foldl_turn (P := fun t => stackState k t = 3) (Q := Woken k) List.nodup_range (List.mem_range.2 hk)
    (fun _ _ hj hne ht => (stackState_releaseStack_other (List.mem_range.1 hj) hne.symm).trans ht)
    (fun _ _ hj hne ht => ht.imp (stackState_releaseStack_other (List.mem_range.1 hj) hne.symm).trans
      (mem_queue_releaseStack (List.mem_range.1 hj)))
    (fun _ => woken_releaseStack hk) h

theorem rd_releaseStacks (ha : 0x4000000 ≤ a) (hne : ∀ j, a ≠ R.SDG_STK j) : rd a (releaseStacks s) = rd a s :=
  List.foldlRecOn (motive := fun t => rd a t = rd a s) _ _ rfl fun _ ht j hj =>
    (rd_releaseStack (List.mem_range.1 hj) ha (hne j)).trans ht

theorem pasrRelease_follows (m : Master) (hr : Reaches m R.SDG_CTRL s)
    (hreq : isSet R.SDG_CTRL F.SDG_CTRL_PASR_REQ s = true)
    (hpend : isSet R.SDG_STACKS F.SDG_STACKS_RATE_PEND s = false)
    (hactive : isSet R.SDG_PASR F.SDG_PASR_ACTIVE s = true) :
    After (exec (.pasrRelease m) s) fun t => Okay m t ∧ isSet R.SDG_CTRL F.SDG_CTRL_PASR_REQ t = false
      ∧ isSet R.SDG_PASR F.SDG_PASR_ACTIVE t = false ∧ getF R.SDG_PASR F.SDG_PASR_KEPT t = 0
      ∧ ∀ k, k < 8 → stackState k s = 3 → stackState k t = 2 ∨ LoadStep.exit k ∈ t.pow.queue := by
  have hm := m.isLt
  have hexec := exec_pasrRelease hr hreq hpend
  obtain ⟨u, hu⟩ : ∃ u, u = sdgCtrlStored m F.SDG_CTRL_PASR_REQ 0 s := ⟨_, rfl⟩
  have huactive : isSet R.SDG_PASR F.SDG_PASR_ACTIVE u = true := by
    rw [hu, isSet_of_rd rfl (rd_sdgCtrlStored hm (by decide)), hactive]
  have hustate (k : Nat) : stackState k (pasrLeft u) = stackState k s := by
    rw [pasrLeft, stackState_congr (rd_setF_other _ _ sdgPasr_ne_stk.symm),
      stackState_congr (rd_setF_other _ _ sdgCtrl_ne_stk.symm), hu, stackState_sdgCtrlStored hm]
  rw [← hu, pasrRelease_leaves huactive] at hexec
  refine ⟨_, hexec, okay_putAnswer, ?_, ?_, ?_, fun k hk hs => ?_⟩
  · rw [isSet_putAnswer, isSet_setF_other _ _ (by decide),
      isSet_of_rd rfl (rd_releaseStacks (by decide) fun _ => sdgCtrl_ne_stk), pasrLeft, isSet_setF_other _ _ (by decide),
      isSet_setF_same (by decide)]
    rfl
  · rw [isSet_putAnswer, isSet, getF_setF_apart _ _ (by decide) (by decide),
      getF_of_rd rfl (rd_releaseStacks (by decide) fun _ => sdgPasr_ne_stk), pasrLeft, getF_setF_same _ _ _ _ (by decide)]
    rfl
  · rw [getF_putAnswer, getF_setF_same _ _ _ _ (by decide)]
    rfl
  · refine (woken_releaseStacks hk ((hustate k).trans hs)).congr ?_ ?_
    · rw [rd_putAnswer, rd_setF_other _ _ sdgPasr_ne_stk.symm]
    · rw [putAnswer_pow, setF_pow]

theorem sidingsRateAndPasr : SidingsRateAndPasr :=
  ⟨fun m rate _ => sdgRateWrite_follows m rate, fun m _ => pasrRequest_follows m, fun m _ => pasrRelease_follows m⟩

end

end Sys2Proof.Safety

namespace Sys2Proof.Safety
open Sys2Proof.Machine

/-! ### A forced drain (R179) -/

section
variable {s t u : State} {a k j m n r : Nat} {f : Fld} {v : Word}

def jctCtrlRow : WordDef := ⟨0x5000000, 0x1, 1,
  [⟨F.JCT_CTRL_EN, .rw, false, .any⟩, ⟨F.JCT_CTRL_FORCE, .wo, false, .any⟩]⟩

theorem regDef_jctCtrl : regDef R.JCT_CTRL = some jctCtrlRow := by decide

theorem unguarded_jctCtrl : Unguarded jctCtrlRow := by unfold Unguarded; decide

theorem wordVoid_jctCtrl : wordVoid R.JCT_CTRL s = false := by
  have hlo : decide (0x5001000 ≤ R.JCT_CTRL) = false := by decide
  simp only [wordVoid, show R.JCT_CTRL / 0x10000 = 0x500 from rfl, hlo, Bool.false_and]

theorem ownRegister_jctCtrl : OwnRegister R.JCT_CTRL :=
  ⟨by unfold RegisterWord; decide, fun m hm => by unfold R.JCT_CTRL R.ILK_MST; omega, fun _ => wordVoid_jctCtrl⟩

theorem regEffect_jctCtrl {old : Word} {l fr : Bool} :
    regEffect m R.JCT_CTRL old v l fr s = when (flag v F.JCT_CTRL_FORCE) forceJunction s := rfl

/-- JCT_CTRL with FORCE written. -/
def forceStored (m : Nat) (s : State) : State :=
  wordStored jctCtrlRow m R.JCT_CTRL (heldField R.JCT_CTRL F.JCT_CTRL_FORCE 1 s) s

theorem exec_forceDrain {m : Master} (hr : Reaches m R.JCT_CTRL s) :
    exec (.forceDrain m) s = .next (putAnswer m ⟨0, [], 1⟩ (forceJunction (forceStored m s))) := by
  have hwrite := fieldWrite_unguarded (f := F.JCT_CTRL_FORCE) (n := 1) m.isLt ownRegister_jctCtrl rfl hr regDef_jctCtrl
    unguarded_jctCtrl rfl
  rw [regEffect_jctCtrl, flag_written (by decide), show (1 % 2 ^ F.JCT_CTRL_FORCE.w == 1) = true from rfl, when_true] at hwrite
  exact congrArg Host.Outcome.next hwrite

theorem jct_forceStored : (forceStored m s).jct = s.jct := only_wordStored.2.1 .jct List.not_mem_nil

theorem forceJunction_dwell (h : s.jct.cur ≠ none) : forceJunction s = putJct { s.jct with force := true } s :=
  if_pos (Option.isSome_iff_ne_none.2 h)

theorem forceJunction_idle (h : s.jct.cur = none) : forceJunction s = s :=
  if_neg (by rw [h]; exact Bool.false_ne_true)

theorem only_forceJunction : Only [.jct] (fun _ => False) s (forceJunction s) := by
  unfold forceJunction
  split
  · refine ⟨rfl, fun q hq => ?_, fun _ _ => rfl⟩
    cases q
    case jct => exact absurd (List.mem_singleton_self _) hq
    all_goals rfl
  · exact Only.refl _ _ _

theorem forceDrain_marks (m : Master) (hr : Reaches m R.JCT_CTRL s) :
    After (exec (.forceDrain m) s) fun t => Okay m t
      ∧ (s.jct.cur ≠ none → t.jct = { s.jct with force := true }) ∧ (s.jct.cur = none → t.jct = s.jct)
      ∧ Only [.jct, .ans] (fun a => a = R.JCT_CTRL ∨ a = R.ILK_MST m) s t := by
  refine ⟨_, exec_forceDrain hr, okay_putAnswer, fun h => ?_, fun h => ?_, ?_⟩
  · rw [putAnswer_jct, forceJunction_dwell (by rwa [jct_forceStored]), jct_forceStored]
    rfl
  · rw [putAnswer_jct, forceJunction_idle (by rwa [jct_forceStored]), jct_forceStored]
  · exact (only_wordStored.widen (by simp) fun _ h => h).trans <|
      (only_forceJunction.widen (by decide) fun _ h => h.elim).trans
        ((only_putAnswer _).widen (by decide) fun _ h => h.elim)

/-! ### The Terminus' counters (R204) -/

def tmnCtrlRow : WordDef := ⟨0x6000000, 0x1, 1,
  [⟨F.TMN_CTRL_EN, .rw, false, .any⟩, ⟨F.TMN_CTRL_CLRCNT, .wo, false, .any⟩]⟩

theorem regDef_tmnCtrl : regDef R.TMN_CTRL = some tmnCtrlRow := by decide

theorem unguarded_tmnCtrl : Unguarded tmnCtrlRow := by unfold Unguarded; decide

theorem ownRegister_tmnCtrl : OwnRegister R.TMN_CTRL :=
  ⟨by unfold RegisterWord; decide, fun m hm => by unfold R.TMN_CTRL R.ILK_MST; omega, fun _ => rfl⟩

theorem regEffect_tmnCtrl {old : Word} {l fr : Bool} : regEffect m R.TMN_CTRL old v l fr s
    = when (!flag v F.TMN_CTRL_EN) tmnStop (when (flag v F.TMN_CTRL_CLRCNT) tmnCounterClear s) := rfl

/-- TMN_CTRL with CLRCNT written. -/
def clearStored (m : Nat) (s : State) : State :=
  wordStored tmnCtrlRow m R.TMN_CTRL (heldField R.TMN_CTRL F.TMN_CTRL_CLRCNT 1 s) s

theorem exec_tmnCounterClear {m : Master} (hr : Reaches m R.TMN_CTRL s) (hen : isSet R.TMN_CTRL F.TMN_CTRL_EN s = true) :
    exec (.tmnCounterClear m) s = .next (putAnswer m ⟨0, [], 1⟩ (tmnCounterClear (clearStored m s))) := by
  have hwrite := fieldWrite_unguarded (f := F.TMN_CTRL_CLRCNT) (n := 1) m.isLt ownRegister_tmnCtrl rfl hr regDef_tmnCtrl
    unguarded_tmnCtrl rfl
  have hheld : flag (heldField R.TMN_CTRL F.TMN_CTRL_CLRCNT 1 s) F.TMN_CTRL_EN = true :=
    (flag_held (d := ⟨F.TMN_CTRL_EN, .rw, false, .any⟩) regDef_tmnCtrl (by decide) (by decide) (by decide)
      (by unfold Apart; decide) rfl rfl).trans hen
  rw [regEffect_tmnCtrl, hheld, flag_written (by decide), show (1 % 2 ^ F.TMN_CTRL_CLRCNT.w == 1) = true from rfl, when_true,
    Bool.not_true, when_false] at hwrite
  exact congrArg Host.Outcome.next hwrite

/-- The counters of one route and one departure cleared. -/
def countersCleared (s : State) (r : Nat) : State :=
  s |> setF (R.TMN_ROUTE r) F.TMN_ROUTE_SENT 0
    |> setF (R.TMN_ROUTE r) F.TMN_ROUTE_DROPPED 0
    |> setF (R.TMN_DEP r) F.TMN_DEP_SENT 0

theorem tmnCounterClear_eq :
    tmnCounterClear s = setF R.TMN_BUF F.TMN_BUF_PEAK 0 ((List.range 16).foldl countersCleared s) := rfl

/-- Route `r` and departure `r` have counted nothing. -/
def CountersZero (r : Nat) (t : State) : Prop := getF (R.TMN_ROUTE r) F.TMN_ROUTE_SENT t = 0
  ∧ getF (R.TMN_ROUTE r) F.TMN_ROUTE_DROPPED t = 0 ∧ getF (R.TMN_DEP r) F.TMN_DEP_SENT t = 0

/-- The counters' words of a route and a departure. -/
def CounterWord (r a : Nat) : Prop := a = R.TMN_ROUTE r + 5 ∨ a = R.TMN_ROUTE r + 6 ∨ a = R.TMN_DEP r + 3

theorem only_countersCleared : Only [] (CounterWord r) s (countersCleared s r) :=
  ((only_setF _ _ _ _).widen (by simp) fun _ => .inl).trans <|
    ((only_setF _ _ _ _).widen (by simp) fun _ h => .inr (.inl h)).trans <|
    (only_setF _ _ _ _).widen (by simp) fun _ h => .inr (.inr h)

/-- Each route and each departure has its own counters. -/
theorem counterWord_apart (hne : j ≠ r) (h : CounterWord r a) : ¬ CounterWord j a := by
  simp only [CounterWord, R.TMN_ROUTE, R.TMN_DEP] at h ⊢
  omega

theorem CountersZero.congr (h : CountersZero r s) (hw : ∀ a, CounterWord r a → rd a t = rd a s) : CountersZero r t := by
  obtain ⟨hsent, hdropped, hdep⟩ := h
  exact ⟨(getF_congr (hw _ (.inl rfl))).trans hsent, (getF_congr (hw _ (.inr (.inl rfl)))).trans hdropped,
    (getF_congr (hw _ (.inr (.inr rfl)))).trans hdep⟩

theorem countersZero_countersCleared (hr : r < 16) : CountersZero r (countersCleared s r) := by
  have hroutes : R.TMN_ROUTE r + F.TMN_ROUTE_SENT.sub ≠ R.TMN_ROUTE r + F.TMN_ROUTE_DROPPED.sub := by
    simp only [F.TMN_ROUTE_SENT, F.TMN_ROUTE_DROPPED]
    omega
  have hdep {k : Nat} (hk : k < 8) : R.TMN_ROUTE r + k ≠ R.TMN_DEP r + F.TMN_DEP_SENT.sub := by
    simp only [R.TMN_ROUTE, R.TMN_DEP, F.TMN_DEP_SENT]
    omega
  unfold countersCleared
  refine ⟨?_, ?_, ?_⟩
  · rw [getF_setF_other _ _ (hdep (by decide)), getF_setF_other _ _ hroutes, getF_setF_same _ _ _ _ (by decide), Nat.zero_mod]
  · rw [getF_setF_other _ _ (hdep (by decide)), getF_setF_same _ _ _ _ (by decide), Nat.zero_mod]
  · rw [getF_setF_same _ _ _ _ (by decide), Nat.zero_mod]

theorem countersZero_tmnCounterClear (hr : r < 16) : CountersZero r (tmnCounterClear s) := by
  have hfold : CountersZero r ((List.range 16).foldl countersCleared s) :=
    foldl_turn (P := fun _ => True) (Q := CountersZero r) List.nodup_range (List.mem_range.2 hr) (fun _ _ _ _ _ => trivial)
      (fun _ _ _ hne ht => ht.congr fun a ha =>
        only_countersCleared.2.2 a (counterWord_apart hne ha))
      (fun _ _ => countersZero_countersCleared hr) trivial
  refine hfold.congr fun a ha => rd_setF_other _ _ ?_
  simp only [CounterWord, R.TMN_ROUTE, R.TMN_DEP] at ha
  simp only [R.TMN_BUF, F.TMN_BUF_PEAK]
  omega

theorem tmnCounterClear_clears (m : Master) (hr : Reaches m R.TMN_CTRL s) (hen : isSet R.TMN_CTRL F.TMN_CTRL_EN s = true) :
    After (exec (.tmnCounterClear m) s) fun t => Okay m t ∧ getF R.TMN_BUF F.TMN_BUF_PEAK t = 0
      ∧ ∀ r, r < 16 → getF (R.TMN_ROUTE r) F.TMN_ROUTE_SENT t = 0 ∧ getF (R.TMN_ROUTE r) F.TMN_ROUTE_DROPPED t = 0
        ∧ getF (R.TMN_DEP r) F.TMN_DEP_SENT t = 0 := by
  refine ⟨_, exec_tmnCounterClear hr hen, okay_putAnswer, ?_, fun r hr => ?_⟩
  · rw [getF_putAnswer, tmnCounterClear_eq, getF_setF_same _ _ _ _ (by decide), Nat.zero_mod]
  · exact (countersZero_tmnCounterClear hr).congr fun _ _ => rd_putAnswer _ _ _ _

theorem forcedDrainAndTerminusCounters : ForcedDrainAndTerminusCounters :=
  ⟨fun m _ => forceDrain_marks m, fun m _ => tmnCounterClear_clears m⟩

/-- Settles O15: an access of the aperture follows its stack's state; RATE and PASR_REQ are held by the store of their
word and have rules of their own, which pass over the stacks one by one, each stack changed in its own turn alone. -/
theorem windowsRatesAndForcedDrains : Obligations.WindowsRatesAndForcedDrains :=
  ⟨apertureAndDebugWindows, sidingsRateAndPasr, forcedDrainAndTerminusCounters⟩

end

end Sys2Proof.Safety
